-- ==== Sys2Proof/Word.lean ====
section
/-! DEFINITION. The word types of the controller and the small data types that say how registers are described:
a register is 48 bits wide (R12), a line 64 bytes, a frame 4 KiB (R6), and a field is a bit range of a register (R8). -/

namespace Sys2Proof

/-- A 48-bit register or script-store word (R6, R12). -/
abbrev Word := BitVec 48

/-- One byte (R9). -/
abbrev Byte := BitVec 8

/-- A stage S0 to S3 (R5). -/
abbrev Stage := Fin 4

/-- A DRAM channel DC0 to DC3 (R5). -/
abbrev DramCh := Fin 4


/-- A field of a register: the register's index (R13) and the field's bit range (R8). -/
structure Fld where
  idx : Nat
  lo : Nat
  width : Nat
  deriving DecidableEq, Repr

/-- The access types of R15. -/
inductive Access where
  | ro | rw | rw1c | wo | rwk | rs
  deriving DecidableEq, Repr

/-- The reset domains of R649. -/
inductive Domain where
  | fused | alwaysOn | main
  deriving DecidableEq, Repr

/-- One row of a register's field table: bit range, access type and reset value (R16). -/
structure FieldRow where
  lo : Nat
  width : Nat
  access : Access
  reset : Nat
  deriving DecidableEq, Repr

/-- One register of R659, or a run of like registers at a fixed step of indices. -/
structure RegRow where
  first : Nat
  step : Nat
  count : Nat
  domain : Domain
  fields : List FieldRow
  deriving DecidableEq, Repr

/-- Four values, one for each of S0 to S3 or of DC0 to DC3. -/
structure Quad (α : Type) where
  a0 : α
  a1 : α
  a2 : α
  a3 : α
  deriving DecidableEq, Repr

/-- A sparse map from numbers to values: the pairs of the keys that do not hold the map's default, keys rising. -/
abbrev NMap (α : Type) := List (Nat × α)

end Sys2Proof
end

