-- ==== Sys2Proof/Syntax.lean ====
section
/-! DEFINITION. The commands of the block: one constructor per row of spec/opcode_table.json, in the table's order. An operand carries what the sender gives, or what comes to the controller from outside (a pin level, a NAND status, a sample), or what DDR5 and NAND timing decide. -/

namespace Sys2Proof

/-- Wrong bytes of a line's 80, as pairs of a device and the number of its bytes that are wrong (R307). -/
abbrev LineErrs := List (Nat × Nat)

/-- The paths to the register space (R655). -/
inductive Path where
  /-- BAR2 of an SLD port -/
  | bar2
  /-- BAR2 of the FM-owned logical device of an MLD port -/
  | fm
  /-- BAR2 of LD-ID `ld` of an MLD port, carrying stage `stage` -/
  | ld (ld : Nat) (stage : Fin 4)
  /-- a control core -/
  | core
  /-- BAR2 of a port while the device is in recovery -/
  | recovery
  /-- the two-wire sideband -/
  | sideband
  deriving DecidableEq, Repr

/-- One rank's tracking reads (R353, R363): channel, subchannel, rank, oscillator count, and whether MR4 asks for doubled refresh. -/
structure DriftRead where
  ch : Fin 4
  sub : Bool
  rank : Fin 2
  count : Nat
  hot : Bool
  deriving DecidableEq, Repr

/-- How a SHA256_CALL runs (R412, R413, R423): HMAC under a key of the caller, or a digest; the context slot that it names; whether the chunk is the message's last. -/
structure ShaUse where
  key : Option Nat
  slot : Nat
  last : Bool
  deriving DecidableEq, Repr

/-- A MemInv or MemInvNT request: its tag, and the line that its logical device's decoders map it to (R372, R377). -/
structure InvReq where
  tag : Nat
  line : Option Nat
  deriving DecidableEq, Repr

/-- What DDR5 timing does not allow now (R268, R348): requests by their numbers, 0 standing for a refresh below its limit, and commands of level 1 by their places. -/
structure TimingBar where
  requests : List Nat
  due : List Nat
  deriving DecidableEq, Repr

/-- What DRAM training finds at a Dressing (R358 to R362): present sensor maximum, hash of the SPD hubs, DQ lanes that fail verification, steps of full training that fail, the delays and the DRAM and clock-driver settings it finds, and its time in ms. -/
structure TrainIn where
  temp : Nat
  spdHash : BitVec 64
  /-- channel, point (0 the loaded delays, 1 below, 2 above), lanes that saw an error there (R360) -/
  unverified : List (Fin 4 × Fin 3 × BitVec 40)
  /-- speed, channel and step 1 to 7 of R358 that fails -/
  fails : List (Nat × Fin 4 × Nat)
  delays : List (Nat × Nat)
  settings : List (Nat × Nat)
  ms : Nat
  deriving DecidableEq, Repr

/-- Who calls a ROM service routine (R551): the core holding the house role, a stage core, the ROM itself, or the host through C00Dh on the mailbox of a logical device. -/
inductive StoreCaller where
  | house | stageCore | rom
  | host (port ld : Nat)
  deriving DecidableEq, Repr
/-- The header of a command frame on the Mbaham link: source (the stage manager), message ID, epoch, destination node, broadcast (R464). -/
structure LinkHdr where
  src : Nat
  id : Nat
  epoch : Nat
  dest : Nat
  bcast : Bool
  deriving DecidableEq, Repr

/-- The commands. -/
inductive Instr where
  /-- VAON_APPLIED (R439): VAON is applied: the tick counter starts at 0, straps are read, the comparator starts as failed, and the learned values are loaded from the script store. -/
  | vaonApplied (sel0 sel1 sel2 : Nat) (strapFault : Bool)
  /-- VAON_LOSS (R33): Loss of VAON discards every RS register, the prompt-book ring, the cue memory and pending records. -/
  | vaonLoss
  /-- VIN_FALL (R439): VIN_SENSE falls below FAIL_MV; the deglitch timer starts and any supply-good window closes. -/
  | vinFall
  /-- VIN_RISE (R441): VIN_SENSE rises above GOOD_MV; the deglitch stops and a supply-good window opens. -/
  | vinRise
  /-- MAIN_INPUT_FAILURE (R440): The deglitch expires: a gate instant of cause 0x08 in Service or Restore, the POWER_DOWN cue in Standby, and only event 0x00B otherwise. -/
  | mainInputFailure
  /-- SUPPLY_GOOD (R441): The supply debounce window ends; this gives a power-up request in Dark, an abort during a save, or intermission in Hold. -/
  | supplyGood
  /-- DRAIN_COMPLETE (R132): The writes received before the gate have passed the ledger tap; held writes are admitted, touch fetches are issued for held writes, and SAVE_RAILS starts. -/
  | drainComplete
  /-- POST_SEAL_DECISION (R148): Once every saving stage is done and its DRAM is in self-refresh, the controller chooses power down, intermission or Hold. -/
  | postSealDecision
  /-- HOLD_DEADLINE (R56): The hold deadline tick is reached; the POWER_DOWN cue is committed and the device goes to Dark. -/
  | holdDeadline
  /-- ABORT_PROGRAMS_DRAINED (R153): Every program issued before the abort has ended: R85 is applied and the resume run starts, or the abort is withdrawn if a stage tore. -/
  | abortProgramsDrained
  /-- MEM_WR (R74): A full-line CXL.mem write is stamped against the gate, checked for cap and touch, passes the ledger tap and is queued to DRAM. -/
  | memWr (port ld tag : Nat) (line : Option Nat) (data : BitVec 512) (poison : Bool)
  /-- MEM_WR_PTL (R315): A partial CXL.mem write passes the ledger tap and is issued as a read-modify-write pair. -/
  | memWrPtl (port ld tag : Nat) (line : Option Nat) (data : BitVec 512) (mask : BitVec 64) (poison : Bool)
  /-- HELD_WRITE_RELEASE (R93): When the residue falls below the cap and space allows, the oldest releasable held write passes the tap again. -/
  | heldWriteRelease (n : Fin 4)
  /-- MEM_RD (R380): A CXL.mem read passes the held-write and restore checks and enters the crossbar, or is held for a touch fetch. -/
  | memRd (port ld tag : Nat) (line : Option Nat)
  /-- MEM_RD_DATA (R372): A MemRdData request is served as a read. -/
  | memRdData (port ld tag : Nat) (line : Option Nat)
  /-- MEM_SPEC_RD (R372): A MemSpecRd is accepted and may be dropped. -/
  | memSpecRd (port ld : Nat) (line : Option Nat)
  /-- MEM_INV (R372): A MemInv is completed with no effect. -/
  | memInv (port ld : Nat) (req : InvReq)
  /-- MEM_INV_NT (R372): A MemInvNT is completed with no effect. -/
  | memInvNt (port ld : Nat) (req : InvReq)
  /-- EFFECTIVE_CAP_RECOMPUTE (R86): At each 33-tick period the device and stage effective caps, watermarks, save reserve and pending playbill settings are computed or applied. -/
  | effectiveCapRecompute
  /-- SWEEP_START (R101): At the opening of each sweep window a sweep starts, or overrun is flagged if one is still running. -/
  | sweepStart (n : Fin 4)
  /-- SWEEP_VISIT (R104): A sweep visits one ledger line, bumps its settle counter and selects the eligible dirty frames into the trickle queue. -/
  | sweepVisit (n : Fin 4)
  /-- LEDGER_LINE_FILL (R80): A ledger line read from backstage enters the ledger cache, with an eviction where needed, and waiting writes proceed. -/
  | ledgerLineFill (n : Fin 4) (line victim : Nat)
  /-- TRICKLE_FRAME (R106): An in-flight frame in the trickle queue is read at class 3, encrypted and placed into the open band. -/
  | trickleFrame (n : Fin 4)
  /-- TRICKLE_BUDGET_TICK (R110): At each tick's opening edge the trickle byte budget becomes min(B, 0) + r × T. -/
  | trickleBudgetTick (n : Fin 4)
  /-- PAGE_PROGRAM_ISSUE (R683): A page of the open band is programmed once its four slots are filled or no further codeword is ready, and its LUN is free. -/
  | pageProgramIssue (lun : Nat)
  /-- PAGE_PROGRAM_STATUS (R683): A page program's pass or fail status arrives and every codeword of the page completes or fails on it. -/
  | pageProgramStatus (ch tag epoch : Nat) (pass : Bool) (pct : Nat)
  /-- PAGE_READ_ISSUE (R179): A restore, touch, strike or record read of a codeword is issued on its LUN. -/
  | pageReadIssue (lun : Nat)
  /-- PAGE_READ_COMPLETE (R230): A page read returns; the codeword is LDPC-decoded, or the next retry or soft read step is issued. -/
  | pageReadComplete (ch tag epoch : Nat) (ok : Bool) (iters : Nat)
  /-- COMMAND_TIMEOUT (R225): A flash command with no completion is abandoned, its LUN is reset and the command is reissued or failed. -/
  | commandTimeout (ch tag : Nat)
  /-- BLOCK_ERASE_COMPLETE (R252): A block erase ends; an erase failure marks the block bad, and the wear table is written every 1,024 erases. -/
  | blockEraseComplete (ch tag epoch : Nat) (pass : Bool)
  /-- FLASH_CHANNEL_TRAINING (R212): A channel trains at its rate or steps down, or is marked lost. -/
  | flashChannelTraining (ch : Nat) (reach : Option Nat) (readId : Word) (laneOk : Bool)
  /-- STRIKE_RELOCATION (R246): Strike relays a live frame copy into the open band, updates the map and appends a relocation entry. -/
  | strikeRelocation (n : Fin 4)
  /-- MAP_CHECKPOINT_DUE (R239): After 64 GiB of trickle or 600 s a background map checkpoint begins. -/
  | mapCheckpointDue (n : Fin 4)
  /-- FL_INJECT_ARM (R231): A write arming FL_INJECT corrupts one future codeword, and is ignored on the program path outside Dressing. -/
  | flInjectArm (p : Path) (w : Word)
  /-- MP_CMD (R221): Micro-program instruction that issues a command cycle. -/
  | mpCmd (ch : Nat)
  /-- MP_ADDR (R221): Micro-program instruction that issues address cycles from the chosen source. -/
  | mpAddr (ch : Nat)
  /-- MP_DIN (R221): Micro-program instruction that writes bytes from a buffer to the NAND. -/
  | mpDin (ch : Nat)
  /-- MP_DOUT (R221): Micro-program instruction that reads bytes into a buffer. -/
  | mpDout (ch : Nat) (bytes : List Byte)
  /-- MP_WAIT_RDY (R221): Micro-program instruction that waits for ready. -/
  | mpWaitRdy (ch : Nat)
  /-- MP_WAIT_RDY_TIMEOUT (R221): The ready wait times out and the run ends with failure code 0x01. -/
  | mpWaitRdyTimeout (ch : Nat)
  /-- MP_DELAY (R221): Micro-program instruction that waits a number of ns. -/
  | mpDelay (ch : Nat)
  /-- MP_DELAY_EXPIRY (R221): A micro-program delay ends and the run continues. -/
  | mpDelayExpiry (ch : Nat)
  /-- MP_STATUS (R221): Micro-program instruction that issues a status command and latches the byte. -/
  | mpStatus (ch status : Nat)
  /-- MP_BRANCH (R221): Micro-program instruction that jumps on a status comparison. -/
  | mpBranch (ch : Nat)
  /-- MP_SETFEAT (R221): Micro-program instruction that issues Set Features with four parameter bytes. -/
  | mpSetfeat (ch : Nat)
  /-- MP_LOOP (R221): Micro-program instruction that decrements a loop counter and jumps while it is non-zero. -/
  | mpLoop (ch : Nat)
  /-- MP_END (R223): Micro-program instruction that ends the run, reporting a failure to the issuing engine. -/
  | mpEnd (ch : Nat)
  /-- MP_RUN_TIMEOUT (R222): A micro-program run exceeding CMD_TIMEOUT_US is abandoned. -/
  | mpRunTimeout (ch : Nat)
  /-- FRAME_RESTORED (R180): The last line write of a frame enters the DRAM queue; the bitmap bit is set and the held accesses are released. -/
  | frameRestored (n : Fin 4) (frame : Nat)
  /-- TOUCH_FETCH_START (R189): A queued touch fetch pre-empts background restore at the next codeword boundary on its LUN. -/
  | touchFetchStart (n : Fin 4)
  /-- BITMAP_LINE_FILL (R188): A restore-bitmap line read from backstage resolves the touch check of the waiting requests. -/
  | bitmapLineFill (n : Fin 4) (line : Nat)
  /-- TOUCH_HOLD_WARNING (R195): An access held longer than TOUCH_WARN logs event 0x30A. -/
  | touchHoldWarning (n : Fin 4)
  /-- HEAT_DRAIN (R196): Every 10 ms the stage core drains the heat ring into the backstage heat region. -/
  | heatDrain (n : Fin 4)
  /-- HEAT_HALVING (R685): Every HALF_LIFE_S seconds every heat count is halved. -/
  | heatHalving (n : Fin 4)
  /-- RESTORE_CTRL_START (R205): A write of START on a Sealed stage starts its restore. -/
  | restoreCtrlStart (p : Path) (n : Fin 4)
  /-- RESTORE_CTRL_RESUME (R202): A write of RESUME resumes a stage that waits under MANUAL_RESUME. -/
  | restoreCtrlResume (p : Path) (n : Fin 4)
  /-- RESTORE_TOUCH_MAX_CLEAR (R208): A write of CLEAR sets MAX_US to 0. -/
  | restoreTouchMaxClear (p : Path) (n : Fin 4)
  /-- LDG_HOLD_MAX_CLEAR (R125): A write of CLEAR sets LDG_HOLD_MAX.MAX_US to 0. -/
  | ldgHoldMaxClear (p : Path) (n : Fin 4)
  /-- DRAM_REQUEST_ENQUEUE (R267): A request enters a subchannel queue, passing the remap lookup, and its age starts. -/
  | dramRequestEnqueue (c : Fin 4) (sub : Bool) (port : Nat)
  /-- DRAM_COMMAND_ISSUE (R268): The scheduler issues the first permitted command by level, row state and age. -/
  | dramCommandIssue (c : Fin 4) (sub : Bool) (bar : TimingBar) (pullIn : Bool)
  /-- AGE_LIMIT_EXPIRY (R269): A request passes its class age limit and becomes promoted. -/
  | ageLimitExpiry (c : Fin 4) (sub : Bool)
  /-- REFRESH_INTERVAL (R282): Each refresh interval adds one to the rank's owed count. -/
  | refreshInterval (c : Fin 4) (sub : Bool) (rank : Nat)
  /-- ROW_IDLE_CLOSE (R281): An open row with no queued request is closed after IDLE_CLOSE clocks. -/
  | rowIdleClose (c : Fin 4) (sub : Bool) (bank : Nat)
  /-- RANK_POWER_DOWN (R287): A rank idle for PD_TIMER clocks enters power-down. -/
  | rankPowerDown (c : Fin 4) (sub : Bool) (rank : Nat)
  /-- IDLE_SELF_REFRESH (R288): A subchannel idle for SR_IDLE_US begins the self-refresh entry sequence. -/
  | idleSelfRefresh (c : Fin 4) (sub : Bool)
  /-- SELF_REFRESH_EXIT (R292): After minimum residency the exit is issued, followed after tXS by an all-bank refresh; owed count is set to 0. -/
  | selfRefreshExit (c : Fin 4) (sub : Bool)
  /-- SELF_REFRESH_MAX_EXIT (R289): Held class 4 requests force an exit after SR_MAX_MS. -/
  | selfRefreshMaxExit (c : Fin 4) (sub : Bool)
  /-- DRAM_READ_COMPLETE (R311): A line read is decoded to clean, corrected, poisoned or uncorrectable and passed to its requester. -/
  | dramReadComplete (c : Fin 4) (sub : Bool) (raw : LineErrs)
  /-- REMAP_COPY_DONE (R330): The spare write is queued; the entry becomes valid and waiting requests go to the spare. -/
  | remapCopyDone (entry : Nat)
  /-- SCRUB_INTERVAL (R320): Each scrub interval queues one class 4 read per subchannel. -/
  | scrubInterval (c : Fin 4)
  /-- REFRESH_WINDOW (R324): Every 32 ms the activation tables and spillover counters are cleared. -/
  | refreshWindow (c : Fin 4)
  /-- DC_INJECT_ARM (R318): A write arming DC_INJECT corrupts one future line write if allowed. -/
  | dcInjectArm (p : Path) (c : Fin 4) (w : Word)
  /-- DC_ERR_CAPTURE_READ (R340): A read returns and removes the oldest error record. -/
  | dcErrCaptureRead (p : Path) (c : Fin 4)
  /-- SCRUB_POSITION_WRITE (R322): A write to DC_SCRUB_STATUS.POSITION moves the next line to scrub. -/
  | scrubPositionWrite (p : Path) (c : Fin 4) (w : Word)
  /-- DC_DLY_DATA_WRITE (R355): A delay write takes effect at once, or at the rank's next refresh when staged. -/
  | dcDlyDataWrite (p : Path) (c : Fin 4) (w : Word)
  /-- DC_DLY_DATA_READ (R648): A delay read advances the lane when AUTO_INC is 1. -/
  | dcDlyDataRead (p : Path) (c : Fin 4)
  /-- DC_TRN_CTRL_START (R357): One training pattern operation runs on the selected subchannel and rank. -/
  | dcTrnCtrlStart (p : Path) (c : Fin 4) (w : Word)
  /-- TRAINING_RUN_DONE (R357): The pattern check ends and fail lanes, errors and DONE are set. -/
  | trainingRunDone (c : Fin 4) (lanes : BitVec 40) (errors : Nat)
  /-- DRIFT_TRACKING (R363): Every 328 ticks firmware reads each rank's DQS oscillator and MR4 and stages a delay correction. -/
  | driftTracking (reads : List DriftRead)
  /-- I3C_TRANSFER (R365): A write of GO runs a local-bus transfer. -/
  | i3cTransfer (p : Path) (w : Word)
  /-- I3C_TRANSFER_DONE (R370): A local-bus transfer ends with done, no acknowledge or timeout. -/
  | i3cTransferDone (result : Nat) (data : Word)
  /-- DRAM_SENSOR_POLL (R367): Every 100 ms the house core reads the DRAM temperature sensors and publishes the maximum. -/
  | dramSensorPoll (reads : List (Nat × Option Nat))
  /-- LINK_UP (R373): A port reaches L0 and event 0x601 is logged. -/
  | linkUp (port speed width : Nat)
  /-- LINK_DOWN (R375): A port link goes down; stages keep their states and event 0x602 is logged. -/
  | linkDown (port : Nat)
  /-- DEVLOAD_UPDATE (R381): Every microsecond DevLoad is recomputed from the mean read-queue depth. -/
  | devloadUpdate
  /-- GPF_PHASE1 (R382): GPF Phase 1 requires no action. -/
  | gpfPhase1 (port : Nat)
  /-- GPF_PHASE2 (R382): GPF Phase 2 waits until every earlier write has passed the ledger tap. -/
  | gpfPhase2 (port : Nat)
  /-- GPF_PHASE2_COMPLETE (R383): Phase 2 completes and the port's flush flag is set. -/
  | gpfPhase2Complete (port : Nat)
  /-- PME_TURN_OFF (R383): PME_Turn_Off is acknowledged and, when every port is flushed and none runs MLD, gives a gate instant of cause 0x0A. -/
  | pmeTurnOff (port : Nat)
  /-- GET_HEALTH_INFO (R387): Reports Health Status, Media Status, Life Used, temperature, error counts and Dirty Shutdown Count. -/
  | getHealthInfo (port ld : Nat)
  /-- GET_ALERT_CONFIGURATION (R388): Returns the alert thresholds. -/
  | getAlertConfiguration (port ld : Nat)
  /-- SET_ALERT_CONFIGURATION (R388): Sets warning thresholds for Life Used, temperature and corrected errors. -/
  | setAlertConfiguration (port ld : Nat) (life temp errors : Option Nat)
  /-- GET_SHUTDOWN_STATE (R386): Returns the stored shutdown state. -/
  | getShutdownState (port ld : Nat)
  /-- SET_SHUTDOWN_STATE (R386): Stores the shutdown state per stage without changing behaviour. -/
  | setShutdownState (port ld : Nat) (dirty : Nat)
  /-- GET_POISON_LIST (R389): Returns the stage's poison list. -/
  | getPoisonList (port ld : Nat) (addr len : Nat)
  /-- INJECT_POISON (R390): Stores the poison pattern in one line as a host write. -/
  | injectPoison (port ld : Nat) (addr : Nat)
  /-- CLEAR_POISON (R390): Writes 64 supplied bytes to a line and removes its poison-list entry. -/
  | clearPoison (port ld : Nat) (addr : Nat) (data : BitVec 512)
  /-- SCAN_MEDIA (R391): Background read of a DPA range listing uncorrectable or poisoned lines. -/
  | scanMedia (port ld : Nat) (addr len : Nat)
  /-- GET_SCAN_MEDIA_RESULTS (R391): Returns the scan results. -/
  | getScanMediaResults (port ld : Nat)
  /-- SECURE_ERASE (R392): Seals the stage if Live, crypto-erases, erases seal logs, makes a new key and zeroes DRAM. -/
  | secureErase (port ld : Nat)
  /-- SANITIZE (R392): As Secure Erase, but every block of the flash set is erased. -/
  | sanitize (port ld : Nat)
  /-- GET_LSA (R394): Returns label storage area contents. -/
  | getLsa (port ld : Nat) (offset len : Nat)
  /-- SET_LSA (R394): Writes the alternate LSA copy and its valid mark last. -/
  | setLsa (port ld : Nat) (offset : Nat) (data : List Byte)
  /-- SET_PARTITION_INFO (R372): Completes with Unsupported. -/
  | setPartitionInfo (port ld : Nat)
  /-- GET_LD_INFO (R374): Reports the fixed LD allocation. -/
  | getLdInfo (port ld : Nat)
  /-- GET_LD_ALLOCATIONS (R374): Reports the stage-to-LD-ID allocation. -/
  | getLdAllocations (port ld : Nat)
  /-- SET_LD_ALLOCATIONS (R374): Completes with Unsupported. -/
  | setLdAllocations (port ld : Nat)
  /-- GET_TIMESTAMP (R372): Returns the timestamp. -/
  | getTimestamp (port ld : Nat)
  /-- SET_TIMESTAMP (R372): Sets the timestamp. -/
  | setTimestamp (port ld : Nat) (time : Nat)
  /-- SET_EVENT_INTERRUPT_POLICY (R395): Sets the event interrupt policy of the CXL event logs. -/
  | setEventInterruptPolicy (port ld : Nat) (policy : Nat)
  /-- GET_FW_INFO (R396): Reports firmware slots A and B. -/
  | getFwInfo (port ld : Nat)
  /-- TRANSFER_FW (R583): Writes a part of a firmware container into the inactive slot; the last part starts the checks. -/
  | transferFw (port ld : Nat) (action slot offset : Nat) (data : List Byte)
  /-- ACTIVATE_FW_OFFLINE (R585): Activates a slot to take effect at the next transition from Dark to Standby. -/
  | activateFwOffline (port ld : Nat) (slot : Nat)
  /-- ACTIVATE_FW_ONLINE (R586): Activates a slot and starts the understudy handover series. -/
  | activateFwOnline (port ld : Nat) (slot : Nat)
  /-- GET_STAGE_STATUS (R399): Returns the stage's state, generations, residue, caps and flags. -/
  | getStageStatus (port ld : Nat)
  /-- SET_RESIDUE_CAP (R399): Writes LDG_DEV_CAP.CAP_MIB and returns the derived cap. -/
  | setResidueCap (port ld : Nat) (mib : Nat)
  /-- PLANNED_SAVE (R399): Completes Success and registers a gate instant of cause 0x09 on the next clock. -/
  | plannedSave (port ld : Nat) (action resv : Nat)
  /-- GET_GAUGE_REPORT (R399): Returns the gauge quantities and flags. -/
  | getGaugeReport (port ld : Nat)
  /-- START_REHEARSAL (R502): Starts a rehearsal or asks the stage manager for a grant. -/
  | startRehearsal (port ld : Nat) (op : Nat)
  /-- CANCEL_REHEARSAL (R502): Cancels an active or pending rehearsal (OP 2). -/
  | cancelRehearsal (port ld : Nat)
  /-- READ_PROMPT_BOOK (R399): Returns records from the ring or the script-store area from FROM_SEQ. -/
  | readPromptBook (port ld : Nat) (fromSeq area resv max : Nat)
  /-- CLEAR_PROMPT_BOOK (R636): Clears the records up to UP_TO_SEQ in the selected areas. -/
  | clearPromptBook (port ld : Nat) (areas resv upTo : Nat)
  /-- GET_BLOCK_WEAR (R399): Returns wear-table entries for a LUN. -/
  | getBlockWear (port ld : Nat) (lun resv first max : Nat)
  /-- LOAD_IMAGE_SECTION (R399): Stages one part of a container; the last part starts the checks. -/
  | loadImageSection (port ld : Nat) (offset : Nat) (first last : Bool) (resv : Nat) (data : List Byte)
  /-- LOAD_IMAGE_SECTION_ABORT (R399): FLAGS bit 2 discards the staged section. -/
  | loadImageSectionAbort (port ld : Nat) (resv : Nat)
  /-- APPLY_STAGE_SECTION (R531): Requests a re-dress of the named stage with the staged section. -/
  | applyStageSection (port ld : Nat) (stage resv : Nat)
  /-- APPLY_STAGE_SECTION_UNBIND (R532): Requests an unbind of the named stage (OP 1). -/
  | applyStageSectionUnbind (port ld : Nat) (stage resv : Nat)
  /-- ATTEST (R430): Signs the nonce and report with the next attestation leaf. -/
  | attest (port ld : Nat) (nonce : List Byte)
  /-- GET_HEAT_STATISTICS (R399): Returns ranked heat-region entries. -/
  | getHeatStatistics (port ld : Nat) (first max : Nat)
  /-- USER_AREA_READ (R399): Script Store User Area Access read of up to 2,048 words. -/
  | userAreaRead (port ld : Nat) (resv count word : Nat)
  /-- USER_AREA_PROGRAM (R399): Script Store User Area Access program of up to 2,729 words. -/
  | userAreaProgram (port ld : Nat) (resv word : Nat) (data : List Word)
  /-- USER_AREA_ERASE_SECTOR (R399): Script Store User Area Access background erase of a sector. -/
  | userAreaEraseSector (port ld : Nat) (resv word : Nat)
  /-- USER_AREA_SECTOR_STATUS (R399): Script Store User Area Access returns a sector's status and erase count. -/
  | userAreaSectorStatus (port ld : Nat) (resv word : Nat)
  /-- INTERMISSION_RESUME (R202): Resumes each named stage that waits under MANUAL_RESUME. -/
  | intermissionResume (port ld : Nat) (mask : Nat)
  /-- GET_POWER_REPORT (R399): Returns the mode, rails, monitors, power estimate and last save. -/
  | getPowerReport (port ld : Nat)
  /-- LANE_ENCRYPT (R402): A lane encrypts one codeword with the stage media key. -/
  | laneEncrypt (ch : Nat)
  /-- LANE_DECRYPT (R403): A lane decrypts and releases plaintext only on a tag match. -/
  | laneDecrypt (ch : Nat)
  /-- LANE_RELAY (R404): A lane checks a relocated codeword's tag and passes it on unchanged. -/
  | laneRelay (ch : Nat)
  /-- CIPH_LANE_TEST_ARM (R407): Arms a tag-inverted check of the next Decrypt or Relay on a lane. -/
  | ciphLaneTestArm (p : Path) (w : Word)
  /-- HOUSE_GCM_ENCRYPT (R408): House engine GCM encryption call by a control core. -/
  | houseGcmEncrypt (role slot key : Nat) (iv : List Byte) (aad text : List (List Byte))
  /-- HOUSE_GCM_DECRYPT (R410): House engine GCM decryption into a quarantine region: an address of the caller's SRAM below 2^40, from there on of its stage's DRAM (DESIGN CHOICE, log entry 137). -/
  | houseGcmDecrypt (role slot key : Nat) (iv : List Byte) (aad text : List (List Byte)) (tag : List Byte) (region : Nat)
  /-- HOUSE_GMAC (R408): House engine GMAC over additional data. -/
  | houseGmac (role slot key : Nat) (iv : List Byte) (aad : List (List Byte))
  /-- KEY_WRAP (R408): House engine AES key wrap. -/
  | keyWrap (role kek : Nat) (data : List Byte)
  /-- KEY_UNWRAP (R408): House engine AES key unwrap. -/
  | keyUnwrap (role kek dest : Nat) (data : List Byte)
  /-- HOUSE_ENGINE_UNIT (R411): The house engine serves one unit of at most 64 KiB for the next caller round robin. -/
  | houseEngineUnit
  /-- CONTEXT_SAVE (R414): Saves a context slot in the clear or wrapped, incrementing its save count. -/
  | contextSave (role slot : Nat) (wrapped : Bool)
  /-- CONTEXT_RESTORE (R415): Restores a context only if unwrap, slot, save count and boot nonce match. -/
  | contextRestore (role slot : Nat) (wrapped : Bool) (bytes : List Byte)
  /-- SHA256_CALL (R423): The hash unit computes SHA-256 or HMAC-SHA-256. -/
  | sha256Call (role : Nat) (use : ShaUse) (msg : List Byte)
  /-- SIGNATURE_VERIFY (R424): Verifies an HSS/LMS signature against a fused key hash. -/
  | signatureVerify (signer : Nat) (pub sig msg : List Byte)
  /-- RANDOM_REQUEST (R425): A control core draws random data from the CTR_DRBG. -/
  | randomRequest (role count : Nat)
  /-- ENTROPY_HEALTH_FAIL (R425): A continuous health test fails; the generator refuses every request until the next power-up. -/
  | entropyHealthFail (adaptive : Bool)
  /-- NEXT_TREE_GENERATION (R429): The background generation of the next bottom tree ends and it is stored. -/
  | nextTreeGeneration
  /-- CIPH_CERT_DATA_READ (R435): Reads a certificate word and advances WORD. -/
  | ciphCertDataRead (p : Path)
  /-- RAIL_FAILURE (R446): A watched rail fails; it is marked faulted and handled by mode and critical mark. -/
  | railFailure (rail : Nat)
  /-- VMON_UPDATE (R444): Every 128 µs a monitor channel updates and may go out of window. -/
  | vmonUpdate (ch code : Nat)
  /-- THERMAL_SAMPLE (R445): Every 33 ticks the junction temperature is sampled; four hot samples register the trip. -/
  | thermalSample (temp : Nat)
  /-- CUE_ENABLE (R453): Cue instruction that drives RAIL_EN outputs high. -/
  | cueEnable
  /-- CUE_DISABLE (R453): Cue instruction that drives RAIL_EN outputs low and removes rails from the watch. -/
  | cueDisable
  /-- CUE_WAIT_GOOD (R453): Cue instruction that waits for rails good, putting them under watch. -/
  | cueWaitGood
  /-- CUE_WAIT_GOOD_TIMEOUT (R453): WAIT_GOOD times out and the run fails with kind 0. -/
  | cueWaitGoodTimeout
  /-- CUE_WAIT_OFF (R453): Cue instruction that waits for rails off and discharged. -/
  | cueWaitOff
  /-- CUE_WAIT_OFF_TIMEOUT (R459): WAIT_OFF times out; rails stuck high are marked and the run continues. -/
  | cueWaitOffTimeout
  /-- CUE_DELAY (R453): Cue instruction that waits a number of µs. -/
  | cueDelay
  /-- CUE_DELAY_EXPIRY (R453): A cue delay ends and the run continues. -/
  | cueDelayExpiry
  /-- CUE_SIGNAL (R456): SIGNAL 0 marks the link rails off so the flush may start. -/
  | cueSignal
  /-- CUE_SKIP_IF (R453): Cue instruction that skips the next instruction on a condition. -/
  | cueSkipIf
  /-- CUE_END (R453): Cue instruction that ends the run with pass or fail, completing the program's effects. -/
  | cueEnd
  /-- DEPENDENCY_PASS (R458): One pass of a program derived from the dependency table enables or disables rails. -/
  | dependencyPass
  /-- BACKOFF_EXPIRY (R459): A power-up retry backoff window ends and the next attempt starts if supply is good. -/
  | backoffExpiry
  /-- RESUME_RUN_RETRY (R457): After BACKOFF a failed resume run runs once more. -/
  | resumeRunRetry
  /-- CUE_MEM_DATA_READ (R482): Reads a cue memory word and advances WORD. -/
  | cueMemDataRead (p : Path)
  /-- BTN_PRESS (R461): BTN_N low for DEBOUNCE ticks stamps a press and opens the long-press window. -/
  | btnPress
  /-- BTN_RELEASE (R55): A release within the window is a short press: power-up request in Dark, save trigger in Service or Restore. -/
  | btnRelease
  /-- BTN_LONG_PRESS (R44): The long-press window ends; the long-press action of the mode is committed. -/
  | btnLongPress
  /-- MR_ASSERT (R462): MR_N low for 33 ticks resets cores and fabric, tears stages, or is latched in Save and Hold. -/
  | mrAssert
  /-- MR_RELEASE (R462): MR_N high for 33 ticks releases reset and the device enters Standby. -/
  | mrRelease
  /-- MODE_REQUEST_POWER_UP (R71): Writing POWER_UP in Dark with main input good requests a power-up. -/
  | modeRequestPowerUp (p : Path)
  /-- MODE_REQUEST_POWER_DOWN (R71): Writing POWER_DOWN in Standby runs the POWER_DOWN cue and enters Dark. -/
  | modeRequestPowerDown (p : Path)
  /-- MODE_PLAYBILL_APPLY (R63): Applies, defers, records or refuses the requested playbill. -/
  | modePlaybillApply (p : Path) (w : Word)
  /-- LINK_FRAME_DROPPED (R464): A frame with bad CRC, length or reserved bit is dropped. -/
  | linkFrameDropped
  /-- POLL (R469): A follower answers POLL with STATUS. -/
  | poll (h : LinkHdr)
  /-- STATUS (R470): The stage manager receives a STATUS response, completing the command and updating grants. -/
  | status (src id epoch : Nat) (awaiting active : Bool) (shelf : Nat)
  /-- ACK (R467): The stage manager receives an ACK, completing or discarding by ID and epoch. -/
  | ack (src id epoch result : Nat)
  /-- CUE_SAVE (R469): In Service or Restore a gate instant of cause 0x0B, then ACK. -/
  | cueSave (h : LinkHdr) (action : Nat)
  /-- WAKE (R472): In Dark the wake matcher takes WAKE as a power-up request of cause 0x03. -/
  | wake (h : LinkHdr)
  /-- TIME (R473): The follower stamps its tick and sets LINK_TIME.OFFSET and TIME_VALID. -/
  | time (h : LinkHdr) (tick : Nat) (restart : Bool)
  /-- GRANT (R474): GRANT OP 1 starts the pending rehearsal. -/
  | grant (h : LinkHdr)
  /-- ORDER_START (R474): GRANT OP 2 starts a rehearsal as if C005h were granted. -/
  | orderStart (h : LinkHdr)
  /-- REVOKE (R474): GRANT OP 3 cancels an active or pending rehearsal. -/
  | revoke (h : LinkHdr)
  /-- READ_REG (R469): Answered with ACK carrying the register value. -/
  | readReg (h : LinkHdr) (index : Nat)
  /-- RESERVED_MESSAGE (R469): A reserved type is answered with ACK 3. -/
  | reservedMessage (h : LinkHdr) (type : Nat)
  /-- LINK_TIMEOUT (R467): A link timeout ends without acknowledgement; the command is retransmitted or fails. -/
  | linkTimeout (id : Nat)
  /-- POLL_WINDOW (R475): The stage manager polls the next node address. -/
  | pollWindow
  /-- TIME_WINDOW (R473): Every 32,768 ticks the stage manager sends TIME. -/
  | timeWindow
  /-- GRANT_LIMIT (R476): A grant reaches GRANT_LIMIT_S and the stage manager sends OP 3. -/
  | grantLimit (shelf : Nat)
  /-- LEAD_LOST (R477): No stage-manager frame for LEAD_LOST ticks sets LEAD_LOST and clears TIME_VALID. -/
  | leadLost
  /-- LINK_CMD_GO (R478): A write of GO sends a command through LINK_CMD, or is refused. -/
  | linkCmdGo (p : Path) (w : Word)
  /-- GAUGE_CONVERSION (R485): Each tick the sense and BAT_V are converted and current enters the charge count. -/
  | gaugeConversion (senseNv : Int) (batUv : Nat)
  /-- BATTERY_PRESENT (R491): 33 low samples of BAT_PRES_N; the gauge becomes unanchored with learned capacity reset. -/
  | batteryPresent
  /-- BATTERY_ABSENT (R486): 33 high samples of BAT_PRES_N; cap limit 2 and event 0x909. -/
  | batteryAbsent
  /-- BATTERY_FAULT (R487): A fault cause held for 33 ticks enters the fault. -/
  | batteryFault (cause : Nat)
  /-- BATTERY_FAULT_CLEARED (R487): A fault cause absent for 32,768 ticks ends. -/
  | batteryFaultCleared (cause : Nat)
  /-- GAUGE_UPDATE (R488): Each update window the state of charge, anchors, uncertainty and flags are computed and published. -/
  | gaugeUpdate
  /-- CHG_DONE_EDGE (R489): A rising edge of CHG_DONE is registered for the next update, or ignored with CHG_EN low. -/
  | chgDoneEdge (high : Bool)
  /-- NEW_PACK (R491): A write of GAUGE_CTRL.NEW_PACK makes the gauge unanchored. -/
  | newPack (p : Path)
  /-- REHEARSAL_TIMEOUT (R502): MAX_MIN minutes after the charge leg began, the rehearsal ends with reason 5. -/
  | rehearsalTimeout
  /-- BOOT (R579): The core 0 ROM recovers the directory, derives keys, picks a slot, verifies and copies firmware, or enters recovery. -/
  | boot (train : TrainIn) (recoveryLow : Bool) (ms : Nat)
  /-- DRESSING_COMPLETE (R48): A stage's Dressing ends: it becomes Sealed or Live, or fails, and a Sealed stage starts its restore. -/
  | dressingComplete (n : Fin 4) (marks : List Nat)
  /-- REDRESS_COMMIT (R532): The new stage section is stored with its valid mark and the stage enters Dressing. -/
  | redressCommit (train : TrainIn)
  /-- STAGE_CTRL_REDRESS (R531): STAGE_CTRL GO with OP 0 requests a re-dress. -/
  | stageCtrlRedress (p : Path) (n : Fin 4)
  /-- STAGE_CTRL_UNBIND (R532): STAGE_CTRL GO with OP 1 requests an unbind. -/
  | stageCtrlUnbind (p : Path) (n : Fin 4)
  /-- STAGE_XBAR_FAULT_CLEAR (R539): A write of CLEAR sets COUNT to 0. -/
  | stageXbarFaultClear (p : Path)
  /-- IMG_LOAD_START (R540): IMG_LOAD_CTRL START begins a load and discards any staged container. -/
  | imgLoadStart (p : Path)
  /-- IMG_LOAD_DATA (R540): Takes the next 6 bytes of the container. -/
  | imgLoadData (p : Path) (w : Word)
  /-- IMG_LOAD_END (R540): END starts the container checks. -/
  | imgLoadEnd (p : Path)
  /-- IMG_LOAD_ABORT (R540): ABORT discards the load. -/
  | imgLoadAbort (p : Path)
  /-- CONTAINER_CHECK_DONE (R521): The container checks end with acceptance or a rejection reason. -/
  | containerCheckDone
  /-- IMG_HASH_DATA_READ (R540): Reads six bytes of the image hash and advances WORD. -/
  | imgHashDataRead (p : Path)
  /-- FUSE_RAISE (R591): The house role programs fuse bits up to the target security version. -/
  | fuseRaise (stuck : Option Nat)
  /-- STORE_READ (R551): ROM READ routine returns words with their ECC outcomes, suspending any erase. -/
  | storeRead (who : StoreCaller) (addr count : Nat) (decay : List (Nat × Nat))
  /-- STORE_PROGRAM (R553): ROM PROGRAM routine checks every word and programs lines of 64. -/
  | storeProgram (who : StoreCaller) (addr : Nat) (words : List Word)
  /-- PROGRAM_LINE_DONE (R557): A line program of the script store ends. -/
  | programLineDone
  /-- STORE_ERASE (R558): ROM ERASE routine records the intent and starts the erase pulses. -/
  | storeErase (who : StoreCaller) (sector : Nat)
  /-- ERASE_PULSE (R558): A 1 ms pulse and verify completes; on pass the erase record and erased entry are written. -/
  | erasePulse (verify : Bool)
  /-- ERASE_RESUME (R562): With no queued read or program, a suspended erase resumes with a new pulse. -/
  | eraseResume
  /-- STORE_STATUS (R551): ROM STATUS routine returns a sector's erase record, state and protection. -/
  | storeStatus (who : StoreCaller) (sector : Nat)
  /-- STORE_PROTECT (R565): ROM PROTECT routine presents the password and sets or clears a group's protection. -/
  | storeProtect (group : Nat) (on pwdOk : Bool)
  /-- WATCHDOG_RESET (R582): The house role resets the watchdog. -/
  | watchdogReset
  /-- WATCHDOG_EXPIRY (R582): 65,536 ticks without reset act as MR_N assertion and release. -/
  | watchdogExpiry
  /-- FW_CTRL_ACTIVATE_OFFLINE (R585): ACTIVATE with ONLINE 0 activates a slot for next power-up. -/
  | fwCtrlActivateOffline (p : Path) (slotB : Bool)
  /-- FW_CTRL_ACTIVATE_ONLINE (R586): ACTIVATE with ONLINE 1 starts an online handover series. -/
  | fwCtrlActivateOnline (p : Path) (slotB : Bool)
  /-- FW_CTRL_REBOOT (R594): In recovery with RECOVERY_N high, resets the cores and reruns boot. -/
  | fwCtrlReboot (p : Path) (recoveryLow : Bool)
  /-- FW_LOAD_START (R583): FW_LOAD_CTRL START begins a firmware load into the inactive slot. -/
  | fwLoadStart (p : Path)
  /-- FW_LOAD_DATA (R583): Takes the next 6 bytes of the firmware container. -/
  | fwLoadData (p : Path) (w : Word)
  /-- FW_LOAD_END (R583): END starts the checks of R575 on the written slot. -/
  | fwLoadEnd (p : Path)
  /-- FW_LOAD_ABORT (R583): ABORT discards the firmware load. -/
  | fwLoadAbort (p : Path)
  /-- HANDOVER_LOAD (R587): The understudy's ROM has read and verified the new body; shadow begins. -/
  | handoverLoad (ok : Bool)
  /-- HANDOVER_SHADOW (R587): The new firmware has read the role's state; prepare begins. -/
  | handoverShadow
  /-- HANDOVER_QUIESCE (R587): After prepare, the old core writes the handover record and the new core resumes the role. -/
  | handoverQuiesce (time10ns : Nat)
  /-- PREPARE_TIMEOUT (R589): Prepare exceeds PREP_MS; the handover is cancelled and the series ends. -/
  | prepareTimeout
  /-- MAKER_HASH_PROGRAM (R595): In recovery, fuses the module maker's image-signer key hash. -/
  | makerHashProgram (hash : List Byte)
  /-- DEBUG_TOKEN (R596): A signed token over the JTAG nonce opens the debug port, or is refused. -/
  | debugToken (perms : Nat) (pub sig : List Byte)
  /-- SIDEBAND_REGISTER_WRITE (R605): A sideband write transfer commits all 48 bits, or is discarded as short, PEC-failed or refused. -/
  | sidebandRegisterWrite (bytes : List Byte) (wakeUs : Nat)
  /-- SIDEBAND_REGISTER_READ (R606): A sideband read samples 48 bits at the A1 acknowledge and sends them with PEC. -/
  | sidebandRegisterRead (bytes : List Byte) (wakeUs : Nat)
  /-- SCL_LOW_TIMEOUT (R614): SCL low for 1,147 ticks resets the interface. -/
  | sclLowTimeout (inWrite : Bool)
  /-- SDA_LOW_TIMEOUT (R614): SDA low with SCL high for 1,147 ticks resets the interface. -/
  | sdaLowTimeout
  /-- IN_BAND_REQUEST (R617): After the bus is free for IBR_FREE_US the controller pulls SDA and arbitrates. -/
  | inBandRequest
  /-- IN_BAND_REQUEST_TIMEOUT (R618): No SCL edge or acknowledge within IBR_WAIT_US fails the attempt. -/
  | inBandRequestTimeout
  /-- RATE_LIMIT_WINDOW (R633): At the opening of a window after suppression, a summary record 0xFFF is accepted. -/
  | rateLimitWindow
  /-- PROMPT_BOOK_COPY (R629): The house role copies an eligible ring record into the script-store area. -/
  | promptBookCopy
  /-- PBOOK_CURSOR_WRITE (R634): Selects an area and sequence; the cursor moves to the oldest valid record at or after it. -/
  | pbookCursorWrite (p : Path) (set : Fin 2) (w : Word)
  /-- PBOOK_WIN_READ (R634): Reading window word 2 advances the cursor. -/
  | pbookWinRead (p : Path) (set : Fin 2) (word : Fin 3)
  /-- PBOOK_CLEAR (R636): GO clears records up to UP_TO_SEQ, deferring the area part in Dark and Hold. -/
  | pbookClear (p : Path) (upTo areas : Nat)
  /-- PMON_FREEZE (R640): Setting or clearing FREEZE stops or restarts every counter on one clock. -/
  | pmonFreeze (p : Path) (w : Word)
  /-- PMON_CLEAR (R643): Writes every counter to 0 on one clock. -/
  | pmonClear (p : Path)
  /-- GLB_ACCESS_CLEAR (R658): A write of CLEAR sets COUNT and KIND to 0. -/
  | glbAccessClear (p : Path)
  /-- CPD_POWER_CLEAR_PEAK (R680): A write of CLEAR_PEAK sets PEAK_MW to 0. -/
  | cpdPowerClearPeak (p : Path)
  /-- REGISTER_WRITE (R647): A write to a register with no behaviour of its own commits under the access, lock and path rules. -/
  | registerWrite (p : Path) (index : Nat) (w : Word) (full : Bool)
  /-- CRYSTAL_START (R670): After 2,048 crystal cycles the tick passes from the RC oscillator to the crystal. -/
  | crystalStart
  /-- CRYSTAL_STOP (R670): No crystal edge for 4 RC periods returns the tick to the RC oscillator and sets FAILED. -/
  | crystalStop
  /-- PLL_UNLOCK (R672): A core PLL loss of lock counts as a critical rail failure; a CXL PHY PLL loss takes its port down. -/
  | pllUnlock (pll : Nat)
  /-- DOMAIN_POWER_UP (R675): A power domain switched on for a waiting request becomes ready within 2 µs. -/
  | domainPowerUp (domain : Nat)
  /-- RAIL_PG_HIGH (R453): A deglitched RAIL_PG input rises, so a waiting WAIT_GOOD or dependency-table pass finds its rails good and the rails enter the watch. -/
  | railPgHigh (rail : Nat)
  /-- RAIL_PG_LOW (R453): A deglitched RAIL_PG input of a rail that is not watched falls, so a waiting WAIT_OFF can find its rails off. -/
  | railPgLow (rail : Nat)
  /-- LUN_READY (R221): A NAND LUN reports ready, which ends a micro-program WAIT_RDY so that the run continues. -/
  | lunReady (lun : Nat)
  /-- BUILT_IN_SEQUENCE_WAIT_END (R449): The built-in POWER_UP's wait of PG_TIMEOUT ticks ends, and the sequence completes without checking RAIL_PG. -/
  | builtInSequenceWaitEnd
  /-- SIDEBAND_IDLE (R610): In Standby, 10 ms pass without a sideband transfer, and the address matcher falls back to running from SCL alone with the wake stretch of R608 (CLOCK_STOPPED set). -/
  | sidebandIdle
  /-- IN_BAND_REQUEST_ACCEPTED (R617): A bus controller clocks the arbitration field, acknowledges and ends with a STOP, so the request is accepted or lost and LAST_SENT or a retry follows. -/
  | inBandRequestAccepted (won : Bool)
  /-- FIRMWARE_LOAD_ENDED (R583): The background checks of R575 on a written firmware slot end, and Transfer FW or FW_LOAD_CTRL.RESULT reports acceptance or the error, with event 0x713. -/
  | firmwareLoadEnded
  /-- CLEAR_EVENT_RECORDS (R395): The host clears records from a logical device's Informational, Warning, Failure or Fatal event log, freeing room and its overflow state. -/
  | clearEventRecords (port ld : Nat) (log : Nat) (all : Bool) (handles : List Nat)
  deriving DecidableEq, Repr

end Sys2Proof
end

