-- ==== Sys2Proof/Machine/Crypto.lean ====
section
/-! DEFINITION. The checks and ciphers the spec names by their standards: CRC-8 (R559), CRC-16 (R227), CRC-32 (R450), SHA-256 and HMAC (R423), AES-256, GCM (R401, R408), AES key wrap (RFC 3394, R408), LMS and HSS verification (RFC 8554, R424). PRESUMED where the standard, not the spec, gives the arithmetic: log entry 8. -/

namespace Sys2Proof.Machine

/-- `n` bytes of a number, least significant first (R9). -/
def leBytes : Nat → Nat → List Byte
  | 0, _ => []
  | n + 1, v => BitVec.ofNat 8 v :: leBytes n (v / 256)

/-- The number whose bytes, least significant first, are the list (R9). -/
def leNat : List Byte → Nat
  | [] => 0
  | b :: bs => b.toNat + 256 * leNat bs

/-- `n` bytes of a number, most significant first (the order of the cited standards). -/
def beBytes (n v : Nat) : List Byte := (leBytes n v).reverse

/-- The number whose bytes, most significant first, are the list. -/
def beNat (bs : List Byte) : Nat := leNat bs.reverse

/-- The bytes `[at, at + n)` of a byte string. -/
def slice (bs : List Byte) (at_ n : Nat) : List Byte := (bs.drop at_).take n

/-- The 6 bytes of a word (R6, R9). -/
def wordBytes (w : Word) : List Byte := leBytes 6 w.toNat

/-- The word of 6 bytes. -/
def bytesWord (bs : List Byte) : Word := BitVec.ofNat 48 (leNat bs)

/-- Words of a byte string, 6 bytes each, the last padded with zero bytes. -/
def bytesWords (bs : List Byte) : List Word :=
  (List.range ((bs.length + 5) / 6)).map fun i => bytesWord (slice bs (6 * i) 6)

/-- One byte through a CRC that shifts left, of width `w` and polynomial `poly`. -/
def crcByteMsb (w : Nat) (poly : Nat) (c : Nat) (b : Byte) : Nat :=
  (List.range 8).foldl (fun c _ =>
    if c / 2 ^ (w - 1) % 2 = 1 then ((c * 2) % 2 ^ w) ^^^ poly else (c * 2) % 2 ^ w)
    (c ^^^ (b.toNat * 2 ^ (w - 8)))

/-- One byte through a CRC that shifts right (reflected), polynomial already reflected. -/
def crcByteLsb (poly : Nat) (c : Nat) (b : Byte) : Nat :=
  (List.range 8).foldl (fun c _ => if c % 2 = 1 then (c / 2) ^^^ poly else c / 2) (c ^^^ b.toNat)

/-- CRC-8, polynomial 0x07, initial value 0 (R559). -/
def crc8 (bs : List Byte) : Nat := bs.foldl (crcByteMsb 8 0x07) 0

/-- CRC-16, polynomial 0x1021, initial value 0xFFFF (R227). -/
def crc16 (bs : List Byte) : Nat := bs.foldl (crcByteMsb 16 0x1021) 0xFFFF

/-- CRC-32, IEEE 802.3, reflected, initial and final value all ones (R450). -/
def crc32 (bs : List Byte) : Nat := (bs.foldl (crcByteLsb 0xEDB88320) 0xFFFFFFFF) ^^^ 0xFFFFFFFF

/-! SHA-256 (FIPS 180-4). -/

/-- Every round constant of SHA-256 in one number, the first in the highest word. -/
def sha256Rounds : Nat :=
  0x428a2f9871374491b5c0fbcfe9b5dba53956c25b59f111f1923f82a4ab1c5ed5d807aa9812835b01243185be550c7dc372be5d7480deb1fe9bdc06a7c19bf174 * 2 ^ 1536
    + 0xe49b69c1efbe47860fc19dc6240ca1cc2de92c6f4a7484aa5cb0a9dc76f988da983e5152a831c66db00327c8bf597fc7c6e00bf3d5a7914706ca635114292967 * 2 ^ 1024
    + 0x27b70a852e1b21384d2c6dfc53380d13650a7354766a0abb81c2c92e92722c85a2bfe8a1a81a664bc24b8b70c76c51a3d192e819d6990624f40e3585106aa070 * 2 ^ 512
    + 0x19a4c1161e376c082748774c34b0bcb5391c0cb34ed8aa4a5b9cca4f682e6ff3748f82ee78a5636f84c878148cc7020890befffaa4506cebbef9a3f7c67178f2
/-- The initial hash value in one number, its first word highest. -/
def sha256Start : Nat := 0x6a09e667bb67ae853c6ef372a54ff53a510e527f9b05688c1f83d9ab5be0cd19
/-- Word `i` of a number that holds `n` words of 32 bits. -/
def wordOf (v n i : Nat) : BitVec 32 := BitVec.ofNat 32 (v / 2 ^ (32 * (n - 1 - i)))

/-- The work of a compression: the next sixteen schedule words, and the last four values of the two registers that a round computes, newest first; the eight working variables are these. -/
structure ShaWork where
  sched : List (BitVec 32)
  front : List (BitVec 32)
  back : List (BitVec 32)
  deriving DecidableEq, Repr

/-- The xor of a word rotated right by three amounts. -/
def rot3 (x : BitVec 32) (i j k : Nat) : BitVec 32 := x.rotateRight i ^^^ (x.rotateRight j ^^^ x.rotateRight k)

/-- Round `t`: the schedule moves on by a word, each register takes its new value. -/
def shaRound (s : ShaWork) (t : Nat) : ShaWork :=
  let w := fun i => s.sched.getD i 0#32
  let a := fun i => s.front.getD i 0#32
  let e := fun i => s.back.getD i 0#32
  let choice := e 2 ^^^ (e 0 &&& (e 1 ^^^ e 2))
  let major := (a 0 &&& a 1) ||| (a 2 &&& (a 0 ||| a 1))
  let sum := w 0 + wordOf sha256Rounds 64 t + choice + rot3 (e 0) 6 11 25 + e 3
  let low := w 1 >>> 3 ^^^ (w 1).rotateRight 18 ^^^ (w 1).rotateRight 7
  let high := w 14 >>> 10 ^^^ (w 14).rotateRight 19 ^^^ (w 14).rotateRight 17
  { sched := s.sched.drop 1 ++ [low + w 9 + high + w 0]
    front := (sum + major + rot3 (a 0) 2 13 22) :: s.front.take 3
    back := (sum + a 3) :: s.back.take 3 }

/-- The hash value `h` after a block of 64 bytes. -/
def shaBlock (h : List (BitVec 32)) (block : List Byte) : List (BitVec 32) :=
  let v := beNat block
  let s := (List.range 64).foldl shaRound ⟨(List.range 16).map (wordOf v 16), h.take 4, h.drop 4⟩
  List.zipWith (· + ·) h (s.front ++ s.back)

/-- The end of a message, `done` bytes in whole blocks having gone before, followed by a one bit, zero bits to the end of a block, and the message's length in bits. -/
def shaPadded (m : List Byte) (done : Nat) : List Byte :=
  let zeros := (128 - (m.length + 9) % 64) % 64
  m ++ 128#8 :: (List.replicate zeros 0#8 ++ beBytes 8 ((done + m.length) * 8))

/-- The initial hash value. -/
def shaStart : List (BitVec 32) := (List.range 8).map (wordOf sha256Start 8)
/-- The hash value `h` after the whole blocks of a byte string. -/
def shaBlocks (h : List (BitVec 32)) (p : List Byte) : List (BitVec 32) :=
  ((List.range (p.length / 64)).map (fun i => slice p (64 * i) 64)).foldl shaBlock h
/-- The bytes of a hash value. -/
def shaBytes (h : List (BitVec 32)) : List Byte := h.flatMap (fun x => beBytes 4 x.toNat)
/-- SHA-256 of a byte string, 32 bytes (R423). -/
def sha256 (m : List Byte) : List Byte := shaBytes (shaBlocks shaStart (shaPadded m 0))

/-- HMAC-SHA-256 (R423). -/
def hmacSha256 (key m : List Byte) : List Byte :=
  let short := if 64 < key.length then sha256 key else key
  let masked := fun (b : Byte) => (List.range 64).map (fun i => short.getD i 0#8 ^^^ b)
  sha256 (masked 0x5c#8 ++ sha256 (masked 0x36#8 ++ m))

/-! AES-256 (FIPS 197). -/

/-- Doubling in GF(2^8). -/
def gfDouble (a : Byte) : Byte := if a.msb then (a <<< 1) ^^^ 0x1b#8 else a <<< 1

/-- Product in GF(2^8). -/
def gfMul (a b : Byte) : Byte :=
  ((List.range 8).foldl (fun (p : Byte × Byte) i => (if b.getLsbD i then p.1 ^^^ p.2 else p.1, gfDouble p.2)) (0#8, a)).1

/-- Inverse in GF(2^8), 0 for 0: the 254th power. -/
def gfInv (a : Byte) : Byte :=
  let a2 := gfMul a a; let a4 := gfMul a2 a2; let a8 := gfMul a4 a4; let a16 := gfMul a8 a8
  let a32 := gfMul a16 a16; let a64 := gfMul a32 a32; let a128 := gfMul a64 a64
  gfMul a128 (gfMul a64 (gfMul a32 (gfMul a16 (gfMul a8 (gfMul a4 a2)))))

/-- The substitution box. -/
def aesSub (a : Byte) : Byte :=
  let b := gfInv a
  b ^^^ b.rotateLeft 1 ^^^ b.rotateLeft 2 ^^^ b.rotateLeft 3 ^^^ b.rotateLeft 4 ^^^ 0x63#8

/-- The inverse substitution box. -/
def aesInvSub (a : Byte) : Byte :=
  gfInv (a.rotateLeft 1 ^^^ a.rotateLeft 3 ^^^ a.rotateLeft 6 ^^^ 0x05#8)

/-- Byte-wise exclusive or. -/
def xorBytes (a b : List Byte) : List Byte := (a.zip b).map fun p => p.1 ^^^ p.2

/-- The 60 words of the expanded 256-bit key, in order. -/
def aesKeySchedule (key : List Byte) : List (List Byte) :=
  let w0 := ((List.range 8).map fun i => slice key (4 * i) 4).reverse
  ((List.range 52).foldl (fun (wr : List (List Byte) × Byte) j =>
    let i := j + 8
    let prev := wr.1.getD 0 []
    let t := if i % 8 = 0 then
        match (prev.drop 1 ++ prev.take 1).map aesSub with
        | b :: bs => (b ^^^ wr.2) :: bs
        | [] => []
      else if i % 8 = 4 then prev.map aesSub else prev
    (xorBytes (wr.1.getD 7 []) t :: wr.1, if i % 8 = 0 then gfDouble wr.2 else wr.2)) (w0, 1#8)).1.reverse

/-- Round key `r`. -/
def aesRoundKey (ks : List (List Byte)) (r : Nat) : List Byte := ((ks.drop (4 * r)).take 4).flatten

/-- The rows of a 16-byte state shifted by their number of columns. -/
def aesShiftRows (st : List Byte) : List Byte :=
  (List.range 16).map fun i => st.getD ((i + 4 * (i % 4)) % 16) 0#8

/-- The inverse of `aesShiftRows`. -/
def aesInvShiftRows (st : List Byte) : List Byte :=
  (List.range 16).map fun i => st.getD ((i + 16 - 4 * (i % 4)) % 16) 0#8

/-- Each column multiplied by the circulant matrix of the four coefficients. -/
def aesMix (co : List Byte) (st : List Byte) : List Byte :=
  (List.range 16).map fun i =>
    let col := slice st (4 * (i / 4)) 4
    (List.range 4).foldl (fun a j => a ^^^ gfMul (co.getD ((j + 4 - i % 4) % 4) 0#8) (col.getD j 0#8)) 0#8

/-- One block encrypted under a 256-bit key. -/
def aesEncrypt (key block : List Byte) : List Byte :=
  let ks := aesKeySchedule key
  let st := (List.range 13).foldl (fun st r =>
    xorBytes (aesMix [2#8, 3#8, 1#8, 1#8] (aesShiftRows (st.map aesSub))) (aesRoundKey ks (r + 1)))
    (xorBytes block (aesRoundKey ks 0))
  xorBytes (aesShiftRows (st.map aesSub)) (aesRoundKey ks 14)

/-- One block decrypted under a 256-bit key. -/
def aesDecrypt (key block : List Byte) : List Byte :=
  let ks := aesKeySchedule key
  let st := (List.range 13).foldl (fun st r =>
    aesMix [14#8, 11#8, 13#8, 9#8] (xorBytes ((aesInvShiftRows st).map aesInvSub) (aesRoundKey ks (13 - r))))
    (xorBytes block (aesRoundKey ks 14))
  xorBytes ((aesInvShiftRows st).map aesInvSub) (aesRoundKey ks 0)

/-! GCM (NIST SP 800-38D) with a 12-byte IV. -/

/-- Product in GCM's GF(2^128), operands as numbers of the big-endian blocks. -/
def ghashMul (x y : BitVec 128) : BitVec 128 :=
  ((List.range 128).foldl (fun (p : BitVec 128 × BitVec 128) i =>
    (if x.getMsbD i then p.1 ^^^ p.2 else p.1,
     if p.2.getLsbD 0 then (p.2 >>> 1) ^^^ (0xE1#128 <<< 120) else p.2 >>> 1)) (0#128, y)).1

/-- GHASH of a byte string, zero-padded to whole blocks, from a running value. -/
def ghash (h : BitVec 128) (acc : BitVec 128) (bs : List Byte) : BitVec 128 :=
  (List.range ((bs.length + 15) / 16)).foldl (fun a i =>
    let b := slice bs (16 * i) 16
    ghashMul (a ^^^ BitVec.ofNat 128 (beNat (b ++ List.replicate (16 - b.length) 0#8))) h) acc

/-- The key stream applied to a byte string, from block counter `c`. -/
def gcmCtr (key iv : List Byte) (c : Nat) (bs : List Byte) : List Byte :=
  (List.range ((bs.length + 15) / 16)).flatMap fun i =>
    xorBytes (slice bs (16 * i) 16) (aesEncrypt key (iv ++ beBytes 4 (c + i)))

/-- The 16-byte tag of additional data and ciphertext. -/
def gcmTag (key iv aad ct : List Byte) : List Byte :=
  let h := BitVec.ofNat 128 (beNat (aesEncrypt key (List.replicate 16 0#8)))
  let g := ghash h (ghash h (ghash h 0#128 aad) ct) (beBytes 8 (8 * aad.length) ++ beBytes 8 (8 * ct.length))
  xorBytes (beBytes 16 g.toNat) (aesEncrypt key (iv ++ beBytes 4 1))

/-- GCM encryption: ciphertext and tag (R401, R408). -/
def gcmEncrypt (key iv aad pt : List Byte) : List Byte × List Byte :=
  let ct := gcmCtr key iv 2 pt
  (ct, gcmTag key iv aad ct)

/-- GCM decryption: the plaintext only when the tag verifies (R403, R410). -/
def gcmDecrypt (key iv aad ct tag : List Byte) : Option (List Byte) :=
  if gcmTag key iv aad ct = tag then some (gcmCtr key iv 2 ct) else none

/-! AES key wrap (RFC 3394, R408). -/

/-- The integrity register and the 8-byte blocks after wrapping. -/
def keyWrap (kek pt : List Byte) : List Byte :=
  let n := pt.length / 8
  let r0 := (List.range n).map fun i => slice pt (8 * i) 8
  let out := (List.range (6 * n)).foldl (fun (ar : List Byte × List (List Byte)) t =>
    let i := t % n
    let b := aesEncrypt kek (ar.1 ++ ar.2.getD i [])
    (xorBytes (b.take 8) (beBytes 8 (t + 1)), ar.2.set i (b.drop 8))) (List.replicate 8 0xA6#8, r0)
  out.1 ++ out.2.flatten

/-- The unwrapped blocks, if the integrity check passes. -/
def keyUnwrap (kek ct : List Byte) : Option (List Byte) :=
  let n := ct.length / 8 - 1
  let r0 := (List.range n).map fun i => slice ct (8 * (i + 1)) 8
  let out := (List.range (6 * n)).foldl (fun (ar : List Byte × List (List Byte)) k =>
    let t := 6 * n - 1 - k
    let i := t % n
    let b := aesDecrypt kek (xorBytes ar.1 (beBytes 8 (t + 1)) ++ ar.2.getD i [])
    (b.take 8, ar.2.set i (b.drop 8))) (ct.take 8, r0)
  if out.1 = List.replicate 8 0xA6#8 then some out.2.flatten else none

/-! HSS verification (RFC 8554) with LMS_SHA256_M32_H20 and LMOTS_SHA256_N32_W8 at every level (R424). -/

/-- The Winternitz coefficients of a 32-byte digest with its checksum: 34 bytes. -/
def lmotsCoefs (q : List Byte) : List Byte :=
  q ++ beBytes 2 (q.foldl (fun a b => a + (255 - b.toNat)) 0)

/-- A one-time chain `k` of leaf `q` from one place to another. -/
def lmotsChain (i : List Byte) (q k start stop : Nat) (y : List Byte) : List Byte :=
  (List.range (stop - start)).foldl (fun y j => sha256 (i ++ beBytes 4 q ++ beBytes 2 k ++ beBytes 1 (start + j) ++ y)) y
/-- The one-time public key of leaf `q` with the private values `x`. -/
def lmotsPublic (i : List Byte) (q : Nat) (x : Nat → List Byte) : List Byte :=
  sha256 (i ++ beBytes 4 q ++ [0x80#8, 0x80#8] ++ (List.range 34).flatMap (fun k => lmotsChain i q k 0 255 (x k)))
/-- The one-time signature of a message with leaf `q` and randomiser `c`: 1,124 bytes. -/
def lmotsSign (i : List Byte) (q : Nat) (x : Nat → List Byte) (c msg : List Byte) : List Byte :=
  let co := lmotsCoefs (sha256 (i ++ beBytes 4 q ++ [0x81#8, 0x81#8] ++ c ++ msg))
  beBytes 4 4 ++ c ++ (List.range 34).flatMap (fun k => lmotsChain i q k 0 (co.getD k 0#8).toNat (x k))
/-- Node `r` of an LMS tree, `d` levels above the leaves, whose numbers begin at `leaf0`; `key` gives the leaves' one-time public keys. -/
def lmsNode (i : List Byte) (leaf0 : Nat) (key : Nat → List Byte) : Nat → Nat → List Byte
  | 0, r => sha256 (i ++ beBytes 4 r ++ [0x82#8, 0x82#8] ++ key (r - leaf0))
  | d + 1, r => sha256 (i ++ beBytes 4 r ++ [0x83#8, 0x83#8] ++ lmsNode i leaf0 key d (2 * r) ++ lmsNode i leaf0 key d (2 * r + 1))

/-- The candidate one-time public key of a signature over a message. -/
def lmotsCandidate (i : List Byte) (q : Nat) (sig msg : List Byte) : List Byte :=
  let c := slice sig 4 32
  let pre := i ++ beBytes 4 q
  let d := sha256 (pre ++ [0x81#8, 0x81#8] ++ c ++ msg)
  let zs := (List.range 34).flatMap fun k =>
    let a := ((lmotsCoefs d).getD k 0#8).toNat
    (List.range (255 - a)).foldl (fun y j => sha256 (pre ++ beBytes 2 k ++ beBytes 1 (a + j) ++ y)) (slice sig (36 + 32 * k) 32)
  sha256 (pre ++ [0x80#8, 0x80#8] ++ zs)

/-- The candidate root of an LMS tree of height 20. -/
def lmsRoot (i : List Byte) (q : Nat) (leaf : List Byte) (path : List Byte) : List Byte :=
  ((List.range 20).foldl (fun (nt : Nat × List Byte) k =>
    let sib := slice path (32 * k) 32
    let par := i ++ beBytes 4 (nt.1 / 2) ++ [0x83#8, 0x83#8]
    (nt.1 / 2, sha256 (par ++ if nt.1 % 2 = 1 then sib ++ nt.2 else nt.2 ++ sib)))
    (2 ^ 20 + q, sha256 (i ++ beBytes 4 (2 ^ 20 + q) ++ [0x82#8, 0x82#8] ++ leaf))).2

/-- The LMS parameter set and the LMOTS parameter set that R424 admits: type codes 8 and 4. -/
def lmsTypesOk (lms ots : List Byte) : Bool := (beNat lms == 8) && (beNat ots == 4)

/-- One LMS signature (1,772 bytes) over a message under a 56-byte public key. -/
def lmsVerify (pub sig msg : List Byte) : Bool :=
  let q := beNat (slice sig 0 4)
  let ots := slice sig 4 1124
  lmsTypesOk (slice pub 0 4) (slice pub 4 4) && lmsTypesOk (slice sig 1128 4) (slice sig 4 4) && decide (q < 2 ^ 20)
    && (lmsRoot (slice pub 8 16) q (lmotsCandidate (slice pub 8 16) q ots msg) (slice sig 1132 640) == slice pub 24 32)

/-- What a signature check answers: passed, or the reason of event 0x70F (R424, R437). -/
inductive SigResult where
  | ok | badParams | badKey | badSignature
  deriving DecidableEq, Repr

/-- An HSS signature of one or two levels over a message, under a 60-byte HSS public key whose SHA-256 must be the fused hash (R424). -/
def hssVerify (fused pub sig msg : List Byte) : SigResult :=
  let nspk := beNat (slice sig 0 4)
  let levels := beNat (slice pub 0 4)
  let pub0 := pub.drop 4
  if sha256 pub ≠ fused then .badKey
  else if levels = 1 ∧ nspk = 0 ∧ sig.length = 1776 then
    if !(lmsTypesOk (slice pub0 0 4) (slice pub0 4 4) && lmsTypesOk (slice sig (4 + 1128) 4) (slice sig 8 4)) then .badParams
    else if lmsVerify pub0 (slice sig 4 1772) msg then .ok else .badSignature
  else if levels = 2 ∧ nspk = 1 ∧ sig.length = 3604 then
    let pub1 := slice sig 1776 56
    if !(lmsTypesOk (slice pub0 0 4) (slice pub0 4 4) && lmsTypesOk (slice sig (4 + 1128) 4) (slice sig 8 4)
      && lmsTypesOk (slice pub1 0 4) (slice pub1 4 4) && lmsTypesOk (slice sig (1832 + 1128) 4) (slice sig 1836 4)) then .badParams
    else if lmsVerify pub0 (slice sig 4 1772) pub1 && lmsVerify pub1 (slice sig 1832 1772) msg then .ok else .badSignature
  else .badParams

end Sys2Proof.Machine
end

