-- ==== Sys2Proof/Machine/Fields.lean ====
section
/-! DEFINITION. The named fields of every register, from the field tables of the chapters that own them (R16, R659). A register that repeats takes its instance number. -/

namespace Sys2Proof.Machine.F

/-- `GLB_ID` [15:0], R657. -/
def GLB_ID_DEVICE : Fld := ⟨0x0, 0, 16⟩
/-- `GLB_ID` [23:16], R657. -/
def GLB_ID_STEPPING : Fld := ⟨0x0, 16, 8⟩
/-- `GLB_ID` [31:24], R657. -/
def GLB_ID_MAP_FORMAT : Fld := ⟨0x0, 24, 8⟩
/-- `GLB_CAPS` [2:0], R657. -/
def GLB_CAPS_STAGES : Fld := ⟨0x1, 0, 3⟩
/-- `GLB_CAPS` [5:3], R657. -/
def GLB_CAPS_DRAM_CHANNELS : Fld := ⟨0x1, 3, 3⟩
/-- `GLB_CAPS` [10:6], R657. -/
def GLB_CAPS_FLASH_CHANNELS : Fld := ⟨0x1, 6, 5⟩
/-- `GLB_CAPS` [13:11], R657. -/
def GLB_CAPS_CORES : Fld := ⟨0x1, 11, 3⟩
/-- `GLB_CAPS` [17:14], R657. -/
def GLB_CAPS_DRAM_SPEED_MAX : Fld := ⟨0x1, 14, 4⟩
/-- `GLB_CAPS` [19:18], R657. -/
def GLB_CAPS_FLASH_RATE_MAX : Fld := ⟨0x1, 18, 2⟩
/-- `GLB_CAPS` [20:20], R657. -/
def GLB_CAPS_LINK_64GT : Fld := ⟨0x1, 20, 1⟩
/-- `GLB_SERIAL0` [47:0], R657. -/
def GLB_SERIAL0_BYTES : Fld := ⟨0x2, 0, 48⟩
/-- `GLB_SERIAL1` [47:0], R657. -/
def GLB_SERIAL1_BYTES : Fld := ⟨0x3, 0, 48⟩
/-- `GLB_SERIAL2` [31:0], R657. -/
def GLB_SERIAL2_BYTES : Fld := ⟨0x4, 0, 32⟩
/-- `GLB_TICK` [39:0], R658. -/
def GLB_TICK_TICK : Fld := ⟨0x5, 0, 40⟩
/-- `GLB_LOCK` [0:0], R658. -/
def GLB_LOCK_DEVICE : Fld := ⟨0x6, 0, 1⟩
/-- `GLB_LOCK` [4:1], R658. -/
def GLB_LOCK_STAGES : Fld := ⟨0x6, 1, 4⟩
/-- `GLB_LOCK` [23:5], R658. -/
def GLB_LOCK_KEEP_OPEN : Fld := ⟨0x6, 5, 19⟩
/-- `GLB_RESET` [2:0], R658. -/
def GLB_RESET_LAST : Fld := ⟨0x7, 0, 3⟩
/-- `GLB_RESET` [14:3], R658. -/
def GLB_RESET_CORE_RESETS : Fld := ⟨0x7, 3, 12⟩
/-- `GLB_ACCESS` [15:0], R658. -/
def GLB_ACCESS_INDEX : Fld := ⟨0x8, 0, 16⟩
/-- `GLB_ACCESS` [18:16], R658. -/
def GLB_ACCESS_KIND : Fld := ⟨0x8, 16, 3⟩
/-- `GLB_ACCESS` [20:19], R658. -/
def GLB_ACCESS_PATH : Fld := ⟨0x8, 19, 2⟩
/-- `GLB_ACCESS` [22:21], R658. -/
def GLB_ACCESS_LD_ID : Fld := ⟨0x8, 21, 2⟩
/-- `GLB_ACCESS` [38:23], R658. -/
def GLB_ACCESS_COUNT : Fld := ⟨0x8, 23, 16⟩
/-- `GLB_ACCESS` [39:39], R658. -/
def GLB_ACCESS_CLEAR : Fld := ⟨0x8, 39, 1⟩
/-- `GLB_SCRATCH` [47:0], R658. -/
def GLB_SCRATCH_VALUE : Fld := ⟨0x9, 0, 48⟩
/-- `MODE_STATUS` [2:0], R66. -/
def MODE_STATUS_MODE : Fld := ⟨0x400, 0, 3⟩
/-- `MODE_STATUS` [3:3], R66. -/
def MODE_STATUS_RECOVERY : Fld := ⟨0x400, 3, 1⟩
/-- `MODE_STATUS` [4:4], R66. -/
def MODE_STATUS_INTERMISSION : Fld := ⟨0x400, 4, 1⟩
/-- `MODE_STATUS` [8:6], R66. -/
def MODE_STATUS_S0_STATE : Fld := ⟨0x400, 6, 3⟩
/-- `MODE_STATUS` [11:9], R66. -/
def MODE_STATUS_S1_STATE : Fld := ⟨0x400, 9, 3⟩
/-- `MODE_STATUS` [14:12], R66. -/
def MODE_STATUS_S2_STATE : Fld := ⟨0x400, 12, 3⟩
/-- `MODE_STATUS` [17:15], R66. -/
def MODE_STATUS_S3_STATE : Fld := ⟨0x400, 15, 3⟩
/-- `MODE_STATUS` [21:18], R66. -/
def MODE_STATUS_RESTORE_PENDING : Fld := ⟨0x400, 18, 4⟩
/-- `MODE_STATUS` [24:22], R66. -/
def MODE_STATUS_PLAYBILL : Fld := ⟨0x400, 22, 3⟩
/-- `MODE_STATUS` [25:25], R66. -/
def MODE_STATUS_COMPAT_QOS : Fld := ⟨0x400, 25, 1⟩
/-- `MODE_STATUS` [26:26], R66. -/
def MODE_STATUS_PLAYBILL_PENDING : Fld := ⟨0x400, 26, 1⟩
/-- `MODE_PLAYBILL` [2:0], R67. -/
def MODE_PLAYBILL_PLAYBILL : Fld := ⟨0x401, 0, 3⟩
/-- `MODE_PLAYBILL` [3:3], R67. -/
def MODE_PLAYBILL_COMPAT_QOS : Fld := ⟨0x401, 3, 1⟩
/-- `MODE_PLAYBILL` [4:4], R67. -/
def MODE_PLAYBILL_APPLY : Fld := ⟨0x401, 4, 1⟩
/-- `MODE_PLAYBILL` [7:6], R67. -/
def MODE_PLAYBILL_RESULT : Fld := ⟨0x401, 6, 2⟩
/-- `MODE_HOLD` [31:0], R68. -/
def MODE_HOLD_HOLD_DEADLINE : Fld := ⟨0x402, 0, 32⟩
/-- `MODE_LAST` [2:0], R69. -/
def MODE_LAST_FROM : Fld := ⟨0x403, 0, 3⟩
/-- `MODE_LAST` [5:3], R69. -/
def MODE_LAST_TO : Fld := ⟨0x403, 3, 3⟩
/-- `MODE_LAST` [11:6], R69. -/
def MODE_LAST_CAUSE : Fld := ⟨0x403, 6, 6⟩
/-- `MODE_LAST` [47:12], R69. -/
def MODE_LAST_TICK : Fld := ⟨0x403, 12, 36⟩
/-- `MODE_REQUEST` [0:0], R71. -/
def MODE_REQUEST_POWER_UP : Fld := ⟨0x404, 0, 1⟩
/-- `MODE_REQUEST` [1:1], R71. -/
def MODE_REQUEST_POWER_DOWN : Fld := ⟨0x404, 1, 1⟩
/-- `LDG_DEV_CAP` [23:0], R114. -/
def LDG_DEV_CAP_CAP_MIB : Fld := ⟨0x800, 0, 24⟩
/-- `LDG_DEV_ENERGY_PARAM` [23:0], R115. -/
def LDG_DEV_ENERGY_PARAM_FIXED_MJ : Fld := ⟨0x801, 0, 24⟩
/-- `LDG_DEV_ENERGY_PARAM` [47:24], R115. -/
def LDG_DEV_ENERGY_PARAM_PER_GIB_MJ : Fld := ⟨0x801, 24, 24⟩
/-- `LDG_DEV_EFF` [29:0], R116. -/
def LDG_DEV_EFF_EFF_CAP : Fld := ⟨0x802, 0, 30⟩
/-- `LDG_DEV_EFF` [31:30], R116. -/
def LDG_DEV_EFF_LIMIT : Fld := ⟨0x802, 30, 2⟩
/-- `LDG_DEV_USABLE` [31:0], R117. -/
def LDG_DEV_USABLE_USABLE_MJ : Fld := ⟨0x803, 0, 32⟩
/-- `LDG_DEV_USABLE` [47:32], R117. -/
def LDG_DEV_USABLE_STAMP : Fld := ⟨0x803, 32, 16⟩
/-- `LDG_DEV_RESIDUE` [29:0], R118. -/
def LDG_DEV_RESIDUE_TOTAL : Fld := ⟨0x804, 0, 30⟩
/-- `LDG_CFG` [7:0], R119. -/
def LDG_CFG_SHARE (n : Nat) : Fld := ⟨0x810 + 0x100 * n, 0, 8⟩
/-- `LDG_CFG` [14:8], R119. -/
def LDG_CFG_SOFT_PCT (n : Nat) : Fld := ⟨0x810 + 0x100 * n, 8, 7⟩
/-- `LDG_CFG` [18:15], R119. -/
def LDG_CFG_SETTLE (n : Nat) : Fld := ⟨0x810 + 0x100 * n, 15, 4⟩
/-- `LDG_CFG` [25:19], R119. -/
def LDG_CFG_TRICKLE_PCT (n : Nat) : Fld := ⟨0x810 + 0x100 * n, 19, 7⟩
/-- `LDG_CFG` [26:26], R119. -/
def LDG_CFG_IDLE_ONLY (n : Nat) : Fld := ⟨0x810 + 0x100 * n, 26, 1⟩
/-- `LDG_SWEEP_CFG` [23:0], R120. -/
def LDG_SWEEP_CFG_INTERVAL (n : Nat) : Fld := ⟨0x811 + 0x100 * n, 0, 24⟩
/-- `LDG_STATUS` [29:0], R121. -/
def LDG_STATUS_RESIDUE (n : Nat) : Fld := ⟨0x812 + 0x100 * n, 0, 30⟩
/-- `LDG_STATUS` [30:30], R121. -/
def LDG_STATUS_ABOVE_SOFT (n : Nat) : Fld := ⟨0x812 + 0x100 * n, 30, 1⟩
/-- `LDG_STATUS` [31:31], R121. -/
def LDG_STATUS_AT_CAP (n : Nat) : Fld := ⟨0x812 + 0x100 * n, 31, 1⟩
/-- `LDG_STATUS` [32:32], R121. -/
def LDG_STATUS_OVER_CAP (n : Nat) : Fld := ⟨0x812 + 0x100 * n, 32, 1⟩
/-- `LDG_STATUS` [33:33], R121. -/
def LDG_STATUS_WRITE_THROUGH (n : Nat) : Fld := ⟨0x812 + 0x100 * n, 33, 1⟩
/-- `LDG_STATUS` [34:34], R121. -/
def LDG_STATUS_DEGRADED (n : Nat) : Fld := ⟨0x812 + 0x100 * n, 34, 1⟩
/-- `LDG_STATUS` [43:35], R121. -/
def LDG_STATUS_HELD (n : Nat) : Fld := ⟨0x812 + 0x100 * n, 35, 9⟩
/-- `LDG_CAP` [29:0], R122. -/
def LDG_CAP_FRAMES (n : Nat) : Fld := ⟨0x813 + 0x100 * n, 0, 30⟩
/-- `LDG_SOFT` [29:0], R122. -/
def LDG_SOFT_FRAMES (n : Nat) : Fld := ⟨0x814 + 0x100 * n, 0, 30⟩
/-- `LDG_FIRST_TOUCH` [47:0], R123. -/
def LDG_FIRST_TOUCH_COUNT (n : Nat) : Fld := ⟨0x815 + 0x100 * n, 0, 48⟩
/-- `LDG_HELD_COUNT` [47:0], R123. -/
def LDG_HELD_COUNT_COUNT (n : Nat) : Fld := ⟨0x816 + 0x100 * n, 0, 48⟩
/-- `LDG_TRICKLED` [47:0], R123. -/
def LDG_TRICKLED_COUNT (n : Nat) : Fld := ⟨0x817 + 0x100 * n, 0, 48⟩
/-- `LDG_REDIRTY` [47:0], R123. -/
def LDG_REDIRTY_COUNT (n : Nat) : Fld := ⟨0x818 + 0x100 * n, 0, 48⟩
/-- `LDG_SWEEP_STATUS` [31:0], R124. -/
def LDG_SWEEP_STATUS_SWEEPS (n : Nat) : Fld := ⟨0x819 + 0x100 * n, 0, 32⟩
/-- `LDG_SWEEP_STATUS` [32:32], R124. -/
def LDG_SWEEP_STATUS_ACTIVE (n : Nat) : Fld := ⟨0x819 + 0x100 * n, 32, 1⟩
/-- `LDG_SWEEP_STATUS` [33:33], R124. -/
def LDG_SWEEP_STATUS_OVERRUN (n : Nat) : Fld := ⟨0x819 + 0x100 * n, 33, 1⟩
/-- `LDG_HOLD_MAX` [31:0], R125. -/
def LDG_HOLD_MAX_MAX_US (n : Nat) : Fld := ⟨0x81A + 0x100 * n, 0, 32⟩
/-- `LDG_HOLD_MAX` [32:32], R125. -/
def LDG_HOLD_MAX_CLEAR (n : Nat) : Fld := ⟨0x81A + 0x100 * n, 32, 1⟩
/-- `SAVE_CFG` [0:0], R164. -/
def SAVE_CFG_ABORT_EN : Fld := ⟨0xC00, 0, 1⟩
/-- `SAVE_CFG` [3:1], R164. -/
def SAVE_CFG_PROG_RETRIES : Fld := ⟨0xC00, 1, 3⟩
/-- `SAVE_CFG` [5:4], R164. -/
def SAVE_CFG_SEAL_ATTEMPTS : Fld := ⟨0xC00, 4, 2⟩
/-- `SAVE_CFG` [6:6], R164. -/
def SAVE_CFG_CKPT_AT_SAVE : Fld := ⟨0xC00, 6, 1⟩
/-- `SAVE_CFG` [29:7], R164. -/
def SAVE_CFG_HEAT_MAX : Fld := ⟨0xC00, 7, 23⟩
/-- `SAVE_ACTION` [1:0], R165. -/
def SAVE_ACTION_MAIN_INPUT : Fld := ⟨0xC01, 0, 2⟩
/-- `SAVE_ACTION` [3:2], R165. -/
def SAVE_ACTION_PLANNED : Fld := ⟨0xC01, 2, 2⟩
/-- `SAVE_ACTION` [5:4], R165. -/
def SAVE_ACTION_GPF_OFF : Fld := ⟨0xC01, 4, 2⟩
/-- `SAVE_ACTION` [7:6], R165. -/
def SAVE_ACTION_CUE_SAVE : Fld := ⟨0xC01, 6, 2⟩
/-- `SAVE_ACTION` [9:8], R165. -/
def SAVE_ACTION_BUTTON : Fld := ⟨0xC01, 8, 2⟩
/-- `SAVE_ACTION` [11:10], R165. -/
def SAVE_ACTION_THERMAL : Fld := ⟨0xC01, 10, 2⟩
/-- `SAVE_ACTION` [13:12], R165. -/
def SAVE_ACTION_CUE_FAIL : Fld := ⟨0xC01, 12, 2⟩
/-- `SAVE_STATUS` [2:0], R166. -/
def SAVE_STATUS_PHASE : Fld := ⟨0xC02, 0, 3⟩
/-- `SAVE_STATUS` [6:3], R166. -/
def SAVE_STATUS_SAVING : Fld := ⟨0xC02, 3, 4⟩
/-- `SAVE_STATUS` [10:7], R166. -/
def SAVE_STATUS_SEALED : Fld := ⟨0xC02, 7, 4⟩
/-- `SAVE_STATUS` [14:11], R166. -/
def SAVE_STATUS_TORN : Fld := ⟨0xC02, 11, 4⟩
/-- `SAVE_STATUS` [15:15], R166. -/
def SAVE_STATUS_ABORT_WINDOW : Fld := ⟨0xC02, 15, 1⟩
/-- `SAVE_STATUS` [16:16], R166. -/
def SAVE_STATUS_SUPPLY_GOOD : Fld := ⟨0xC02, 16, 1⟩
/-- `SAVE_STATUS` [22:17], R166. -/
def SAVE_STATUS_CAUSE : Fld := ⟨0xC02, 17, 6⟩
/-- `SAVE_LAST` [5:0], R167. -/
def SAVE_LAST_CAUSE : Fld := ⟨0xC03, 0, 6⟩
/-- `SAVE_LAST` [8:6], R167. -/
def SAVE_LAST_OUTCOME : Fld := ⟨0xC03, 6, 3⟩
/-- `SAVE_LAST` [12:9], R167. -/
def SAVE_LAST_SEALED : Fld := ⟨0xC03, 9, 4⟩
/-- `SAVE_LAST` [16:13], R167. -/
def SAVE_LAST_TORN : Fld := ⟨0xC03, 13, 4⟩
/-- `SAVE_LAST` [19:17], R167. -/
def SAVE_LAST_TORN_REASON : Fld := ⟨0xC03, 17, 3⟩
/-- `SAVE_LAST` [47:20], R167. -/
def SAVE_LAST_DURATION : Fld := ⟨0xC03, 20, 28⟩
/-- `SAVE_GATE_TICK` [39:0], R168. -/
def SAVE_GATE_TICK_TICK : Fld := ⟨0xC04, 0, 40⟩
/-- `SAVE_FLUSH` [29:0], R169. -/
def SAVE_FLUSH_FRAMES : Fld := ⟨0xC05, 0, 30⟩
/-- `SAVE_FLUSH` [47:30], R169. -/
def SAVE_FLUSH_POISONED : Fld := ⟨0xC05, 30, 18⟩
/-- `SAVE_TIMES` [23:0], R169. -/
def SAVE_TIMES_FLUSH_10US : Fld := ⟨0xC06, 0, 24⟩
/-- `SAVE_TIMES` [35:24], R169. -/
def SAVE_TIMES_META_10US : Fld := ⟨0xC06, 24, 12⟩
/-- `SAVE_TIMES` [47:36], R169. -/
def SAVE_TIMES_SEAL_US : Fld := ⟨0xC06, 36, 12⟩
/-- `SAVE_GEN` [31:0], R170. -/
def SAVE_GEN_SEALED_GEN (n : Nat) : Fld := ⟨0xC08 + 0x1 * n, 0, 32⟩
/-- `SAVE_GEN` [32:32], R170. -/
def SAVE_GEN_VALID (n : Nat) : Fld := ⟨0xC08 + 0x1 * n, 32, 1⟩
/-- `SAVE_OPEN` [31:0], R170. -/
def SAVE_OPEN_OPEN_GEN (n : Nat) : Fld := ⟨0xC0C + 0x1 * n, 0, 32⟩
/-- `SAVE_OPEN` [32:32], R170. -/
def SAVE_OPEN_RECORDED (n : Nat) : Fld := ⟨0xC0C + 0x1 * n, 32, 1⟩
/-- `SAVE_TEAR` [31:0], R684. -/
def SAVE_TEAR_GEN (n : Nat) : Fld := ⟨0xC10 + 0x1 * n, 0, 32⟩
/-- `SAVE_TEAR` [34:32], R684. -/
def SAVE_TEAR_REASON (n : Nat) : Fld := ⟨0xC10 + 0x1 * n, 32, 3⟩
/-- `RESTORE_CFG` [0:0], R204. -/
def RESTORE_CFG_TOUCH_EN (n : Nat) : Fld := ⟨0xE00 + 0x10 * n, 0, 1⟩
/-- `RESTORE_CFG` [1:1], R204. -/
def RESTORE_CFG_MANUAL_START (n : Nat) : Fld := ⟨0xE00 + 0x10 * n, 1, 1⟩
/-- `RESTORE_CFG` [2:2], R204. -/
def RESTORE_CFG_MANUAL_RESUME (n : Nat) : Fld := ⟨0xE00 + 0x10 * n, 2, 1⟩
/-- `RESTORE_CFG` [19:4], R204. -/
def RESTORE_CFG_EARLY_MIB (n : Nat) : Fld := ⟨0xE00 + 0x10 * n, 4, 16⟩
/-- `RESTORE_CFG` [31:20], R204. -/
def RESTORE_CFG_TOUCH_WARN (n : Nat) : Fld := ⟨0xE00 + 0x10 * n, 20, 12⟩
/-- `RESTORE_CTRL` [0:0], R205. -/
def RESTORE_CTRL_START (n : Nat) : Fld := ⟨0xE01 + 0x10 * n, 0, 1⟩
/-- `RESTORE_CTRL` [1:1], R205. -/
def RESTORE_CTRL_RESUME (n : Nat) : Fld := ⟨0xE01 + 0x10 * n, 1, 1⟩
/-- `RESTORE_STATUS` [2:0], R206. -/
def RESTORE_STATUS_PHASE (n : Nat) : Fld := ⟨0xE02 + 0x10 * n, 0, 3⟩
/-- `RESTORE_STATUS` [3:3], R206. -/
def RESTORE_STATUS_FULL_SCAN (n : Nat) : Fld := ⟨0xE02 + 0x10 * n, 3, 1⟩
/-- `RESTORE_STATUS` [4:4], R206. -/
def RESTORE_STATUS_MEM_ACTIVE (n : Nat) : Fld := ⟨0xE02 + 0x10 * n, 4, 1⟩
/-- `RESTORE_STATUS` [5:5], R206. -/
def RESTORE_STATUS_WAIT_RESUME (n : Nat) : Fld := ⟨0xE02 + 0x10 * n, 5, 1⟩
/-- `RESTORE_STATUS` [11:6], R206. -/
def RESTORE_STATUS_TOUCH_QUEUED (n : Nat) : Fld := ⟨0xE02 + 0x10 * n, 6, 6⟩
/-- `RESTORE_STATUS` [20:12], R206. -/
def RESTORE_STATUS_HELD_READS (n : Nat) : Fld := ⟨0xE02 + 0x10 * n, 12, 9⟩
/-- `RESTORE_GEN` [31:0], R207. -/
def RESTORE_GEN_GEN (n : Nat) : Fld := ⟨0xE03 + 0x10 * n, 0, 32⟩
/-- `RESTORE_GEN` [39:32], R207. -/
def RESTORE_GEN_DELTAS (n : Nat) : Fld := ⟨0xE03 + 0x10 * n, 32, 8⟩
/-- `RESTORE_PROGRESS` [29:0], R207. -/
def RESTORE_PROGRESS_FRAMES (n : Nat) : Fld := ⟨0xE04 + 0x10 * n, 0, 30⟩
/-- `RESTORE_TOUCH_COUNT` [47:0], R208. -/
def RESTORE_TOUCH_COUNT_COUNT (n : Nat) : Fld := ⟨0xE05 + 0x10 * n, 0, 48⟩
/-- `RESTORE_TOUCH_MAX` [31:0], R208. -/
def RESTORE_TOUCH_MAX_MAX_US (n : Nat) : Fld := ⟨0xE06 + 0x10 * n, 0, 32⟩
/-- `RESTORE_TOUCH_MAX` [32:32], R208. -/
def RESTORE_TOUCH_MAX_CLEAR (n : Nat) : Fld := ⟨0xE06 + 0x10 * n, 32, 1⟩
/-- `RESTORE_POISONED` [29:0], R207. -/
def RESTORE_POISONED_FRAMES (n : Nat) : Fld := ⟨0xE07 + 0x10 * n, 0, 30⟩
/-- `RESTORE_TIMES` [23:0], R207. -/
def RESTORE_TIMES_TO_LIVE_100US (n : Nat) : Fld := ⟨0xE08 + 0x10 * n, 0, 24⟩
/-- `RESTORE_TIMES` [47:24], R207. -/
def RESTORE_TIMES_TO_DONE_10MS (n : Nat) : Fld := ⟨0xE08 + 0x10 * n, 24, 24⟩
/-- `RESTORE_HEAT` [3:0], R209. -/
def RESTORE_HEAT_SAMPLE_LOG2 : Fld := ⟨0xE40, 0, 4⟩
/-- `RESTORE_HEAT` [19:4], R209. -/
def RESTORE_HEAT_HALF_LIFE_S : Fld := ⟨0xE40, 4, 16⟩
/-- `RESTORE_HEAT` [47:20], R209. -/
def RESTORE_HEAT_DROPPED : Fld := ⟨0xE40, 20, 28⟩
/-- `DC_SCHED_CFG` [6:0], R297. -/
def DC_SCHED_CFG_WQ_HIGH (n : Nat) : Fld := ⟨0x1000 + 0x400 * n, 0, 7⟩
/-- `DC_SCHED_CFG` [13:7], R297. -/
def DC_SCHED_CFG_WQ_LOW (n : Nat) : Fld := ⟨0x1000 + 0x400 * n, 7, 7⟩
/-- `DC_AGE_A` [11:0], R298. -/
def DC_AGE_A_CLASS0 (n : Nat) : Fld := ⟨0x1001 + 0x400 * n, 0, 12⟩
/-- `DC_AGE_A` [23:12], R298. -/
def DC_AGE_A_CLASS1 (n : Nat) : Fld := ⟨0x1001 + 0x400 * n, 12, 12⟩
/-- `DC_AGE_A` [35:24], R298. -/
def DC_AGE_A_CLASS2 (n : Nat) : Fld := ⟨0x1001 + 0x400 * n, 24, 12⟩
/-- `DC_AGE_A` [47:36], R298. -/
def DC_AGE_A_CLASS3 (n : Nat) : Fld := ⟨0x1001 + 0x400 * n, 36, 12⟩
/-- `DC_AGE_B` [11:0], R298. -/
def DC_AGE_B_CLASS4 (n : Nat) : Fld := ⟨0x1002 + 0x400 * n, 0, 12⟩
/-- `DC_PANIC_CFG` [7:0], R299. -/
def DC_PANIC_CFG_SAVE_LOW (n : Nat) : Fld := ⟨0x1003 + 0x400 * n, 0, 8⟩
/-- `DC_PANIC_CFG` [15:8], R299. -/
def DC_PANIC_CFG_SAVE_HIGH (n : Nat) : Fld := ⟨0x1003 + 0x400 * n, 8, 8⟩
/-- `DC_PANIC_CFG` [23:16], R299. -/
def DC_PANIC_CFG_TOUCH_LOW (n : Nat) : Fld := ⟨0x1003 + 0x400 * n, 16, 8⟩
/-- `DC_PANIC_CFG` [31:24], R299. -/
def DC_PANIC_CFG_TOUCH_HIGH (n : Nat) : Fld := ⟨0x1003 + 0x400 * n, 24, 8⟩
/-- `DC_PORT_PRIO` [15:0], R300. -/
def DC_PORT_PRIO_PRIO_P0_to_PRIO_P7 (n : Nat) : Fld := ⟨0x1004 + 0x400 * n, 0, 16⟩
/-- `DC_PAGE_CFG` [1:0], R301. -/
def DC_PAGE_CFG_POLICY (n : Nat) : Fld := ⟨0x1005 + 0x400 * n, 0, 2⟩
/-- `DC_PAGE_CFG` [11:2], R301. -/
def DC_PAGE_CFG_IDLE_CLOSE (n : Nat) : Fld := ⟨0x1005 + 0x400 * n, 2, 10⟩
/-- `DC_REF_CFG` [2:0], R301. -/
def DC_REF_CFG_POSTPONE_MAX (n : Nat) : Fld := ⟨0x1006 + 0x400 * n, 0, 3⟩
/-- `DC_REF_CFG` [5:3], R301. -/
def DC_REF_CFG_PULLIN_MAX (n : Nat) : Fld := ⟨0x1006 + 0x400 * n, 3, 3⟩
/-- `DC_REF_CFG` [6:6], R301. -/
def DC_REF_CFG_MODE (n : Nat) : Fld := ⟨0x1006 + 0x400 * n, 6, 1⟩
/-- `DC_REF_CFG` [7:7], R301. -/
def DC_REF_CFG_SAME_BANK (n : Nat) : Fld := ⟨0x1006 + 0x400 * n, 7, 1⟩
/-- `DC_LP_CFG` [9:0], R302. -/
def DC_LP_CFG_PD_TIMER (n : Nat) : Fld := ⟨0x1007 + 0x400 * n, 0, 10⟩
/-- `DC_LP_CFG` [25:10], R302. -/
def DC_LP_CFG_SR_IDLE_US (n : Nat) : Fld := ⟨0x1007 + 0x400 * n, 10, 16⟩
/-- `DC_LP_CFG` [35:26], R302. -/
def DC_LP_CFG_SR_MAX_MS (n : Nat) : Fld := ⟨0x1007 + 0x400 * n, 26, 10⟩
/-- `DC_MAP` [1:0], R303. -/
def DC_MAP_GRAIN (n : Nat) : Fld := ⟨0x1008 + 0x400 * n, 0, 2⟩
/-- `DC_MAP` [3:2], R303. -/
def DC_MAP_CHANNELS (n : Nat) : Fld := ⟨0x1008 + 0x400 * n, 2, 2⟩
/-- `DC_MAP` [5:4], R303. -/
def DC_MAP_POSITION (n : Nat) : Fld := ⟨0x1008 + 0x400 * n, 4, 2⟩
/-- `DC_MAP` [7:6], R303. -/
def DC_MAP_STAGE (n : Nat) : Fld := ⟨0x1008 + 0x400 * n, 6, 2⟩
/-- `DC_MAP` [8:8], R303. -/
def DC_MAP_BOUND (n : Nat) : Fld := ⟨0x1008 + 0x400 * n, 8, 1⟩
/-- `DC_MAP` [9:9], R303. -/
def DC_MAP_WIDTH (n : Nat) : Fld := ⟨0x1008 + 0x400 * n, 9, 1⟩
/-- `DC_MAP` [11:10], R303. -/
def DC_MAP_STACK (n : Nat) : Fld := ⟨0x1008 + 0x400 * n, 10, 2⟩
/-- `DC_MAP` [12:12], R303. -/
def DC_MAP_RANKS (n : Nat) : Fld := ⟨0x1008 + 0x400 * n, 12, 1⟩
/-- `DC_SCHED_STATUS` [0:0], R304. -/
def DC_SCHED_STATUS_PANIC_SAVE (n : Nat) : Fld := ⟨0x1009 + 0x400 * n, 0, 1⟩
/-- `DC_SCHED_STATUS` [1:1], R304. -/
def DC_SCHED_STATUS_PANIC_TOUCH (n : Nat) : Fld := ⟨0x1009 + 0x400 * n, 1, 1⟩
/-- `DC_SCHED_STATUS` [2:2], R304. -/
def DC_SCHED_STATUS_DRAIN_A (n : Nat) : Fld := ⟨0x1009 + 0x400 * n, 2, 1⟩
/-- `DC_SCHED_STATUS` [3:3], R304. -/
def DC_SCHED_STATUS_DRAIN_B (n : Nat) : Fld := ⟨0x1009 + 0x400 * n, 3, 1⟩
/-- `DC_SCHED_STATUS` [7:4], R304. -/
def DC_SCHED_STATUS_PD (n : Nat) : Fld := ⟨0x1009 + 0x400 * n, 4, 4⟩
/-- `DC_SCHED_STATUS` [11:8], R304. -/
def DC_SCHED_STATUS_SR (n : Nat) : Fld := ⟨0x1009 + 0x400 * n, 8, 4⟩
/-- `DC_SCHED_STATUS` [13:12], R304. -/
def DC_SCHED_STATUS_SR_ENTERING (n : Nat) : Fld := ⟨0x1009 + 0x400 * n, 12, 2⟩
/-- `DC_SCHED_STATUS` [20:14], R304. -/
def DC_SCHED_STATUS_RQ_A (n : Nat) : Fld := ⟨0x1009 + 0x400 * n, 14, 7⟩
/-- `DC_SCHED_STATUS` [27:21], R304. -/
def DC_SCHED_STATUS_WQ_A (n : Nat) : Fld := ⟨0x1009 + 0x400 * n, 21, 7⟩
/-- `DC_SCHED_STATUS` [34:28], R304. -/
def DC_SCHED_STATUS_RQ_B (n : Nat) : Fld := ⟨0x1009 + 0x400 * n, 28, 7⟩
/-- `DC_SCHED_STATUS` [41:35], R304. -/
def DC_SCHED_STATUS_WQ_B (n : Nat) : Fld := ⟨0x1009 + 0x400 * n, 35, 7⟩
/-- `DC_REF_STATUS` [15:0], R305. -/
def DC_REF_STATUS_OWED (n : Nat) : Fld := ⟨0x100A + 0x400 * n, 0, 16⟩
/-- `DC_REF_STATUS` [47:16], R305. -/
def DC_REF_STATUS_FORCED (n : Nat) : Fld := ⟨0x100A + 0x400 * n, 16, 32⟩
/-- `DC_PANIC_COUNT` [23:0], R305. -/
def DC_PANIC_COUNT_PANICS (n : Nat) : Fld := ⟨0x100B + 0x400 * n, 0, 24⟩
/-- `DC_PANIC_COUNT` [47:24], R305. -/
def DC_PANIC_COUNT_PANIC_US (n : Nat) : Fld := ⟨0x100B + 0x400 * n, 24, 24⟩
/-- `DC_PROMOTE_COUNT` [47:0], R305. -/
def DC_PROMOTE_COUNT_COUNT (n : Nat) : Fld := ⟨0x100C + 0x400 * n, 0, 48⟩
/-- `DC_SR_COUNT` [23:0], R305. -/
def DC_SR_COUNT_ENTRIES (n : Nat) : Fld := ⟨0x100D + 0x400 * n, 0, 24⟩
/-- `DC_SR_COUNT` [47:24], R305. -/
def DC_SR_COUNT_ABORTS (n : Nat) : Fld := ⟨0x100D + 0x400 * n, 24, 24⟩
/-- `DC_ECC_CFG` [0:0], R339. -/
def DC_ECC_CFG_WRITEBACK (n : Nat) : Fld := ⟨0x1040 + 0x400 * n, 0, 1⟩
/-- `DC_ECC_CFG` [1:1], R339. -/
def DC_ECC_CFG_INJECT_LIVE (n : Nat) : Fld := ⟨0x1040 + 0x400 * n, 1, 1⟩
/-- `DC_ECC_CFG` [17:2], R339. -/
def DC_ECC_CFG_CE_REPORT (n : Nat) : Fld := ⟨0x1040 + 0x400 * n, 2, 16⟩
/-- `DC_ECC_COUNT` [23:0], R339. -/
def DC_ECC_COUNT_CORRECTED (n : Nat) : Fld := ⟨0x1041 + 0x400 * n, 0, 24⟩
/-- `DC_ECC_COUNT` [39:24], R339. -/
def DC_ECC_COUNT_UNCORRECTABLE (n : Nat) : Fld := ⟨0x1041 + 0x400 * n, 24, 16⟩
/-- `DC_ECC_COUNT` [47:40], R339. -/
def DC_ECC_COUNT_DISCARDED (n : Nat) : Fld := ⟨0x1041 + 0x400 * n, 40, 8⟩
/-- `DC_ERR_CAPTURE` [34:0], R340. -/
def DC_ERR_CAPTURE_LINE (n : Nat) : Fld := ⟨0x1042 + 0x400 * n, 0, 35⟩
/-- `DC_ERR_CAPTURE` [36:35], R340. -/
def DC_ERR_CAPTURE_STAGE (n : Nat) : Fld := ⟨0x1042 + 0x400 * n, 35, 2⟩
/-- `DC_ERR_CAPTURE` [37:37], R340. -/
def DC_ERR_CAPTURE_SUBCHANNEL (n : Nat) : Fld := ⟨0x1042 + 0x400 * n, 37, 1⟩
/-- `DC_ERR_CAPTURE` [41:38], R340. -/
def DC_ERR_CAPTURE_DEVICE (n : Nat) : Fld := ⟨0x1042 + 0x400 * n, 38, 4⟩
/-- `DC_ERR_CAPTURE` [44:42], R340. -/
def DC_ERR_CAPTURE_KIND (n : Nat) : Fld := ⟨0x1042 + 0x400 * n, 42, 3⟩
/-- `DC_ERR_CAPTURE` [45:45], R340. -/
def DC_ERR_CAPTURE_VALID (n : Nat) : Fld := ⟨0x1042 + 0x400 * n, 45, 1⟩
/-- `DC_ERR_CAPTURE` [46:46], R340. -/
def DC_ERR_CAPTURE_OVERFLOW (n : Nat) : Fld := ⟨0x1042 + 0x400 * n, 46, 1⟩
/-- `DC_SCRUB_CFG` [9:0], R341. -/
def DC_SCRUB_CFG_PERIOD_H (n : Nat) : Fld := ⟨0x1043 + 0x400 * n, 0, 10⟩
/-- `DC_SCRUB_CFG` [10:10], R341. -/
def DC_SCRUB_CFG_ENABLE (n : Nat) : Fld := ⟨0x1043 + 0x400 * n, 10, 1⟩
/-- `DC_SCRUB_STATUS` [31:0], R341. -/
def DC_SCRUB_STATUS_POSITION (n : Nat) : Fld := ⟨0x1044 + 0x400 * n, 0, 32⟩
/-- `DC_SCRUB_STATUS` [39:32], R341. -/
def DC_SCRUB_STATUS_PASSES (n : Nat) : Fld := ⟨0x1044 + 0x400 * n, 32, 8⟩
/-- `DC_SCRUB_STATUS` [47:40], R341. -/
def DC_SCRUB_STATUS_PASS_TIME_H (n : Nat) : Fld := ⟨0x1044 + 0x400 * n, 40, 8⟩
/-- `DC_RH_CFG` [15:0], R342. -/
def DC_RH_CFG_THRESHOLD (n : Nat) : Fld := ⟨0x1045 + 0x400 * n, 0, 16⟩
/-- `DC_RH_CFG` [18:16], R342. -/
def DC_RH_CFG_RADIUS (n : Nat) : Fld := ⟨0x1045 + 0x400 * n, 16, 3⟩
/-- `DC_RH_CFG` [19:19], R342. -/
def DC_RH_CFG_DRFM (n : Nat) : Fld := ⟨0x1045 + 0x400 * n, 19, 1⟩
/-- `DC_RH_CFG` [20:20], R342. -/
def DC_RH_CFG_SPILL_RFM (n : Nat) : Fld := ⟨0x1045 + 0x400 * n, 20, 1⟩
/-- `DC_RH_COUNT` [23:0], R342. -/
def DC_RH_COUNT_MITIGATIONS (n : Nat) : Fld := ⟨0x1046 + 0x400 * n, 0, 24⟩
/-- `DC_RH_COUNT` [47:24], R342. -/
def DC_RH_COUNT_SPILL_RFM (n : Nat) : Fld := ⟨0x1046 + 0x400 * n, 24, 24⟩
/-- `DC_INJECT` [1:0], R343. -/
def DC_INJECT_MODE (n : Nat) : Fld := ⟨0x1047 + 0x400 * n, 0, 2⟩
/-- `DC_INJECT` [5:2], R343. -/
def DC_INJECT_DEVICE (n : Nat) : Fld := ⟨0x1047 + 0x400 * n, 2, 4⟩
/-- `DC_INJECT` [6:6], R343. -/
def DC_INJECT_SUBCHANNEL (n : Nat) : Fld := ⟨0x1047 + 0x400 * n, 6, 1⟩
/-- `DC_INJECT` [7:7], R343. -/
def DC_INJECT_ANY (n : Nat) : Fld := ⟨0x1047 + 0x400 * n, 7, 1⟩
/-- `DC_INJECT` [8:8], R343. -/
def DC_INJECT_ARM (n : Nat) : Fld := ⟨0x1047 + 0x400 * n, 8, 1⟩
/-- `DC_INJECT_ADDR` [31:0], R343. -/
def DC_INJECT_ADDR_LINE (n : Nat) : Fld := ⟨0x1048 + 0x400 * n, 0, 32⟩
/-- `DC_DLY_SEL` [2:0], R369. -/
def DC_DLY_SEL_KIND (n : Nat) : Fld := ⟨0x1080 + 0x400 * n, 0, 3⟩
/-- `DC_DLY_SEL` [3:3], R369. -/
def DC_DLY_SEL_SUBCH (n : Nat) : Fld := ⟨0x1080 + 0x400 * n, 3, 1⟩
/-- `DC_DLY_SEL` [4:4], R369. -/
def DC_DLY_SEL_RANK (n : Nat) : Fld := ⟨0x1080 + 0x400 * n, 4, 1⟩
/-- `DC_DLY_SEL` [10:5], R369. -/
def DC_DLY_SEL_LANE (n : Nat) : Fld := ⟨0x1080 + 0x400 * n, 5, 6⟩
/-- `DC_DLY_SEL` [11:11], R369. -/
def DC_DLY_SEL_AUTO_INC (n : Nat) : Fld := ⟨0x1080 + 0x400 * n, 11, 1⟩
/-- `DC_DLY_DATA` [11:0], R369. -/
def DC_DLY_DATA_TAPS (n : Nat) : Fld := ⟨0x1081 + 0x400 * n, 0, 12⟩
/-- `DC_DLY_DATA` [12:12], R369. -/
def DC_DLY_DATA_STAGED (n : Nat) : Fld := ⟨0x1081 + 0x400 * n, 12, 1⟩
/-- `DC_DLY_DATA` [13:13], R369. -/
def DC_DLY_DATA_PENDING (n : Nat) : Fld := ⟨0x1081 + 0x400 * n, 13, 1⟩
/-- `DC_TRN_CTRL` [1:0], R369. -/
def DC_TRN_CTRL_MODE (n : Nat) : Fld := ⟨0x1082 + 0x400 * n, 0, 2⟩
/-- `DC_TRN_CTRL` [3:2], R369. -/
def DC_TRN_CTRL_PATTERN (n : Nat) : Fld := ⟨0x1082 + 0x400 * n, 2, 2⟩
/-- `DC_TRN_CTRL` [4:4], R369. -/
def DC_TRN_CTRL_SUBCH (n : Nat) : Fld := ⟨0x1082 + 0x400 * n, 4, 1⟩
/-- `DC_TRN_CTRL` [5:5], R369. -/
def DC_TRN_CTRL_RANK (n : Nat) : Fld := ⟨0x1082 + 0x400 * n, 5, 1⟩
/-- `DC_TRN_CTRL` [21:6], R369. -/
def DC_TRN_CTRL_BURSTS (n : Nat) : Fld := ⟨0x1082 + 0x400 * n, 6, 16⟩
/-- `DC_TRN_CTRL` [22:22], R369. -/
def DC_TRN_CTRL_START (n : Nat) : Fld := ⟨0x1082 + 0x400 * n, 22, 1⟩
/-- `DC_TRN_CTRL` [23:23], R369. -/
def DC_TRN_CTRL_DONE (n : Nat) : Fld := ⟨0x1082 + 0x400 * n, 23, 1⟩
/-- `DC_TRN_PATTERN` [31:0], R369. -/
def DC_TRN_PATTERN_USER (n : Nat) : Fld := ⟨0x1083 + 0x400 * n, 0, 32⟩
/-- `DC_TRN_RESULT` [39:0], R369. -/
def DC_TRN_RESULT_FAIL_LANES (n : Nat) : Fld := ⟨0x1084 + 0x400 * n, 0, 40⟩
/-- `DC_TRN_RESULT` [47:40], R369. -/
def DC_TRN_RESULT_ERRORS (n : Nat) : Fld := ⟨0x1084 + 0x400 * n, 40, 8⟩
/-- `DC_TRACK` [11:0], R370. -/
def DC_TRACK_OSC_RUNTIME (n : Nat) : Fld := ⟨0x1085 + 0x400 * n, 0, 12⟩
/-- `DC_TRACK` [21:12], R370. -/
def DC_TRACK_MAX_STEP (n : Nat) : Fld := ⟨0x1085 + 0x400 * n, 12, 10⟩
/-- `DC_TRACK` [31:22], R370. -/
def DC_TRACK_RETRAIN_TAPS (n : Nat) : Fld := ⟨0x1085 + 0x400 * n, 22, 10⟩
/-- `DC_PHY_STATUS` [0:0], R370. -/
def DC_PHY_STATUS_TRAINED (n : Nat) : Fld := ⟨0x1086 + 0x400 * n, 0, 1⟩
/-- `DC_PHY_STATUS` [1:1], R370. -/
def DC_PHY_STATUS_FROM_SNAPSHOT (n : Nat) : Fld := ⟨0x1086 + 0x400 * n, 1, 1⟩
/-- `DC_PHY_STATUS` [5:2], R370. -/
def DC_PHY_STATUS_HIGH_TEMP (n : Nat) : Fld := ⟨0x1086 + 0x400 * n, 2, 4⟩
/-- `DC_PHY_STATUS` [15:6], R370. -/
def DC_PHY_STATUS_DRIFT_MAX (n : Nat) : Fld := ⟨0x1086 + 0x400 * n, 6, 10⟩
/-- `DC_PHY_STATUS` [16:16], R370. -/
def DC_PHY_STATUS_RETRAIN_DUE (n : Nat) : Fld := ⟨0x1086 + 0x400 * n, 16, 1⟩
/-- `DC_REMAP_CFG` [39:0], R344. -/
def DC_REMAP_CFG_SPARES_S0_to_SPARES_S3 : Fld := ⟨0x1100, 0, 40⟩
/-- `DC_REMAP_STATUS` [6:0], R344. -/
def DC_REMAP_STATUS_USED : Fld := ⟨0x1101, 0, 7⟩
/-- `DC_REMAP_STATUS` [7:7], R344. -/
def DC_REMAP_STATUS_FULL : Fld := ⟨0x1101, 7, 1⟩
/-- `DC_REMAP_ENTRY` [34:0], R344. -/
def DC_REMAP_ENTRY_LINE (n : Nat) : Fld := ⟨0x1110 + 0x1 * n, 0, 35⟩
/-- `DC_REMAP_ENTRY` [36:35], R344. -/
def DC_REMAP_ENTRY_STAGE (n : Nat) : Fld := ⟨0x1110 + 0x1 * n, 35, 2⟩
/-- `DC_REMAP_ENTRY` [44:37], R344. -/
def DC_REMAP_ENTRY_SPARE (n : Nat) : Fld := ⟨0x1110 + 0x1 * n, 37, 8⟩
/-- `DC_REMAP_ENTRY` [46:45], R344. -/
def DC_REMAP_ENTRY_STATE (n : Nat) : Fld := ⟨0x1110 + 0x1 * n, 45, 2⟩
/-- `DC_REMAP_ENTRY` [47:47], R344. -/
def DC_REMAP_ENTRY_SPARE_HI (n : Nat) : Fld := ⟨0x1110 + 0x1 * n, 47, 1⟩
/-- `DC_PHY_GLOBAL` [3:0], R370. -/
def DC_PHY_GLOBAL_SPEED_ACTIVE : Fld := ⟨0x1180, 0, 4⟩
/-- `DC_PHY_GLOBAL` [11:4], R370. -/
def DC_PHY_GLOBAL_VERIFY_TAPS : Fld := ⟨0x1180, 4, 8⟩
/-- `DC_PHY_GLOBAL` [18:12], R370. -/
def DC_PHY_GLOBAL_SNAP_TEMP_C : Fld := ⟨0x1180, 12, 7⟩
/-- `DC_PHY_GLOBAL` [19:19], R370. -/
def DC_PHY_GLOBAL_FORCE_TRAIN : Fld := ⟨0x1180, 19, 1⟩
/-- `DC_I3C_CFG` [1:0], R370. -/
def DC_I3C_CFG_RATE : Fld := ⟨0x1181, 0, 2⟩
/-- `DC_I3C_CFG` [8:2], R370. -/
def DC_I3C_CFG_WARN_C : Fld := ⟨0x1181, 2, 7⟩
/-- `DC_I3C_CMD` [6:0], R370. -/
def DC_I3C_CMD_ADDR : Fld := ⟨0x1182, 0, 7⟩
/-- `DC_I3C_CMD` [7:7], R370. -/
def DC_I3C_CMD_READ : Fld := ⟨0x1182, 7, 1⟩
/-- `DC_I3C_CMD` [23:8], R370. -/
def DC_I3C_CMD_OFFSET : Fld := ⟨0x1182, 8, 16⟩
/-- `DC_I3C_CMD` [24:24], R370. -/
def DC_I3C_CMD_OFFSET_2B : Fld := ⟨0x1182, 24, 1⟩
/-- `DC_I3C_CMD` [27:25], R370. -/
def DC_I3C_CMD_LENGTH : Fld := ⟨0x1182, 25, 3⟩
/-- `DC_I3C_CMD` [28:28], R370. -/
def DC_I3C_CMD_GO : Fld := ⟨0x1182, 28, 1⟩
/-- `DC_I3C_CMD` [29:29], R370. -/
def DC_I3C_CMD_BUSY : Fld := ⟨0x1182, 29, 1⟩
/-- `DC_I3C_CMD` [31:30], R370. -/
def DC_I3C_CMD_RESULT : Fld := ⟨0x1182, 30, 2⟩
/-- `DC_I3C_DATA` [47:0], R370. -/
def DC_I3C_DATA_DATA : Fld := ⟨0x1183, 0, 48⟩
/-- `FL_CFG` [6:0], R255. -/
def FL_CFG_STRIKE_START_PCT : Fld := ⟨0x2000, 0, 7⟩
/-- `FL_CFG` [7:7], R255. -/
def FL_CFG_STRIKE_IDLE_ONLY : Fld := ⟨0x2000, 7, 1⟩
/-- `FL_CFG` [23:8], R255. -/
def FL_CFG_RATED_ERASES : Fld := ⟨0x2000, 8, 16⟩
/-- `FL_CFG` [31:24], R255. -/
def FL_CFG_ITER_WORN : Fld := ⟨0x2000, 24, 8⟩
/-- `FL_CFG` [39:32], R255. -/
def FL_CFG_PROG_WORN_PCT : Fld := ⟨0x2000, 32, 8⟩
/-- `FL_INJECT` [3:0], R256. -/
def FL_INJECT_CHANNEL : Fld := ⟨0x2001, 0, 4⟩
/-- `FL_INJECT` [13:4], R256. -/
def FL_INJECT_BITS : Fld := ⟨0x2001, 4, 10⟩
/-- `FL_INJECT` [14:14], R256. -/
def FL_INJECT_UNCORRECTABLE : Fld := ⟨0x2001, 14, 1⟩
/-- `FL_INJECT` [15:15], R256. -/
def FL_INJECT_ON_READ : Fld := ⟨0x2001, 15, 1⟩
/-- `FL_INJECT` [16:16], R256. -/
def FL_INJECT_ARM : Fld := ⟨0x2001, 16, 1⟩
/-- `FL_MP_STATUS` [3:0], R256. -/
def FL_MP_STATUS_CHANNEL : Fld := ⟨0x2002, 0, 4⟩
/-- `FL_MP_STATUS` [7:4], R256. -/
def FL_MP_STATUS_ENTRY : Fld := ⟨0x2002, 4, 4⟩
/-- `FL_MP_STATUS` [19:8], R256. -/
def FL_MP_STATUS_WORD : Fld := ⟨0x2002, 8, 12⟩
/-- `FL_MP_STATUS` [27:20], R256. -/
def FL_MP_STATUS_CODE : Fld := ⟨0x2002, 20, 8⟩
/-- `FL_STAGE_GEOM` [15:0], R257. -/
def FL_STAGE_GEOM_BLOCKS (n : Nat) : Fld := ⟨0x2010 + 0x10 * n, 0, 16⟩
/-- `FL_STAGE_GEOM` [27:16], R257. -/
def FL_STAGE_GEOM_PAGES (n : Nat) : Fld := ⟨0x2010 + 0x10 * n, 16, 12⟩
/-- `FL_STAGE_GEOM` [36:28], R257. -/
def FL_STAGE_GEOM_LUNS (n : Nat) : Fld := ⟨0x2010 + 0x10 * n, 28, 9⟩
/-- `FL_STAGE_TIMING` [13:0], R257. -/
def FL_STAGE_TIMING_PROG_10NS (n : Nat) : Fld := ⟨0x2011 + 0x10 * n, 0, 14⟩
/-- `FL_STAGE_TIMING` [27:14], R257. -/
def FL_STAGE_TIMING_READ_10NS (n : Nat) : Fld := ⟨0x2011 + 0x10 * n, 14, 14⟩
/-- `FL_STAGE_TIMING` [37:28], R257. -/
def FL_STAGE_TIMING_CMD_NS (n : Nat) : Fld := ⟨0x2011 + 0x10 * n, 28, 10⟩
/-- `FL_STAGE_RATE` [23:0], R258. -/
def FL_STAGE_RATE_PROG_MBPS (n : Nat) : Fld := ⟨0x2012 + 0x10 * n, 0, 24⟩
/-- `FL_STAGE_RATE` [47:24], R258. -/
def FL_STAGE_RATE_READ_MBPS (n : Nat) : Fld := ⟨0x2012 + 0x10 * n, 24, 24⟩
/-- `FL_STAGE_SPACE` [23:0], R258. -/
def FL_STAGE_SPACE_FREE_MIB (n : Nat) : Fld := ⟨0x2013 + 0x10 * n, 0, 24⟩
/-- `FL_STAGE_SPACE` [47:24], R258. -/
def FL_STAGE_SPACE_RESERVE_MIB (n : Nat) : Fld := ⟨0x2013 + 0x10 * n, 24, 24⟩
/-- `FL_STAGE_CAPACITY` [23:0], R258. -/
def FL_STAGE_CAPACITY_GOOD_MIB (n : Nat) : Fld := ⟨0x2014 + 0x10 * n, 0, 24⟩
/-- `FL_STAGE_CAPACITY` [47:24], R258. -/
def FL_STAGE_CAPACITY_NEEDED_MIB (n : Nat) : Fld := ⟨0x2014 + 0x10 * n, 24, 24⟩
/-- `FL_STAGE_STATUS` [0:0], R259. -/
def FL_STAGE_STATUS_STRIKE_ACTIVE (n : Nat) : Fld := ⟨0x2015 + 0x10 * n, 0, 1⟩
/-- `FL_STAGE_STATUS` [1:1], R259. -/
def FL_STAGE_STATUS_STRIKE_URGENT (n : Nat) : Fld := ⟨0x2015 + 0x10 * n, 1, 1⟩
/-- `FL_STAGE_STATUS` [2:2], R259. -/
def FL_STAGE_STATUS_SPACE_HOLD (n : Nat) : Fld := ⟨0x2015 + 0x10 * n, 2, 1⟩
/-- `FL_STAGE_STATUS` [3:3], R259. -/
def FL_STAGE_STATUS_SEAL_NEEDED (n : Nat) : Fld := ⟨0x2015 + 0x10 * n, 3, 1⟩
/-- `FL_STAGE_STATUS` [4:4], R259. -/
def FL_STAGE_STATUS_CAPACITY_DEGRADED (n : Nat) : Fld := ⟨0x2015 + 0x10 * n, 4, 1⟩
/-- `FL_STAGE_STATUS` [5:5], R259. -/
def FL_STAGE_STATUS_WEAR_LEVEL (n : Nat) : Fld := ⟨0x2015 + 0x10 * n, 5, 1⟩
/-- `FL_STAGE_STATUS` [21:6], R259. -/
def FL_STAGE_STATUS_OPEN_BAND (n : Nat) : Fld := ⟨0x2015 + 0x10 * n, 6, 16⟩
/-- `FL_STAGE_STATUS` [37:22], R259. -/
def FL_STAGE_STATUS_VICTIM_BAND (n : Nat) : Fld := ⟨0x2015 + 0x10 * n, 22, 16⟩
/-- `FL_STAGE_WEAR` [23:0], R258. -/
def FL_STAGE_WEAR_MAX_ERASES (n : Nat) : Fld := ⟨0x2016 + 0x10 * n, 0, 24⟩
/-- `FL_STAGE_WEAR` [47:24], R258. -/
def FL_STAGE_WEAR_MEAN_ERASES (n : Nat) : Fld := ⟨0x2016 + 0x10 * n, 24, 24⟩
/-- `FL_STAGE_BLOCKS` [23:0], R258. -/
def FL_STAGE_BLOCKS_RETIRED (n : Nat) : Fld := ⟨0x2017 + 0x10 * n, 0, 24⟩
/-- `FL_STAGE_BLOCKS` [47:24], R258. -/
def FL_STAGE_BLOCKS_WORN_PENDING (n : Nat) : Fld := ⟨0x2017 + 0x10 * n, 24, 24⟩
/-- `FL_CH_CFG` [1:0], R260. -/
def FL_CH_CFG_RATE (n : Nat) : Fld := ⟨0x2100 + 0x40 * n, 0, 2⟩
/-- `FL_CH_CFG` [2:2], R260. -/
def FL_CH_CFG_ENABLE (n : Nat) : Fld := ⟨0x2100 + 0x40 * n, 2, 1⟩
/-- `FL_CH_CFG` [18:3], R260. -/
def FL_CH_CFG_CMD_TIMEOUT_US (n : Nat) : Fld := ⟨0x2100 + 0x40 * n, 3, 16⟩
/-- `FL_CH_STATUS` [1:0], R260. -/
def FL_CH_STATUS_RATE_ACTIVE (n : Nat) : Fld := ⟨0x2101 + 0x40 * n, 0, 2⟩
/-- `FL_CH_STATUS` [2:2], R260. -/
def FL_CH_STATUS_TRAINED (n : Nat) : Fld := ⟨0x2101 + 0x40 * n, 2, 1⟩
/-- `FL_CH_STATUS` [3:3], R260. -/
def FL_CH_STATUS_LOST (n : Nat) : Fld := ⟨0x2101 + 0x40 * n, 3, 1⟩
/-- `FL_CH_STATUS` [10:4], R260. -/
def FL_CH_STATUS_OUTSTANDING (n : Nat) : Fld := ⟨0x2101 + 0x40 * n, 4, 7⟩
/-- `FL_CH_DECODE` [15:0], R260. -/
def FL_CH_DECODE_RETRY_READS (n : Nat) : Fld := ⟨0x2102 + 0x40 * n, 0, 16⟩
/-- `FL_CH_DECODE` [31:16], R260. -/
def FL_CH_DECODE_SOFT_READS (n : Nat) : Fld := ⟨0x2102 + 0x40 * n, 16, 16⟩
/-- `FL_CH_DECODE` [47:32], R260. -/
def FL_CH_DECODE_UNCORRECTABLE (n : Nat) : Fld := ⟨0x2102 + 0x40 * n, 32, 16⟩
/-- `FL_CH_CMD` [15:0], R260. -/
def FL_CH_CMD_STALE (n : Nat) : Fld := ⟨0x2103 + 0x40 * n, 0, 16⟩
/-- `FL_CH_CMD` [31:16], R260. -/
def FL_CH_CMD_TIMEOUTS (n : Nat) : Fld := ⟨0x2103 + 0x40 * n, 16, 16⟩
/-- `FL_CH_CMD` [39:32], R260. -/
def FL_CH_CMD_PROG_FAILS (n : Nat) : Fld := ⟨0x2103 + 0x40 * n, 32, 8⟩
/-- `FL_CH_CMD` [47:40], R260. -/
def FL_CH_CMD_ERASE_FAILS (n : Nat) : Fld := ⟨0x2103 + 0x40 * n, 40, 8⟩
/-- `CIPH_CFG` [0:0], R434. -/
def CIPH_CFG_LANE_TOP : Fld := ⟨0x2800, 0, 1⟩
/-- `CIPH_STATUS` [15:0], R434. -/
def CIPH_STATUS_LANE_FAILED : Fld := ⟨0x2801, 0, 16⟩
/-- `CIPH_STATUS` [16:16], R434. -/
def CIPH_STATUS_WRAP_KEY_READY : Fld := ⟨0x2801, 16, 1⟩
/-- `CIPH_STATUS` [17:17], R434. -/
def CIPH_STATUS_TRNG_OK : Fld := ⟨0x2801, 17, 1⟩
/-- `CIPH_STATUS` [24:18], R434. -/
def CIPH_STATUS_CTX_USED : Fld := ⟨0x2801, 18, 7⟩
/-- `CIPH_STATUS` [28:25], R434. -/
def CIPH_STATUS_KEYS_LOADED : Fld := ⟨0x2801, 25, 4⟩
/-- `CIPH_TRNG` [23:0], R434. -/
def CIPH_TRNG_HEALTH_FAILS : Fld := ⟨0x2802, 0, 24⟩
/-- `CIPH_TRNG` [47:24], R434. -/
def CIPH_TRNG_RESEEDS : Fld := ⟨0x2802, 24, 24⟩
/-- `CIPH_LANE_TEST` [3:0], R434. -/
def CIPH_LANE_TEST_LANE : Fld := ⟨0x2803, 0, 4⟩
/-- `CIPH_LANE_TEST` [4:4], R434. -/
def CIPH_LANE_TEST_ARM : Fld := ⟨0x2803, 4, 1⟩
/-- `CIPH_ATTEST` [24:0], R435. -/
def CIPH_ATTEST_NEXT_LEAF : Fld := ⟨0x2804, 0, 25⟩
/-- `CIPH_ATTEST` [40:25], R435. -/
def CIPH_ATTEST_BLOCKS_USED : Fld := ⟨0x2804, 25, 16⟩
/-- `CIPH_ATTEST` [41:41], R435. -/
def CIPH_ATTEST_READY : Fld := ⟨0x2804, 41, 1⟩
/-- `CIPH_ATTEST` [42:42], R435. -/
def CIPH_ATTEST_NEXT_TREE_READY : Fld := ⟨0x2804, 42, 1⟩
/-- `CIPH_ATTEST` [43:43], R435. -/
def CIPH_ATTEST_EXHAUSTED : Fld := ⟨0x2804, 43, 1⟩
/-- `CIPH_CERT_SEL` [11:0], R435. -/
def CIPH_CERT_SEL_WORD : Fld := ⟨0x2805, 0, 12⟩
/-- `CIPH_CERT_DATA` [47:0], R435. -/
def CIPH_CERT_DATA_DATA : Fld := ⟨0x2806, 0, 48⟩
/-- `CIPH_KEY` [15:0], R436. -/
def CIPH_KEY_EPOCH (n : Nat) : Fld := ⟨0x2808 + 0x1 * n, 0, 16⟩
/-- `CIPH_KEY` [16:16], R436. -/
def CIPH_KEY_STORED (n : Nat) : Fld := ⟨0x2808 + 0x1 * n, 16, 1⟩
/-- `CIPH_KEY` [17:17], R436. -/
def CIPH_KEY_LOADED (n : Nat) : Fld := ⟨0x2808 + 0x1 * n, 17, 1⟩
/-- `CIPH_KEY` [18:18], R436. -/
def CIPH_KEY_UNREADABLE (n : Nat) : Fld := ⟨0x2808 + 0x1 * n, 18, 1⟩
/-- `CIPH_LANE_FAIL` [31:0], R436. -/
def CIPH_LANE_FAIL_TAG_FAILS (n : Nat) : Fld := ⟨0x2810 + 0x1 * n, 0, 32⟩
/-- `STORE_CFG` [11:0], R572. -/
def STORE_CFG_PULSE_WARN : Fld := ⟨0x2C00, 0, 12⟩
/-- `STORE_CFG` [27:12], R572. -/
def STORE_CFG_STARVE_MS : Fld := ⟨0x2C00, 12, 16⟩
/-- `STORE_STATUS` [1:0], R572. -/
def STORE_STATUS_OP : Fld := ⟨0x2C01, 0, 2⟩
/-- `STORE_STATUS` [14:2], R572. -/
def STORE_STATUS_SECTOR : Fld := ⟨0x2C01, 2, 13⟩
/-- `STORE_STATUS` [15:15], R572. -/
def STORE_STATUS_DIR_ACTIVE : Fld := ⟨0x2C01, 15, 1⟩
/-- `STORE_STATUS` [16:16], R572. -/
def STORE_STATUS_PWD_OPEN : Fld := ⟨0x2C01, 16, 1⟩
/-- `STORE_STATUS` [17:17], R572. -/
def STORE_STATUS_PWD_LOCKOUT : Fld := ⟨0x2C01, 17, 1⟩
/-- `STORE_STATUS` [31:18], R572. -/
def STORE_STATUS_FAILED : Fld := ⟨0x2C01, 18, 14⟩
/-- `STORE_ERASE_STATUS` [23:0], R572. -/
def STORE_ERASE_STATUS_ERASE_10US : Fld := ⟨0x2C02, 0, 24⟩
/-- `STORE_ERASE_STATUS` [35:24], R572. -/
def STORE_ERASE_STATUS_PULSES : Fld := ⟨0x2C02, 24, 12⟩
/-- `STORE_ERASE_STATUS` [47:36], R572. -/
def STORE_ERASE_STATUS_SUSPENDS : Fld := ⟨0x2C02, 36, 12⟩
/-- `STORE_ECC_COUNT` [23:0], R572. -/
def STORE_ECC_COUNT_CORRECTED : Fld := ⟨0x2C03, 0, 24⟩
/-- `STORE_ECC_COUNT` [47:24], R572. -/
def STORE_ECC_COUNT_UNCORRECTABLE : Fld := ⟨0x2C03, 24, 24⟩
/-- `STORE_SECTOR_SEL` [12:0], R572. -/
def STORE_SECTOR_SEL_SECTOR : Fld := ⟨0x2C04, 0, 13⟩
/-- `STORE_SECTOR_STATUS` [23:0], R572. -/
def STORE_SECTOR_STATUS_ERASES : Fld := ⟨0x2C05, 0, 24⟩
/-- `STORE_SECTOR_STATUS` [35:24], R572. -/
def STORE_SECTOR_STATUS_LAST_PULSES : Fld := ⟨0x2C05, 24, 12⟩
/-- `STORE_SECTOR_STATUS` [37:36], R572. -/
def STORE_SECTOR_STATUS_STATE : Fld := ⟨0x2C05, 36, 2⟩
/-- `STORE_SECTOR_STATUS` [38:38], R572. -/
def STORE_SECTOR_STATUS_PROTECTED : Fld := ⟨0x2C05, 38, 1⟩
/-- `STORE_SECTOR_STATUS` [39:39], R572. -/
def STORE_SECTOR_STATUS_HEADER_VALID : Fld := ⟨0x2C05, 39, 1⟩
/-- `STORE_SECTOR_STATUS` [47:40], R572. -/
def STORE_SECTOR_STATUS_TAG : Fld := ⟨0x2C05, 40, 8⟩
/-- `STORE_USER_PROT` [31:0], R572. -/
def STORE_USER_PROT_MASK : Fld := ⟨0x2C06, 0, 32⟩
/-- `STORE_DIR` [31:0], R572. -/
def STORE_DIR_SEQ : Fld := ⟨0x2C07, 0, 32⟩
/-- `STORE_DIR` [42:32], R572. -/
def STORE_DIR_ENTRIES : Fld := ⟨0x2C07, 32, 11⟩
/-- `PWR_VIN_CFG` [10:0], R480. -/
def PWR_VIN_CFG_FAIL_MV : Fld := ⟨0x3000, 0, 11⟩
/-- `PWR_VIN_CFG` [21:11], R480. -/
def PWR_VIN_CFG_GOOD_MV : Fld := ⟨0x3000, 11, 11⟩
/-- `PWR_VIN_CFG` [26:22], R480. -/
def PWR_VIN_CFG_DEGLITCH_US : Fld := ⟨0x3000, 22, 5⟩
/-- `PWR_VIN_CFG` [42:27], R480. -/
def PWR_VIN_CFG_DEBOUNCE : Fld := ⟨0x3000, 27, 16⟩
/-- `PWR_VIN_CFG` [43:43], R480. -/
def PWR_VIN_CFG_AUTO_ON : Fld := ⟨0x3000, 43, 1⟩
/-- `PWR_VIN_STATUS` [0:0], R480. -/
def PWR_VIN_STATUS_ABOVE_GOOD : Fld := ⟨0x3001, 0, 1⟩
/-- `PWR_VIN_STATUS` [1:1], R480. -/
def PWR_VIN_STATUS_BELOW_FAIL : Fld := ⟨0x3001, 1, 1⟩
/-- `PWR_VIN_STATUS` [2:2], R480. -/
def PWR_VIN_STATUS_SUPPLY_GOOD : Fld := ⟨0x3001, 2, 1⟩
/-- `PWR_VIN_STATUS` [26:3], R480. -/
def PWR_VIN_STATUS_FAILS : Fld := ⟨0x3001, 3, 24⟩
/-- `PWR_RAIL_STATUS` [15:0], R480. -/
def PWR_RAIL_STATUS_EN : Fld := ⟨0x3002, 0, 16⟩
/-- `PWR_RAIL_STATUS` [31:16], R480. -/
def PWR_RAIL_STATUS_PG : Fld := ⟨0x3002, 16, 16⟩
/-- `PWR_RAIL_STATUS` [47:32], R480. -/
def PWR_RAIL_STATUS_WATCHED : Fld := ⟨0x3002, 32, 16⟩
/-- `PWR_RAIL_FAULT` [15:0], R480. -/
def PWR_RAIL_FAULT_FAULTED : Fld := ⟨0x3003, 0, 16⟩
/-- `PWR_RAIL_FAULT` [31:16], R480. -/
def PWR_RAIL_FAULT_STUCK : Fld := ⟨0x3003, 16, 16⟩
/-- `PWR_RAIL_FAULT` [35:32], R480. -/
def PWR_RAIL_FAULT_LAST_RAIL : Fld := ⟨0x3003, 32, 4⟩
/-- `PWR_THERM` [7:0], R481. -/
def PWR_THERM_TRIP_C : Fld := ⟨0x3004, 0, 8⟩
/-- `PWR_THERM` [11:8], R481. -/
def PWR_THERM_HYST_C : Fld := ⟨0x3004, 8, 4⟩
/-- `PWR_THERM` [19:12], R481. -/
def PWR_THERM_JUNCTION_C : Fld := ⟨0x3004, 12, 8⟩
/-- `PWR_THERM` [20:20], R481. -/
def PWR_THERM_TRIPPED : Fld := ⟨0x3004, 20, 1⟩
/-- `PWR_THERM` [28:21], R481. -/
def PWR_THERM_TRIPS : Fld := ⟨0x3004, 21, 8⟩
/-- `PWR_BTN` [11:0], R481. -/
def PWR_BTN_DEBOUNCE : Fld := ⟨0x3005, 0, 12⟩
/-- `PWR_BTN` [31:12], R481. -/
def PWR_BTN_LONG : Fld := ⟨0x3005, 12, 20⟩
/-- `PWR_BTN` [32:32], R481. -/
def PWR_BTN_BTN_LOW : Fld := ⟨0x3005, 32, 1⟩
/-- `PWR_BTN` [33:33], R481. -/
def PWR_BTN_MR_LOW : Fld := ⟨0x3005, 33, 1⟩
/-- `PWR_BTN` [34:34], R481. -/
def PWR_BTN_MR_LATCHED : Fld := ⟨0x3005, 34, 1⟩
/-- `PWR_RETRY` [3:0], R481. -/
def PWR_RETRY_RETRIES : Fld := ⟨0x3006, 0, 4⟩
/-- `PWR_RETRY` [19:4], R481. -/
def PWR_RETRY_BACKOFF : Fld := ⟨0x3006, 4, 16⟩
/-- `PWR_RETRY` [35:20], R481. -/
def PWR_RETRY_PG_TIMEOUT : Fld := ⟨0x3006, 20, 16⟩
/-- `PWR_RETRY` [39:36], R481. -/
def PWR_RETRY_ATTEMPT : Fld := ⟨0x3006, 36, 4⟩
/-- `PWR_VMON_CFG` [15:0], R480. -/
def PWR_VMON_CFG_SCALE (n : Nat) : Fld := ⟨0x3008 + 0x1 * n, 0, 16⟩
/-- `PWR_VMON_CFG` [31:16], R480. -/
def PWR_VMON_CFG_LOW_MV (n : Nat) : Fld := ⟨0x3008 + 0x1 * n, 16, 16⟩
/-- `PWR_VMON_CFG` [47:32], R480. -/
def PWR_VMON_CFG_HIGH_MV (n : Nat) : Fld := ⟨0x3008 + 0x1 * n, 32, 16⟩
/-- `PWR_VMON_DATA` [15:0], R480. -/
def PWR_VMON_DATA_MV (n : Nat) : Fld := ⟨0x3010 + 0x1 * n, 0, 16⟩
/-- `PWR_VMON_DATA` [27:16], R480. -/
def PWR_VMON_DATA_RAW (n : Nat) : Fld := ⟨0x3010 + 0x1 * n, 16, 12⟩
/-- `PWR_VMON_DATA` [28:28], R480. -/
def PWR_VMON_DATA_LOW (n : Nat) : Fld := ⟨0x3010 + 0x1 * n, 28, 1⟩
/-- `PWR_VMON_DATA` [29:29], R480. -/
def PWR_VMON_DATA_HIGH (n : Nat) : Fld := ⟨0x3010 + 0x1 * n, 29, 1⟩
/-- `CUE_CFG` [15:0], R482. -/
def CUE_CFG_DISCHARGE : Fld := ⟨0x3020, 0, 16⟩
/-- `CUE_CFG` [16:16], R482. -/
def CUE_CFG_FORCE_TABLE : Fld := ⟨0x3020, 16, 1⟩
/-- `CUE_STATUS` [2:0], R482. -/
def CUE_STATUS_RUNNING : Fld := ⟨0x3021, 0, 3⟩
/-- `CUE_STATUS` [4:3], R482. -/
def CUE_STATUS_SOURCE : Fld := ⟨0x3021, 3, 2⟩
/-- `CUE_STATUS` [12:5], R482. -/
def CUE_STATUS_PC : Fld := ⟨0x3021, 5, 8⟩
/-- `CUE_STATUS` [17:13], R482. -/
def CUE_STATUS_PROG_VALID : Fld := ⟨0x3021, 13, 5⟩
/-- `CUE_STATUS` [18:18], R482. -/
def CUE_STATUS_TABLE_VALID : Fld := ⟨0x3021, 18, 1⟩
/-- `CUE_STATUS` [19:19], R482. -/
def CUE_STATUS_COMMITTED : Fld := ⟨0x3021, 19, 1⟩
/-- `CUE_STATUS` [21:20], R482. -/
def CUE_STATUS_LAST_RESULT : Fld := ⟨0x3021, 20, 2⟩
/-- `CUE_LAST_FAIL` [2:0], R482. -/
def CUE_LAST_FAIL_PROGRAM : Fld := ⟨0x3022, 0, 3⟩
/-- `CUE_LAST_FAIL` [10:3], R482. -/
def CUE_LAST_FAIL_WORD : Fld := ⟨0x3022, 3, 8⟩
/-- `CUE_LAST_FAIL` [14:11], R482. -/
def CUE_LAST_FAIL_RAIL : Fld := ⟨0x3022, 11, 4⟩
/-- `CUE_LAST_FAIL` [17:15], R482. -/
def CUE_LAST_FAIL_KIND : Fld := ⟨0x3022, 15, 3⟩
/-- `CUE_LAST_FAIL` [47:18], R482. -/
def CUE_LAST_FAIL_TICK : Fld := ⟨0x3022, 18, 30⟩
/-- `CUE_MEM_SEL` [10:0], R482. -/
def CUE_MEM_SEL_WORD : Fld := ⟨0x3023, 0, 11⟩
/-- `CUE_MEM_DATA` [47:0], R482. -/
def CUE_MEM_DATA_DATA : Fld := ⟨0x3024, 0, 48⟩
/-- `GAUGE_CFG` [6:0], R506. -/
def GAUGE_CFG_SENSE_100UOHM : Fld := ⟨0x3400, 0, 7⟩
/-- `GAUGE_CFG` [22:7], R506. -/
def GAUGE_CFG_VDIV : Fld := ⟨0x3400, 7, 16⟩
/-- `GAUGE_CFG` [31:23], R506. -/
def GAUGE_CFG_UPDATE : Fld := ⟨0x3400, 23, 9⟩
/-- `GAUGE_CFG` [32:32], R506. -/
def GAUGE_CFG_CHG_ALLOW : Fld := ⟨0x3400, 32, 1⟩
/-- `GAUGE_CFG` [36:33], R506. -/
def GAUGE_CFG_REH_RAIL : Fld := ⟨0x3400, 33, 4⟩
/-- `GAUGE_CFG` [37:37], R506. -/
def GAUGE_CFG_REH_RAIL_VALID : Fld := ⟨0x3400, 37, 1⟩
/-- `GAUGE_PACK` [15:0], R506. -/
def GAUGE_PACK_EMPTY_MV : Fld := ⟨0x3401, 0, 16⟩
/-- `GAUGE_PACK` [22:16], R506. -/
def GAUGE_PACK_EFF_PCT : Fld := ⟨0x3401, 16, 7⟩
/-- `GAUGE_PACK` [38:23], R506. -/
def GAUGE_PACK_MIN_MAH : Fld := ⟨0x3401, 23, 16⟩
/-- `GAUGE_PACK` [47:39], R506. -/
def GAUGE_PACK_EMPTY_LOAD_100MA : Fld := ⟨0x3401, 39, 9⟩
/-- `GAUGE_ERR` [15:0], R506. -/
def GAUGE_ERR_OFFSET_UA : Fld := ⟨0x3402, 0, 16⟩
/-- `GAUGE_ERR` [31:16], R506. -/
def GAUGE_ERR_GAIN_PPM : Fld := ⟨0x3402, 16, 16⟩
/-- `GAUGE_ERR` [43:32], R506. -/
def GAUGE_ERR_FADE_PPM_DAY : Fld := ⟨0x3402, 32, 12⟩
/-- `GAUGE_LIMIT` [15:0], R506. -/
def GAUGE_LIMIT_FAULT_LOW_MV : Fld := ⟨0x3403, 0, 16⟩
/-- `GAUGE_LIMIT` [31:16], R506. -/
def GAUGE_LIMIT_FAULT_HIGH_MV : Fld := ⟨0x3403, 16, 16⟩
/-- `GAUGE_CTRL` [0:0], R506. -/
def GAUGE_CTRL_NEW_PACK : Fld := ⟨0x3404, 0, 1⟩
/-- `GAUGE_STATUS` [0:0], R507. -/
def GAUGE_STATUS_PRESENT : Fld := ⟨0x3405, 0, 1⟩
/-- `GAUGE_STATUS` [1:1], R507. -/
def GAUGE_STATUS_FAULT : Fld := ⟨0x3405, 1, 1⟩
/-- `GAUGE_STATUS` [3:2], R507. -/
def GAUGE_STATUS_FAULT_CAUSE : Fld := ⟨0x3405, 2, 2⟩
/-- `GAUGE_STATUS` [4:4], R507. -/
def GAUGE_STATUS_UNANCHORED : Fld := ⟨0x3405, 4, 1⟩
/-- `GAUGE_STATUS` [5:5], R507. -/
def GAUGE_STATUS_ANCHOR_DUE : Fld := ⟨0x3405, 5, 1⟩
/-- `GAUGE_STATUS` [6:6], R507. -/
def GAUGE_STATUS_EXHAUSTED : Fld := ⟨0x3405, 6, 1⟩
/-- `GAUGE_STATUS` [7:7], R507. -/
def GAUGE_STATUS_CHG_EN : Fld := ⟨0x3405, 7, 1⟩
/-- `GAUGE_STATUS` [8:8], R507. -/
def GAUGE_STATUS_CHG_DONE : Fld := ⟨0x3405, 8, 1⟩
/-- `GAUGE_STATUS` [9:9], R507. -/
def GAUGE_STATUS_LEARN_WRITE_PENDING : Fld := ⟨0x3405, 9, 1⟩
/-- `GAUGE_SOC` [31:0], R507. -/
def GAUGE_SOC_SOC_UAH : Fld := ⟨0x3406, 0, 32⟩
/-- `GAUGE_SOC` [47:32], R507. -/
def GAUGE_SOC_MOVED_MAH : Fld := ⟨0x3406, 32, 16⟩
/-- `GAUGE_UNC` [31:0], R507. -/
def GAUGE_UNC_UNC_UAH : Fld := ⟨0x3407, 0, 32⟩
/-- `GAUGE_UNC` [47:32], R507. -/
def GAUGE_UNC_STAMP : Fld := ⟨0x3407, 32, 16⟩
/-- `GAUGE_LEARNED` [31:0], R507. -/
def GAUGE_LEARNED_LEARNED_UAH : Fld := ⟨0x3408, 0, 32⟩
/-- `GAUGE_LEARNED` [47:32], R507. -/
def GAUGE_LEARNED_LEARN_UNC_MAH : Fld := ⟨0x3408, 32, 16⟩
/-- `GAUGE_MEAS` [15:0], R507. -/
def GAUGE_MEAS_PACK_MV : Fld := ⟨0x3409, 0, 16⟩
/-- `GAUGE_MEAS` [35:16], R507. -/
def GAUGE_MEAS_CURRENT_MA : Fld := ⟨0x3409, 16, 20⟩
/-- `GAUGE_FULL_TICK` [39:0], R507. -/
def GAUGE_FULL_TICK_TICK : Fld := ⟨0x340A, 0, 40⟩
/-- `GAUGE_FULL_TICK` [40:40], R507. -/
def GAUGE_FULL_TICK_VALID : Fld := ⟨0x340A, 40, 1⟩
/-- `GAUGE_EMPTY_TICK` [39:0], R507. -/
def GAUGE_EMPTY_TICK_TICK : Fld := ⟨0x340B, 0, 40⟩
/-- `GAUGE_EMPTY_TICK` [40:40], R507. -/
def GAUGE_EMPTY_TICK_VALID : Fld := ⟨0x340B, 40, 1⟩
/-- `GAUGE_LEARN_TICK` [39:0], R507. -/
def GAUGE_LEARN_TICK_TICK : Fld := ⟨0x340C, 0, 40⟩
/-- `GAUGE_LEARN_TICK` [40:40], R507. -/
def GAUGE_LEARN_TICK_VALID : Fld := ⟨0x340C, 40, 1⟩
/-- `GAUGE_REH` [1:0], R507. -/
def GAUGE_REH_STATE : Fld := ⟨0x340D, 0, 2⟩
/-- `GAUGE_REH` [4:2], R507. -/
def GAUGE_REH_LAST_END : Fld := ⟨0x340D, 2, 3⟩
/-- `GAUGE_REH` [14:5], R507. -/
def GAUGE_REH_MAX_MIN : Fld := ⟨0x340D, 5, 10⟩
/-- `SB_CFG` [0:0], R621. -/
def SB_CFG_PEC_EN : Fld := ⟨0x3800, 0, 1⟩
/-- `SB_CFG` [1:1], R621. -/
def SB_CFG_IBR_EN : Fld := ⟨0x3800, 1, 1⟩
/-- `SB_CFG` [11:2], R621. -/
def SB_CFG_IBR_WAIT_US : Fld := ⟨0x3800, 2, 10⟩
/-- `SB_CFG` [19:12], R621. -/
def SB_CFG_IBR_FREE_US : Fld := ⟨0x3800, 12, 8⟩
/-- `SB_STATUS` [8:0], R621. -/
def SB_STATUS_NODE : Fld := ⟨0x3801, 0, 9⟩
/-- `SB_STATUS` [11:9], R621. -/
def SB_STATUS_SEL0 : Fld := ⟨0x3801, 9, 3⟩
/-- `SB_STATUS` [14:12], R621. -/
def SB_STATUS_SEL1 : Fld := ⟨0x3801, 12, 3⟩
/-- `SB_STATUS` [17:15], R621. -/
def SB_STATUS_SEL2 : Fld := ⟨0x3801, 15, 3⟩
/-- `SB_STATUS` [18:18], R621. -/
def SB_STATUS_STRAP_FAULT : Fld := ⟨0x3801, 18, 1⟩
/-- `SB_STATUS` [19:19], R621. -/
def SB_STATUS_IBR_PENDING : Fld := ⟨0x3801, 19, 1⟩
/-- `SB_STATUS` [20:20], R621. -/
def SB_STATUS_CLOCK_STOPPED : Fld := ⟨0x3801, 20, 1⟩
/-- `SB_ALERT_STATUS` [7:0], R621. -/
def SB_ALERT_STATUS_SOURCES : Fld := ⟨0x3802, 0, 8⟩
/-- `SB_ALERT_MASK` [7:0], R621. -/
def SB_ALERT_MASK_MASK : Fld := ⟨0x3803, 0, 8⟩
/-- `SB_WRITE_EN` [18:0], R621. -/
def SB_WRITE_EN_GROUPS : Fld := ⟨0x3804, 0, 19⟩
/-- `SB_COUNT` [11:0], R621. -/
def SB_COUNT_PEC_ERRORS : Fld := ⟨0x3805, 0, 12⟩
/-- `SB_COUNT` [23:12], R621. -/
def SB_COUNT_SHORT_WRITES : Fld := ⟨0x3805, 12, 12⟩
/-- `SB_COUNT` [35:24], R621. -/
def SB_COUNT_TIMEOUTS : Fld := ⟨0x3805, 24, 12⟩
/-- `SB_COUNT` [47:36], R621. -/
def SB_COUNT_REFUSED : Fld := ⟨0x3805, 36, 12⟩
/-- `SB_LAST` [15:0], R621. -/
def SB_LAST_INDEX : Fld := ⟨0x3806, 0, 16⟩
/-- `SB_LAST` [18:16], R621. -/
def SB_LAST_RESULT : Fld := ⟨0x3806, 16, 3⟩
/-- `SB_LAST` [27:19], R621. -/
def SB_LAST_WAKE_US : Fld := ⟨0x3806, 19, 9⟩
/-- `SB_IBR` [7:0], R621. -/
def SB_IBR_LAST_SENT : Fld := ⟨0x3807, 0, 8⟩
/-- `SB_IBR` [9:8], R621. -/
def SB_IBR_FAILS : Fld := ⟨0x3807, 8, 2⟩
/-- `SB_IBR` [10:10], R621. -/
def SB_IBR_DISABLED : Fld := ⟨0x3807, 10, 1⟩
/-- `LINK_CFG` [0:0], R483. -/
def LINK_CFG_ENABLE : Fld := ⟨0x3880, 0, 1⟩
/-- `LINK_CFG` [1:1], R483. -/
def LINK_CFG_LEAD : Fld := ⟨0x3880, 1, 1⟩
/-- `LINK_CFG` [7:2], R483. -/
def LINK_CFG_SHELF : Fld := ⟨0x3880, 2, 6⟩
/-- `LINK_CFG` [23:8], R483. -/
def LINK_CFG_TIMEOUT : Fld := ⟨0x3880, 8, 16⟩
/-- `LINK_CFG` [25:24], R483. -/
def LINK_CFG_RETRIES : Fld := ⟨0x3880, 24, 2⟩
/-- `LINK_CFG` [27:26], R483. -/
def LINK_CFG_BCAST_REPEAT : Fld := ⟨0x3880, 26, 2⟩
/-- `LINK_CFG` [43:28], R483. -/
def LINK_CFG_LEAD_LOST : Fld := ⟨0x3880, 28, 16⟩
/-- `LINK_POLL` [8:0], R483. -/
def LINK_POLL_FIRST : Fld := ⟨0x3881, 0, 9⟩
/-- `LINK_POLL` [17:9], R483. -/
def LINK_POLL_LAST : Fld := ⟨0x3881, 9, 9⟩
/-- `LINK_POLL` [33:18], R483. -/
def LINK_POLL_POLL_TICKS : Fld := ⟨0x3881, 18, 16⟩
/-- `LINK_POLL` [47:34], R483. -/
def LINK_POLL_GRANT_LIMIT_S : Fld := ⟨0x3881, 34, 14⟩
/-- `LINK_STATUS` [0:0], R483. -/
def LINK_STATUS_LEAD_LOST : Fld := ⟨0x3882, 0, 1⟩
/-- `LINK_STATUS` [1:1], R483. -/
def LINK_STATUS_LEAD_CONFLICT : Fld := ⟨0x3882, 1, 1⟩
/-- `LINK_STATUS` [2:2], R483. -/
def LINK_STATUS_TIME_VALID : Fld := ⟨0x3882, 2, 1⟩
/-- `LINK_STATUS` [3:3], R483. -/
def LINK_STATUS_GRANT_PENDING : Fld := ⟨0x3882, 3, 1⟩
/-- `LINK_STATUS` [12:4], R483. -/
def LINK_STATUS_LEAD_NODE : Fld := ⟨0x3882, 4, 9⟩
/-- `LINK_STATUS` [20:13], R483. -/
def LINK_STATUS_NEXT_ID : Fld := ⟨0x3882, 13, 8⟩
/-- `LINK_STATUS` [24:21], R483. -/
def LINK_STATUS_EPOCH : Fld := ⟨0x3882, 21, 4⟩
/-- `LINK_STATUS` [33:25], R483. -/
def LINK_STATUS_RESERVED_IDS : Fld := ⟨0x3882, 25, 9⟩
/-- `LINK_COUNT` [15:0], R483. -/
def LINK_COUNT_CRC_ERRORS : Fld := ⟨0x3883, 0, 16⟩
/-- `LINK_COUNT` [31:16], R483. -/
def LINK_COUNT_STALE_ACKS : Fld := ⟨0x3883, 16, 16⟩
/-- `LINK_COUNT` [47:32], R483. -/
def LINK_COUNT_DUPLICATES : Fld := ⟨0x3883, 32, 16⟩
/-- `LINK_TIME` [47:0], R483. -/
def LINK_TIME_OFFSET : Fld := ⟨0x3884, 0, 48⟩
/-- `LINK_CMD` [8:0], R483. -/
def LINK_CMD_DEST : Fld := ⟨0x3885, 0, 9⟩
/-- `LINK_CMD` [9:9], R483. -/
def LINK_CMD_BCAST : Fld := ⟨0x3885, 9, 1⟩
/-- `LINK_CMD` [17:10], R483. -/
def LINK_CMD_TYPE : Fld := ⟨0x3885, 10, 8⟩
/-- `LINK_CMD` [33:18], R483. -/
def LINK_CMD_ARG : Fld := ⟨0x3885, 18, 16⟩
/-- `LINK_CMD` [34:34], R483. -/
def LINK_CMD_GO : Fld := ⟨0x3885, 34, 1⟩
/-- `LINK_CMD` [35:35], R483. -/
def LINK_CMD_BUSY : Fld := ⟨0x3885, 35, 1⟩
/-- `LINK_CMD` [37:36], R483. -/
def LINK_CMD_RESULT : Fld := ⟨0x3885, 36, 2⟩
/-- `LINK_CMD` [45:38], R483. -/
def LINK_CMD_ACK : Fld := ⟨0x3885, 38, 8⟩
/-- `PBOOK_CFG` [7:0], R643. -/
def PBOOK_CFG_RL_LIMIT : Fld := ⟨0x3C00, 0, 8⟩
/-- `PBOOK_CFG` [11:8], R643. -/
def PBOOK_CFG_RL_LIMIT_HIGH : Fld := ⟨0x3C00, 8, 4⟩
/-- `PBOOK_CFG` [27:12], R643. -/
def PBOOK_CFG_RL_WINDOW : Fld := ⟨0x3C00, 12, 16⟩
/-- `PBOOK_CFG` [29:28], R643. -/
def PBOOK_CFG_STORE_MIN_SEV : Fld := ⟨0x3C00, 28, 2⟩
/-- `PBOOK_CFG` [35:30], R643. -/
def PBOOK_CFG_ALIGN_TICKS : Fld := ⟨0x3C00, 30, 6⟩
/-- `PBOOK_STATUS` [31:0], R643. -/
def PBOOK_STATUS_NEXT_SEQ : Fld := ⟨0x3C01, 0, 32⟩
/-- `PBOOK_STATUS` [40:32], R643. -/
def PBOOK_STATUS_RING_VALID : Fld := ⟨0x3C01, 32, 9⟩
/-- `PBOOK_STATUS` [41:41], R643. -/
def PBOOK_STATUS_RENUMBER : Fld := ⟨0x3C01, 41, 1⟩
/-- `PBOOK_CURSOR` [31:0], R643. -/
def PBOOK_CURSOR_SEQ (n : Nat) : Fld := ⟨0x3C02 + 0x4 * n, 0, 32⟩
/-- `PBOOK_CURSOR` [32:32], R643. -/
def PBOOK_CURSOR_AREA (n : Nat) : Fld := ⟨0x3C02 + 0x4 * n, 32, 1⟩
/-- `PBOOK_CURSOR` [33:33], R643. -/
def PBOOK_CURSOR_EMPTY (n : Nat) : Fld := ⟨0x3C02 + 0x4 * n, 33, 1⟩
/-- `PBOOK_WIN` [47:0], R643. -/
def PBOOK_WIN_WORD (n : Nat) : Fld := ⟨0x3C03 + n % 3 + 4 * (n / 3), 0, 48⟩
/-- `PBOOK_CLEAR` [31:0], R643. -/
def PBOOK_CLEAR_UP_TO_SEQ : Fld := ⟨0x3C0A, 0, 32⟩
/-- `PBOOK_CLEAR` [33:32], R643. -/
def PBOOK_CLEAR_AREAS : Fld := ⟨0x3C0A, 32, 2⟩
/-- `PBOOK_CLEAR` [34:34], R643. -/
def PBOOK_CLEAR_GO : Fld := ⟨0x3C0A, 34, 1⟩
/-- `PBOOK_CLEAR` [35:35], R643. -/
def PBOOK_CLEAR_AREA_PENDING : Fld := ⟨0x3C0A, 35, 1⟩
/-- `PBOOK_STORE` [31:0], R643. -/
def PBOOK_STORE_LAST_COPIED : Fld := ⟨0x3C0B, 0, 32⟩
/-- `PBOOK_STORE` [45:32], R643. -/
def PBOOK_STORE_HELD : Fld := ⟨0x3C0B, 32, 14⟩
/-- `PBOOK_STORE` [46:46], R643. -/
def PBOOK_STORE_UNUSABLE : Fld := ⟨0x3C0B, 46, 1⟩
/-- `PMON_CTRL` [0:0], R643. -/
def PMON_CTRL_FREEZE : Fld := ⟨0x3C40, 0, 1⟩
/-- `PMON_CTRL` [1:1], R643. -/
def PMON_CTRL_CLEAR : Fld := ⟨0x3C40, 1, 1⟩
/-- `PMON_CTRL` [2:2], R643. -/
def PMON_CTRL_WRAP_EVENT : Fld := ⟨0x3C40, 2, 1⟩
/-- `PMON_STATUS` [31:0], R643. -/
def PMON_STATUS_OVERFLOW : Fld := ⟨0x3C41, 0, 32⟩
/-- `PMON_SEL` [7:0], R643. -/
def PMON_SEL_SOURCE (n : Nat) : Fld := ⟨0x3C60 + 0x1 * n, 0, 8⟩
/-- `PMON_SEL` [12:8], R643. -/
def PMON_SEL_INSTANCE (n : Nat) : Fld := ⟨0x3C60 + 0x1 * n, 8, 5⟩
/-- `PMON_SEL` [13:13], R643. -/
def PMON_SEL_ALL (n : Nat) : Fld := ⟨0x3C60 + 0x1 * n, 13, 1⟩
/-- `PMON_SEL` [15:14], R643. -/
def PMON_SEL_MODE (n : Nat) : Fld := ⟨0x3C60 + 0x1 * n, 14, 2⟩
/-- `PMON_SEL` [16:16], R643. -/
def PMON_SEL_ENABLE (n : Nat) : Fld := ⟨0x3C60 + 0x1 * n, 16, 1⟩
/-- `PMON_CNT` [47:0], R643. -/
def PMON_CNT_COUNT (n : Nat) : Fld := ⟨0x3C80 + 0x1 * n, 0, 48⟩
/-- `STAGE_CTRL` [1:0], R539. -/
def STAGE_CTRL_STAGE : Fld := ⟨0x4000, 0, 2⟩
/-- `STAGE_CTRL` [2:2], R539. -/
def STAGE_CTRL_OP : Fld := ⟨0x4000, 2, 1⟩
/-- `STAGE_CTRL` [3:3], R539. -/
def STAGE_CTRL_GO : Fld := ⟨0x4000, 3, 1⟩
/-- `STAGE_CTRL` [4:4], R539. -/
def STAGE_CTRL_BUSY : Fld := ⟨0x4000, 4, 1⟩
/-- `STAGE_CTRL` [6:5], R539. -/
def STAGE_CTRL_RESULT : Fld := ⟨0x4000, 5, 2⟩
/-- `STAGE_XBAR_FAULT` [1:0], R539. -/
def STAGE_XBAR_FAULT_STAGE : Fld := ⟨0x4001, 0, 2⟩
/-- `STAGE_XBAR_FAULT` [4:2], R539. -/
def STAGE_XBAR_FAULT_KIND : Fld := ⟨0x4001, 2, 3⟩
/-- `STAGE_XBAR_FAULT` [8:5], R539. -/
def STAGE_XBAR_FAULT_RESOURCE : Fld := ⟨0x4001, 5, 4⟩
/-- `STAGE_XBAR_FAULT` [24:9], R539. -/
def STAGE_XBAR_FAULT_COUNT : Fld := ⟨0x4001, 9, 16⟩
/-- `STAGE_XBAR_FAULT` [25:25], R539. -/
def STAGE_XBAR_FAULT_CLEAR : Fld := ⟨0x4001, 25, 1⟩
/-- `STAGE_BIND` [3:0], R539. -/
def STAGE_BIND_DRAM (n : Nat) : Fld := ⟨0x4010 + 0x10 * n, 0, 4⟩
/-- `STAGE_BIND` [19:4], R539. -/
def STAGE_BIND_FLASH (n : Nat) : Fld := ⟨0x4010 + 0x10 * n, 4, 16⟩
/-- `STAGE_BIND` [20:20], R539. -/
def STAGE_BIND_PORT (n : Nat) : Fld := ⟨0x4010 + 0x10 * n, 20, 1⟩
/-- `STAGE_BIND` [22:21], R539. -/
def STAGE_BIND_LD_ID (n : Nat) : Fld := ⟨0x4010 + 0x10 * n, 21, 2⟩
/-- `STAGE_BIND` [23:23], R539. -/
def STAGE_BIND_MLD (n : Nat) : Fld := ⟨0x4010 + 0x10 * n, 23, 1⟩
/-- `STAGE_BIND` [25:24], R539. -/
def STAGE_BIND_MP_ID (n : Nat) : Fld := ⟨0x4010 + 0x10 * n, 24, 2⟩
/-- `STAGE_BIND` [26:26], R539. -/
def STAGE_BIND_BOUND (n : Nat) : Fld := ⟨0x4010 + 0x10 * n, 26, 1⟩
/-- `STAGE_SIZE` [23:0], R539. -/
def STAGE_SIZE_RAW_256MIB (n : Nat) : Fld := ⟨0x4011 + 0x10 * n, 0, 24⟩
/-- `STAGE_SIZE` [47:24], R539. -/
def STAGE_SIZE_HOST_256MIB (n : Nat) : Fld := ⟨0x4011 + 0x10 * n, 24, 24⟩
/-- `STAGE_BACK` [9:0], R539. -/
def STAGE_BACK_SPARES (n : Nat) : Fld := ⟨0x4012 + 0x10 * n, 0, 10⟩
/-- `STAGE_BACK` [23:10], R539. -/
def STAGE_BACK_WORK_MIB (n : Nat) : Fld := ⟨0x4012 + 0x10 * n, 10, 14⟩
/-- `STAGE_BACK` [39:24], R539. -/
def STAGE_BACK_BACK_MIB (n : Nat) : Fld := ⟨0x4012 + 0x10 * n, 24, 16⟩
/-- `STAGE_DRESS` [3:0], R539. -/
def STAGE_DRESS_REASON (n : Nat) : Fld := ⟨0x4013 + 0x10 * n, 0, 4⟩
/-- `STAGE_DRESS` [6:4], R539. -/
def STAGE_DRESS_STEP (n : Nat) : Fld := ⟨0x4013 + 0x10 * n, 4, 3⟩
/-- `STAGE_DRESS` [7:7], R539. -/
def STAGE_DRESS_FORMATTED (n : Nat) : Fld := ⟨0x4013 + 0x10 * n, 7, 1⟩
/-- `STAGE_DRESS` [22:8], R539. -/
def STAGE_DRESS_TIME_10MS (n : Nat) : Fld := ⟨0x4013 + 0x10 * n, 8, 15⟩
/-- `IMG_STATUS` [0:0], R540. -/
def IMG_STATUS_VALID : Fld := ⟨0x4080, 0, 1⟩
/-- `IMG_STATUS` [1:1], R540. -/
def IMG_STATUS_SLOT : Fld := ⟨0x4080, 1, 1⟩
/-- `IMG_STATUS` [2:2], R540. -/
def IMG_STATUS_FALLBACK : Fld := ⟨0x4080, 2, 1⟩
/-- `IMG_STATUS` [6:3], R540. -/
def IMG_STATUS_PARTIALS : Fld := ⟨0x4080, 3, 4⟩
/-- `IMG_STATUS` [7:7], R540. -/
def IMG_STATUS_STAGED : Fld := ⟨0x4080, 7, 1⟩
/-- `IMG_STATUS` [8:8], R540. -/
def IMG_STATUS_STAGED_OK : Fld := ⟨0x4080, 8, 1⟩
/-- `IMG_STATUS` [12:9], R540. -/
def IMG_STATUS_LAST_REJECT : Fld := ⟨0x4080, 9, 4⟩
/-- `IMG_STATUS` [44:13], R540. -/
def IMG_STATUS_BUILD : Fld := ⟨0x4080, 13, 32⟩
/-- `IMG_SVN` [6:0], R540. -/
def IMG_SVN_SVN : Fld := ⟨0x4081, 0, 7⟩
/-- `IMG_SVN` [13:7], R540. -/
def IMG_SVN_FUSED : Fld := ⟨0x4081, 7, 7⟩
/-- `IMG_SVN` [20:14], R540. -/
def IMG_SVN_STAGED_SVN : Fld := ⟨0x4081, 14, 7⟩
/-- `IMG_HASH_SEL` [2:0], R540. -/
def IMG_HASH_SEL_WORD : Fld := ⟨0x4082, 0, 3⟩
/-- `IMG_HASH_DATA` [47:0], R540. -/
def IMG_HASH_DATA_DATA : Fld := ⟨0x4083, 0, 48⟩
/-- `IMG_LOAD_CTRL` [0:0], R540. -/
def IMG_LOAD_CTRL_START : Fld := ⟨0x4084, 0, 1⟩
/-- `IMG_LOAD_CTRL` [1:1], R540. -/
def IMG_LOAD_CTRL_END : Fld := ⟨0x4084, 1, 1⟩
/-- `IMG_LOAD_CTRL` [2:2], R540. -/
def IMG_LOAD_CTRL_ABORT : Fld := ⟨0x4084, 2, 1⟩
/-- `IMG_LOAD_CTRL` [3:3], R540. -/
def IMG_LOAD_CTRL_BUSY : Fld := ⟨0x4084, 3, 1⟩
/-- `IMG_LOAD_CTRL` [21:4], R540. -/
def IMG_LOAD_CTRL_WORDS : Fld := ⟨0x4084, 4, 18⟩
/-- `IMG_LOAD_CTRL` [25:22], R540. -/
def IMG_LOAD_CTRL_RESULT : Fld := ⟨0x4084, 22, 4⟩
/-- `IMG_LOAD_DATA` [47:0], R540. -/
def IMG_LOAD_DATA_DATA : Fld := ⟨0x4085, 0, 48⟩
/-- `FW_STATUS` [0:0], R598. -/
def FW_STATUS_ACTIVE_SLOT : Fld := ⟨0x4400, 0, 1⟩
/-- `FW_STATUS` [1:1], R598. -/
def FW_STATUS_MIXED : Fld := ⟨0x4400, 1, 1⟩
/-- `FW_STATUS` [3:2], R598. -/
def FW_STATUS_RECOVERY_CAUSE : Fld := ⟨0x4400, 2, 2⟩
/-- `FW_STATUS` [4:4], R598. -/
def FW_STATUS_DEBUG_OPEN : Fld := ⟨0x4400, 4, 1⟩
/-- `FW_STATUS` [11:5], R598. -/
def FW_STATUS_SVN : Fld := ⟨0x4400, 5, 7⟩
/-- `FW_STATUS` [43:12], R598. -/
def FW_STATUS_VERSION : Fld := ⟨0x4400, 12, 32⟩
/-- `FW_SLOT_A` [1:0], R598. -/
def FW_SLOT_A_STATE : Fld := ⟨0x4401, 0, 2⟩
/-- `FW_SLOT_A` [8:2], R598. -/
def FW_SLOT_A_SVN : Fld := ⟨0x4401, 2, 7⟩
/-- `FW_SLOT_A` [40:9], R598. -/
def FW_SLOT_A_ACT_SEQ : Fld := ⟨0x4401, 9, 32⟩
/-- `FW_SLOT_A` [47:41], R598. -/
def FW_SLOT_A_ENTRIES : Fld := ⟨0x4401, 41, 7⟩
/-- `FW_SLOT_B` [1:0], R598. -/
def FW_SLOT_B_STATE : Fld := ⟨0x4402, 0, 2⟩
/-- `FW_SLOT_B` [8:2], R598. -/
def FW_SLOT_B_SVN : Fld := ⟨0x4402, 2, 7⟩
/-- `FW_SLOT_B` [40:9], R598. -/
def FW_SLOT_B_ACT_SEQ : Fld := ⟨0x4402, 9, 32⟩
/-- `FW_SLOT_B` [47:41], R598. -/
def FW_SLOT_B_ENTRIES : Fld := ⟨0x4402, 41, 7⟩
/-- `FW_CTRL` [0:0], R598. -/
def FW_CTRL_ACTIVATE : Fld := ⟨0x4403, 0, 1⟩
/-- `FW_CTRL` [1:1], R598. -/
def FW_CTRL_ONLINE : Fld := ⟨0x4403, 1, 1⟩
/-- `FW_CTRL` [2:2], R598. -/
def FW_CTRL_SLOT : Fld := ⟨0x4403, 2, 1⟩
/-- `FW_CTRL` [3:3], R598. -/
def FW_CTRL_REBOOT : Fld := ⟨0x4403, 3, 1⟩
/-- `FW_CTRL` [4:4], R598. -/
def FW_CTRL_BUSY : Fld := ⟨0x4403, 4, 1⟩
/-- `FW_CTRL` [8:5], R598. -/
def FW_CTRL_RESULT : Fld := ⟨0x4403, 5, 4⟩
/-- `FW_BOOT` [1:0], R598. -/
def FW_BOOT_TRIAL_FAILS : Fld := ⟨0x4404, 0, 2⟩
/-- `FW_BOOT` [2:2], R598. -/
def FW_BOOT_FELL_BACK : Fld := ⟨0x4404, 2, 1⟩
/-- `FW_BOOT` [10:3], R598. -/
def FW_BOOT_WDOG_EXPIRIES : Fld := ⟨0x4404, 3, 8⟩
/-- `FW_BOOT` [26:11], R598. -/
def FW_BOOT_BOOT_MS : Fld := ⟨0x4404, 11, 16⟩
/-- `FW_HANDOVER` [15:0], R598. -/
def FW_HANDOVER_PREP_MS : Fld := ⟨0x4405, 0, 16⟩
/-- `FW_HANDOVER` [18:16], R598. -/
def FW_HANDOVER_STEP : Fld := ⟨0x4405, 16, 3⟩
/-- `FW_HANDOVER` [21:19], R598. -/
def FW_HANDOVER_ROLE : Fld := ⟨0x4405, 19, 3⟩
/-- `FW_HANDOVER` [31:22], R598. -/
def FW_HANDOVER_LAST_QUIESCE_10NS : Fld := ⟨0x4405, 22, 10⟩
/-- `FW_HANDOVER` [34:32], R598. -/
def FW_HANDOVER_ROLES_LEFT : Fld := ⟨0x4405, 32, 3⟩
/-- `FW_HANDOVER` [37:35], R598. -/
def FW_HANDOVER_UNDERSTUDY_CORE : Fld := ⟨0x4405, 35, 3⟩
/-- `FW_FUSE` [6:0], R598. -/
def FW_FUSE_FW_FUSED : Fld := ⟨0x4406, 0, 7⟩
/-- `FW_FUSE` [13:7], R598. -/
def FW_FUSE_IMG_FUSED : Fld := ⟨0x4406, 7, 7⟩
/-- `FW_FUSE` [14:14], R598. -/
def FW_FUSE_MAKER_HASH_SET : Fld := ⟨0x4406, 14, 1⟩
/-- `FW_LOAD_CTRL` [0:0], R598. -/
def FW_LOAD_CTRL_START : Fld := ⟨0x4407, 0, 1⟩
/-- `FW_LOAD_CTRL` [1:1], R598. -/
def FW_LOAD_CTRL_END : Fld := ⟨0x4407, 1, 1⟩
/-- `FW_LOAD_CTRL` [2:2], R598. -/
def FW_LOAD_CTRL_ABORT : Fld := ⟨0x4407, 2, 1⟩
/-- `FW_LOAD_CTRL` [3:3], R598. -/
def FW_LOAD_CTRL_BUSY : Fld := ⟨0x4407, 3, 1⟩
/-- `FW_LOAD_CTRL` [24:4], R598. -/
def FW_LOAD_CTRL_WORDS : Fld := ⟨0x4407, 4, 21⟩
/-- `FW_LOAD_CTRL` [28:25], R598. -/
def FW_LOAD_CTRL_RESULT : Fld := ⟨0x4407, 25, 4⟩
/-- `FW_LOAD_DATA` [47:0], R598. -/
def FW_LOAD_DATA_DATA : Fld := ⟨0x4408, 0, 48⟩
/-- `FW_DEBUG` [0:0], R598. -/
def FW_DEBUG_OPEN : Fld := ⟨0x4409, 0, 1⟩
/-- `FW_DEBUG` [2:1], R598. -/
def FW_DEBUG_PERMS : Fld := ⟨0x4409, 1, 2⟩
/-- `FW_DEBUG` [10:3], R598. -/
def FW_DEBUG_REFUSALS : Fld := ⟨0x4409, 3, 8⟩
/-- `CPD_CFG` [0:0], R680. -/
def CPD_CFG_REFCLK_SSC : Fld := ⟨0x4800, 0, 1⟩
/-- `CPD_CFG` [5:1], R680. -/
def CPD_CFG_XTAL_TRIM : Fld := ⟨0x4800, 1, 5⟩
/-- `CPD_XTAL` [0:0], R680. -/
def CPD_XTAL_RC_ACTIVE : Fld := ⟨0x4801, 0, 1⟩
/-- `CPD_XTAL` [1:1], R680. -/
def CPD_XTAL_FAILED : Fld := ⟨0x4801, 1, 1⟩
/-- `CPD_XTAL` [17:2], R680. -/
def CPD_XTAL_FAILS : Fld := ⟨0x4801, 2, 16⟩
/-- `CPD_CLK_ON0` [47:0], R680. -/
def CPD_CLK_ON0_ON : Fld := ⟨0x4802, 0, 48⟩
/-- `CPD_CLK_ON1` [15:0], R680. -/
def CPD_CLK_ON1_ON : Fld := ⟨0x4803, 0, 16⟩
/-- `CPD_PD_ON0` [47:0], R680. -/
def CPD_PD_ON0_ON : Fld := ⟨0x4804, 0, 48⟩
/-- `CPD_PD_ON1` [7:0], R680. -/
def CPD_PD_ON1_ON : Fld := ⟨0x4805, 0, 8⟩
/-- `CPD_PD_ON1` [13:8], R680. -/
def CPD_PD_ON1_RETENTION : Fld := ⟨0x4805, 8, 6⟩
/-- `CPD_PLL` [0:0], R680. -/
def CPD_PLL_DP_LOCK : Fld := ⟨0x4806, 0, 1⟩
/-- `CPD_PLL` [1:1], R680. -/
def CPD_PLL_DRAM_LOCK : Fld := ⟨0x4806, 1, 1⟩
/-- `CPD_PLL` [2:2], R680. -/
def CPD_PLL_FLASH_LOCK : Fld := ⟨0x4806, 2, 1⟩
/-- `CPD_PLL` [4:3], R680. -/
def CPD_PLL_CXL_LOCK : Fld := ⟨0x4806, 3, 2⟩
/-- `CPD_PLL` [12:5], R680. -/
def CPD_PLL_UNLOCKS : Fld := ⟨0x4806, 5, 8⟩
/-- `CPD_POWER` [19:0], R680. -/
def CPD_POWER_MW : Fld := ⟨0x4807, 0, 20⟩
/-- `CPD_POWER` [39:20], R680. -/
def CPD_POWER_PEAK_MW : Fld := ⟨0x4807, 20, 20⟩
/-- `CPD_POWER` [40:40], R680. -/
def CPD_POWER_CLEAR_PEAK : Fld := ⟨0x4807, 40, 1⟩

end Sys2Proof.Machine.F
end

