-- ==== Sys2Proof/Config.lean ====
section
/-! DEFINITION. What an implementation fixes and what the spec leaves open: constants without a body, so that no proof can see a value of them (notes/assumptions). -/

namespace Sys2Proof.Config

/-- A free value: the model applies it to the counter `State.freeIdx`, so that every use is another value (log entry 3). -/
opaque freeNat : Nat → Nat

/-- The 16-byte serial number of the fuses (R657). -/
opaque serial : BitVec 128

/-- The device secret of the fuses, readable only by the key-derivation logic (R417). -/
opaque deviceSecret : BitVec 256

/-- The fixed labels of key derivation, which the spec does not give (R417). -/
opaque wrapLabel : List Byte

/-- The check bits of the script store's SEC-DED code; the spec gives the code no definition but that an erased word is a codeword (R543). -/
opaque secdedRaw : BitVec 48 → BitVec 8

/-- The fixed labels from which the identity seeds are derived (R417), which the spec does not give. -/
opaque seedLabel : Nat → List Byte

/-- The private values of the identity key's trees (R426), whose derivation the spec leaves to the controller: from a seed, a tree, a leaf and a chain. -/
opaque privateValue : List Byte → Nat → Nat → Nat → BitVec 256

/-- A signature's randomiser C, from a seed, a tree and a leaf (R426). -/
opaque randomiser : List Byte → Nat → Nat → BitVec 256

/-- The 16-byte identifier of a tree of the identity key, from a seed and a tree (R426). -/
opaque treeId : List Byte → Nat → BitVec 128

/-- The SHA-256 of Pyrua's firmware-signer public key in the fuses (R424, R590). -/
opaque pyruaKeyHash : List Byte

/-- The words of the certificate sector and of the shipped firmware slot A (R432, R681), whose content the spec does not give. -/
opaque shippedWord : Nat → BitVec 48

/-- The header of the firmware container of the shipped slot A (R574, R681): 72 bytes, whose values the spec does not give. -/
opaque shippedHeader : List Byte

/-- The contents of a DRAM line that nothing has written since power came to the DRAM, as the line's number and stage (the spec gives none). -/
opaque dramPowerUp : Nat → Nat → BitVec 512

/-- An estimate of the controller's power in mW at a tick (R677): within 10 % of the true value, which the spec does not give. -/
opaque powerEstimate : Nat → Nat

end Sys2Proof.Config
end

