-- ==== Sys2Proof/Machine/RegTable.lean ====
section
/-! DEFINITION. The register table of R659: for every register of each index group its indices, reset domain and field rows (bit range, access type, reset value), from the field tables of the owning chapters (R16). -/

namespace Sys2Proof.Machine

/-- The registers of index group 0 (R659). -/
def regRowsG0 : List RegRow :=
  [ ⟨0x0, 0x1, 1, .fused, [⟨0, 16, .ro, 0x4816⟩, ⟨16, 8, .ro, 0xB0⟩, ⟨24, 8, .ro, 0x1⟩]⟩ -- GLB_ID, R657
  , ⟨0x1, 0x1, 1, .fused, [⟨0, 3, .ro, 0x4⟩, ⟨3, 3, .ro, 0x4⟩, ⟨6, 5, .ro, 0x10⟩, ⟨11, 3, .ro, 0x6⟩, ⟨14, 4, .ro, 0x8⟩, ⟨18, 2, .ro, 0x0⟩, ⟨20, 1, .ro, 0x1⟩]⟩ -- GLB_CAPS, R657
  , ⟨0x2, 0x1, 1, .fused, [⟨0, 48, .ro, 0x0⟩]⟩ -- GLB_SERIAL0, R657
  , ⟨0x3, 0x1, 1, .fused, [⟨0, 48, .ro, 0x0⟩]⟩ -- GLB_SERIAL1, R657
  , ⟨0x4, 0x1, 1, .fused, [⟨0, 32, .ro, 0x0⟩]⟩ -- GLB_SERIAL2, R657
  , ⟨0x5, 0x1, 1, .alwaysOn, [⟨0, 40, .ro, 0x0⟩]⟩ -- GLB_TICK, R658
  , ⟨0x6, 0x1, 1, .main, [⟨0, 1, .ro, 0x0⟩, ⟨1, 4, .ro, 0x0⟩, ⟨5, 19, .rwk, 0x2⟩]⟩ -- GLB_LOCK, R658
  , ⟨0x7, 0x1, 1, .alwaysOn, [⟨0, 3, .rs, 0x0⟩, ⟨3, 12, .rs, 0x0⟩]⟩ -- GLB_RESET, R658
  , ⟨0x8, 0x1, 1, .main, [⟨0, 16, .ro, 0x0⟩, ⟨16, 3, .ro, 0x0⟩, ⟨19, 2, .ro, 0x0⟩, ⟨21, 2, .ro, 0x0⟩, ⟨23, 16, .ro, 0x0⟩, ⟨39, 1, .wo, 0x0⟩]⟩ -- GLB_ACCESS, R658
  , ⟨0x9, 0x1, 1, .alwaysOn, [⟨0, 48, .rs, 0x0⟩]⟩ -- GLB_SCRATCH, R658
  ]

/-- The registers of index group 1 (R659). -/
def regRowsG1 : List RegRow :=
  [ ⟨0x400, 0x1, 1, .alwaysOn, [⟨0, 3, .ro, 0x0⟩, ⟨3, 1, .ro, 0x0⟩, ⟨4, 1, .ro, 0x0⟩, ⟨6, 3, .ro, 0x0⟩, ⟨9, 3, .ro, 0x0⟩, ⟨12, 3, .ro, 0x0⟩, ⟨15, 3, .ro, 0x0⟩, ⟨18, 4, .ro, 0x0⟩, ⟨22, 3, .ro, 0x0⟩, ⟨25, 1, .ro, 0x0⟩, ⟨26, 1, .ro, 0x0⟩]⟩ -- MODE_STATUS, R66
  , ⟨0x401, 0x1, 1, .alwaysOn, [⟨0, 3, .rwk, 0x0⟩, ⟨3, 1, .rwk, 0x0⟩, ⟨4, 1, .wo, 0x0⟩, ⟨6, 2, .ro, 0x0⟩]⟩ -- MODE_PLAYBILL, R67
  , ⟨0x402, 0x1, 1, .alwaysOn, [⟨0, 32, .rwk, 0x960000⟩]⟩ -- MODE_HOLD, R68
  , ⟨0x403, 0x1, 1, .alwaysOn, [⟨0, 3, .rs, 0x0⟩, ⟨3, 3, .rs, 0x0⟩, ⟨6, 6, .rs, 0x0⟩, ⟨12, 36, .rs, 0x0⟩]⟩ -- MODE_LAST, R69
  , ⟨0x404, 0x1, 1, .alwaysOn, [⟨0, 1, .wo, 0x0⟩, ⟨1, 1, .wo, 0x0⟩]⟩ -- MODE_REQUEST, R71
  ]

/-- The registers of index group 2 (R659). -/
def regRowsG2 : List RegRow :=
  [ ⟨0x800, 0x1, 1, .main, [⟨0, 24, .rw, 0x8000⟩]⟩ -- LDG_DEV_CAP, R114
  , ⟨0x801, 0x1, 1, .main, [⟨0, 24, .rwk, 0x5DC0⟩, ⟨24, 24, .rwk, 0x7D0⟩]⟩ -- LDG_DEV_ENERGY_PARAM, R115
  , ⟨0x802, 0x1, 1, .main, [⟨0, 30, .ro, 0x0⟩, ⟨30, 2, .ro, 0x0⟩]⟩ -- LDG_DEV_EFF, R116
  , ⟨0x803, 0x1, 1, .main, [⟨0, 32, .ro, 0x0⟩, ⟨32, 16, .ro, 0x0⟩]⟩ -- LDG_DEV_USABLE, R117
  , ⟨0x804, 0x1, 1, .main, [⟨0, 30, .ro, 0x0⟩]⟩ -- LDG_DEV_RESIDUE, R118
  , ⟨0x810, 0x100, 4, .main, [⟨0, 8, .rwk, 0x0⟩, ⟨8, 7, .rw, 0x4B⟩, ⟨15, 4, .rw, 0x2⟩, ⟨19, 7, .rw, 0x19⟩, ⟨26, 1, .rw, 0x0⟩]⟩ -- LDG_CFG, R119
  , ⟨0x811, 0x100, 4, .main, [⟨0, 24, .rw, 0xCCD⟩]⟩ -- LDG_SWEEP_CFG, R120
  , ⟨0x812, 0x100, 4, .main, [⟨0, 30, .ro, 0x0⟩, ⟨30, 1, .ro, 0x0⟩, ⟨31, 1, .ro, 0x0⟩, ⟨32, 1, .ro, 0x0⟩, ⟨33, 1, .ro, 0x0⟩, ⟨34, 1, .ro, 0x0⟩, ⟨35, 9, .ro, 0x0⟩]⟩ -- LDG_STATUS, R121
  , ⟨0x813, 0x100, 4, .main, [⟨0, 30, .ro, 0x0⟩]⟩ -- LDG_CAP, R122
  , ⟨0x814, 0x100, 4, .main, [⟨0, 30, .ro, 0x0⟩]⟩ -- LDG_SOFT, R122
  , ⟨0x815, 0x100, 4, .main, [⟨0, 48, .ro, 0x0⟩]⟩ -- LDG_FIRST_TOUCH, R123
  , ⟨0x816, 0x100, 4, .main, [⟨0, 48, .ro, 0x0⟩]⟩ -- LDG_HELD_COUNT, R123
  , ⟨0x817, 0x100, 4, .main, [⟨0, 48, .ro, 0x0⟩]⟩ -- LDG_TRICKLED, R123
  , ⟨0x818, 0x100, 4, .main, [⟨0, 48, .ro, 0x0⟩]⟩ -- LDG_REDIRTY, R123
  , ⟨0x819, 0x100, 4, .main, [⟨0, 32, .ro, 0x0⟩, ⟨32, 1, .ro, 0x0⟩, ⟨33, 1, .rw1c, 0x0⟩]⟩ -- LDG_SWEEP_STATUS, R124
  , ⟨0x81A, 0x100, 4, .main, [⟨0, 32, .ro, 0x0⟩, ⟨32, 1, .wo, 0x0⟩]⟩ -- LDG_HOLD_MAX, R125
  ]

/-- The registers of index group 3 (R659). -/
def regRowsG3 : List RegRow :=
  [ ⟨0xC00, 0x1, 1, .main, [⟨0, 1, .rwk, 0x0⟩, ⟨1, 3, .rwk, 0x4⟩, ⟨4, 2, .rwk, 0x3⟩, ⟨6, 1, .rw, 0x1⟩, ⟨7, 23, .rwk, 0x40000⟩]⟩ -- SAVE_CFG, R164
  , ⟨0xC01, 0x1, 1, .main, [⟨0, 2, .ro, 0x1⟩, ⟨2, 2, .rwk, 0x0⟩, ⟨4, 2, .ro, 0x0⟩, ⟨6, 2, .rwk, 0x1⟩, ⟨8, 2, .rwk, 0x0⟩, ⟨10, 2, .ro, 0x0⟩, ⟨12, 2, .ro, 0x0⟩]⟩ -- SAVE_ACTION, R165
  , ⟨0xC02, 0x1, 1, .main, [⟨0, 3, .ro, 0x0⟩, ⟨3, 4, .ro, 0x0⟩, ⟨7, 4, .ro, 0x0⟩, ⟨11, 4, .ro, 0x0⟩, ⟨15, 1, .ro, 0x0⟩, ⟨16, 1, .ro, 0x0⟩, ⟨17, 6, .ro, 0x0⟩]⟩ -- SAVE_STATUS, R166
  , ⟨0xC03, 0x1, 1, .alwaysOn, [⟨0, 6, .rs, 0x0⟩, ⟨6, 3, .rs, 0x0⟩, ⟨9, 4, .rs, 0x0⟩, ⟨13, 4, .rs, 0x0⟩, ⟨17, 3, .rs, 0x0⟩, ⟨20, 28, .rs, 0x0⟩]⟩ -- SAVE_LAST, R167
  , ⟨0xC04, 0x1, 1, .alwaysOn, [⟨0, 40, .rs, 0x0⟩]⟩ -- SAVE_GATE_TICK, R168
  , ⟨0xC05, 0x1, 1, .main, [⟨0, 30, .ro, 0x0⟩, ⟨30, 18, .ro, 0x0⟩]⟩ -- SAVE_FLUSH, R169
  , ⟨0xC06, 0x1, 1, .main, [⟨0, 24, .ro, 0x0⟩, ⟨24, 12, .ro, 0x0⟩, ⟨36, 12, .ro, 0x0⟩]⟩ -- SAVE_TIMES, R169
  , ⟨0xC08, 0x1, 4, .main, [⟨0, 32, .ro, 0x0⟩, ⟨32, 1, .ro, 0x0⟩]⟩ -- SAVE_GEN, R170
  , ⟨0xC0C, 0x1, 4, .main, [⟨0, 32, .ro, 0x0⟩, ⟨32, 1, .ro, 0x0⟩]⟩ -- SAVE_OPEN, R170
  , ⟨0xC10, 0x1, 4, .alwaysOn, [⟨0, 32, .rs, 0x0⟩, ⟨32, 3, .rs, 0x0⟩]⟩ -- SAVE_TEAR, R684
  , ⟨0xE00, 0x10, 4, .main, [⟨0, 1, .rwk, 0x0⟩, ⟨1, 1, .rwk, 0x0⟩, ⟨2, 1, .rwk, 0x0⟩, ⟨4, 16, .rwk, 0x400⟩, ⟨20, 12, .rw, 0xA0⟩]⟩ -- RESTORE_CFG, R204
  , ⟨0xE01, 0x10, 4, .main, [⟨0, 1, .wo, 0x0⟩, ⟨1, 1, .wo, 0x0⟩]⟩ -- RESTORE_CTRL, R205
  , ⟨0xE02, 0x10, 4, .main, [⟨0, 3, .ro, 0x0⟩, ⟨3, 1, .ro, 0x0⟩, ⟨4, 1, .ro, 0x0⟩, ⟨5, 1, .ro, 0x0⟩, ⟨6, 6, .ro, 0x0⟩, ⟨12, 9, .ro, 0x0⟩]⟩ -- RESTORE_STATUS, R206
  , ⟨0xE03, 0x10, 4, .main, [⟨0, 32, .ro, 0x0⟩, ⟨32, 8, .ro, 0x0⟩]⟩ -- RESTORE_GEN, R207
  , ⟨0xE04, 0x10, 4, .main, [⟨0, 30, .ro, 0x0⟩]⟩ -- RESTORE_PROGRESS, R207
  , ⟨0xE05, 0x10, 4, .main, [⟨0, 48, .ro, 0x0⟩]⟩ -- RESTORE_TOUCH_COUNT, R208
  , ⟨0xE06, 0x10, 4, .main, [⟨0, 32, .ro, 0x0⟩, ⟨32, 1, .wo, 0x0⟩]⟩ -- RESTORE_TOUCH_MAX, R208
  , ⟨0xE07, 0x10, 4, .main, [⟨0, 30, .ro, 0x0⟩]⟩ -- RESTORE_POISONED, R207
  , ⟨0xE08, 0x10, 4, .main, [⟨0, 24, .ro, 0x0⟩, ⟨24, 24, .ro, 0x0⟩]⟩ -- RESTORE_TIMES, R207
  , ⟨0xE40, 0x1, 1, .main, [⟨0, 4, .rwk, 0x6⟩, ⟨4, 16, .rwk, 0x258⟩, ⟨20, 28, .ro, 0x0⟩]⟩ -- RESTORE_HEAT, R209
  ]

/-- The registers of index group 4 (R659). -/
def regRowsG4 : List RegRow :=
  [ ⟨0x1000, 0x400, 4, .main, [⟨0, 7, .rw, 0x30⟩, ⟨7, 7, .rw, 0x10⟩]⟩ -- DC_SCHED_CFG, R297
  , ⟨0x1001, 0x400, 4, .main, [⟨0, 12, .rw, 0x14⟩, ⟨12, 12, .rw, 0x28⟩, ⟨24, 12, .rw, 0x50⟩, ⟨36, 12, .rw, 0x1F4⟩]⟩ -- DC_AGE_A, R298
  , ⟨0x1002, 0x400, 4, .main, [⟨0, 12, .rw, 0x7D0⟩]⟩ -- DC_AGE_B, R298
  , ⟨0x1003, 0x400, 4, .main, [⟨0, 8, .rw, 0x10⟩, ⟨8, 8, .rw, 0x30⟩, ⟨16, 8, .rw, 0x8⟩, ⟨24, 8, .rw, 0x20⟩]⟩ -- DC_PANIC_CFG, R299
  , ⟨0x1004, 0x400, 4, .main, [⟨0, 16, .rwk, 0xFA45⟩]⟩ -- DC_PORT_PRIO, R300
  , ⟨0x1005, 0x400, 4, .main, [⟨0, 2, .rw, 0x0⟩, ⟨2, 10, .rw, 0x80⟩]⟩ -- DC_PAGE_CFG, R301
  , ⟨0x1006, 0x400, 4, .main, [⟨0, 3, .rwk, 0x4⟩, ⟨3, 3, .rwk, 0x2⟩, ⟨6, 1, .rwk, 0x0⟩, ⟨7, 1, .rwk, 0x1⟩]⟩ -- DC_REF_CFG, R301
  , ⟨0x1007, 0x400, 4, .main, [⟨0, 10, .rw, 0x100⟩, ⟨10, 16, .rw, 0x0⟩, ⟨26, 10, .rw, 0x64⟩]⟩ -- DC_LP_CFG, R302
  , ⟨0x1008, 0x400, 4, .main, [⟨0, 2, .rwk, 0x0⟩, ⟨2, 2, .rwk, 0x0⟩, ⟨4, 2, .rwk, 0x0⟩, ⟨6, 2, .rwk, 0x0⟩, ⟨8, 1, .rwk, 0x0⟩, ⟨9, 1, .rwk, 0x0⟩, ⟨10, 2, .rwk, 0x0⟩, ⟨12, 1, .rwk, 0x0⟩]⟩ -- DC_MAP, R303
  , ⟨0x1009, 0x400, 4, .main, [⟨0, 1, .ro, 0x0⟩, ⟨1, 1, .ro, 0x0⟩, ⟨2, 1, .ro, 0x0⟩, ⟨3, 1, .ro, 0x0⟩, ⟨4, 4, .ro, 0x0⟩, ⟨8, 4, .ro, 0x0⟩, ⟨12, 2, .ro, 0x0⟩, ⟨14, 7, .ro, 0x0⟩, ⟨21, 7, .ro, 0x0⟩, ⟨28, 7, .ro, 0x0⟩, ⟨35, 7, .ro, 0x0⟩]⟩ -- DC_SCHED_STATUS, R304
  , ⟨0x100A, 0x400, 4, .main, [⟨0, 16, .ro, 0x0⟩, ⟨16, 32, .ro, 0x0⟩]⟩ -- DC_REF_STATUS, R305
  , ⟨0x100B, 0x400, 4, .main, [⟨0, 24, .ro, 0x0⟩, ⟨24, 24, .ro, 0x0⟩]⟩ -- DC_PANIC_COUNT, R305
  , ⟨0x100C, 0x400, 4, .main, [⟨0, 48, .ro, 0x0⟩]⟩ -- DC_PROMOTE_COUNT, R305
  , ⟨0x100D, 0x400, 4, .main, [⟨0, 24, .ro, 0x0⟩, ⟨24, 24, .ro, 0x0⟩]⟩ -- DC_SR_COUNT, R305
  , ⟨0x1040, 0x400, 4, .main, [⟨0, 1, .rw, 0x1⟩, ⟨1, 1, .rwk, 0x0⟩, ⟨2, 16, .rw, 0x40⟩]⟩ -- DC_ECC_CFG, R339
  , ⟨0x1041, 0x400, 4, .main, [⟨0, 24, .ro, 0x0⟩, ⟨24, 16, .ro, 0x0⟩, ⟨40, 8, .ro, 0x0⟩]⟩ -- DC_ECC_COUNT, R339
  , ⟨0x1042, 0x400, 4, .main, [⟨0, 35, .ro, 0x0⟩, ⟨35, 2, .ro, 0x0⟩, ⟨37, 1, .ro, 0x0⟩, ⟨38, 4, .ro, 0x0⟩, ⟨42, 3, .ro, 0x0⟩, ⟨45, 1, .ro, 0x0⟩, ⟨46, 1, .ro, 0x0⟩]⟩ -- DC_ERR_CAPTURE, R340
  , ⟨0x1043, 0x400, 4, .main, [⟨0, 10, .rw, 0x18⟩, ⟨10, 1, .rw, 0x1⟩]⟩ -- DC_SCRUB_CFG, R341
  , ⟨0x1044, 0x400, 4, .main, [⟨0, 32, .rs, 0x0⟩, ⟨32, 8, .rs, 0x0⟩, ⟨40, 8, .rs, 0x0⟩]⟩ -- DC_SCRUB_STATUS, R341
  , ⟨0x1045, 0x400, 4, .main, [⟨0, 16, .rwk, 0x400⟩, ⟨16, 3, .rwk, 0x2⟩, ⟨19, 1, .rwk, 0x0⟩, ⟨20, 1, .rwk, 0x1⟩]⟩ -- DC_RH_CFG, R342
  , ⟨0x1046, 0x400, 4, .main, [⟨0, 24, .ro, 0x0⟩, ⟨24, 24, .ro, 0x0⟩]⟩ -- DC_RH_COUNT, R342
  , ⟨0x1047, 0x400, 4, .main, [⟨0, 2, .rw, 0x0⟩, ⟨2, 4, .rw, 0x0⟩, ⟨6, 1, .rw, 0x0⟩, ⟨7, 1, .rw, 0x0⟩, ⟨8, 1, .rw, 0x0⟩]⟩ -- DC_INJECT, R343
  , ⟨0x1048, 0x400, 4, .main, [⟨0, 32, .rw, 0x0⟩]⟩ -- DC_INJECT_ADDR, R343
  , ⟨0x1080, 0x400, 4, .main, [⟨0, 3, .rw, 0x0⟩, ⟨3, 1, .rw, 0x0⟩, ⟨4, 1, .rw, 0x0⟩, ⟨5, 6, .rw, 0x0⟩, ⟨11, 1, .rw, 0x0⟩]⟩ -- DC_DLY_SEL, R369
  , ⟨0x1081, 0x400, 4, .main, [⟨0, 12, .rw, 0x0⟩, ⟨12, 1, .rw, 0x0⟩, ⟨13, 1, .ro, 0x0⟩]⟩ -- DC_DLY_DATA, R369
  , ⟨0x1082, 0x400, 4, .main, [⟨0, 2, .rw, 0x0⟩, ⟨2, 2, .rw, 0x1⟩, ⟨4, 1, .rw, 0x0⟩, ⟨5, 1, .rw, 0x0⟩, ⟨6, 16, .rw, 0x400⟩, ⟨22, 1, .wo, 0x0⟩, ⟨23, 1, .ro, 0x0⟩]⟩ -- DC_TRN_CTRL, R369
  , ⟨0x1083, 0x400, 4, .main, [⟨0, 32, .rw, 0x0⟩]⟩ -- DC_TRN_PATTERN, R369
  , ⟨0x1084, 0x400, 4, .main, [⟨0, 40, .ro, 0x0⟩, ⟨40, 8, .ro, 0x0⟩]⟩ -- DC_TRN_RESULT, R369
  , ⟨0x1085, 0x400, 4, .main, [⟨0, 12, .rw, 0x800⟩, ⟨12, 10, .rw, 0x8⟩, ⟨22, 10, .rw, 0x40⟩]⟩ -- DC_TRACK, R370
  , ⟨0x1086, 0x400, 4, .main, [⟨0, 1, .ro, 0x0⟩, ⟨1, 1, .ro, 0x0⟩, ⟨2, 4, .ro, 0x0⟩, ⟨6, 10, .ro, 0x0⟩, ⟨16, 1, .ro, 0x0⟩]⟩ -- DC_PHY_STATUS, R370
  , ⟨0x1100, 0x1, 1, .alwaysOn, [⟨0, 40, .rwk, 0x4010040100⟩]⟩ -- DC_REMAP_CFG, R344
  , ⟨0x1101, 0x1, 1, .alwaysOn, [⟨0, 7, .ro, 0x0⟩, ⟨7, 1, .ro, 0x0⟩]⟩ -- DC_REMAP_STATUS, R344
  , ⟨0x1110, 0x1, 64, .alwaysOn, [⟨0, 35, .ro, 0x0⟩, ⟨35, 2, .ro, 0x0⟩, ⟨37, 8, .ro, 0x0⟩, ⟨45, 2, .ro, 0x0⟩, ⟨47, 1, .ro, 0x0⟩]⟩ -- DC_REMAP_ENTRY, R344
  , ⟨0x1180, 0x1, 1, .main, [⟨0, 4, .ro, 0x0⟩, ⟨4, 8, .rwk, 0xC⟩, ⟨12, 7, .rwk, 0x1E⟩, ⟨19, 1, .rs, 0x0⟩]⟩ -- DC_PHY_GLOBAL, R370
  , ⟨0x1181, 0x1, 1, .main, [⟨0, 2, .rw, 0x1⟩, ⟨2, 7, .rwk, 0x55⟩]⟩ -- DC_I3C_CFG, R370
  , ⟨0x1182, 0x1, 1, .main, [⟨0, 7, .rw, 0x0⟩, ⟨7, 1, .rw, 0x0⟩, ⟨8, 16, .rw, 0x0⟩, ⟨24, 1, .rw, 0x0⟩, ⟨25, 3, .rw, 0x0⟩, ⟨28, 1, .wo, 0x0⟩, ⟨29, 1, .ro, 0x0⟩, ⟨30, 2, .ro, 0x0⟩]⟩ -- DC_I3C_CMD, R370
  , ⟨0x1183, 0x1, 1, .main, [⟨0, 48, .rw, 0x0⟩]⟩ -- DC_I3C_DATA, R370
  ]

/-- The registers of index group 5 (R659). -/
def regRowsG5 : List RegRow :=
  [ ⟨0x1000, 0x400, 4, .main, [⟨0, 7, .rw, 0x30⟩, ⟨7, 7, .rw, 0x10⟩]⟩ -- DC_SCHED_CFG, R297
  , ⟨0x1001, 0x400, 4, .main, [⟨0, 12, .rw, 0x14⟩, ⟨12, 12, .rw, 0x28⟩, ⟨24, 12, .rw, 0x50⟩, ⟨36, 12, .rw, 0x1F4⟩]⟩ -- DC_AGE_A, R298
  , ⟨0x1002, 0x400, 4, .main, [⟨0, 12, .rw, 0x7D0⟩]⟩ -- DC_AGE_B, R298
  , ⟨0x1003, 0x400, 4, .main, [⟨0, 8, .rw, 0x10⟩, ⟨8, 8, .rw, 0x30⟩, ⟨16, 8, .rw, 0x8⟩, ⟨24, 8, .rw, 0x20⟩]⟩ -- DC_PANIC_CFG, R299
  , ⟨0x1004, 0x400, 4, .main, [⟨0, 16, .rwk, 0xFA45⟩]⟩ -- DC_PORT_PRIO, R300
  , ⟨0x1005, 0x400, 4, .main, [⟨0, 2, .rw, 0x0⟩, ⟨2, 10, .rw, 0x80⟩]⟩ -- DC_PAGE_CFG, R301
  , ⟨0x1006, 0x400, 4, .main, [⟨0, 3, .rwk, 0x4⟩, ⟨3, 3, .rwk, 0x2⟩, ⟨6, 1, .rwk, 0x0⟩, ⟨7, 1, .rwk, 0x1⟩]⟩ -- DC_REF_CFG, R301
  , ⟨0x1007, 0x400, 4, .main, [⟨0, 10, .rw, 0x100⟩, ⟨10, 16, .rw, 0x0⟩, ⟨26, 10, .rw, 0x64⟩]⟩ -- DC_LP_CFG, R302
  , ⟨0x1008, 0x400, 4, .main, [⟨0, 2, .rwk, 0x0⟩, ⟨2, 2, .rwk, 0x0⟩, ⟨4, 2, .rwk, 0x0⟩, ⟨6, 2, .rwk, 0x0⟩, ⟨8, 1, .rwk, 0x0⟩, ⟨9, 1, .rwk, 0x0⟩, ⟨10, 2, .rwk, 0x0⟩, ⟨12, 1, .rwk, 0x0⟩]⟩ -- DC_MAP, R303
  , ⟨0x1009, 0x400, 4, .main, [⟨0, 1, .ro, 0x0⟩, ⟨1, 1, .ro, 0x0⟩, ⟨2, 1, .ro, 0x0⟩, ⟨3, 1, .ro, 0x0⟩, ⟨4, 4, .ro, 0x0⟩, ⟨8, 4, .ro, 0x0⟩, ⟨12, 2, .ro, 0x0⟩, ⟨14, 7, .ro, 0x0⟩, ⟨21, 7, .ro, 0x0⟩, ⟨28, 7, .ro, 0x0⟩, ⟨35, 7, .ro, 0x0⟩]⟩ -- DC_SCHED_STATUS, R304
  , ⟨0x100A, 0x400, 4, .main, [⟨0, 16, .ro, 0x0⟩, ⟨16, 32, .ro, 0x0⟩]⟩ -- DC_REF_STATUS, R305
  , ⟨0x100B, 0x400, 4, .main, [⟨0, 24, .ro, 0x0⟩, ⟨24, 24, .ro, 0x0⟩]⟩ -- DC_PANIC_COUNT, R305
  , ⟨0x100C, 0x400, 4, .main, [⟨0, 48, .ro, 0x0⟩]⟩ -- DC_PROMOTE_COUNT, R305
  , ⟨0x100D, 0x400, 4, .main, [⟨0, 24, .ro, 0x0⟩, ⟨24, 24, .ro, 0x0⟩]⟩ -- DC_SR_COUNT, R305
  , ⟨0x1040, 0x400, 4, .main, [⟨0, 1, .rw, 0x1⟩, ⟨1, 1, .rwk, 0x0⟩, ⟨2, 16, .rw, 0x40⟩]⟩ -- DC_ECC_CFG, R339
  , ⟨0x1041, 0x400, 4, .main, [⟨0, 24, .ro, 0x0⟩, ⟨24, 16, .ro, 0x0⟩, ⟨40, 8, .ro, 0x0⟩]⟩ -- DC_ECC_COUNT, R339
  , ⟨0x1042, 0x400, 4, .main, [⟨0, 35, .ro, 0x0⟩, ⟨35, 2, .ro, 0x0⟩, ⟨37, 1, .ro, 0x0⟩, ⟨38, 4, .ro, 0x0⟩, ⟨42, 3, .ro, 0x0⟩, ⟨45, 1, .ro, 0x0⟩, ⟨46, 1, .ro, 0x0⟩]⟩ -- DC_ERR_CAPTURE, R340
  , ⟨0x1043, 0x400, 4, .main, [⟨0, 10, .rw, 0x18⟩, ⟨10, 1, .rw, 0x1⟩]⟩ -- DC_SCRUB_CFG, R341
  , ⟨0x1044, 0x400, 4, .main, [⟨0, 32, .rs, 0x0⟩, ⟨32, 8, .rs, 0x0⟩, ⟨40, 8, .rs, 0x0⟩]⟩ -- DC_SCRUB_STATUS, R341
  , ⟨0x1045, 0x400, 4, .main, [⟨0, 16, .rwk, 0x400⟩, ⟨16, 3, .rwk, 0x2⟩, ⟨19, 1, .rwk, 0x0⟩, ⟨20, 1, .rwk, 0x1⟩]⟩ -- DC_RH_CFG, R342
  , ⟨0x1046, 0x400, 4, .main, [⟨0, 24, .ro, 0x0⟩, ⟨24, 24, .ro, 0x0⟩]⟩ -- DC_RH_COUNT, R342
  , ⟨0x1047, 0x400, 4, .main, [⟨0, 2, .rw, 0x0⟩, ⟨2, 4, .rw, 0x0⟩, ⟨6, 1, .rw, 0x0⟩, ⟨7, 1, .rw, 0x0⟩, ⟨8, 1, .rw, 0x0⟩]⟩ -- DC_INJECT, R343
  , ⟨0x1048, 0x400, 4, .main, [⟨0, 32, .rw, 0x0⟩]⟩ -- DC_INJECT_ADDR, R343
  , ⟨0x1080, 0x400, 4, .main, [⟨0, 3, .rw, 0x0⟩, ⟨3, 1, .rw, 0x0⟩, ⟨4, 1, .rw, 0x0⟩, ⟨5, 6, .rw, 0x0⟩, ⟨11, 1, .rw, 0x0⟩]⟩ -- DC_DLY_SEL, R369
  , ⟨0x1081, 0x400, 4, .main, [⟨0, 12, .rw, 0x0⟩, ⟨12, 1, .rw, 0x0⟩, ⟨13, 1, .ro, 0x0⟩]⟩ -- DC_DLY_DATA, R369
  , ⟨0x1082, 0x400, 4, .main, [⟨0, 2, .rw, 0x0⟩, ⟨2, 2, .rw, 0x1⟩, ⟨4, 1, .rw, 0x0⟩, ⟨5, 1, .rw, 0x0⟩, ⟨6, 16, .rw, 0x400⟩, ⟨22, 1, .wo, 0x0⟩, ⟨23, 1, .ro, 0x0⟩]⟩ -- DC_TRN_CTRL, R369
  , ⟨0x1083, 0x400, 4, .main, [⟨0, 32, .rw, 0x0⟩]⟩ -- DC_TRN_PATTERN, R369
  , ⟨0x1084, 0x400, 4, .main, [⟨0, 40, .ro, 0x0⟩, ⟨40, 8, .ro, 0x0⟩]⟩ -- DC_TRN_RESULT, R369
  , ⟨0x1085, 0x400, 4, .main, [⟨0, 12, .rw, 0x800⟩, ⟨12, 10, .rw, 0x8⟩, ⟨22, 10, .rw, 0x40⟩]⟩ -- DC_TRACK, R370
  , ⟨0x1086, 0x400, 4, .main, [⟨0, 1, .ro, 0x0⟩, ⟨1, 1, .ro, 0x0⟩, ⟨2, 4, .ro, 0x0⟩, ⟨6, 10, .ro, 0x0⟩, ⟨16, 1, .ro, 0x0⟩]⟩ -- DC_PHY_STATUS, R370
  ]

/-- The registers of index group 6 (R659). -/
def regRowsG6 : List RegRow :=
  [ ⟨0x1000, 0x400, 4, .main, [⟨0, 7, .rw, 0x30⟩, ⟨7, 7, .rw, 0x10⟩]⟩ -- DC_SCHED_CFG, R297
  , ⟨0x1001, 0x400, 4, .main, [⟨0, 12, .rw, 0x14⟩, ⟨12, 12, .rw, 0x28⟩, ⟨24, 12, .rw, 0x50⟩, ⟨36, 12, .rw, 0x1F4⟩]⟩ -- DC_AGE_A, R298
  , ⟨0x1002, 0x400, 4, .main, [⟨0, 12, .rw, 0x7D0⟩]⟩ -- DC_AGE_B, R298
  , ⟨0x1003, 0x400, 4, .main, [⟨0, 8, .rw, 0x10⟩, ⟨8, 8, .rw, 0x30⟩, ⟨16, 8, .rw, 0x8⟩, ⟨24, 8, .rw, 0x20⟩]⟩ -- DC_PANIC_CFG, R299
  , ⟨0x1004, 0x400, 4, .main, [⟨0, 16, .rwk, 0xFA45⟩]⟩ -- DC_PORT_PRIO, R300
  , ⟨0x1005, 0x400, 4, .main, [⟨0, 2, .rw, 0x0⟩, ⟨2, 10, .rw, 0x80⟩]⟩ -- DC_PAGE_CFG, R301
  , ⟨0x1006, 0x400, 4, .main, [⟨0, 3, .rwk, 0x4⟩, ⟨3, 3, .rwk, 0x2⟩, ⟨6, 1, .rwk, 0x0⟩, ⟨7, 1, .rwk, 0x1⟩]⟩ -- DC_REF_CFG, R301
  , ⟨0x1007, 0x400, 4, .main, [⟨0, 10, .rw, 0x100⟩, ⟨10, 16, .rw, 0x0⟩, ⟨26, 10, .rw, 0x64⟩]⟩ -- DC_LP_CFG, R302
  , ⟨0x1008, 0x400, 4, .main, [⟨0, 2, .rwk, 0x0⟩, ⟨2, 2, .rwk, 0x0⟩, ⟨4, 2, .rwk, 0x0⟩, ⟨6, 2, .rwk, 0x0⟩, ⟨8, 1, .rwk, 0x0⟩, ⟨9, 1, .rwk, 0x0⟩, ⟨10, 2, .rwk, 0x0⟩, ⟨12, 1, .rwk, 0x0⟩]⟩ -- DC_MAP, R303
  , ⟨0x1009, 0x400, 4, .main, [⟨0, 1, .ro, 0x0⟩, ⟨1, 1, .ro, 0x0⟩, ⟨2, 1, .ro, 0x0⟩, ⟨3, 1, .ro, 0x0⟩, ⟨4, 4, .ro, 0x0⟩, ⟨8, 4, .ro, 0x0⟩, ⟨12, 2, .ro, 0x0⟩, ⟨14, 7, .ro, 0x0⟩, ⟨21, 7, .ro, 0x0⟩, ⟨28, 7, .ro, 0x0⟩, ⟨35, 7, .ro, 0x0⟩]⟩ -- DC_SCHED_STATUS, R304
  , ⟨0x100A, 0x400, 4, .main, [⟨0, 16, .ro, 0x0⟩, ⟨16, 32, .ro, 0x0⟩]⟩ -- DC_REF_STATUS, R305
  , ⟨0x100B, 0x400, 4, .main, [⟨0, 24, .ro, 0x0⟩, ⟨24, 24, .ro, 0x0⟩]⟩ -- DC_PANIC_COUNT, R305
  , ⟨0x100C, 0x400, 4, .main, [⟨0, 48, .ro, 0x0⟩]⟩ -- DC_PROMOTE_COUNT, R305
  , ⟨0x100D, 0x400, 4, .main, [⟨0, 24, .ro, 0x0⟩, ⟨24, 24, .ro, 0x0⟩]⟩ -- DC_SR_COUNT, R305
  , ⟨0x1040, 0x400, 4, .main, [⟨0, 1, .rw, 0x1⟩, ⟨1, 1, .rwk, 0x0⟩, ⟨2, 16, .rw, 0x40⟩]⟩ -- DC_ECC_CFG, R339
  , ⟨0x1041, 0x400, 4, .main, [⟨0, 24, .ro, 0x0⟩, ⟨24, 16, .ro, 0x0⟩, ⟨40, 8, .ro, 0x0⟩]⟩ -- DC_ECC_COUNT, R339
  , ⟨0x1042, 0x400, 4, .main, [⟨0, 35, .ro, 0x0⟩, ⟨35, 2, .ro, 0x0⟩, ⟨37, 1, .ro, 0x0⟩, ⟨38, 4, .ro, 0x0⟩, ⟨42, 3, .ro, 0x0⟩, ⟨45, 1, .ro, 0x0⟩, ⟨46, 1, .ro, 0x0⟩]⟩ -- DC_ERR_CAPTURE, R340
  , ⟨0x1043, 0x400, 4, .main, [⟨0, 10, .rw, 0x18⟩, ⟨10, 1, .rw, 0x1⟩]⟩ -- DC_SCRUB_CFG, R341
  , ⟨0x1044, 0x400, 4, .main, [⟨0, 32, .rs, 0x0⟩, ⟨32, 8, .rs, 0x0⟩, ⟨40, 8, .rs, 0x0⟩]⟩ -- DC_SCRUB_STATUS, R341
  , ⟨0x1045, 0x400, 4, .main, [⟨0, 16, .rwk, 0x400⟩, ⟨16, 3, .rwk, 0x2⟩, ⟨19, 1, .rwk, 0x0⟩, ⟨20, 1, .rwk, 0x1⟩]⟩ -- DC_RH_CFG, R342
  , ⟨0x1046, 0x400, 4, .main, [⟨0, 24, .ro, 0x0⟩, ⟨24, 24, .ro, 0x0⟩]⟩ -- DC_RH_COUNT, R342
  , ⟨0x1047, 0x400, 4, .main, [⟨0, 2, .rw, 0x0⟩, ⟨2, 4, .rw, 0x0⟩, ⟨6, 1, .rw, 0x0⟩, ⟨7, 1, .rw, 0x0⟩, ⟨8, 1, .rw, 0x0⟩]⟩ -- DC_INJECT, R343
  , ⟨0x1048, 0x400, 4, .main, [⟨0, 32, .rw, 0x0⟩]⟩ -- DC_INJECT_ADDR, R343
  , ⟨0x1080, 0x400, 4, .main, [⟨0, 3, .rw, 0x0⟩, ⟨3, 1, .rw, 0x0⟩, ⟨4, 1, .rw, 0x0⟩, ⟨5, 6, .rw, 0x0⟩, ⟨11, 1, .rw, 0x0⟩]⟩ -- DC_DLY_SEL, R369
  , ⟨0x1081, 0x400, 4, .main, [⟨0, 12, .rw, 0x0⟩, ⟨12, 1, .rw, 0x0⟩, ⟨13, 1, .ro, 0x0⟩]⟩ -- DC_DLY_DATA, R369
  , ⟨0x1082, 0x400, 4, .main, [⟨0, 2, .rw, 0x0⟩, ⟨2, 2, .rw, 0x1⟩, ⟨4, 1, .rw, 0x0⟩, ⟨5, 1, .rw, 0x0⟩, ⟨6, 16, .rw, 0x400⟩, ⟨22, 1, .wo, 0x0⟩, ⟨23, 1, .ro, 0x0⟩]⟩ -- DC_TRN_CTRL, R369
  , ⟨0x1083, 0x400, 4, .main, [⟨0, 32, .rw, 0x0⟩]⟩ -- DC_TRN_PATTERN, R369
  , ⟨0x1084, 0x400, 4, .main, [⟨0, 40, .ro, 0x0⟩, ⟨40, 8, .ro, 0x0⟩]⟩ -- DC_TRN_RESULT, R369
  , ⟨0x1085, 0x400, 4, .main, [⟨0, 12, .rw, 0x800⟩, ⟨12, 10, .rw, 0x8⟩, ⟨22, 10, .rw, 0x40⟩]⟩ -- DC_TRACK, R370
  , ⟨0x1086, 0x400, 4, .main, [⟨0, 1, .ro, 0x0⟩, ⟨1, 1, .ro, 0x0⟩, ⟨2, 4, .ro, 0x0⟩, ⟨6, 10, .ro, 0x0⟩, ⟨16, 1, .ro, 0x0⟩]⟩ -- DC_PHY_STATUS, R370
  ]

/-- The registers of index group 7 (R659). -/
def regRowsG7 : List RegRow :=
  [ ⟨0x1000, 0x400, 4, .main, [⟨0, 7, .rw, 0x30⟩, ⟨7, 7, .rw, 0x10⟩]⟩ -- DC_SCHED_CFG, R297
  , ⟨0x1001, 0x400, 4, .main, [⟨0, 12, .rw, 0x14⟩, ⟨12, 12, .rw, 0x28⟩, ⟨24, 12, .rw, 0x50⟩, ⟨36, 12, .rw, 0x1F4⟩]⟩ -- DC_AGE_A, R298
  , ⟨0x1002, 0x400, 4, .main, [⟨0, 12, .rw, 0x7D0⟩]⟩ -- DC_AGE_B, R298
  , ⟨0x1003, 0x400, 4, .main, [⟨0, 8, .rw, 0x10⟩, ⟨8, 8, .rw, 0x30⟩, ⟨16, 8, .rw, 0x8⟩, ⟨24, 8, .rw, 0x20⟩]⟩ -- DC_PANIC_CFG, R299
  , ⟨0x1004, 0x400, 4, .main, [⟨0, 16, .rwk, 0xFA45⟩]⟩ -- DC_PORT_PRIO, R300
  , ⟨0x1005, 0x400, 4, .main, [⟨0, 2, .rw, 0x0⟩, ⟨2, 10, .rw, 0x80⟩]⟩ -- DC_PAGE_CFG, R301
  , ⟨0x1006, 0x400, 4, .main, [⟨0, 3, .rwk, 0x4⟩, ⟨3, 3, .rwk, 0x2⟩, ⟨6, 1, .rwk, 0x0⟩, ⟨7, 1, .rwk, 0x1⟩]⟩ -- DC_REF_CFG, R301
  , ⟨0x1007, 0x400, 4, .main, [⟨0, 10, .rw, 0x100⟩, ⟨10, 16, .rw, 0x0⟩, ⟨26, 10, .rw, 0x64⟩]⟩ -- DC_LP_CFG, R302
  , ⟨0x1008, 0x400, 4, .main, [⟨0, 2, .rwk, 0x0⟩, ⟨2, 2, .rwk, 0x0⟩, ⟨4, 2, .rwk, 0x0⟩, ⟨6, 2, .rwk, 0x0⟩, ⟨8, 1, .rwk, 0x0⟩, ⟨9, 1, .rwk, 0x0⟩, ⟨10, 2, .rwk, 0x0⟩, ⟨12, 1, .rwk, 0x0⟩]⟩ -- DC_MAP, R303
  , ⟨0x1009, 0x400, 4, .main, [⟨0, 1, .ro, 0x0⟩, ⟨1, 1, .ro, 0x0⟩, ⟨2, 1, .ro, 0x0⟩, ⟨3, 1, .ro, 0x0⟩, ⟨4, 4, .ro, 0x0⟩, ⟨8, 4, .ro, 0x0⟩, ⟨12, 2, .ro, 0x0⟩, ⟨14, 7, .ro, 0x0⟩, ⟨21, 7, .ro, 0x0⟩, ⟨28, 7, .ro, 0x0⟩, ⟨35, 7, .ro, 0x0⟩]⟩ -- DC_SCHED_STATUS, R304
  , ⟨0x100A, 0x400, 4, .main, [⟨0, 16, .ro, 0x0⟩, ⟨16, 32, .ro, 0x0⟩]⟩ -- DC_REF_STATUS, R305
  , ⟨0x100B, 0x400, 4, .main, [⟨0, 24, .ro, 0x0⟩, ⟨24, 24, .ro, 0x0⟩]⟩ -- DC_PANIC_COUNT, R305
  , ⟨0x100C, 0x400, 4, .main, [⟨0, 48, .ro, 0x0⟩]⟩ -- DC_PROMOTE_COUNT, R305
  , ⟨0x100D, 0x400, 4, .main, [⟨0, 24, .ro, 0x0⟩, ⟨24, 24, .ro, 0x0⟩]⟩ -- DC_SR_COUNT, R305
  , ⟨0x1040, 0x400, 4, .main, [⟨0, 1, .rw, 0x1⟩, ⟨1, 1, .rwk, 0x0⟩, ⟨2, 16, .rw, 0x40⟩]⟩ -- DC_ECC_CFG, R339
  , ⟨0x1041, 0x400, 4, .main, [⟨0, 24, .ro, 0x0⟩, ⟨24, 16, .ro, 0x0⟩, ⟨40, 8, .ro, 0x0⟩]⟩ -- DC_ECC_COUNT, R339
  , ⟨0x1042, 0x400, 4, .main, [⟨0, 35, .ro, 0x0⟩, ⟨35, 2, .ro, 0x0⟩, ⟨37, 1, .ro, 0x0⟩, ⟨38, 4, .ro, 0x0⟩, ⟨42, 3, .ro, 0x0⟩, ⟨45, 1, .ro, 0x0⟩, ⟨46, 1, .ro, 0x0⟩]⟩ -- DC_ERR_CAPTURE, R340
  , ⟨0x1043, 0x400, 4, .main, [⟨0, 10, .rw, 0x18⟩, ⟨10, 1, .rw, 0x1⟩]⟩ -- DC_SCRUB_CFG, R341
  , ⟨0x1044, 0x400, 4, .main, [⟨0, 32, .rs, 0x0⟩, ⟨32, 8, .rs, 0x0⟩, ⟨40, 8, .rs, 0x0⟩]⟩ -- DC_SCRUB_STATUS, R341
  , ⟨0x1045, 0x400, 4, .main, [⟨0, 16, .rwk, 0x400⟩, ⟨16, 3, .rwk, 0x2⟩, ⟨19, 1, .rwk, 0x0⟩, ⟨20, 1, .rwk, 0x1⟩]⟩ -- DC_RH_CFG, R342
  , ⟨0x1046, 0x400, 4, .main, [⟨0, 24, .ro, 0x0⟩, ⟨24, 24, .ro, 0x0⟩]⟩ -- DC_RH_COUNT, R342
  , ⟨0x1047, 0x400, 4, .main, [⟨0, 2, .rw, 0x0⟩, ⟨2, 4, .rw, 0x0⟩, ⟨6, 1, .rw, 0x0⟩, ⟨7, 1, .rw, 0x0⟩, ⟨8, 1, .rw, 0x0⟩]⟩ -- DC_INJECT, R343
  , ⟨0x1048, 0x400, 4, .main, [⟨0, 32, .rw, 0x0⟩]⟩ -- DC_INJECT_ADDR, R343
  , ⟨0x1080, 0x400, 4, .main, [⟨0, 3, .rw, 0x0⟩, ⟨3, 1, .rw, 0x0⟩, ⟨4, 1, .rw, 0x0⟩, ⟨5, 6, .rw, 0x0⟩, ⟨11, 1, .rw, 0x0⟩]⟩ -- DC_DLY_SEL, R369
  , ⟨0x1081, 0x400, 4, .main, [⟨0, 12, .rw, 0x0⟩, ⟨12, 1, .rw, 0x0⟩, ⟨13, 1, .ro, 0x0⟩]⟩ -- DC_DLY_DATA, R369
  , ⟨0x1082, 0x400, 4, .main, [⟨0, 2, .rw, 0x0⟩, ⟨2, 2, .rw, 0x1⟩, ⟨4, 1, .rw, 0x0⟩, ⟨5, 1, .rw, 0x0⟩, ⟨6, 16, .rw, 0x400⟩, ⟨22, 1, .wo, 0x0⟩, ⟨23, 1, .ro, 0x0⟩]⟩ -- DC_TRN_CTRL, R369
  , ⟨0x1083, 0x400, 4, .main, [⟨0, 32, .rw, 0x0⟩]⟩ -- DC_TRN_PATTERN, R369
  , ⟨0x1084, 0x400, 4, .main, [⟨0, 40, .ro, 0x0⟩, ⟨40, 8, .ro, 0x0⟩]⟩ -- DC_TRN_RESULT, R369
  , ⟨0x1085, 0x400, 4, .main, [⟨0, 12, .rw, 0x800⟩, ⟨12, 10, .rw, 0x8⟩, ⟨22, 10, .rw, 0x40⟩]⟩ -- DC_TRACK, R370
  , ⟨0x1086, 0x400, 4, .main, [⟨0, 1, .ro, 0x0⟩, ⟨1, 1, .ro, 0x0⟩, ⟨2, 4, .ro, 0x0⟩, ⟨6, 10, .ro, 0x0⟩, ⟨16, 1, .ro, 0x0⟩]⟩ -- DC_PHY_STATUS, R370
  ]

/-- The registers of index group 8 (R659). -/
def regRowsG8 : List RegRow :=
  [ ⟨0x2000, 0x1, 1, .main, [⟨0, 7, .rw, 0x19⟩, ⟨7, 1, .rw, 0x0⟩, ⟨8, 16, .rwk, 0xEA60⟩, ⟨24, 8, .rwk, 0xC⟩, ⟨32, 8, .rwk, 0x96⟩]⟩ -- FL_CFG, R255
  , ⟨0x2001, 0x1, 1, .main, [⟨0, 4, .rw, 0x0⟩, ⟨4, 10, .rw, 0x0⟩, ⟨14, 1, .rw, 0x0⟩, ⟨15, 1, .rw, 0x0⟩, ⟨16, 1, .rw, 0x0⟩]⟩ -- FL_INJECT, R256
  , ⟨0x2002, 0x1, 1, .main, [⟨0, 4, .ro, 0x0⟩, ⟨4, 4, .ro, 0x0⟩, ⟨8, 12, .ro, 0x0⟩, ⟨20, 8, .ro, 0x0⟩]⟩ -- FL_MP_STATUS, R256
  , ⟨0x2010, 0x10, 4, .main, [⟨0, 16, .rwk, 0x0⟩, ⟨16, 12, .rwk, 0x0⟩, ⟨28, 9, .ro, 0x0⟩]⟩ -- FL_STAGE_GEOM, R257
  , ⟨0x2011, 0x10, 4, .main, [⟨0, 14, .rwk, 0x28F0⟩, ⟨14, 14, .rwk, 0xFA0⟩, ⟨28, 10, .rwk, 0x200⟩]⟩ -- FL_STAGE_TIMING, R257
  , ⟨0x2012, 0x10, 4, .main, [⟨0, 24, .ro, 0x0⟩, ⟨24, 24, .ro, 0x0⟩]⟩ -- FL_STAGE_RATE, R258
  , ⟨0x2013, 0x10, 4, .main, [⟨0, 24, .ro, 0x0⟩, ⟨24, 24, .ro, 0x0⟩]⟩ -- FL_STAGE_SPACE, R258
  , ⟨0x2014, 0x10, 4, .main, [⟨0, 24, .ro, 0x0⟩, ⟨24, 24, .ro, 0x0⟩]⟩ -- FL_STAGE_CAPACITY, R258
  , ⟨0x2015, 0x10, 4, .main, [⟨0, 1, .ro, 0x0⟩, ⟨1, 1, .ro, 0x0⟩, ⟨2, 1, .ro, 0x0⟩, ⟨3, 1, .ro, 0x0⟩, ⟨4, 1, .ro, 0x0⟩, ⟨5, 1, .ro, 0x0⟩, ⟨6, 16, .ro, 0x0⟩, ⟨22, 16, .ro, 0xFFFF⟩]⟩ -- FL_STAGE_STATUS, R259
  , ⟨0x2016, 0x10, 4, .main, [⟨0, 24, .ro, 0x0⟩, ⟨24, 24, .ro, 0x0⟩]⟩ -- FL_STAGE_WEAR, R258
  , ⟨0x2017, 0x10, 4, .main, [⟨0, 24, .ro, 0x0⟩, ⟨24, 24, .ro, 0x0⟩]⟩ -- FL_STAGE_BLOCKS, R258
  , ⟨0x2100, 0x40, 16, .main, [⟨0, 2, .rw, 0x1⟩, ⟨2, 1, .rwk, 0x0⟩, ⟨3, 16, .rw, 0x1388⟩]⟩ -- FL_CH_CFG, R260
  , ⟨0x2101, 0x40, 16, .main, [⟨0, 2, .ro, 0x0⟩, ⟨2, 1, .ro, 0x0⟩, ⟨3, 1, .ro, 0x0⟩, ⟨4, 7, .ro, 0x0⟩]⟩ -- FL_CH_STATUS, R260
  , ⟨0x2102, 0x40, 16, .main, [⟨0, 16, .ro, 0x0⟩, ⟨16, 16, .ro, 0x0⟩, ⟨32, 16, .ro, 0x0⟩]⟩ -- FL_CH_DECODE, R260
  , ⟨0x2103, 0x40, 16, .main, [⟨0, 16, .ro, 0x0⟩, ⟨16, 16, .ro, 0x0⟩, ⟨32, 8, .ro, 0x0⟩, ⟨40, 8, .ro, 0x0⟩]⟩ -- FL_CH_CMD, R260
  ]

/-- The registers of index group 9 (R659). -/
def regRowsG9 : List RegRow :=
  [ ⟨0x2100, 0x40, 16, .main, [⟨0, 2, .rw, 0x1⟩, ⟨2, 1, .rwk, 0x0⟩, ⟨3, 16, .rw, 0x1388⟩]⟩ -- FL_CH_CFG, R260
  , ⟨0x2101, 0x40, 16, .main, [⟨0, 2, .ro, 0x0⟩, ⟨2, 1, .ro, 0x0⟩, ⟨3, 1, .ro, 0x0⟩, ⟨4, 7, .ro, 0x0⟩]⟩ -- FL_CH_STATUS, R260
  , ⟨0x2102, 0x40, 16, .main, [⟨0, 16, .ro, 0x0⟩, ⟨16, 16, .ro, 0x0⟩, ⟨32, 16, .ro, 0x0⟩]⟩ -- FL_CH_DECODE, R260
  , ⟨0x2103, 0x40, 16, .main, [⟨0, 16, .ro, 0x0⟩, ⟨16, 16, .ro, 0x0⟩, ⟨32, 8, .ro, 0x0⟩, ⟨40, 8, .ro, 0x0⟩]⟩ -- FL_CH_CMD, R260
  ]

/-- The registers of index group 10 (R659). -/
def regRowsG10 : List RegRow :=
  [ ⟨0x2800, 0x1, 1, .main, [⟨0, 1, .rw, 0x0⟩]⟩ -- CIPH_CFG, R434
  , ⟨0x2801, 0x1, 1, .main, [⟨0, 16, .ro, 0x0⟩, ⟨16, 1, .ro, 0x0⟩, ⟨17, 1, .ro, 0x0⟩, ⟨18, 7, .ro, 0x0⟩, ⟨25, 4, .ro, 0x0⟩]⟩ -- CIPH_STATUS, R434
  , ⟨0x2802, 0x1, 1, .main, [⟨0, 24, .ro, 0x0⟩, ⟨24, 24, .ro, 0x0⟩]⟩ -- CIPH_TRNG, R434
  , ⟨0x2803, 0x1, 1, .main, [⟨0, 4, .rw, 0x0⟩, ⟨4, 1, .rw, 0x0⟩]⟩ -- CIPH_LANE_TEST, R434
  , ⟨0x2804, 0x1, 1, .main, [⟨0, 25, .ro, 0x0⟩, ⟨25, 16, .ro, 0x0⟩, ⟨41, 1, .ro, 0x0⟩, ⟨42, 1, .ro, 0x0⟩, ⟨43, 1, .ro, 0x0⟩]⟩ -- CIPH_ATTEST, R435
  , ⟨0x2805, 0x1, 1, .main, [⟨0, 12, .rw, 0x0⟩]⟩ -- CIPH_CERT_SEL, R435
  , ⟨0x2806, 0x1, 1, .main, [⟨0, 48, .ro, 0x0⟩]⟩ -- CIPH_CERT_DATA, R435
  , ⟨0x2808, 0x1, 4, .main, [⟨0, 16, .ro, 0x0⟩, ⟨16, 1, .ro, 0x0⟩, ⟨17, 1, .ro, 0x0⟩, ⟨18, 1, .ro, 0x0⟩]⟩ -- CIPH_KEY, R436
  , ⟨0x2810, 0x1, 16, .main, [⟨0, 32, .ro, 0x0⟩]⟩ -- CIPH_LANE_FAIL, R436
  ]

/-- The registers of index group 11 (R659). -/
def regRowsG11 : List RegRow :=
  [ ⟨0x2C00, 0x1, 1, .main, [⟨0, 12, .rwk, 0xC8⟩, ⟨12, 16, .rwk, 0x7D0⟩]⟩ -- STORE_CFG, R572
  , ⟨0x2C01, 0x1, 1, .main, [⟨0, 2, .ro, 0x0⟩, ⟨2, 13, .ro, 0x0⟩, ⟨15, 1, .ro, 0x0⟩, ⟨16, 1, .ro, 0x0⟩, ⟨17, 1, .ro, 0x0⟩, ⟨18, 14, .ro, 0x0⟩]⟩ -- STORE_STATUS, R572
  , ⟨0x2C02, 0x1, 1, .main, [⟨0, 24, .ro, 0x0⟩, ⟨24, 12, .ro, 0x0⟩, ⟨36, 12, .ro, 0x0⟩]⟩ -- STORE_ERASE_STATUS, R572
  , ⟨0x2C03, 0x1, 1, .main, [⟨0, 24, .ro, 0x0⟩, ⟨24, 24, .ro, 0x0⟩]⟩ -- STORE_ECC_COUNT, R572
  , ⟨0x2C04, 0x1, 1, .main, [⟨0, 13, .rw, 0x0⟩]⟩ -- STORE_SECTOR_SEL, R572
  , ⟨0x2C05, 0x1, 1, .main, [⟨0, 24, .ro, 0x0⟩, ⟨24, 12, .ro, 0x0⟩, ⟨36, 2, .ro, 0x0⟩, ⟨38, 1, .ro, 0x0⟩, ⟨39, 1, .ro, 0x0⟩, ⟨40, 8, .ro, 0x0⟩]⟩ -- STORE_SECTOR_STATUS, R572
  , ⟨0x2C06, 0x1, 1, .main, [⟨0, 32, .rwk, 0x0⟩]⟩ -- STORE_USER_PROT, R572
  , ⟨0x2C07, 0x1, 1, .main, [⟨0, 32, .ro, 0x0⟩, ⟨32, 11, .ro, 0x0⟩]⟩ -- STORE_DIR, R572
  ]

/-- The registers of index group 12 (R659). -/
def regRowsG12 : List RegRow :=
  [ ⟨0x3000, 0x1, 1, .alwaysOn, [⟨0, 11, .rwk, 0x352⟩, ⟨11, 11, .rwk, 0x398⟩, ⟨22, 5, .rwk, 0x5⟩, ⟨27, 16, .rwk, 0x667⟩, ⟨43, 1, .rwk, 0x1⟩]⟩ -- PWR_VIN_CFG, R480
  , ⟨0x3001, 0x1, 1, .alwaysOn, [⟨0, 1, .ro, 0x0⟩, ⟨1, 1, .ro, 0x0⟩, ⟨2, 1, .ro, 0x0⟩, ⟨3, 24, .ro, 0x0⟩]⟩ -- PWR_VIN_STATUS, R480
  , ⟨0x3002, 0x1, 1, .alwaysOn, [⟨0, 16, .ro, 0x0⟩, ⟨16, 16, .ro, 0x0⟩, ⟨32, 16, .ro, 0x0⟩]⟩ -- PWR_RAIL_STATUS, R480
  , ⟨0x3003, 0x1, 1, .alwaysOn, [⟨0, 16, .rw1c, 0x0⟩, ⟨16, 16, .rw1c, 0x0⟩, ⟨32, 4, .ro, 0x0⟩]⟩ -- PWR_RAIL_FAULT, R480
  , ⟨0x3004, 0x1, 1, .alwaysOn, [⟨0, 8, .rwk, 0x70⟩, ⟨8, 4, .rwk, 0x5⟩, ⟨12, 8, .ro, 0x0⟩, ⟨20, 1, .ro, 0x0⟩, ⟨21, 8, .ro, 0x0⟩]⟩ -- PWR_THERM, R481
  , ⟨0x3005, 0x1, 1, .alwaysOn, [⟨0, 12, .rwk, 0x290⟩, ⟨12, 20, .rwk, 0x40000⟩, ⟨32, 1, .ro, 0x0⟩, ⟨33, 1, .ro, 0x0⟩, ⟨34, 1, .ro, 0x0⟩]⟩ -- PWR_BTN, R481
  , ⟨0x3006, 0x1, 1, .alwaysOn, [⟨0, 4, .rwk, 0x3⟩, ⟨4, 16, .rwk, 0xCCD⟩, ⟨20, 16, .rwk, 0x148⟩, ⟨36, 4, .ro, 0x0⟩]⟩ -- PWR_RETRY, R481
  , ⟨0x3008, 0x1, 8, .alwaysOn, [⟨0, 16, .rwk, 0x400⟩, ⟨16, 16, .rwk, 0x0⟩, ⟨32, 16, .rwk, 0x0⟩]⟩ -- PWR_VMON_CFG, R480
  , ⟨0x3010, 0x1, 8, .alwaysOn, [⟨0, 16, .ro, 0x0⟩, ⟨16, 12, .ro, 0x0⟩, ⟨28, 1, .ro, 0x0⟩, ⟨29, 1, .ro, 0x0⟩]⟩ -- PWR_VMON_DATA, R480
  , ⟨0x3020, 0x1, 1, .alwaysOn, [⟨0, 16, .rwk, 0x199A⟩, ⟨16, 1, .rw, 0x0⟩]⟩ -- CUE_CFG, R482
  , ⟨0x3021, 0x1, 1, .alwaysOn, [⟨0, 3, .ro, 0x0⟩, ⟨3, 2, .ro, 0x2⟩, ⟨5, 8, .ro, 0x0⟩, ⟨13, 5, .ro, 0x0⟩, ⟨18, 1, .ro, 0x0⟩, ⟨19, 1, .ro, 0x0⟩, ⟨20, 2, .ro, 0x0⟩]⟩ -- CUE_STATUS, R482
  , ⟨0x3022, 0x1, 1, .alwaysOn, [⟨0, 3, .ro, 0x0⟩, ⟨3, 8, .ro, 0x0⟩, ⟨11, 4, .ro, 0x0⟩, ⟨15, 3, .ro, 0x0⟩, ⟨18, 30, .ro, 0x0⟩]⟩ -- CUE_LAST_FAIL, R482
  , ⟨0x3023, 0x1, 1, .alwaysOn, [⟨0, 11, .rw, 0x0⟩]⟩ -- CUE_MEM_SEL, R482
  , ⟨0x3024, 0x1, 1, .alwaysOn, [⟨0, 48, .ro, 0x0⟩]⟩ -- CUE_MEM_DATA, R482
  ]

/-- The registers of index group 13 (R659). -/
def regRowsG13 : List RegRow :=
  [ ⟨0x3400, 0x1, 1, .alwaysOn, [⟨0, 7, .rwk, 0x32⟩, ⟨7, 16, .rwk, 0x3800⟩, ⟨23, 9, .rwk, 0x10⟩, ⟨32, 1, .rw, 0x1⟩, ⟨33, 4, .rwk, 0x0⟩, ⟨37, 1, .rwk, 0x0⟩]⟩ -- GAUGE_CFG, R506
  , ⟨0x3401, 0x1, 1, .alwaysOn, [⟨0, 16, .rwk, 0x2710⟩, ⟨16, 7, .rwk, 0x5A⟩, ⟨23, 16, .rwk, 0x640⟩, ⟨39, 9, .rwk, 0x5⟩]⟩ -- GAUGE_PACK, R506
  , ⟨0x3402, 0x1, 1, .alwaysOn, [⟨0, 16, .rwk, 0x1F4⟩, ⟨16, 16, .rwk, 0x1388⟩, ⟨32, 12, .rwk, 0x3E8⟩]⟩ -- GAUGE_ERR, R506
  , ⟨0x3403, 0x1, 1, .alwaysOn, [⟨0, 16, .rwk, 0x1770⟩, ⟨16, 16, .rwk, 0x3390⟩]⟩ -- GAUGE_LIMIT, R506
  , ⟨0x3404, 0x1, 1, .alwaysOn, [⟨0, 1, .wo, 0x0⟩]⟩ -- GAUGE_CTRL, R506
  , ⟨0x3405, 0x1, 1, .alwaysOn, [⟨0, 1, .ro, 0x0⟩, ⟨1, 1, .ro, 0x0⟩, ⟨2, 2, .ro, 0x0⟩, ⟨4, 1, .ro, 0x1⟩, ⟨5, 1, .ro, 0x1⟩, ⟨6, 1, .rs, 0x0⟩, ⟨7, 1, .ro, 0x0⟩, ⟨8, 1, .ro, 0x0⟩, ⟨9, 1, .rs, 0x0⟩]⟩ -- GAUGE_STATUS, R507
  , ⟨0x3406, 0x1, 1, .alwaysOn, [⟨0, 32, .rs, 0x0⟩, ⟨32, 16, .rs, 0x0⟩]⟩ -- GAUGE_SOC, R507
  , ⟨0x3407, 0x1, 1, .alwaysOn, [⟨0, 32, .ro, 0x0⟩, ⟨32, 16, .ro, 0x0⟩]⟩ -- GAUGE_UNC, R507
  , ⟨0x3408, 0x1, 1, .alwaysOn, [⟨0, 32, .rs, 0x0⟩, ⟨32, 16, .rs, 0x0⟩]⟩ -- GAUGE_LEARNED, R507
  , ⟨0x3409, 0x1, 1, .alwaysOn, [⟨0, 16, .ro, 0x0⟩, ⟨16, 20, .ro, 0x0⟩]⟩ -- GAUGE_MEAS, R507
  , ⟨0x340A, 0x1, 1, .alwaysOn, [⟨0, 40, .rs, 0x0⟩, ⟨40, 1, .rs, 0x0⟩]⟩ -- GAUGE_FULL_TICK, R507
  , ⟨0x340B, 0x1, 1, .alwaysOn, [⟨0, 40, .rs, 0x0⟩, ⟨40, 1, .rs, 0x0⟩]⟩ -- GAUGE_EMPTY_TICK, R507
  , ⟨0x340C, 0x1, 1, .alwaysOn, [⟨0, 40, .rs, 0x0⟩, ⟨40, 1, .rs, 0x0⟩]⟩ -- GAUGE_LEARN_TICK, R507
  , ⟨0x340D, 0x1, 1, .alwaysOn, [⟨0, 2, .ro, 0x0⟩, ⟨2, 3, .ro, 0x0⟩, ⟨5, 10, .rwk, 0x1E0⟩]⟩ -- GAUGE_REH, R507
  ]

/-- The registers of index group 14 (R659). -/
def regRowsG14 : List RegRow :=
  [ ⟨0x3800, 0x1, 1, .alwaysOn, [⟨0, 1, .rwk, 0x0⟩, ⟨1, 1, .rwk, 0x0⟩, ⟨2, 10, .rw, 0x64⟩, ⟨12, 8, .rw, 0xA⟩]⟩ -- SB_CFG, R621
  , ⟨0x3801, 0x1, 1, .alwaysOn, [⟨0, 9, .ro, 0x0⟩, ⟨9, 3, .ro, 0x0⟩, ⟨12, 3, .ro, 0x0⟩, ⟨15, 3, .ro, 0x0⟩, ⟨18, 1, .ro, 0x0⟩, ⟨19, 1, .ro, 0x0⟩, ⟨20, 1, .ro, 0x0⟩]⟩ -- SB_STATUS, R621
  , ⟨0x3802, 0x1, 1, .alwaysOn, [⟨0, 8, .rw1c, 0x0⟩]⟩ -- SB_ALERT_STATUS, R621
  , ⟨0x3803, 0x1, 1, .alwaysOn, [⟨0, 8, .rw, 0x0⟩]⟩ -- SB_ALERT_MASK, R621
  , ⟨0x3804, 0x1, 1, .alwaysOn, [⟨0, 19, .rwk, 0x7FFFF⟩]⟩ -- SB_WRITE_EN, R621
  , ⟨0x3805, 0x1, 1, .alwaysOn, [⟨0, 12, .ro, 0x0⟩, ⟨12, 12, .ro, 0x0⟩, ⟨24, 12, .ro, 0x0⟩, ⟨36, 12, .ro, 0x0⟩]⟩ -- SB_COUNT, R621
  , ⟨0x3806, 0x1, 1, .alwaysOn, [⟨0, 16, .ro, 0x0⟩, ⟨16, 3, .ro, 0x0⟩, ⟨19, 9, .ro, 0x0⟩]⟩ -- SB_LAST, R621
  , ⟨0x3807, 0x1, 1, .alwaysOn, [⟨0, 8, .ro, 0x0⟩, ⟨8, 2, .ro, 0x0⟩, ⟨10, 1, .rw1c, 0x0⟩]⟩ -- SB_IBR, R621
  , ⟨0x3880, 0x1, 1, .alwaysOn, [⟨0, 1, .rwk, 0x0⟩, ⟨1, 1, .rwk, 0x0⟩, ⟨2, 6, .rwk, 0x0⟩, ⟨8, 16, .rwk, 0x21⟩, ⟨24, 2, .rwk, 0x3⟩, ⟨26, 2, .rwk, 0x2⟩, ⟨28, 16, .rwk, 0x8000⟩]⟩ -- LINK_CFG, R483
  , ⟨0x3881, 0x1, 1, .alwaysOn, [⟨0, 9, .rwk, 0x0⟩, ⟨9, 9, .rwk, 0x1FF⟩, ⟨18, 16, .rwk, 0x21⟩, ⟨34, 14, .rwk, 0x1C20⟩]⟩ -- LINK_POLL, R483
  , ⟨0x3882, 0x1, 1, .alwaysOn, [⟨0, 1, .ro, 0x0⟩, ⟨1, 1, .rw1c, 0x0⟩, ⟨2, 1, .ro, 0x0⟩, ⟨3, 1, .ro, 0x0⟩, ⟨4, 9, .ro, 0x0⟩, ⟨13, 8, .ro, 0x0⟩, ⟨21, 4, .ro, 0x0⟩, ⟨25, 9, .ro, 0x0⟩]⟩ -- LINK_STATUS, R483
  , ⟨0x3883, 0x1, 1, .alwaysOn, [⟨0, 16, .ro, 0x0⟩, ⟨16, 16, .ro, 0x0⟩, ⟨32, 16, .ro, 0x0⟩]⟩ -- LINK_COUNT, R483
  , ⟨0x3884, 0x1, 1, .alwaysOn, [⟨0, 48, .ro, 0x0⟩]⟩ -- LINK_TIME, R483
  , ⟨0x3885, 0x1, 1, .alwaysOn, [⟨0, 9, .rw, 0x0⟩, ⟨9, 1, .rw, 0x0⟩, ⟨10, 8, .rw, 0x0⟩, ⟨18, 16, .rw, 0x0⟩, ⟨34, 1, .wo, 0x0⟩, ⟨35, 1, .ro, 0x0⟩, ⟨36, 2, .ro, 0x0⟩, ⟨38, 8, .ro, 0x0⟩]⟩ -- LINK_CMD, R483
  ]

/-- The registers of index group 15 (R659). -/
def regRowsG15 : List RegRow :=
  [ ⟨0x3C00, 0x1, 1, .alwaysOn, [⟨0, 8, .rwk, 0x8⟩, ⟨8, 4, .rwk, 0x2⟩, ⟨12, 16, .rwk, 0x8000⟩, ⟨28, 2, .rw, 0x1⟩, ⟨30, 6, .rw, 0x2⟩]⟩ -- PBOOK_CFG, R643
  , ⟨0x3C01, 0x1, 1, .alwaysOn, [⟨0, 32, .rs, 0x1⟩, ⟨32, 9, .ro, 0x0⟩, ⟨41, 1, .rs, 0x1⟩]⟩ -- PBOOK_STATUS, R643
  , ⟨0x3C02, 0x4, 2, .alwaysOn, [⟨0, 32, .rw, 0x0⟩, ⟨32, 1, .rw, 0x0⟩, ⟨33, 1, .ro, 0x1⟩]⟩ -- PBOOK_CURSOR, R643
  , ⟨0x3C03, 0x1, 3, .alwaysOn, [⟨0, 48, .ro, 0x0⟩]⟩ -- PBOOK_WIN, R643
  , ⟨0x3C07, 0x1, 3, .alwaysOn, [⟨0, 48, .ro, 0x0⟩]⟩ -- PBOOK_WIN, R643
  , ⟨0x3C0A, 0x1, 1, .alwaysOn, [⟨0, 32, .rw, 0x0⟩, ⟨32, 2, .rw, 0x0⟩, ⟨34, 1, .wo, 0x0⟩, ⟨35, 1, .ro, 0x0⟩]⟩ -- PBOOK_CLEAR, R643
  , ⟨0x3C0B, 0x1, 1, .alwaysOn, [⟨0, 32, .ro, 0x0⟩, ⟨32, 14, .ro, 0x0⟩, ⟨46, 1, .ro, 0x0⟩]⟩ -- PBOOK_STORE, R643
  , ⟨0x3C40, 0x1, 1, .main, [⟨0, 1, .rw, 0x0⟩, ⟨1, 1, .wo, 0x0⟩, ⟨2, 1, .rw, 0x0⟩]⟩ -- PMON_CTRL, R643
  , ⟨0x3C41, 0x1, 1, .main, [⟨0, 32, .rw1c, 0x0⟩]⟩ -- PMON_STATUS, R643
  , ⟨0x3C60, 0x1, 32, .main, [⟨0, 8, .rw, 0x0⟩, ⟨8, 5, .rw, 0x0⟩, ⟨13, 1, .rw, 0x0⟩, ⟨14, 2, .rw, 0x0⟩, ⟨16, 1, .rw, 0x0⟩]⟩ -- PMON_SEL, R643
  , ⟨0x3C80, 0x1, 32, .main, [⟨0, 48, .rw, 0x0⟩]⟩ -- PMON_CNT, R643
  ]

/-- The registers of index group 16 (R659). -/
def regRowsG16 : List RegRow :=
  [ ⟨0x4000, 0x1, 1, .main, [⟨0, 2, .rw, 0x0⟩, ⟨2, 1, .rw, 0x0⟩, ⟨3, 1, .wo, 0x0⟩, ⟨4, 1, .ro, 0x0⟩, ⟨5, 2, .ro, 0x0⟩]⟩ -- STAGE_CTRL, R539
  , ⟨0x4001, 0x1, 1, .main, [⟨0, 2, .ro, 0x0⟩, ⟨2, 3, .ro, 0x0⟩, ⟨5, 4, .ro, 0x0⟩, ⟨9, 16, .ro, 0x0⟩, ⟨25, 1, .wo, 0x0⟩]⟩ -- STAGE_XBAR_FAULT, R539
  , ⟨0x4010, 0x10, 4, .main, [⟨0, 4, .ro, 0x0⟩, ⟨4, 16, .ro, 0x0⟩, ⟨20, 1, .ro, 0x0⟩, ⟨21, 2, .ro, 0x0⟩, ⟨23, 1, .ro, 0x0⟩, ⟨24, 2, .ro, 0x0⟩, ⟨26, 1, .ro, 0x0⟩]⟩ -- STAGE_BIND, R539
  , ⟨0x4011, 0x10, 4, .main, [⟨0, 24, .ro, 0x0⟩, ⟨24, 24, .ro, 0x0⟩]⟩ -- STAGE_SIZE, R539
  , ⟨0x4012, 0x10, 4, .main, [⟨0, 10, .ro, 0x0⟩, ⟨10, 14, .ro, 0x0⟩, ⟨24, 16, .ro, 0x0⟩]⟩ -- STAGE_BACK, R539
  , ⟨0x4013, 0x10, 4, .main, [⟨0, 4, .ro, 0x0⟩, ⟨4, 3, .ro, 0x0⟩, ⟨7, 1, .ro, 0x0⟩, ⟨8, 15, .ro, 0x0⟩]⟩ -- STAGE_DRESS, R539
  , ⟨0x4080, 0x1, 1, .main, [⟨0, 1, .ro, 0x0⟩, ⟨1, 1, .ro, 0x0⟩, ⟨2, 1, .ro, 0x0⟩, ⟨3, 4, .ro, 0x0⟩, ⟨7, 1, .ro, 0x0⟩, ⟨8, 1, .ro, 0x0⟩, ⟨9, 4, .ro, 0x0⟩, ⟨13, 32, .ro, 0x0⟩]⟩ -- IMG_STATUS, R540
  , ⟨0x4081, 0x1, 1, .main, [⟨0, 7, .ro, 0x0⟩, ⟨7, 7, .ro, 0x0⟩, ⟨14, 7, .ro, 0x0⟩]⟩ -- IMG_SVN, R540
  , ⟨0x4082, 0x1, 1, .main, [⟨0, 3, .rw, 0x0⟩]⟩ -- IMG_HASH_SEL, R540
  , ⟨0x4083, 0x1, 1, .main, [⟨0, 48, .ro, 0x0⟩]⟩ -- IMG_HASH_DATA, R540
  , ⟨0x4084, 0x1, 1, .main, [⟨0, 1, .wo, 0x0⟩, ⟨1, 1, .wo, 0x0⟩, ⟨2, 1, .wo, 0x0⟩, ⟨3, 1, .ro, 0x0⟩, ⟨4, 18, .ro, 0x0⟩, ⟨22, 4, .ro, 0x0⟩]⟩ -- IMG_LOAD_CTRL, R540
  , ⟨0x4085, 0x1, 1, .main, [⟨0, 48, .wo, 0x0⟩]⟩ -- IMG_LOAD_DATA, R540
  ]

/-- The registers of index group 17 (R659). -/
def regRowsG17 : List RegRow :=
  [ ⟨0x4400, 0x1, 1, .main, [⟨0, 1, .ro, 0x0⟩, ⟨1, 1, .ro, 0x0⟩, ⟨2, 2, .ro, 0x0⟩, ⟨4, 1, .ro, 0x0⟩, ⟨5, 7, .ro, 0x0⟩, ⟨12, 32, .ro, 0x0⟩]⟩ -- FW_STATUS, R598
  , ⟨0x4401, 0x1, 1, .main, [⟨0, 2, .ro, 0x0⟩, ⟨2, 7, .ro, 0x0⟩, ⟨9, 32, .ro, 0x0⟩, ⟨41, 7, .ro, 0x0⟩]⟩ -- FW_SLOT_A, R598
  , ⟨0x4402, 0x1, 1, .main, [⟨0, 2, .ro, 0x0⟩, ⟨2, 7, .ro, 0x0⟩, ⟨9, 32, .ro, 0x0⟩, ⟨41, 7, .ro, 0x0⟩]⟩ -- FW_SLOT_B, R598
  , ⟨0x4403, 0x1, 1, .main, [⟨0, 1, .wo, 0x0⟩, ⟨1, 1, .rw, 0x0⟩, ⟨2, 1, .rw, 0x0⟩, ⟨3, 1, .wo, 0x0⟩, ⟨4, 1, .ro, 0x0⟩, ⟨5, 4, .ro, 0x0⟩]⟩ -- FW_CTRL, R598
  , ⟨0x4404, 0x1, 1, .main, [⟨0, 2, .rs, 0x0⟩, ⟨2, 1, .rs, 0x0⟩, ⟨3, 8, .rs, 0x0⟩, ⟨11, 16, .ro, 0x0⟩]⟩ -- FW_BOOT, R598
  , ⟨0x4405, 0x1, 1, .main, [⟨0, 16, .rw, 0x1F4⟩, ⟨16, 3, .ro, 0x0⟩, ⟨19, 3, .ro, 0x0⟩, ⟨22, 10, .ro, 0x0⟩, ⟨32, 3, .ro, 0x0⟩, ⟨35, 3, .ro, 0x5⟩]⟩ -- FW_HANDOVER, R598
  , ⟨0x4406, 0x1, 1, .main, [⟨0, 7, .ro, 0x0⟩, ⟨7, 7, .ro, 0x0⟩, ⟨14, 1, .ro, 0x0⟩]⟩ -- FW_FUSE, R598
  , ⟨0x4407, 0x1, 1, .main, [⟨0, 1, .wo, 0x0⟩, ⟨1, 1, .wo, 0x0⟩, ⟨2, 1, .wo, 0x0⟩, ⟨3, 1, .ro, 0x0⟩, ⟨4, 21, .ro, 0x0⟩, ⟨25, 4, .ro, 0x0⟩]⟩ -- FW_LOAD_CTRL, R598
  , ⟨0x4408, 0x1, 1, .main, [⟨0, 48, .wo, 0x0⟩]⟩ -- FW_LOAD_DATA, R598
  , ⟨0x4409, 0x1, 1, .main, [⟨0, 1, .ro, 0x0⟩, ⟨1, 2, .ro, 0x0⟩, ⟨3, 8, .ro, 0x0⟩]⟩ -- FW_DEBUG, R598
  ]

/-- The registers of index group 18 (R659). -/
def regRowsG18 : List RegRow :=
  [ ⟨0x4800, 0x1, 1, .alwaysOn, [⟨0, 1, .rwk, 0x0⟩, ⟨1, 5, .rwk, 0xA⟩]⟩ -- CPD_CFG, R680
  , ⟨0x4801, 0x1, 1, .alwaysOn, [⟨0, 1, .ro, 0x1⟩, ⟨1, 1, .rw1c, 0x0⟩, ⟨2, 16, .rs, 0x0⟩]⟩ -- CPD_XTAL, R680
  , ⟨0x4802, 0x1, 1, .alwaysOn, [⟨0, 48, .ro, 0x3⟩]⟩ -- CPD_CLK_ON0, R680
  , ⟨0x4803, 0x1, 1, .alwaysOn, [⟨0, 16, .ro, 0x0⟩]⟩ -- CPD_CLK_ON1, R680
  , ⟨0x4804, 0x1, 1, .alwaysOn, [⟨0, 48, .ro, 0x0⟩]⟩ -- CPD_PD_ON0, R680
  , ⟨0x4805, 0x1, 1, .alwaysOn, [⟨0, 8, .ro, 0x0⟩, ⟨8, 6, .ro, 0x0⟩]⟩ -- CPD_PD_ON1, R680
  , ⟨0x4806, 0x1, 1, .main, [⟨0, 1, .ro, 0x0⟩, ⟨1, 1, .ro, 0x0⟩, ⟨2, 1, .ro, 0x0⟩, ⟨3, 2, .ro, 0x0⟩, ⟨5, 8, .ro, 0x0⟩]⟩ -- CPD_PLL, R680
  , ⟨0x4807, 0x1, 1, .main, [⟨0, 20, .ro, 0x0⟩, ⟨20, 20, .ro, 0x0⟩, ⟨40, 1, .wo, 0x0⟩]⟩ -- CPD_POWER, R680
  ]

/-- The rows of an index group; a group without registers has none (R646). -/
def regRowsOf (g : Nat) : List RegRow :=
  match g with
  | 0 => regRowsG0
  | 1 => regRowsG1
  | 2 => regRowsG2
  | 3 => regRowsG3
  | 4 => regRowsG4
  | 5 => regRowsG5
  | 6 => regRowsG6
  | 7 => regRowsG7
  | 8 => regRowsG8
  | 9 => regRowsG9
  | 10 => regRowsG10
  | 11 => regRowsG11
  | 12 => regRowsG12
  | 13 => regRowsG13
  | 14 => regRowsG14
  | 15 => regRowsG15
  | 16 => regRowsG16
  | 17 => regRowsG17
  | 18 => regRowsG18
  | _ => []

/-- A row holds the index. -/
def rowHolds (r : RegRow) (i : Nat) : Bool :=
  decide (r.first ≤ i) && ((i - r.first) % r.step == 0) && decide ((i - r.first) / r.step < r.count)

/-- The row of a register index, if the index is allocated (R646). -/
def regRow? (i : Nat) : Option RegRow := (regRowsOf (i / 1024)).find? (fun r => rowHolds r i)

/-- The reset value of a row: every field at its reset, reserved bits zero (R14, R16). -/
def rowReset (r : RegRow) : Nat := r.fields.foldl (fun a f => a + (f.reset % 2 ^ f.width) * 2 ^ f.lo) 0

/-- The value a register holds at reset (R16); the serial number comes from the fuses (R657), a reserved index reads zero (R646). -/
def regReset (i : Nat) : Word :=
  match i with
  | 0x0002 => Config.serial.extractLsb' 0 48
  | 0x0003 => Config.serial.extractLsb' 48 48
  | 0x0004 => (Config.serial.extractLsb' 96 32).setWidth 48
  | _ => match regRow? i with
    | some r => BitVec.ofNat 48 (rowReset r)
    | none => 0#48

end Sys2Proof.Machine
end

