-- ==== Sys2Proof/Machine/State.lean ====
section
/-! DEFINITION. The state of the controller as plain data: every register, queue, buffer, counter, mode and memory the spec gives it, the commands waiting, and the model's own bookkeeping (free-value counter, messages sent, events of the running command). -/

namespace Sys2Proof.Machine

/-- The device modes (R39). -/
inductive Mode where
  | dark | standby | service | save | hold | restore
  deriving DecidableEq, Repr

/-- The stage states (R47). -/
inductive StageState where
  | unbound | dressing | live | restoring | sealed
  deriving DecidableEq, Repr

/-- The playbills (R59). -/
inductive Playbill where
  | repertory | fullHouse | soloLatency | soloHoldup | soloEndurance | soloPower
  deriving DecidableEq, Repr

/-- A playbill with its FX2408 compatibility field (R61). -/
structure PlaybillReq where
  bill : Playbill
  compat : Bool
  deriving DecidableEq, Repr

/-- The clock edge on which an apply request was accepted, with what waited and what was recorded before it: a gate instant on that edge refuses the request (R64). -/
structure ApplyMark where
  edge : Nat
  applying : Option PlaybillReq
  recorded : Option PlaybillReq
  deriving DecidableEq, Repr

/-- Why a power-up series runs: the causes 0x00 to 0x03 of R70. -/
structure PowerUpRun where
  cause : Nat
  /-- whole-sequence retries used so far (R459) -/
  tries : Nat
  /-- the tick at which a retry backoff window ends, while one runs (R459) -/
  backoffEnd : Option Nat
  deriving DecidableEq, Repr

/-- Device mode and what hangs on it (chapter 02). -/
structure ModeState where
  mode : Mode
  stages : Quad StageState
  /-- R45 -/
  recovery : Bool
  /-- recovery was entered because of RECOVERY_N (R72, event 0x00A) -/
  recoveryPin : Bool
  /-- R46 -/
  intermission : Bool
  /-- stages sealed or left Sealed by the save that the intermission has still to bring back (R46) -/
  interWait : Quad Bool
  /-- playbill in effect (R59, R66) -/
  playbill : Playbill
  compat : Bool
  /-- the request recorded in the always-on domain (R63) -/
  recorded : Option PlaybillReq
  /-- an accepted request waiting for the next recompute period (R63) -/
  applying : Option PlaybillReq
  /-- the newest accepted request's edge and what it replaced (R64); the model's own mark -/
  applyMark : Option ApplyMark
  /-- the hold deadline latched at entry to Hold, in ticks; entry tick (R68, R56) -/
  holdLen : Nat
  holdEntry : Nat
  powerUp : Option PowerUpRun
  /-- the house core still boots after a Dark to Standby transition (R579) -/
  booting : Bool
  /-- playbills the image in effect allows, bit per playbill (R527) -/
  allowed : BitVec 6
  /-- MR_N was asserted in Save or Hold and acts when the mode ends (R44) -/
  mrLatched : Bool
  /-- cores and fabric are held in reset by MR_N (R462) -/
  mrReset : Bool
  deriving DecidableEq, Repr

/-- One prompt-book record: three words (R623). -/
structure Rec where
  w0 : Word
  w1 : Word
  w2 : Word
  deriving DecidableEq, Repr

/-- An event before the recorder accepts it (R623). -/
structure Ev where
  code : Nat
  sev : Nat
  stage : Nat
  arg : Nat
  deriving DecidableEq, Repr

/-- The prompt book (chapter 18). -/
structure PBook where
  /-- the ring by slot (R627) -/
  ring : NMap Rec
  /-- the end tick of the rate-limit window of the counts below; 0 before the first record (R53, R632) -/
  window : Nat
  counts : NMap Nat
  /-- suppressed in that window: number, codes, highest severity (R633) -/
  suppressed : Nat
  supCodes : List Nat
  supSev : Nat
  /-- script-store area: sector (0 to 15 of the area) and position of the next free record (R629) -/
  areaSector : Nat
  areaPos : Nat
  /-- sequence of the newest record copied, and of the newest the copy is done with: copied, or counted lost after its second attempt (R629, R631) -/
  lastCopied : Nat
  copyDone : Nat
  /-- eligible records overwritten before they were copied, not yet reported (R630) -/
  lost : Nat
  /-- a record whose first copy attempt failed its read-back (R629) -/
  retrying : Bool
  /-- the area part of a clear that waits for the script store: its bound (R636) -/
  clearPending : Option Nat
  /-- the offset last logged by 0xD03, as a 32-bit two's complement value (R637) -/
  offsetLogged : Option (BitVec 32)
  /-- no sector of the area can be written (R570) -/
  unusable : Bool
  deriving DecidableEq, Repr

/-- A queued ROM routine call (R551). -/
inductive StoreCall where
  | read (who : StoreCaller) (addr n : Nat)
  | program (who : StoreCaller) (addr : Nat) (words : List Word)
  | erase (who : StoreCaller) (sector : Nat)
  deriving DecidableEq, Repr

/-- The erase in progress (R558). -/
structure EraseOp where
  who : StoreCaller
  sector : Nat
  /-- the count the erase will record (R558 step 1) -/
  count : Nat
  pulses : Nat
  suspended : Bool
  /-- event 0xB06 was logged for it (R563) -/
  starved : Bool
  /-- time at which the current pulse began -/
  pulseStart : Nat
  /-- pulse time counted so far, discarded pulses included (R563) -/
  used : Nat
  deriving DecidableEq, Repr

/-- The program in progress: what is left of it, line by line (R553). -/
structure ProgOp where
  who : StoreCaller
  addr : Nat
  words : List Word
  /-- words of the whole call -/
  total : Nat
  deriving DecidableEq, Repr

/-- A slot whose valid mark is still to be written: the area's tag, the mark and its address, when the writing ends, the argument of the event that reports it cut off, and the mailbox that waits for it (R361, R394, R549). -/
structure SlotWrite where
  tag : Nat
  mark : Nat
  word : Word
  done : Nat
  arg : Nat
  who : Option (Nat × Nat)
  deriving DecidableEq, Repr

/-- The script store (chapter 15). -/
structure Store where
  /-- the 56 cells of each word by word address; a word not listed is erased, all ones (R542, R543) -/
  nor : NMap (BitVec 56)
  /-- sectors whose cells were erased or programmed since shipment: a word of any other sector of firmware slot A or the certificate reads as shipped (R681) -/
  touched : List Nat
  /-- protection bit of each group (R564) -/
  prot : BitVec 128
  erase : Option EraseOp
  prog : Option ProgOp
  /-- calls waiting, the house role's ahead of the others (R551) -/
  calls : List StoreCall
  /-- active directory: false A, true B; its use sequence and entries used (R560) -/
  dirB : Bool
  dirSeq : Nat
  dirUsed : Nat
  dirValid : Bool
  /-- open intents, as (sector, count) (R559) -/
  intents : List (Nat × Nat)
  /-- failed sectors (R558) -/
  failed : List Nat
  /-- R565 -/
  pwdOpen : Bool
  refusals : Nat
  /-- model's own: slots whose writing has not ended in time, which a loss of power leaves without a valid mark (R549; log entry 52) -/
  writing : List SlotWrite
  /-- slots cut off by a loss of power and not yet reported: area tag and the event's argument (R361, R394) -/
  cuts : List (Nat × Nat)
  deriving DecidableEq, Repr

/-- The kinds of a house-engine or hash-unit call (R413). -/
inductive CallKind where
  | gcmEncrypt | gcmDecrypt | gmac | sha256
  deriving DecidableEq, Repr

/-- The running state of a call: what R413 puts into a context. -/
structure HouseCtx where
  kind : CallKind
  key : Nat
  iv : List Byte
  counter : Nat
  ghash : BitVec 128
  aadLen : Nat
  textLen : Nat
  /-- false: additional data; true: text -/
  inText : Bool
  /-- the chaining state of a digest, and the input that does not yet fill a block (kind 3) -/
  digest : List (BitVec 32)
  tail : List Byte
  deriving DecidableEq, Repr

/-- A call of the house engine (R408 to R411). -/
structure HouseCall where
  core : Nat
  slot : Nat
  ctx : HouseCtx
  /-- additional data and text still to process -/
  aad : List Byte
  text : List Byte
  tag : List Byte
  /-- decrypt: address of the quarantine region (R410) -/
  region : Nat
  out : List Byte
  deriving DecidableEq, Repr

/-- A quarantined region: core, address, length (R410). -/
structure Quarantine where
  core : Nat
  base : Nat
  len : Nat
  /-- the tag did not match: the slot of the call, which ends once the last zero write is done -/
  ending : Option Nat
  deriving DecidableEq, Repr

/-- A context slot (R412 to R415). -/
structure CtxSlot where
  saveCount : Nat
  ctx : Option HouseCtx
  deriving DecidableEq, Repr

/-- A context saved by the engine at a gate instant into the house role's retained memory (R416). -/
structure SavedCall where
  call : HouseCall
  wrapped : List Byte
  deriving DecidableEq, Repr

/-- Cipher lanes, house engine, keys, random numbers, attestation (chapter 11). -/
structure Cipher where
  /-- key table by handle (R418) -/
  keys : NMap (BitVec 256)
  slots : NMap CtxSlot
  calls : List HouseCall
  /-- the stage core served last, and whether the next unit is the house core's (R411) -/
  lastCore : Nat
  houseNext : Bool
  quarantine : List Quarantine
  saved : List SavedCall
  /-- memory of the cores that quarantined plaintext is written to: (core, address) keys -/
  coreMem : NMap Byte
  /-- R425 -/
  drbgReqs : Nat
  drbgFailed : Bool
  bootNonce : Option (BitVec 32)
  /-- an armed tag test: lane (R407) -/
  laneTest : Option Nat
  /-- lanes whose self-test of this transition from Dark to Standby has not run yet (R406) -/
  laneDue : BitVec 16
  /-- attestation: the current block is reserved; next leaf; tree held in area A or B and whether the next is stored (R427 to R430) -/
  leafNext : Nat
  leafBlock : Option Nat
  treeNow : Nat
  treeReady : Bool
  exhausted : Bool
  blocksUsed : Nat
  deriving DecidableEq, Repr

/-- What a stored DRAM line is, as its check bytes show it (R307 to R310). The error classes say what an injection stored (R317). -/
inductive LineCond where
  | clean | wrong (errs : LineErrs) | poison (errs : LineErrs)
  deriving DecidableEq, Repr

/-- The four outcomes of a line read (R309). -/
inductive ReadOutcome where
  | clean | corrected | poisoned | uncorrectable
  deriving DecidableEq, Repr

/-- A stored DRAM line. -/
structure LineCell where
  data : BitVec 512
  cond : LineCond
  deriving DecidableEq, Repr

/-- What an unlisted line of a stage holds: whatever power-up left (by epoch), zeros, or zeros from a line on (backstage cleared, R530). -/
inductive LineFill where
  | powerUp (epoch : Nat) | zero | above (epoch line : Nat)
  deriving DecidableEq, Repr

/-- What a DRAM request is for: its requester (R266, R311). -/
inductive DramUse where
  | hostRead (port tag : Nat)
  | hostWrite
  | partialRead (mask : BitVec 64) (data : BitVec 512) (poison : Bool)
  | trickle (frame : Nat)
  | flush (frame : Nat)
  | restoreWrite (frame : Nat)
  | touchWrite (frame : Nat)
  | mapWrite
  | ledgerFill (lline : Nat)
  | ledgerEvict (lline : Nat)
  | bitmapFill (bline : Nat)
  | strikeMap
  | heat
  | scrub
  | writeBack
  | poisonWrite
  | remapCopy (entry : Nat)
  | scan
  | backstage
  deriving DecidableEq, Repr

/-- A DRAM request (R266 to R279). The two requests of a read and write of one line carry the same pair number, 0 for none. -/
structure DramReq where
  id : Nat
  port : Nat
  cls : Nat
  write : Bool
  stage : Stage
  /-- DPA line number after the remap lookup (R331) and before it -/
  line : Nat
  origLine : Nat
  data : BitVec 512
  poison : Bool
  use : DramUse
  /-- time of queue entry (R267) -/
  age : Nat
  /-- order of queue entry (R276) -/
  seq : Nat
  promoted : Bool
  /-- the real-time ports whose panic counts for it: its own and those of the requests that wait for it (R278) -/
  panicPorts : List Nat
  idleOnly : Bool
  pair : Nat
  /-- a pair's write: its read has completed and says what to store (R279) -/
  ready : Bool
  /-- the age warning 0x504 was logged -/
  warned : Bool
  /-- a read: the line as it stood when the column command was issued -/
  got : Option LineCell
  /-- a pair's write whose read has passed the remap lookup: it goes where its read went (R279, R331) -/
  passed : Bool
  deriving DecidableEq, Repr

/-- One DRAM bank: open row, predictor, activation table (R280, R323, R351). -/
structure Bank where
  openRow : Option Nat
  /-- row of the most recent column access, and whether the predictor closed it (R280) -/
  lastRow : Option Nat
  closedByPred : Bool
  /-- activated and not yet accessed -/
  justActivated : Bool
  pred : Nat
  lastUse : Nat
  /-- activation table: 32 entries (row, count) and the spillover counter (R323) -/
  table : List (Nat × Nat)
  spill : Nat
  /-- rolling activate count (R351) -/
  raa : Nat
  deriving DecidableEq, Repr

/-- One package rank of a subchannel (R282, R287, R292, R353, R363). -/
structure Rank where
  owed : Int
  /-- time of the last refresh interval's end (R282) -/
  refAt : Nat
  /-- same-bank refreshes of the set in progress (R283) -/
  setDone : Nat
  powerDown : Bool
  lastCmd : Nat
  highTemp : Bool
  normalReads : Nat
  /-- DQS oscillator count of the last update and total correction in taps (R363) -/
  oscCount : Nat
  drift : Int
  /-- its total correction has passed RETRAIN_TAPS since it trained (R364) -/
  overLimit : Bool
  deriving DecidableEq, Repr

/-- The DRAM coordinates of a line (R264). -/
structure Coord where
  ch : DramCh
  sub : Bool
  local_ : Nat
  prank : Nat
  lrank : Nat
  bg : Nat
  bank : Nat
  row : Nat
  col : Nat
  deriving DecidableEq, Repr

/-- Self-refresh of a subchannel (R288 to R292). -/
inductive SrState where
  | awake
  | entering
  | committed (since : Nat) (idle : Bool)
  deriving DecidableEq, Repr

/-- A command due at level 1 of R268. -/
inductive DueCmd where
  | forcedRefresh (rank : Nat)
  /-- a row's mitigation, and how many of its neighbours have been refreshed (R325) -/
  | mitigate (rank bank row step : Nat)
  | rfmBank (rank bank : Nat)
  | raaRfm (rank bank : Nat)
  | exitRefresh (rank : Nat)
  deriving DecidableEq, Repr

/-- One subchannel's scheduler (R267 to R294). -/
structure SubCh where
  rq : List DramReq
  wq : List DramReq
  /-- requests waiting at the ports for an entry, in arrival order (R267, R289) -/
  waiting : List DramReq
  drain : Bool
  banks : NMap Bank
  rank0 : Rank
  rank1 : Rank
  due : List DueCmd
  /-- time of the last request of class 0 to 3 (R288) -/
  idleSince : Nat
  sr : SrState
  /-- requests issued as reads whose data has not yet returned -/
  inFlight : List DramReq
  /-- a pair whose read was issued and whose write was not (R279) -/
  pairOpen : List (Nat × Nat)
  /-- the last scrub read has not been issued (R320) -/
  scrubQueued : Bool
  /-- the interval of the last scrub ended while its read waited (R320) -/
  scrubOwed : Bool
  deriving DecidableEq, Repr

/-- One DRAM channel (chapters 07 to 09). -/
structure Channel where
  subA : SubCh
  subB : SubCh
  /-- buffer levels in KiB of ports 0 and 1 (R272) -/
  level0 : Nat
  level1 : Nat
  panic0 : Bool
  panic1 : Bool
  /-- time at which a panic began, and the time in panic before it, for PANIC_US (R305) -/
  panicSince : Nat
  panicTime : Nat
  /-- error records, oldest first, at most 16; the newest was overwritten (R340) -/
  captures : List Word
  captureLost : Bool
  /-- the watch list: lines whose write-back wrote data, newest first, at most 32 (R328) -/
  watch : List Nat
  /-- corrected outcomes since the last General Media Event record (R337) -/
  ceSince : Nat
  /-- uncorrectable outcomes of the scrub pass, and its start tick (R322, R341) -/
  scrubUncorr : Nat
  scrubStart : Nat
  /-- the stage whose pass it is, kept with the position (R322) -/
  scrubFor : Option Stage
  /-- opening of the current refresh window (R324) -/
  window : Nat
  /-- a training pattern operation runs (R357) -/
  training : Bool
  /-- directed refresh management treated as off: the devices support no such radius (R352) -/
  drfmOff : Bool
  /-- the blast radius programmed into the devices, 0 for none (R352) -/
  blast : Nat
  deriving DecidableEq, Repr

/-- One remap entry (R327 to R334, R344). -/
structure RemapEntry where
  line : Nat
  stage : Stage
  spare : Nat
  /-- 0 free, 1 copying, 2 valid, 3 invalid -/
  state : Nat
  parityOk : Bool
  /-- requests that wait at the lookup while the copy runs (R330) -/
  waiting : List DramReq
  deriving DecidableEq, Repr

/-- DRAM contents, remap table, PHY (chapters 08, 09). -/
structure Dram where
  ch : Quad Channel
  /-- DC_MAP of each channel as Dressing applied it: what is mapped, whatever the register is written to (R265, R303) -/
  maps : Quad Word
  /-- stored lines by stage × 2^36 + line; others as `fill` says -/
  lines : NMap LineCell
  fill : Quad LineFill
  epoch : Nat
  remap : NMap RemapEntry
  /-- spare lines that failed and are never used again, as stage × 512 + index (R332) -/
  burned : List Nat
  nextId : Nat
  nextPair : Nat
  /-- delays in effect and staged, keyed by channel, kind, subchannel, rank and lane (R354, R355) -/
  delays : NMap Nat
  staged : NMap Nat
  /-- Vref and DFE settings of the DRAM devices and settings of the registering clock drivers, by channel × 4,096 + item; the spec numbers no items (R346, R359; DESIGN CHOICE, log entry 152) -/
  settings : NMap Nat
  /-- the timing section of the image in effect (R348) -/
  timing : List Word
  i3cBusy : Bool
  /-- highest DRAM sensor temperature published (R367) -/
  dramTemp : Nat
  deriving DecidableEq, Repr

/-! Backup flash (chapter 06). -/

/-- A codeword as the NAND holds it, without its LDPC parity, whose code the spec does not give (R226). -/
structure Codeword where
  body : List Byte
  header : List Byte
  tag : List Byte
  deriving DecidableEq, Repr

/-- A programmed page: its four slots (an empty slot is filled with 0xA5, R216), and the slots an injection made uncorrectable (R231). -/
structure NandPage where
  slots : List (Option Codeword)
  dead : List Nat
  /-- bits that an injection flipped, by slot (R231) -/
  flips : NMap Nat
  deriving DecidableEq, Repr

/-- What the controller knows of a block (R241, R250, R251), and whether it is erased. -/
structure Block where
  erases : Nat
  /-- 0 good, 1 worn, 2 bad, 3 retired, 4 system -/
  state : Nat
  /-- cause of the bad-block table, or the cause of event 0x408 -/
  cause : Nat
  /-- hard-decode iterations that strike measured: their sum, and of how many reads -/
  iterSum : Nat
  iterCount : Nat
  lastProg : Nat
  /-- consecutive programs above PROG_WORN_PCT -/
  slow : Nat
  erased : Bool
  /-- the set's formatting in which it was last erased or marked (R533) -/
  epoch : Nat
  deriving DecidableEq, Repr

/-- What a codeword is programmed for. -/
inductive ProgUse where
  | trickle (frame : Nat)
  | flush (frame : Nat)
  /-- codeword `part` of a record of a kind (R233), in the group being written -/
  | record (kind part : Nat)
  | relocate (frame src : Nat)
  /-- copy 0 or 1 of a seal-log record -/
  | sealCopy (copy : Nat)
  | house (copy : Nat)
  deriving DecidableEq, Repr

/-- A payload waiting for its lane: bytes, or the map entries of checkpoint part `j`, taken when it is encrypted; or a whole codeword that is only relayed (R246). -/
inductive JobBody where
  | bytes (bs : List Byte)
  | mapPart (j : Nat)
  | relay (cw : Codeword)
  deriving DecidableEq, Repr

/-- A codeword to be made and placed: record kind, frame or part number, flags of R227, program attempts so far (R160). -/
structure Job where
  use : ProgUse
  kind : Nat
  number : Nat
  flags : Nat
  body : JobBody
  tries : Nat
  /-- the LUN on which its last program failed (R160) -/
  avoid : Option Nat
  deriving DecidableEq, Repr

/-- A codeword placed in a page slot. -/
structure Placed where
  job : Job
  cw : Codeword
  deriving DecidableEq, Repr

/-- A page of the open band with the codewords placed in it so far. -/
structure OpenPage where
  lun : Nat
  page : Nat
  slots : List Placed
  deriving DecidableEq, Repr

/-- A program into a system block: seal-log and house records (R235, R237). -/
structure SysProg where
  lun : Nat
  placed : Placed
  deriving DecidableEq, Repr

/-- What a codeword is read for. -/
inductive ReadUse where
  | background (frame : Nat)
  | touch (frame : Nat)
  | strike (frame : Nat)
  | record
  deriving DecidableEq, Repr

/-- A read to be issued: its map entry and its step of R230. -/
structure ReadReq where
  use : ReadUse
  entry : Nat
  step : Nat
  /-- bits that an injection flips in what is read (R231) -/
  inject : Nat
  deriving DecidableEq, Repr

/-- What an outstanding flash command does (R224). -/
inductive FlashDo where
  | program (slots : List Placed) (sys : Bool)
  | read (req : ReadReq) (injected : Bool)
  | erase (block : Nat)
  | reset (tag : Nat) (redo : Option ReadReq)
  deriving DecidableEq, Repr

/-- An outstanding flash command (R224, R225). -/
structure FlashOp where
  tag : Nat
  epoch : Nat
  lun : Nat
  page : Nat
  act : FlashDo
  issued : Nat
  deriving DecidableEq, Repr

/-- What a micro-program run waits for. -/
inductive MpWait where
  | none | ready (until_ : Nat) | delay (until_ : Nat)
  deriving DecidableEq, Repr

/-- A micro-program run (R219 to R223). -/
structure MpRun where
  lun : Nat
  stage : Stage
  entry : Nat
  /-- tag of the command it carries out -/
  tag : Nat
  word : Nat
  status : Nat
  /-- loop counters by the word of their LOOP -/
  loops : NMap Nat
  row : Nat
  col : Nat
  retry : Nat
  soft : Nat
  wait : MpWait
  started : Nat
  deriving DecidableEq, Repr

/-- One flash channel: tag epochs, outstanding commands, tags whose LUN is being reset, micro-program runs (the first executes), buffers. -/
structure FlashChan where
  epochs : NMap Nat
  ops : List FlashOp
  awaiting : List Nat
  runs : List MpRun
  featureBuf : List Byte
  pageBuf : List Byte
  deriving DecidableEq, Repr

/-- A record of several codewords being written (R140, R234, R243). Owner: 5 the metadata of a save, 11 its index codewords, 9 and 10 the tables. Entries of the codewords that have passed, by part; how many are still to pass; whether the index codewords are being written. -/
structure RecWriter where
  owner : Nat
  entries : NMap Nat
  outstanding : Nat
  indexing : Bool
  /-- number of this writing (R247) -/
  serial : Nat
  deriving DecidableEq, Repr

/-- A map checkpoint stream (R239, R240): what has passed by part, the entries taken so far, and its step (0 data, 1 indexes, 2 completion). -/
structure Ckpt where
  startGen : Nat
  startSeq : Nat
  next : Nat
  parts : NMap Nat
  indexes : NMap Nat
  /-- the parts encrypted since the digest last took any, as plaintext -/
  taken : NMap (List Byte)
  step : Nat
  serial : Nat
  /-- its house-engine context was saved at a gate instant (R161) -/
  preempted : Bool
  /-- the digest of the parts it has taken, and its context wrapped at a gate instant (R239, R413, R416) -/
  digest : HouseCtx
  context : List Byte
  deriving DecidableEq, Repr

/-- A completed checkpoint: map entry of its completion record, its generation, the generation of the completion record, number of its writing. -/
structure CkptRef where
  entry : Nat
  gen : Nat
  endGen : Nat
  serial : Nat
  deriving DecidableEq, Repr

/-- A bad-block or wear table on flash: map entry of its first index codeword, number of its writing. -/
structure TableRef where
  entry : Nat
  serial : Nat
  deriving DecidableEq, Repr

/-- A record codeword on flash that R247 may list as superseded: its record (3 checkpoint, 5 map delta, 6 ledger delta, 7 heat list, 8 relocation, 9 and 10 tables, 11 index), generation, number of its writing, map entry. -/
structure LiveRec where
  kind : Nat
  gen : Nat
  serial : Nat
  entry : Nat
  deriving DecidableEq, Repr

/-- A seal-log record being programmed into both logs (R142, R143, R145, R156). -/
structure SealJob where
  sub : Nat
  gen : Nat
  payload : List Byte
  pass0 : Bool
  pass1 : Bool
  tries0 : Nat
  tries1 : Nat
  deriving DecidableEq, Repr

/-- A stage's flash set: open band, maps, logs, strike (chapters 04 to 06). -/
structure StageFlash where
  /-- formatting of the set: blocks of an older one are not erased (R533) -/
  fmt : Nat
  band : Option Nat
  /-- page and LUN position of the cursor in the open band (R215) -/
  page : Nat
  pos : Nat
  pages : List OpenPage
  jobs : List Job
  sysQ : List SysProg
  /-- next sequence value of the open generation (R228) -/
  seq : Nat
  /-- frame map: what an unlisted frame has is no copy (R232) -/
  fmap : NMap Nat
  /-- frames written in the open generation and not covered by a completed checkpoint: sequence of the newest copy (R140) -/
  delta : NMap Nat
  /-- frames written in the open generation (R245) -/
  openFrames : List Nat
  relocs : List (Nat × Nat × Nat)
  /-- bands with copies relocated in the open generation (R246) -/
  relocBands : List Nat
  /-- map deltas, ledger deltas, heat-list and relocation codewords of the open generation, in record order (R237) -/
  genParts : List Nat
  recs : List LiveRec
  serial : Nat
  writers : List RecWriter
  ckpt : Option Ckpt
  /-- newest completed checkpoint, and the one that the newest sealed record names -/
  ckptDone : Option CkptRef
  ckptSealed : Option CkptRef
  ckptFrames : Nat
  ckptTick : Nat
  /-- newest tables, and those the newest sealed record names (R243, R247) -/
  badTable : TableRef
  wearTable : TableRef
  sealedBad : TableRef
  sealedWear : TableRef
  erasesSince : Nat
  /-- tables owed: bad blocks, wear (R243) -/
  badDue : Bool
  wearDue : Bool
  deriving DecidableEq, Repr

/-- A stage's system blocks and strike (R214, R235 to R238, R245 to R248). -/
structure StageSys where
  update : Nat
  housePos0 : Nat
  housePos1 : Nat
  blockA : Nat
  blockB : Nat
  posA : Nat
  posB : Nat
  /-- the system block of the house record on the first and the last house LUN (R214) -/
  houseA : Nat
  houseB : Nat
  /-- the house record's block must be erased before its next copy (R236) -/
  freshA : Bool
  freshB : Bool
  /-- the seal-log copy must move to the next spare block (R143, R238) -/
  moveA : Bool
  moveB : Bool
  seals : List SealJob
  voided : List Nat
  /-- second copy of a house record waits for the first to pass (R236) -/
  houseNext : Bool
  houseBytes : List Byte
  victim : Option Nat
  /-- bands of blocks that went bad, to be struck next (R252) -/
  badBands : List Nat
  erasing : Nat
  urgentLogged : Bool
  strikeOn : Bool
  refresh : List Nat
  spaceLogged : Bool
  /-- erased codeword slots, and the save reserve of the newest effective-cap period (R249) -/
  free : Nat
  reserve : Nat
  /-- trickle byte budget, exact (R110) -/
  budget : Rat
  /-- chip enables and LUNs per chip enable of the layout, minus 1 (R526) -/
  ces : Nat
  lunsPer : Nat
  /-- codewords relocated whose program has not ended -/
  moving : List Nat
  deriving DecidableEq, Repr

/-- The flash controllers and the NAND contents. -/
structure Flash where
  /-- by LUN index × 2^20 + page index -/
  pages : NMap NandPage
  /-- by LUN index × 2^16 + block; factory marks are in `factory` -/
  blocks : NMap Block
  factory : List Nat
  /-- the blocks whose die fails a Block Erase or a page program that is part of a longer step: what the medium itself determines; the dies of a commanded operation report by its status (R252) -/
  failing : List Nat
  chans : NMap FlashChan
  /-- micro-program sections by ID (R219) -/
  micro : Quad (List Word)
  sets : Quad StageFlash
  sys : Quad StageSys
  readQ : Quad (List ReadReq)
  /-- codewords decoded and waiting for their lane -/
  laneQ : Quad (List (ReadReq × Option Codeword))
  deriving DecidableEq, Repr


/-! Ledger, trickle, save, restore of a stage (chapters 03 to 05). -/

/-- Who waits for a write's completion. -/
inductive WriteDone where
  | mem (port tag : Nat)
  | mailbox (port ld opcode : Nat)
  deriving DecidableEq, Repr

/-- A host write at or before the ledger tap (R77, R92). -/
structure HostWrite where
  owner : WriteDone
  port : Nat
  line : Nat
  data : BitVec 512
  /-- byte mask of a partial write -/
  mask : Option (BitVec 64)
  poison : Bool
  /-- time it entered the held-write buffer -/
  since : Nat
  /-- it waits for a touch fetch (R191) -/
  touch : Bool
  /-- drained at a gate instant: no completion is returned (R132) -/
  silent : Bool
  warned : Bool
  /-- received before the GPF Phase 2 request that waits for it (R382) -/
  gpf : Bool
  /-- it has stood in the held-write buffer: reads of its line wait until it is admitted (R94) -/
  wasHeld : Bool
  deriving DecidableEq, Repr

/-- A host read held for a touch fetch, or waiting for a held write or a bitmap line (R94, R188, R189). -/
structure HeldRead where
  port : Nat
  tag : Nat
  line : Nat
  since : Nat
  warned : Bool
  deriving DecidableEq, Repr

/-- A frame in the trickle queue: 0 queued, 1 being read, 2 waiting for or in its page program (R105). -/
structure TrickleEntry where
  frame : Nat
  progress : Nat
  deriving DecidableEq, Repr

/-- Lines of a frame read for trickle or flush as they arrive: data, and whether the line was poisoned or uncorrectable. -/
structure Gather where
  frame : Nat
  flush : Bool
  lines : NMap (BitVec 512 × Bool)
  /-- a translation fault stands in for the frame (R160) -/
  fault : Bool
  deriving DecidableEq, Repr

/-- The clock of the newest change of a stage's ledger and the frames it changed (R76); the model's own mark. -/
structure ClockMarks where
  edge : Nat
  changed : List Nat
  deriving DecidableEq, Repr

/-- The ledger and trickle engines of a stage (chapter 03). -/
structure LedgerState where
  /-- frame states 1 to 3; unlisted frames are clean (R73) -/
  ledger : NMap Nat
  /-- frames not clean in each ledger line (R79) -/
  lineCount : NMap Nat
  settle : NMap Nat
  /-- ledger lines in the cache, and the sets of 16 ways that the stage has (R79) -/
  cached : List Nat
  sets : Nat
  /-- lines being filled; arrived lines with an uncorrectable mark -/
  filling : List Nat
  arrived : List (Nat × Bool)
  /-- writes waiting at the tap for a fill, or for room in the held-write buffer -/
  tap : List HostWrite
  held : List HostWrite
  /-- reads that wait for a held write of their line (R94) -/
  waitReads : List HeldRead
  holdSince : Option Nat
  /-- completions withheld: frame and owner (R98) -/
  withheld : List (Nat × WriteDone)
  writeThrough : Bool
  aboveSoft : Bool
  overLogged : Bool
  /-- sweep position; a sweep waits for the running one to end (R101, R102) -/
  sweep : Option Nat
  sweepDue : Bool
  /-- the trickle queue filled at the present line, which has been counted (R105) -/
  sweepPaused : Bool
  liveTick : Nat
  queue : List TrickleEntry
  gathers : List Gather
  /-- the gate is closed for the stage; writes held after the gate (R133) -/
  gated : Bool
  afterGate : List HostWrite
  /-- event 0x603 was logged for the present state (R378) -/
  notLiveLogged : Bool
  /-- requests whose credits are withheld: they stand at the port, in arrival order (R95, R190) -/
  stallW : List HostWrite
  stallR : List HeldRead
  marks : ClockMarks
  deriving DecidableEq, Repr

/-- Phases of a stage's save (R136). -/
inductive SavePhase where
  | none | drain | waitRails | touch | flush | metadata (step : Nat) | checkpoint | index | seal | committed | torn | leftSealed
  deriving DecidableEq, Repr

/-- A stage's save (chapter 04). -/
structure StageSave where
  phase : SavePhase
  /-- the save is a stage seal for re-dressing or an erase, without a device save (R50) -/
  alone : Bool
  /-- next frame to flush -/
  next : Nat
  flushed : Nat
  /-- flush and metadata codewords queued or being programmed -/
  outstanding : Nat
  /-- non-clean ledger lines at the end of drain (R140) -/
  lines : List Nat
  flushStart : Nat
  metaStart : Nat
  sealStart : Nat
  gateTime : Nat
  poisoned : Nat
  /-- phase to go on from when an abort is withdrawn (R153) -/
  resume : SavePhase
  /-- a map checkpoint was due at the gate instant, and main input good as the metadata phase began (R141) -/
  ckptDue : Bool
  deriving DecidableEq, Repr

/-- The device save (chapter 04). -/
structure SaveDev where
  gate : Bool
  gateTime : Nat
  cause : Nat
  action : Nat
  /-- DRAIN_COMPLETE has come -/
  drained : Bool
  /-- SIGNAL 0 of the SAVE_RAILS cue has come (R456) -/
  railsOff : Bool
  /-- an abort runs: 1 waits for programs, 2 resume run -/
  abort : Nat
  lastCommit : Nat
  anyTorn : Bool
  /-- stages saved, as fixed at the gate instant; those Restoring and never Live -/
  saving : Quad Bool
  restoring : Quad Bool
  intermissionDue : Bool
  firstSeal : Bool
  linkDown : Bool
  deriving DecidableEq, Repr

/-- What a restore reads next (R172 to R179). -/
inductive RPhase where
  | idle | house | logs | ckptDone | ckptIndex | ckptData | genIndex | deltas | scan | heat | copy
  deriving DecidableEq, Repr

/-- A touch-queue entry: 0 waiting, 1 being read, 2 joined to a background read (R181, R189). -/
structure TouchEntry where
  frame : Nat
  progress : Nat
  deriving DecidableEq, Repr

/-- A seal-log record as R237 lays it out, read back. -/
structure SealRec where
  sub : Nat
  reason : Nat
  gen : Nat
  lastSeq : Nat
  frames : Nat
  ckpt : Nat
  ckptGen : Nat
  badTable : Nat
  wearTable : Nat
  index : List Nat
  deriving DecidableEq, Repr

/-- A stage's restore, touch service and heat (chapter 05). -/
structure RestoreState where
  phase : RPhase
  /-- map entries the phase needs, reads outstanding, and what came back: header and payload -/
  want : List Nat
  outstanding : Nat
  got : NMap (Option (List Byte × List Byte))
  /-- sealed records usable, newest first -/
  sealed : List SealRec
  /-- void records of both logs, as generations -/
  voids : List Nat
  /-- checkpoints still to be tried -/
  cands : List SealRec
  /-- the generation whose record index lists each codeword wanted as a delta (R177) -/
  deltaOf : NMap Nat
  ckptGen : Nat
  /-- the hash that the completion record of the checkpoint in hand gives (R240) -/
  ckptHash : List Byte
  /-- heat list of the restore generation and the position in it (R179) -/
  heatList : List Nat
  heatPos : Nat
  /-- next frame in ascending order -/
  next : Nat
  /-- restore bitmap, as the frames restored (R180) -/
  restored : List Nat
  /-- frames whose restore writes are on their way (R180), and frames being read by the background restore (R181) -/
  writing : List Nat
  reading : List Nat
  /-- restore-bitmap lines on chip, newest last, and those being read (R188) -/
  bitLines : List Nat
  bitFilling : List Nat
  bitArrived : List Nat
  bitWaitR : List HeldRead
  bitWaitW : List HostWrite
  touchQ : List TouchEntry
  heldReads : List HeldRead
  startTime : Nat
  rebuildStart : Nat
  pending : Bool
  /-- the stage is to become Live once its open record has passed (R186); why: 0 restore, 1 Dressing, 2 intermission -/
  goLive : Option Nat
  /-- waits under R202 -/
  waitResume : Bool
  /-- a stage left Sealed keeps its restore for intermission (R198) -/
  kept : Bool
  deriving DecidableEq, Repr

/-- A stage's heat ring and region (R196, R197, R685). -/
structure HeatState where
  ring : List Nat
  counts : NMap Nat
  /-- accesses since the last sample; samples since Live -/
  skip : Nat
  sampled : Nat
  halved : Nat
  deriving DecidableEq, Repr


/-! Swirad image and stage dressing (chapter 14). -/

/-- A section of the image in effect (R517, R523): type, stage, ID, the 48 bytes of its table entry, its words. -/
structure ImgSection where
  typ : Nat
  stage : Nat
  id : Nat
  entry : List Byte
  words : List Word
  deriving DecidableEq, Repr

/-- A staged container (R531, R540): bytes, load path (0 registers, 1 mailbox), and the result of its checks once they have ended. -/
structure Staged where
  bytes : List Byte
  path : Nat
  result : Option Nat
  deriving DecidableEq, Repr

/-- An accepted re-dress or unbind (R531, R532). -/
structure DressReq where
  stage : Stage
  unbind : Bool
  deriving DecidableEq, Repr

/-- The image in effect, loads and re-dressing (chapter 14). -/
structure ImageState where
  /-- a container being received: path and bytes so far -/
  loading : Option (Nat × List Byte)
  staged : Option Staged
  /-- sections in effect, and the SHA-256 over their table entries (R523) -/
  sections : List ImgSection
  hash : List Byte
  request : Option DressReq
  /-- when each Dressing began -/
  dressStart : Quad Nat
  /-- first failure a Dressing has met (R534), 0 for none -/
  dressFault : Quad Nat
  /-- stages whose DRAM did not train at this Dressing -/
  untrained : Quad Bool
  /-- the layout of this Dressing differs from the one the set was last dressed with (R420) -/
  relayout : Quad Bool
  /-- security version to fuse at the next entry to Service (R520) -/
  fuseTarget : Option Nat
  deriving DecidableEq, Repr


/-! CXL ports, logical devices, mailboxes (chapter 10). -/

/-- A CXL event record: a General Media record (DPA line; 0 corrected errors, 1 poison stored, 2 an uncorrectable outcome; transaction type as CXL 3.1 numbers them: 1 host read, 2 host write, 3 scan media, 4 inject poison, 5 internal media scrub, 6 internal media management (PRESUMED, log entry 153)), a DRAM record (coordinates), or a Memory Module record (what changed) (R337, R395). -/
inductive CxlRec where
  | generalMedia (line kind transaction : Nat)
  | dram (c : Coord) (what : Nat)
  | memoryModule (what value : Nat)
  deriving DecidableEq, Repr

/-- What a logical device reports of itself in its registers, its CDAT and Identify Memory Device (R372, R376, R382): capacities in 256 MiB; HDM decoders with their ways and granularities in bytes; mailbox payload and label storage area in bytes; the duration in µs and the power in W of GPF Phase 2. The persistence domain includes all of the controller's buffers. -/
structure CxlReport where
  port : Nat
  ld : Nat
  volatileOnly : Nat
  persistentOnly : Nat
  decoders : Nat
  ways : List Nat
  granMin : Nat
  granMax : Nat
  payload : Nat
  lsa : Nat
  gpfUs : Nat
  gpfWatts : Nat
  deriving DecidableEq, Repr

/-- One CXL event log: at most 64 records, oldest first, and its overflow fields: flag, count, timestamps of the first and the last overflow (R395). -/
structure CxlLog where
  recs : List CxlRec
  overflow : Bool
  overflowCount : Nat
  firstOver : Nat
  lastOver : Nat
  deriving DecidableEq, Repr

/-- A poison-list entry: first line, length in lines, injected rather than internal (R389). -/
structure PoisonEntry where
  line : Nat
  lines : Nat
  injected : Bool
  deriving DecidableEq, Repr

/-- A CXL port: P0 (or the combined port) and P1 (R373 to R375, R382, R383). -/
structure CxlPort where
  inL0 : Bool
  speed : Nat
  width : Nat
  flushFlag : Bool
  /-- GPF Phase 2 runs: writes received before it that have not passed the tap -/
  gpf2 : Bool
  pmeOff : Bool
  deriving DecidableEq, Repr

/-- Warning thresholds: Life Used, temperature, corrected errors, each with its enable (R388). -/
structure AlertCfg where
  life : Option Nat
  temp : Option Nat
  errors : Option Nat
  deriving DecidableEq, Repr

/-- A background command (R398): opcode and mailbox. -/
structure BgCmd where
  port : Nat
  ld : Nat
  opcode : Nat
  deriving DecidableEq, Repr

/-- A Secure Erase or Sanitize in progress: step of R392. -/
structure EraseCmd where
  stage : Stage
  sanitize : Bool
  step : Nat
  deriving DecidableEq, Repr

/-- A media scan: next line, end, lines listed (R391). -/
structure ScanCmd where
  stage : Stage
  next : Nat
  stop : Nat
  listed : List Nat
  outstanding : Nat
  deriving DecidableEq, Repr

/-- The host side (chapter 10). -/
structure CxlState where
  p0 : CxlPort
  p1 : CxlPort
  combined : Bool
  mld0 : Bool
  mld1 : Bool
  /-- by logical device × 4 + log: 0 Informational, 1 Warning, 2 Failure, 3 Fatal; a logical device counts as port × 5 + LD-ID, the FM-owned one as LD-ID 4 -/
  logs : NMap CxlLog
  /-- event interrupt policy by logical device -/
  policy : NMap Nat
  poison : Quad (List PoisonEntry)
  poisonOver : Quad (Option Nat)
  alerts : Quad AlertCfg
  /-- Health Status, Media Status and Life Used as last reported, and alert states (R395) -/
  lastHealth : Quad (Nat × Nat × Nat)
  alerted : Quad Nat
  background : Option BgCmd
  erase : Option EraseCmd
  scan : Option ScanCmd
  scanResults : Quad (List Nat)
  /-- timestamp as set, and the tick it was set at -/
  timestamp : Nat × Nat
  /-- mean read-queue depth being accumulated by stage, in request-clocks, and since when (R381) -/
  depthSum : Quad Nat
  depthSince : Nat
  devLoad : Quad Nat
  /-- credits withheld by stage: writes, reads (R95, R190) -/
  noWrite : Quad Bool
  noRead : Quad Bool

  deriving DecidableEq, Repr


/-! Battery gauge (chapter 13). Charges are exact, in µAh. -/

/-- The gauge's own counts. -/
structure Gauge where
  soc : Rat
  moved : Rat
  /-- uncertainty base in µAh (R489, R490, R492) -/
  base : Nat
  /-- sums over the update window: current codes, voltage codes, conversions -/
  codes : Int
  volts : Nat
  ticks : Nat
  /-- the previous update found the empty condition: its tick (R490) -/
  emptyFirst : Option Nat
  /-- a rising edge of CHG_DONE was registered with CHG_EN high (R489) -/
  fullDue : Bool
  /-- tick from which t_anchor counts (R492); the newest anchor is a full one -/
  anchorTick : Nat
  newestFull : Bool
  /-- a learning discharge runs since a full anchor: its net discharge (R496) -/
  learning : Option Rat
  /-- net discharge since the newest full anchor (R502) -/
  sinceFull : Rat
  /-- R491: anchor due stays set until an empty anchor after a loss of VAON -/
  vaonHold : Bool
  /-- fault causes holding (R487) -/
  faults : List Nat
  /-- the rehearsal rail may not be used (R501) -/
  railBad : Bool
  /-- tick at which the charge leg began (R502) -/
  legStart : Nat
  /-- tick of the newest update, and what SOC_UAH and UNC_UAH held before it (R86) -/
  pubTick : Nat
  prevSoc : Nat
  prevUnc : Nat
  deriving DecidableEq, Repr



/-! Power supervision, cue sequencer, Mbaham link (chapter 12). -/

/-- What a cue run waits for: rails good or off until a tick, a delay until a time, the built-in wait until a tick (R449, R453). -/
inductive CueWait where
  | none | good (mask until_ : Nat) | off (mask until_ : Nat) | delay (until_ : Nat) | builtIn (until_ : Nat)
  deriving DecidableEq, Repr

/-- The running cue program (R452 to R458): program number, source (0 program, 1 dependency table, 2 built-in), word within the program. -/
structure CueRun where
  prog : Nat
  source : Nat
  /-- the resume run executes POWER_UP restricted to the LINK rails (R457) -/
  restrict : Bool
  pc : Nat
  wait : CueWait
  /-- rails that have failed during the run: only a later program takes them into the watch again (R443, R446) -/
  failed : Nat
  deriving DecidableEq, Repr

/-- Power supervision and the sequencer (R439 to R462). -/
structure Power where
  /-- the cue memory; a word not listed is zero (R447) -/
  cueMem : NMap Word
  /-- a cue section whose write waits until the running program ends (R447) -/
  cuePending : Option (List Word)
  run : Option CueRun
  /-- programs that wait for SAVE_RAILS or HOLD_RAILS to end, in order (R455) -/
  queued : List Nat
  /-- runs of the present resume run made so far; its retry's tick while BACKOFF runs (R457) -/
  resumeTries : Nat
  resumeRetry : Option Nat
  /-- cause that the transition to Dark at the end of POWER_DOWN will record (R41) -/
  downCause : Nat
  /-- deglitch window's end in time, debounce window's end tick; main input was absent since the last power-up (R439 to R442) -/
  deglitch : Option Nat
  debounce : Option Nat
  failed : Bool
  absent : Bool
  /-- main-input failure began the save that runs (R149) -/
  failedInSave : Bool
  /-- consecutive updates out of window by monitor: below, above (R444) -/
  vmonLow : NMap Nat
  vmonHigh : NMap Nat
  /-- consecutive samples at or above TRIP_C (R445) -/
  hot : Nat
  /-- tick of the press that is still held and undecided (R461) -/
  press : Option Nat
  /-- critical rails that failed since the last power-up, as a mask (R446) -/
  blocked : Nat
  /-- rails that failed after step 3 of an abort: handled once the gate is open (R153) -/
  afterAbort : List Nat
  deriving DecidableEq, Repr

/-- A command of the stage manager whose ID is reserved (R466, R467). -/
structure LinkTx where
  id : Nat
  epoch : Nat
  dest : Nat
  bcast : Bool
  type : Nat
  payload : List Byte
  flags : Nat
  /-- times sent, tick of the first and of the latest transmission -/
  sent : Nat
  firstTick : Nat
  lastTick : Nat
  /-- sent through LINK_CMD -/
  software : Bool
  /-- acknowledged, failed or done: only the ID's reservation is left -/
  closed : Bool
  deriving DecidableEq, Repr

/-- A grant the stage manager holds for a shelf (R476). -/
structure LinkGrant where
  shelf : Nat
  node : Nat
  tick : Nat
  /-- OP 3 was sent at the limit, at this tick -/
  revoked : Option Nat
  deriving DecidableEq, Repr

/-- A node as the stage manager knows it (R475, R476): polls failed in a row, STATUS bits 3 and 4, shelf. -/
structure LinkNode where
  fails : Nat
  awaiting : Bool
  active : Bool
  shelf : Nat
  deriving DecidableEq, Repr

/-- The Mbaham link (R463 to R478). -/
structure LinkState where
  tx : List LinkTx
  /-- commands a follower remembers, oldest first, at most 16: ID, epoch, response sent (R468) -/
  memory : List (Nat × Nat × List Byte)
  pollNode : Nat
  round : Nat
  nodes : NMap LinkNode
  grants : List LinkGrant
  /-- node last granted, by shelf, plus 1 -/
  lastGrant : NMap Nat
  /-- tick of the last frame from the stage manager (R477) -/
  heardTick : Nat
  /-- stage-manager sources heard -/
  sources : List Nat
  /-- the TIME frame with the restart flag has been sent since the last transition from Dark (R468) -/
  restartSent : Bool
  deriving DecidableEq, Repr

/-! Firmware, roles and fuses (chapter 16). -/

/-- A firmware load in progress (R583): path (0 registers, 1 mailbox), bytes so far, slot written (false A), whether the checks run. -/
structure FwLoad where
  path : Nat
  bytes : List Byte
  slotB : Bool
  checking : Bool
  deriving DecidableEq, Repr

/-- A handover series (R586 to R589): slot of the new firmware, roles still to move with the one being moved first, step of R587, when the step began. -/
structure FwSeries where
  slotB : Bool
  roles : List Nat
  step : Nat
  since : Nat
  /-- a gate instant came during the quiesce: the series ends after it (R589) -/
  last : Bool
  deriving DecidableEq, Repr

/-- Firmware and fuses (chapter 16). -/
structure FwState where
  /-- programmed security-version fuses of the firmware and the image signer (R590) -/
  fuseFw : BitVec 64
  fuseImg : BitVec 64
  makerHash : Option (List Byte)
  /-- raises that wait or run: true for the image signer, target (R591) -/
  raises : List (Bool × Nat)
  load : Option FwLoad
  /-- entries of slot A's activation log, as (sequence, confirmed), while the slot still holds the container it was shipped with -/
  shipLog : Option (List (Nat × Bool))
  /-- core of each role: house, S0 to S3, understudy; and the slot whose firmware each role runs, true for B -/
  roleCore : List Nat
  roleSlotB : List Bool
  series : Option FwSeries
  /-- the slot the house role runs still has to be confirmed (R581) -/
  unconfirmed : Bool
  /-- tick of the last watchdog reset (R582) -/
  wdogTick : Nat
  /-- RECOVERY_N as last sampled low (R594) -/
  recoveryLow : Bool
  /-- nonce of the debug attempt in progress (R596) -/
  nonce : List Byte
  deriving DecidableEq, Repr


/-! Two-wire sideband (chapter 17). -/

/-- The sideband interface. -/
structure SideState where
  /-- index of the most recent index phase (R603) -/
  index : Nat
  /-- time of the last transfer's end (R608) -/
  lastTime : Nat
  /-- an in-band request pulls SDA low since this time (R618) -/
  driving : Option Nat
  /-- sources AND mask when the last request was accepted (R617) -/
  accepted : Nat
  deriving DecidableEq, Repr

/-! Host registers not kept in the register file: certificate word, crystal. -/

/-- Clocks and the package (chapter 20). -/
structure PackState where
  /-- PLLs that have not locked again since a loss, bit 0 data path, 1 DRAM, 2 flash, 3 and 4 CXL PHY P0 and P1 -/
  unlocked : BitVec 5
  /-- power domains switched on for a waiting request (R675) -/
  woken : BitVec 56
  /-- tick from which CPD_POWER.PEAK_MW counts (R680) -/
  peakSince : Nat
  deriving DecidableEq, Repr


/-- What the controller sends out: completions, frames, pin changes, bus cycles. The model's own list, newest last (log entry 4). -/
inductive Output where
  /-- CXL.mem completion of a read: port, tag, data, poison (R377, R378, R311) -/
  | memData (port tag : Nat) (data : BitVec 512) (poison : Bool) (load : Nat)
  /-- CXL.mem completion without data -/
  | memDone (port tag load : Nat)
  /-- mailbox completion: port, logical device, return code, payload (R398, R399) -/
  | mailbox (port ld code : Nat) (payload : List Byte)
  /-- value a register read returned -/
  | regData (w : Word)
  /-- bytes read by a core (script store, house engine, hash, random) with a result code -/
  | coreData (code : Nat) (bytes : List Byte)
  /-- words and outcomes of a script-store read: 0 clean, 1 corrected, 2 uncorrectable (R543) -/
  | storeData (code : Nat) (words : List (Word × Nat))
  /-- a frame sent on the Mbaham link (R464) -/
  | linkFrame (bytes : List Byte)
  /-- bytes sent on the sideband -/
  | sideband (bytes : List Byte)
  /-- a bus condition of the sideband: 0 release, 1 stretch, 2 START of an in-band request -/
  | sidebandLine (kind : Nat)
  /-- the RAIL_EN outputs after a change (R453) -/
  | railEn (v : BitVec 16)
  /-- the CHG_EN output (R500) -/
  | chgEn (on : Bool)
  /-- the rehearsal load's rail output (R501) -/
  | load (on : Bool)
  /-- a DDR5 command: channel, subchannel, kind, rank, bank, row or column (R268) -/
  | ddr (ch sub : Nat) (kind : Nat) (rank bank rc : Nat)
  /-- a NAND operation: LUN, kind (0 program, 1 read, 2 erase, 3 reset), page, slot mask -/
  | nand (lun kind page slots : Nat)
  /-- a cycle of a micro-program on a flash channel: kind and byte (R221) -/
  | flashCycle (ch kind : Nat) (bytes : List Byte)
  /-- a transfer on the local I3C bus: the rate's code, the command register and the data (R365) -/
  | i3c (rate : Nat) (cmd : Word) (data : Word)
  /-- SETAASA on the local I3C bus (R365) -/
  | i3cAssign (rate : Nat)
  /-- a training pattern operation: channel, subchannel, rank, mode, pattern, bursts, user pattern or seed (R357) -/
  | train (ch sub rank mode pattern bursts user : Nat)
  /-- a step of full training on a channel: 1 clock drivers and host interface, 2 CS and CA, 3 write leveling, 4 read, 5 write DQ, 6 Vref and DFE, 7 margin (R358) -/
  | trainStep (ch step speed : Nat)
  /-- a verification of a loaded snapshot on a channel: mode 0, PRBS15, 1,024 bursts, at the loaded delays moved by some taps (R360) -/
  | verify (ch : Nat) (taps : Int)
  /-- a setting programmed into the channel's DRAM devices, by per-DRAM addressability, or its clock driver (R346, R358) -/
  | dramSet (ch item value : Nat)
  /-- the blast radius of directed refresh management programmed into a channel's devices (R352) -/
  | drfmRadius (ch radius : Nat)
  /-- a host interrupt or event notification (R395) -/
  | hostEvent (ld log : Nat)
  /-- write credits of a stage withheld (true) or granted (R95, R134) -/
  | credits (stage : Nat) (withheld : Bool)
  /-- read credits of a stage withheld (true) or granted (R190) -/
  | readCredits (stage : Nat) (withheld : Bool)
  /-- a logical device reports itself (R372, R376, R382) -/
  | cxlReport (r : CxlReport)
  /-- a GPF phase acknowledged on a port (R382) -/
  | gpf (port phase : Nat)
  /-- PME_TO_Ack (R383) -/
  | pmeAck (port : Nat)
  deriving DecidableEq, Repr

/-- The controller's state. -/
structure State where
  /-- eighths of a data-path clock since VAON was applied (R669 to R671; log entry 1) -/
  now : Nat
  /-- register file: the registers that do not hold their reset value (R12, R659) -/
  regs : NMap Word
  modes : ModeState
  pbook : PBook
  store : Store
  cipher : Cipher
  dram : Dram
  flash : Flash
  ledger : Quad LedgerState
  saves : Quad StageSave
  saveDev : SaveDev
  restore : Quad RestoreState
  heat : Quad HeatState
  cxl : CxlState
  gauge : Gauge
  power : Power
  link : LinkState
  image : ImageState
  fw : FwState
  side : SideState
  pack : PackState
  /-- model's own: up to when the level counters have been counted, and each counter's level since (R640) -/
  pmonAt : Nat
  pmonLevels : List Nat
  /-- model's own: last opening of each recurring window, plus 1 (log entry 2) -/
  timers : NMap Nat
  /-- model's own: commands waiting, first in, first out -/
  pending : List Instr
  /-- model's own: messages and pin changes sent, newest last (log entry 4) -/
  out : List Output
  /-- model's own: the free values used so far (log entry 3) -/
  freeIdx : Nat
  /-- model's own: events of the running command before the recorder accepts them (R625) -/
  evs : List Ev
  deriving DecidableEq, Repr

/-- A machine stop; no command of this block stops it. -/
inductive Fault where
  /-- Raised by nobody: the spec names no condition that stops the controller. Safe. -/
  | none
  deriving DecidableEq, Repr

/-- Commands the model gives no meaning. -/
inductive Refusal where
  /-- Raised by exec for a command that has no meaning yet; safe. -/
  | notModelled (mnemonic : String)
  deriving DecidableEq, Repr

/-! The state after reset. -/

/-- A subchannel with nothing queued. -/
def subInit : SubCh :=
  let r : Rank := ⟨0, 0, 0, false, 0, false, 0, 0, 0, false⟩
  ⟨[], [], [], false, [], r, r, [], 0, .awake, [], [], false, false⟩
/-- A channel that has not trained. -/
def chanInit : Channel := ⟨subInit, subInit, 64, 64, false, false, 0, 0, [], false, [], 0, 0, 0, none, 0, false, false, 0⟩
/-- A stage's flash set that nothing has formatted. -/
def fsetInit : StageFlash :=
  { fmt := 0, band := none, page := 0, pos := 0, pages := [], jobs := [], sysQ := [], seq := 1, fmap := [], delta := [], openFrames := [], relocs := []
    relocBands := [], genParts := [], recs := [], serial := 0, writers := [], ckpt := none, ckptDone := none, ckptSealed := none, ckptFrames := 0, ckptTick := 0
    badTable := ⟨0xFFFFFFFF, 0⟩, wearTable := ⟨0xFFFFFFFF, 0⟩, sealedBad := ⟨0xFFFFFFFF, 0⟩, sealedWear := ⟨0xFFFFFFFF, 0⟩, erasesSince := 0, badDue := false, wearDue := false }
/-- A stage's system blocks before any house record. -/
def fsysInit : StageSys :=
  { update := 0, housePos0 := 0, housePos1 := 0, blockA := 1, blockB := 1, posA := 0, posB := 0, houseA := 0, houseB := 0, freshA := false, freshB := false, moveA := false, moveB := false, seals := [], voided := [], houseNext := false
    houseBytes := [], victim := none, badBands := [], erasing := 0, urgentLogged := false, strikeOn := false, refresh := [], spaceLogged := false, free := 0, reserve := 0, budget := 0, ces := 0, lunsPer := 0, moving := [] }
/-- A stage's ledger engine at rest. -/
def ledgerInit : LedgerState :=
  { ledger := [], lineCount := [], settle := [], cached := [], sets := 0, filling := [], arrived := [], tap := [], held := [], waitReads := [], holdSince := none, withheld := []
    writeThrough := false, aboveSoft := false, overLogged := false, sweep := none, sweepDue := false, sweepPaused := false, liveTick := 0, queue := [], gathers := []
    gated := false, afterGate := [], notLiveLogged := false, stallW := [], stallR := [], marks := ⟨0, []⟩ }
/-- A stage's save at rest. -/
def saveInit : StageSave := ⟨.none, false, 0, 0, 0, [], 0, 0, 0, 0, 0, .none, false⟩
/-- A stage's restore at rest. -/
def restoreInit : RestoreState :=
  { phase := .idle, want := [], outstanding := 0, got := [], sealed := [], voids := [], cands := [], deltaOf := [], ckptGen := 0, ckptHash := [], heatList := [], heatPos := 0, next := 0, restored := []
    writing := [], reading := [], bitLines := [], bitFilling := [], bitArrived := [], bitWaitR := [], bitWaitW := [], touchQ := [], heldReads := [], startTime := 0
    rebuildStart := 0, pending := false, goLive := none, waitResume := false, kept := false }
/-- A port that has not trained. -/
def portInit : CxlPort := ⟨false, 0, 0, false, false, false⟩

/-- The controller right after VAON is first applied to a shipped module: Dark, every register at its reset value, the script store as shipped, the flash and the fuses blank (R31, R39, R578, R649, R681). -/
def State.reset : State where
  now := 0
  regs := []
  modes := { mode := .dark, stages := ⟨.unbound, .unbound, .unbound, .unbound⟩, recovery := false, recoveryPin := false, intermission := false
             interWait := ⟨false, false, false, false⟩, playbill := .repertory, compat := false, recorded := none, applying := none, applyMark := none, holdLen := 0, holdEntry := 0
             powerUp := none, booting := false, allowed := 0x3F#6, mrLatched := false, mrReset := false }
  pbook := { ring := [], window := 0, counts := [], suppressed := 0, supCodes := [], supSev := 0, areaSector := 0, areaPos := 0, lastCopied := 0, copyDone := 0
             lost := 0, retrying := false, clearPending := none, offsetLogged := none, unusable := false }
  store := { nor := [], touched := [], prot := 0#128, erase := none, prog := none, calls := [], dirB := false, dirSeq := 0, dirUsed := 0, dirValid := false, intents := []
             failed := [], pwdOpen := false, refusals := 0, writing := [], cuts := [] }
  cipher := { keys := [], slots := [], calls := [], lastCore := 0, houseNext := true, quarantine := [], saved := [], coreMem := [], drbgReqs := 0, drbgFailed := false
              bootNonce := none, laneTest := none, laneDue := 0#16, leafNext := 0, leafBlock := none, treeNow := 0, treeReady := false, exhausted := false, blocksUsed := 0 }
  dram := { ch := ⟨chanInit, chanInit, chanInit, chanInit⟩, maps := ⟨0#48, 0#48, 0#48, 0#48⟩, lines := [], fill := ⟨.powerUp 0, .powerUp 0, .powerUp 0, .powerUp 0⟩, epoch := 0, remap := [], burned := []
            nextId := 1, nextPair := 1, delays := [], staged := [], settings := [], timing := [], i3cBusy := false, dramTemp := 0 }
  flash := { pages := [], blocks := [], factory := [], failing := [], chans := [], micro := ⟨[], [], [], []⟩, sets := ⟨fsetInit, fsetInit, fsetInit, fsetInit⟩
             sys := ⟨fsysInit, fsysInit, fsysInit, fsysInit⟩, readQ := ⟨[], [], [], []⟩, laneQ := ⟨[], [], [], []⟩ }
  ledger := ⟨ledgerInit, ledgerInit, ledgerInit, ledgerInit⟩
  saves := ⟨saveInit, saveInit, saveInit, saveInit⟩
  saveDev := { gate := false, gateTime := 0, cause := 0, action := 0, drained := false, railsOff := false, abort := 0, lastCommit := 0, anyTorn := false
               saving := ⟨false, false, false, false⟩, restoring := ⟨false, false, false, false⟩, intermissionDue := false, firstSeal := false, linkDown := false }
  restore := ⟨restoreInit, restoreInit, restoreInit, restoreInit⟩
  heat := ⟨⟨[], [], 0, 0, 0⟩, ⟨[], [], 0, 0, 0⟩, ⟨[], [], 0, 0, 0⟩, ⟨[], [], 0, 0, 0⟩⟩
  cxl := { p0 := portInit, p1 := portInit, combined := true, mld0 := false, mld1 := false, logs := [], policy := [], poison := ⟨[], [], [], []⟩
           poisonOver := ⟨none, none, none, none⟩, alerts := ⟨⟨none, none, none⟩, ⟨none, none, none⟩, ⟨none, none, none⟩, ⟨none, none, none⟩⟩
           lastHealth := ⟨(0, 0, 0), (0, 0, 0), (0, 0, 0), (0, 0, 0)⟩, alerted := ⟨0, 0, 0, 0⟩, background := none, erase := none, scan := none
           scanResults := ⟨[], [], [], []⟩, timestamp := (0, 0), depthSum := ⟨0, 0, 0, 0⟩, depthSince := 0, devLoad := ⟨0, 0, 0, 0⟩
           noWrite := ⟨false, false, false, false⟩, noRead := ⟨false, false, false, false⟩ }
  gauge := { soc := 0, moved := 0, base := 0, codes := 0, volts := 0, ticks := 0, emptyFirst := none, fullDue := false, anchorTick := 0, newestFull := false, learning := none
             sinceFull := 0, vaonHold := true, faults := [], railBad := false, legStart := 0, pubTick := 0, prevSoc := 0, prevUnc := 0 }
  power := { cueMem := [], cuePending := none, run := none, queued := [], resumeTries := 0, resumeRetry := none, downCause := 0, deglitch := none, debounce := none
             failed := true, absent := true, failedInSave := false, vmonLow := [], vmonHigh := [], hot := 0, press := none, blocked := 0, afterAbort := [] }
  link := { tx := [], memory := [], pollNode := 0, round := 0, nodes := [], grants := [], lastGrant := [], heardTick := 0, sources := [], restartSent := false }
  image := { loading := none, staged := none, sections := [], hash := List.replicate 32 0#8, request := none, dressStart := ⟨0, 0, 0, 0⟩, dressFault := ⟨0, 0, 0, 0⟩
             untrained := ⟨false, false, false, false⟩, relayout := ⟨false, false, false, false⟩, fuseTarget := none }
  fw := { fuseFw := 0#64, fuseImg := 0#64, makerHash := none, raises := [], load := none, shipLog := some [(1, true)], roleCore := [0, 1, 2, 3, 4, 5], roleSlotB := [false, false, false, false, false, false]
          series := none, unconfirmed := false, wdogTick := 0, recoveryLow := false, nonce := [] }
  side := ⟨0, 0, none, 0⟩
  pack := ⟨0#5, 0#56, 0⟩
  pmonAt := 0
  pmonLevels := []
  timers := []
  pending := []
  out := []
  freeIdx := 0
  evs := []

end Sys2Proof.Machine
end

