-- ==== Sys2Proof/Machine/Ops.lean ====
section
/-! DEFINITION. The named operations the meanings share: sparse maps, register fields, time, events, messages, free values. -/

namespace Sys2Proof.Machine

/-! Four-fold data. -/

/-- The value for one of four. -/
def qget {α : Type} (q : Quad α) (i : Fin 4) : α :=
  match i with
  | 0 => q.a0
  | 1 => q.a1
  | 2 => q.a2
  | 3 => q.a3

/-- The four values with one replaced. -/
def qset {α : Type} (q : Quad α) (i : Fin 4) (v : α) : Quad α :=
  match i with
  | 0 => { q with a0 := v }
  | 1 => { q with a1 := v }
  | 2 => { q with a2 := v }
  | 3 => { q with a3 := v }

/-- The same value four times. -/
def qall {α : Type} (v : α) : Quad α := ⟨v, v, v, v⟩

/-- The four values, first to last. -/
def qlist {α : Type} (q : Quad α) : List α := [q.a0, q.a1, q.a2, q.a3]

/-- A function applied to each of the four. -/
def qmap {α β : Type} (f : α → β) (q : Quad α) : Quad β := ⟨f q.a0, f q.a1, f q.a2, f q.a3⟩

/-- Four values by number. -/
def qtab {α : Type} (f : Fin 4 → α) : Quad α := ⟨f 0, f 1, f 2, f 3⟩

/-- S0 to S3, or DC0 to DC3. -/
def fours : List (Fin 4) := [0, 1, 2, 3]

/-- The number taken modulo 4. -/
def fin4 (n : Nat) : Fin 4 := ⟨n % 4, Nat.mod_lt _ (by decide)⟩

/-! Rationals to whole numbers. -/

/-- A rational rounded up to a whole number, at least 0. -/
def ratCeil (q : Rat) : Nat := (-((-q.num) / (q.den : Int))).toNat
/-- A rational rounded down to a whole number, at least 0. -/
def ratFloor (q : Rat) : Nat := (q.num / (q.den : Int)).toNat

/-! Sparse maps in canonical form: keys rising, no entry equal to the default. -/

/-- The value at a key; `d` is what an unlisted key reads as. -/
def mget {α : Type} (d : α) : NMap α → Nat → α
  | [], _ => d
  | (k, v) :: m, i => if i = k then v else mget d m i

/-- The entry removed. -/
def mdel {α : Type} : NMap α → Nat → NMap α
  | [], _ => []
  | (k, v) :: m, i => if i = k then mdel m i else (k, v) :: mdel m i

/-- The entry stored, keys kept rising. -/
def mput {α : Type} : NMap α → Nat → α → NMap α
  | [], i, x => [(i, x)]
  | (k, v) :: m, i, x => if i = k then (i, x) :: m else if i < k then (i, x) :: (k, v) :: m else (k, v) :: mput m i x

/-- A value stored at a key; the default value removes the entry. -/
def mset {α : Type} [DecidableEq α] (d : α) (m : NMap α) (i : Nat) (x : α) : NMap α :=
  if x = d then mdel m i else mput m i x

/-- The entry of a key, if it is listed. -/
def mfind {α : Type} : NMap α → Nat → Option α
  | [], _ => none
  | (k, v) :: m, i => if i = k then some v else mfind m i

/-- The keys rise strictly. -/
def risingKeys {α : Type} : NMap α → Bool
  | [] => true
  | [_] => true
  | (a, _) :: (b, v) :: m => decide (a < b) && risingKeys ((b, v) :: m)

/-- The canonical form of a sparse map whose unlisted keys read as `d`. -/
def mwf {α : Type} [DecidableEq α] (d : α) (m : NMap α) : Bool :=
  risingKeys m && m.all (fun e => decide (e.2 ≠ d))

/-- A number added to a sorted list without repeats. -/
def insertNat : List Nat → Nat → List Nat
  | [], x => [x]
  | y :: ys, x => if x = y then y :: ys else if x < y then x :: y :: ys else y :: insertNat ys x

/-! Numbers. -/

/-- Bits `[lo + w - 1 : lo]` of a number (R8). -/
def bits (n lo w : Nat) : Nat := n / 2 ^ lo % 2 ^ w

/-- One bit of a number. -/
def bitOf (n i : Nat) : Bool := n / 2 ^ i % 2 == 1

/-- 1 for true. -/
def b2n (b : Bool) : Nat := if b then 1 else 0

/-- A count saturated at the largest value of `w` bits. -/
def satN (w n : Nat) : Nat := min n (2 ^ w - 1)

/-- The quotient rounded up. -/
def ceilDiv (a b : Nat) : Nat := (a + b - 1) / b

/-- An integer as `w` bits of two's complement. -/
def twos (w : Nat) (i : Int) : Nat := (i % (2 ^ w : Nat)).toNat

/-- The integer of `w` bits of two's complement. -/
def untwos (w n : Nat) : Int := if n % 2 ^ w < 2 ^ (w - 1) then (n % 2 ^ w : Nat) else (n % 2 ^ w : Nat) - (2 ^ w : Nat)

/-- Four-bit mask of the numbers for which the test holds. -/
def mask4 (f : Fin 4 → Bool) : Nat := b2n (f 0) + 2 * b2n (f 1) + 4 * b2n (f 2) + 8 * b2n (f 3)

/-! Time: eighths of a data-path clock (R669). -/

/-- One tick (R6). -/
def unitsPerTick : Nat := 390625
/-- One data-path clock (R6). -/
def unitsPerClock : Nat := 8
/-- One microsecond. -/
def unitsPerUs : Nat := 12800

/-- Nanoseconds as units, rounded up. -/
def nsUnits (n : Nat) : Nat := ceilDiv (n * 64) 5
/-- A time in ms as ticks, rounded up (R53). -/
def msTicks (n : Nat) : Nat := ceilDiv (n * 32768) 1000

/-- The data-path clock edge at which something that happens at a time is registered (R42, R58, R130). -/
def edgeOf (t : Nat) : Nat := ceilDiv t unitsPerClock

/-- The current tick, not wrapped. -/
def tickOf (s : State) : Nat := s.now / unitsPerTick

/-- The tick as the 40-bit counter holds it (R658). -/
def tick40 (s : State) : Nat := tickOf s % 2 ^ 40

/-! Registers: the raw file. -/

/-- The index under which a register is kept: the ledger's device registers are one register seen in every sub-block (R659). -/
def homeIdx (i : Nat) : Nat := if i / 1024 = 2 ∧ i % 256 < 5 then 2048 + i % 256 else i

/-- A register of the file. -/
def rawReg (s : State) (i : Nat) : Word := mget (regReset (homeIdx i)) s.regs (homeIdx i)

/-- A register of the file written. -/
def setReg (s : State) (i : Nat) (w : Word) : State :=
  { s with regs := mset (regReset (homeIdx i)) s.regs (homeIdx i) w }

/-- A field's value (R8). -/
def fldOf (w : Word) (f : Fld) : Nat := bits w.toNat f.lo f.width

/-- A word with one field replaced. -/
def withFld (w : Word) (f : Fld) (v : Nat) : Word :=
  let m : Word := BitVec.ofNat 48 ((2 ^ f.width - 1) * 2 ^ f.lo)
  (w &&& ~~~m) ||| (BitVec.ofNat 48 (v % 2 ^ f.width * 2 ^ f.lo))

/-- A field of the register file. -/
def rd (s : State) (f : Fld) : Nat := fldOf (rawReg s f.idx) f

/-- A one-bit field. -/
def rdb (s : State) (f : Fld) : Bool := rd s f == 1

/-- A field of the register file written. -/
def wr (s : State) (f : Fld) (v : Nat) : State := setReg s f.idx (withFld (rawReg s f.idx) f v)

/-- A field incremented; it stops at its maximum. -/
def incSat (s : State) (f : Fld) (n : Nat) : State := wr s f (satN f.width (rd s f + n))

/-- A field incremented; it wraps to 0. -/
def incWrap (s : State) (f : Fld) (n : Nat) : State := wr s f (rd s f + n)

/-! Events, messages, free values. -/

/-- An event of the running command (R623); the recorder takes it when the command ends. -/
def event (s : State) (code sev stage arg : Nat) : State := { s with evs := s.evs ++ [⟨code, sev, stage, arg⟩] }

/-- A message or pin change sent. -/
def emit (s : State) (o : Output) : State := { s with out := s.out ++ [o] }

/-- A free value and the state that has used it (log entry 3). -/
def fresh (s : State) : Nat × State := (Config.freeNat s.freeIdx, { s with freeIdx := s.freeIdx + 1 })

/-- `n` free bytes. -/
def freshBytes (s : State) (n : Nat) : List Byte × State :=
  ((List.range n).map fun i => BitVec.ofNat 8 (Config.freeNat (s.freeIdx + i)), { s with freeIdx := s.freeIdx + n })

/-- A list folded over the state. -/
def foldS {α : Type} (xs : List α) (f : State → α → State) (s : State) : State := xs.foldl f s

/-- The state changed where the condition holds. -/
def whenS (c : Bool) (f : State → State) (s : State) : State := if c then f s else s

/-! Codes of R39, R47, R59. -/

/-- The encoding of a mode (R39). -/
def modeCode : Mode → Nat
  | .dark => 0 | .standby => 1 | .service => 2 | .save => 3 | .hold => 4 | .restore => 5

/-- The encoding of a stage state (R47). -/
def stageCode : StageState → Nat
  | .unbound => 0 | .dressing => 1 | .live => 2 | .restoring => 3 | .sealed => 4

/-- The encoding of a playbill (R59). -/
def billCode : Playbill → Nat
  | .repertory => 0 | .fullHouse => 1 | .soloLatency => 2 | .soloHoldup => 3 | .soloEndurance => 4 | .soloPower => 5

/-- The playbill of a code; 6 and 7 are reserved (R59). -/
def billOf : Nat → Option Playbill
  | 0 => some .repertory | 1 => some .fullHouse | 2 => some .soloLatency | 3 => some .soloHoldup
  | 4 => some .soloEndurance | 5 => some .soloPower | _ => none

/-- A stage's state. -/
def stageSt (s : State) (n : Stage) : StageState := qget s.modes.stages n

/-- The device is in Service or Restore, where a save trigger saves (R42). -/
def serving (s : State) : Bool := s.modes.mode = .service || s.modes.mode = .restore

/-- The next opening of a window that recurs every `l` ticks (R53): the first multiple of `l` not before the present tick that the timer has not taken. -/
def nextOpening (s : State) (timer l : Nat) : Nat :=
  let l := max l 1
  let t := ceilDiv s.now unitsPerTick
  let k := ceilDiv (max t (mget 0 s.timers timer)) l
  k * l

/-- Time moved on to a time that is not past (log entry 2). -/
def until_ (s : State) (t : Nat) : State := { s with now := max s.now t }
/-- Time moved on to a tick. -/
def untilTick (s : State) (k : Nat) : State := until_ s (k * unitsPerTick)
/-- The next window of a recurring timer opens: time moves to its opening tick, which the action is given (R53). -/
def window (s : State) (timer l : Nat) (f : State → Nat → State) : State :=
  let o := nextOpening s timer l
  f (untilTick { s with timers := mset 0 s.timers timer (o + max l 1) } o) o

/-- The recurring windows: caps, gauge, thermal sample, drift tracking, rate limit, TIME, polls, sweeps, DevLoad, heat; a stage's is its number added. -/
def timerCaps : Nat := 1
def timerGauge : Nat := 2
def timerThermal : Nat := 3
def timerDrift : Nat := 4
def timerTime : Nat := 5
def timerPoll : Nat := 6
def timerI3c : Nat := 8
def timerSweep (n : Nat) : Nat := 16 + n
def timerBudget (n : Nat) : Nat := 20 + n

end Sys2Proof.Machine
end

