-- ==== Sys2Proof/Machine/StoreOps.lean ====
section
/-! DEFINITION. The script store: cells and SEC-DED decoding, areas and callers, headers and slots, the erase directory, and the operations the ROM routines and the slot writers share (chapter 15). -/

namespace Sys2Proof.Machine

/-- An erased word's cells (R542, R543). -/
def cellsErased : BitVec 56 := BitVec.allOnes 56

/-- The 56 cells of a data word: data in [47:0], check bits above; an erased word is a codeword (R543). -/
def secdedEncode (d : Word) : BitVec 56 :=
  if d = BitVec.allOnes 48 then cellsErased else (Config.secdedRaw d).append d

/-- The data cells. -/
def cellData (c : BitVec 56) : Word := c.extractLsb' 0 48

/-- The outcome of reading 56 cells: 0 clean, 1 corrected, 2 uncorrectable, and the data (R543). -/
def secdedDecode (c : BitVec 56) : Nat × Word :=
  if secdedEncode (cellData c) = c then (0, cellData c)
  else match (List.range 56).find? (fun i =>
      let c' := c ^^^ (1#56 <<< i)
      secdedEncode (cellData c') == c') with
    | some i => (1, cellData (c ^^^ (1#56 <<< i)))
    | none => (2, cellData c)

/-- The sector of a word address (R542). -/
def sectorOf (a : Nat) : Nat := a / 2048
/-- The protection group of a sector (R542). -/
def groupOf (sec : Nat) : Nat := sec / 64

/-- Sectors whose shipped content the spec does not give: firmware slot A and the certificate (R545, R681). -/
def isShipped (sec : Nat) : Bool := (decide (64 ≤ sec) && decide (sec ≤ 1087)) || sec == 8128

/-- The sector still holds what it was shipped with. -/
def asShipped (st : Store) (sec : Nat) : Bool := isShipped sec && !st.touched.contains sec

/-- The stored cells of a word. -/
def storeCells (st : Store) (a : Nat) : BitVec 56 :=
  if asShipped st (sectorOf a) then secdedEncode (Config.shippedWord a) else mget cellsErased st.nor a

/-- A word as READ decodes it (R543). -/
def storeWord (st : Store) (a : Nat) : Nat × Word := secdedDecode (storeCells st a)

/-- The shipped words of a sector made explicit, so that some of them can change. -/
def unship (st : Store) (sec : Nat) : Store :=
  if asShipped st sec then
    { st with
      nor := (List.range 2048).foldl (fun m i =>
        mset cellsErased m (2048 * sec + i) (secdedEncode (Config.shippedWord (2048 * sec + i)))) st.nor
      touched := insertNat st.touched sec }
  else st

/-- The caller a call came from. -/
def callWho : StoreCall → StoreCaller
  | .read who .. => who
  | .program who .. => who
  | .erase who _ => who
/-- Cells programmed: bits change only from 1 to 0 (R542). -/
def progCells (st : Store) (a : Nat) (c : BitVec 56) : Store :=
  let st := unship st (sectorOf a)
  { st with nor := mset cellsErased st.nor a (mget cellsErased st.nor a &&& c) }

/-- A word programmed. -/
def progWord (st : Store) (a : Nat) (w : Word) : Store := progCells st a (secdedEncode w)

/-- Consecutive words programmed. -/
def progWords (st : Store) (a : Nat) (ws : List Word) : Store :=
  (ws.foldl (fun (p : Store × Nat) w => (progWord p.1 p.2 w, p.2 + 1)) (st, a)).1

/-- Every cell of a sector returned to 1 (R542). -/
def blankSector (st : Store) (sec : Nat) : Store :=
  { st with
    writing := st.writing.filter (fun e => decide (sectorOf e.mark ≠ sec))
    nor := st.nor.filter (fun e => decide (sectorOf e.1 ≠ sec))
    touched := if isShipped sec then insertNat st.touched sec else st.touched }

/-! Areas (R545). -/

/-- An area of the die: tag of its headers (none: raw), first and last sector. -/
structure StoreArea where
  first : Nat
  last : Nat
  tag : Option Nat
  /-- written by: the house role; the ROM as well; nobody in the field -/
  romWrites : Bool
  houseWrites : Bool
  /-- read by any control core rather than the house role alone -/
  coreReads : Bool
  deriving DecidableEq, Repr

/-- The area table of R545. -/
def storeAreas : List StoreArea :=
  [ ⟨0, 1, some 0x01, true, false, false⟩
  , ⟨2, 3, some 0x02, false, true, false⟩
  , ⟨4, 5, some 0x03, false, true, false⟩
  , ⟨6, 7, some 0x04, false, true, false⟩
  , ⟨8, 15, some 0x05, false, true, false⟩
  , ⟨16, 23, some 0x06, false, true, true⟩
  , ⟨24, 39, some 0x07, false, true, false⟩
  , ⟨64, 1087, some 0x08, true, true, true⟩
  , ⟨1088, 2111, some 0x08, true, true, true⟩
  , ⟨2112, 2191, some 0x09, false, true, true⟩
  , ⟨2192, 2239, some 0x0A, false, true, true⟩
  , ⟨2240, 2319, some 0x09, false, true, true⟩
  , ⟨2320, 2367, some 0x0A, false, true, true⟩
  , ⟨2368, 2383, none, false, true, false⟩
  , ⟨2384, 2727, some 0x0B, false, true, false⟩
  , ⟨2752, 2839, some 0x0C, false, true, false⟩
  , ⟨4096, 6143, none, false, false, false⟩
  , ⟨8128, 8128, none, false, false, true⟩ ]

/-- The area of a sector; a reserved sector has none (R546). -/
def areaOf (sec : Nat) : Option StoreArea := storeAreas.find? (fun a => decide (a.first ≤ sec) && decide (sec ≤ a.last))


/-- The caller may read the area (R545, R551). -/
def mayRead (a : StoreArea) (who : StoreCaller) : Bool :=
  match who with
  | .rom => a.first == 0 || a.coreReads
  | .host .. => a.first == 4096
  | .house => a.first != 4096 && a.first != 0
  | .stageCore => a.coreReads

/-- The caller may write the area (R545, R551). -/
def mayWrite (a : StoreArea) (who : StoreCaller) : Bool :=
  match who with
  | .rom => a.romWrites
  | .host .. => a.first == 4096
  | .house => a.houseWrites
  | .stageCore => false

/-- The group's protection bit (R564). -/
def isProtected (st : Store) (sec : Nat) : Bool := st.prot.getLsbD (groupOf sec)

/-! Headers, erase records, directory entries (R547, R559). -/

/-- Header word 2 that matches header word 1 (R547). -/
def headerCheck (w1 : Word) : Word := BitVec.ofNat 48 (crc16 (wordBytes w1))

/-- Header word 1: area tag, index in the slot, use sequence (R547). -/
def headerWord (tag index use : Nat) : Word := BitVec.ofNat 48 (tag % 256 + index % 256 * 256 + use % 2 ^ 32 * 65536)

/-- The sector's header is valid (R547); what was shipped is taken as headed. -/
def headerValid (st : Store) (sec : Nat) : Bool :=
  asShipped st sec || (storeWord st (2048 * sec + 2)).2 == headerCheck (storeWord st (2048 * sec + 1)).2

/-- The sector's header word 1. -/
def headerOf (st : Store) (sec : Nat) : Word := (storeWord st (2048 * sec + 1)).2

/-- An erase record: count, pulses, 0xE5C (R547). -/
def eraseRecord (count pulses : Nat) : Word :=
  BitVec.ofNat 48 (count % 2 ^ 24 + pulses % 4096 * 2 ^ 24 + 0xE5C * 2 ^ 36)

/-- The erase count and pulses a sector's word 0 carries, if it is a record (R547, R558). -/
def eraseInfo (st : Store) (sec : Nat) : Option (Nat × Nat) :=
  let r := storeWord st (2048 * sec)
  if r.1 = 2 ∨ bits r.2.toNat 36 12 ≠ 0xE5C then none else some (bits r.2.toNat 0 24, bits r.2.toNat 24 12)

/-- A directory entry (R559): kind 0 intent, 1 erased, 2 failed. -/
def dirEntry (sec kind count : Nat) : Word :=
  let low := sec % 8192 + kind % 4 * 2 ^ 13 + count % 2 ^ 24 * 2 ^ 15
  BitVec.ofNat 48 (low + crc8 (leBytes 5 low) * 2 ^ 40)

/-- Sector, kind and count of an entry whose CRC holds (R559). -/
def parseEntry (w : Word) : Option (Nat × Nat × Nat) :=
  let n := w.toNat
  if crc8 (leBytes 5 (n % 2 ^ 40)) = bits n 40 8 ∧ bits n 39 1 = 0 then
    some (bits n 0 13, bits n 13 2, bits n 15 24) else none

/-- The active directory's sector (R560). -/
def dirSector (st : Store) : Nat := b2n st.dirB

/-- An entry's effect on the open intents and the failed sectors (R559). -/
def applyEntry (st : Store) (sec kind count : Nat) : Store :=
  match kind with
  | 0 => { st with intents := st.intents.filter (fun e => decide (e.1 ≠ sec)) ++ [(sec, count)] }
  | 1 => { st with intents := st.intents.filter (fun e => decide (e.1 ≠ sec)) }
  | 2 => { st with intents := st.intents.filter (fun e => decide (e.1 ≠ sec)), failed := insertNat st.failed sec }
  | _ => st

/-- An entry programmed at the next free word of the active directory. -/
def dirAppendRaw (st : Store) (sec kind count : Nat) : Store :=
  let a := 2048 * dirSector st + 3 + st.dirUsed
  applyEntry { progWord st a (dirEntry sec kind count) with dirUsed := st.dirUsed + 1 } sec kind count

/-- The sector's erase count for R558 step 1: word 0, else the newest directory entry, else 0; of a failed sector its failed entry's, since its cells are left as the pulses left them. -/
def eraseCountOf (st : Store) (sec : Nat) : Nat :=
  match (if st.failed.contains sec then none else eraseInfo st sec) with
  | some (c, _) => c
  | none =>
    ((List.range st.dirUsed).foldl (fun (acc : Nat) i =>
      match parseEntry (storeWord st (2048 * dirSector st + 3 + i)).2 with
      | some (x, _, c) => if x = sec then c else acc
      | none => acc) 0)

/-- The directory compacted into the other sector when 4 or fewer entries are free (R560). -/
def dirCompact (s : State) : State :=
  let st := s.store
  if 2045 - st.dirUsed > 4 then s
  else
    let other := 1 - dirSector st
    let c := eraseCountOf st other
    let f := fresh s
    let p := 1 + f.1 % 600
    let st1 := dirAppendRaw st other 0 (c + 1)
    let st2 := progWord (blankSector st1 other) (2048 * other) (eraseRecord (c + 1) p)
    let w1 := headerWord 0x01 0 (st.dirSeq + 1)
    let st3 := progWord st2 (2048 * other + 1) w1
    let keep := st1.intents.filter (fun e => decide (e.1 ≠ other))
    let entries := keep.map (fun e => dirEntry e.1 0 e.2) ++ st1.failed.map (fun x => dirEntry x 2 (eraseCountOf st1 x))
    let st4 := progWords st3 (2048 * other + 3) entries
    let st5 := progWord st4 (2048 * other + 2) (headerCheck w1)
    let s := { f.2 with store := { st5 with dirB := !st.dirB, dirSeq := st.dirSeq + 1, dirUsed := entries.length, intents := keep } }
    let s := whenS (decide (p > rd s F.STORE_CFG_PULSE_WARN)) (fun s => event s 0xB05 1 0 (other + p % 4096 * 2 ^ 13)) s
    event s 0xB0B 0 0 (st.dirSeq + 1)

/-- An entry appended, with compaction first where it is due (R560). -/
def dirAppend (s : State) (sec kind count : Nat) : State :=
  let s := dirCompact s
  { s with store := dirAppendRaw s.store sec kind count }

/-- Steps 4 and 5 of R558: cells blank, erase record, erased entry; event 0xB05 above the warning (R569). -/
def eraseFinish (s : State) (sec count pulses : Nat) : State :=
  let st := progWord (blankSector s.store sec) (2048 * sec) (eraseRecord count pulses)
  let s := dirAppend { s with store := st } sec 1 count
  whenS (decide (pulses > rd s F.STORE_CFG_PULSE_WARN)) (fun s => event s 0xB05 1 0 (sec % 8192 + pulses % 4096 * 2 ^ 13)) s

/-- A whole erase by the ROM or a slot writer (R558); how many pulses it takes is the die's (free value). -/
def eraseWhole (s : State) (sec : Nat) : State :=
  if s.store.failed.contains sec then s
  else
    let c := eraseCountOf s.store sec
    let s := dirAppend s sec 0 (c + 1)
    let f := fresh s
    eraseFinish f.2 sec (c + 1) (1 + f.1 % 600)

/-- The program check of R555 on one word: some target cell is 1 where the stored cell is 0. -/
def eraseRequired (st : Store) (a : Nat) (w : Word) : Bool :=
  decide (storeCells st a &&& secdedEncode w ≠ secdedEncode w)

/-- Read-back of words (R556). -/
def readBack (st : Store) (a : Nat) (ws : List Word) : Bool :=
  (ws.foldl (fun (p : Bool × Nat) w =>
    let r := storeWord st p.2
    (p.1 && decide (r.1 ≠ 2) && decide (r.2 = w), p.2 + 1)) (true, a)).1

/-! Slots (R549). -/

/-- The data words of a slot of the given sectors, in order. -/
def slotAddr (secs : List Nat) (i : Nat) : Nat := 2048 * secs.getD (i / 2045) 0 + 3 + i % 2045

/-- Data word `i` of a slot. -/
def slotWord (st : Store) (secs : List Nat) (i : Nat) : Word := (storeWord st (slotAddr secs i)).2

/-- CRC-32 of words as 6 bytes each, little-endian (R450). -/
def crcWords (ws : List Word) : Nat := crc32 (ws.flatMap wordBytes)

/-- A slot read as a payload of `n` words: its sequence and payload where its headers and its valid mark match (R549). -/
def slotReadAs (st : Store) (tag : Nat) (secs : List Nat) (n : Nat) : Option (Nat × List Word) :=
  let need := ceilDiv (n + 2) 2045
  let heads := (List.range need).all fun k =>
    let sec := secs.getD k 0
    headerValid st sec && bits (headerOf st sec).toNat 0 8 == tag % 256 && bits (headerOf st sec).toNat 8 8 == k % 256
  if decide (need ≤ secs.length) && heads then
    let head := slotWord st secs 0
    let body := (List.range n).map fun i => slotWord st secs (i + 1)
    if slotWord st secs (n + 1) = BitVec.ofNat 48 (crcWords (head :: body)) then some (bits head.toNat 0 32, body) else none
  else none
/-- The sequence and payload of a valid slot (R549). The 16 bits of the payload length hold it modulo 65,536: the valid mark decides among the lengths that the slot's sectors can hold. -/
def slotRead (st : Store) (tag : Nat) (secs : List Nat) : Option (Nat × List Word) :=
  let n := bits (slotWord st secs 0).toNat 32 16
  (List.range (secs.length * 2045 / 65536 + 1)).findSome? (fun k => slotReadAs st tag secs (n + 65536 * k))

/-- The newest valid of two slots: which (0 or 1), sequence, payload (R549). -/
def slotNewest (st : Store) (tag : Nat) (a b : List Nat) : Option (Nat × Nat × List Word) :=
  match slotRead st tag a, slotRead st tag b with
  | some (x, p), some (y, q) => if x ≥ y then some (0, x, p) else some (1, y, q)
  | some (x, p), none => some (0, x, p)
  | none, some (y, q) => some (1, y, q)
  | none, none => none

/-- The headers of a slot's sectors programmed, a valid one left as it is (R547, R548). -/
def slotHeads (st : Store) (tag : Nat) (secs : List Nat) (use : Nat) : Store :=
  (secs.foldl (fun (p : Store × Nat) sec =>
    let w1 := headerWord tag p.2 use
    (if headerValid p.1 sec then p.1 else progWord (progWord p.1 (2048 * sec + 1) w1) (2048 * sec + 2) (headerCheck w1), p.2 + 1)) (st, 0)).1
/-- Headers, head and payload of a slot programmed into erased sectors and read back, and the valid mark last (R549, R556): at once, or, where `later` gives the argument of the event that reports it cut off and who waits for it, once the erases' pulses have taken their time (R558). Whether it was written. -/
def slotProgram (s : State) (tag : Nat) (secs used : List Nat) (seq : Nat) (payload : List Word) (later : Option (Nat × Option (Nat × Nat))) : Bool × State :=
  let n := payload.length
  let use0 := bits (headerOf s.store (used.getD 0 0)).toNat 16 32
  let st := slotHeads s.store tag used (use0 + 1)
  let head : Word := BitVec.ofNat 48 (seq % 2 ^ 32 + n % 65536 * 2 ^ 32)
  let st := ((head :: payload).foldl (fun (p : Store × Nat) w => (progWord p.1 (slotAddr secs p.2) w, p.2 + 1)) (st, 0)).1
  let ok := ((head :: payload).foldl (fun (p : Bool × Nat) w => (p.1 && decide (slotWord st secs p.2 = w), p.2 + 1)) (true, 0)).1
  if ok then
    let mark : Word := BitVec.ofNat 48 (crcWords (head :: payload))
    let a := slotAddr secs (n + 1)
    match later with
    | none => (true, { s with store := progWord st a mark })
    | some (arg, who) =>
      let pulses := (used.map (fun x => (eraseInfo st x).elim 0 (·.2))).sum
      (true, { s with store := { st with writing := st.writing ++ [⟨tag, a, mark, s.now + pulses * 1000 * unitsPerUs, arg, who⟩] } })
  else (false, event { s with store := st } 0xB0D 1 0 (tag % 256 + used.getD 0 0 % 8192 * 256))
/-- An erase's counted pulse time and pulses; a starved erase logs event 0xB06 once (R563). -/
def eraseCount (s : State) (e : EraseOp) : State :=
  let s := wr (wr s F.STORE_ERASE_STATUS_ERASE_10US (satN 24 (e.used / (10 * unitsPerUs)))) F.STORE_ERASE_STATUS_PULSES e.pulses
  let ms := e.used / (1000 * unitsPerUs)
  let starve := decide (rd s F.STORE_CFG_STARVE_MS ≠ 0) && decide (e.used / (10 * unitsPerUs) > 100 * rd s F.STORE_CFG_STARVE_MS) && !e.starved
  let s := if starve then event s 0xB06 1 0 (e.sector + 2 ^ 13 * satN 19 ms) else s
  { s with store := { s.store with erase := some { e with starved := e.starved || starve } } }
/-- The erase in progress makes way for a read or a program: its pulse is discarded, the time of it counted (R562, R563). -/
def eraseSuspend (s : State) : State :=
  match s.store.erase with
  | some e =>
    if e.suspended then s
    else incSat (eraseCount s { e with suspended := true, used := e.used + (s.now - e.pulseStart) }) F.STORE_ERASE_STATUS_SUSPENDS 1
  | none => s
/-- A slot written as R549 orders it, read back under R556; whether it was written. A slot that holds a failed sector is skipped (R570). A routine's erase in progress is suspended for it. The writing is one step but for a valid mark that comes later (DESIGN CHOICE, log entry 52). -/
def slotWriteAt (s : State) (tag : Nat) (secs : List Nat) (seq : Nat) (payload : List Word) (later : Option (Nat × Option (Nat × Nat))) : Bool × State :=
  let used := secs.take (ceilDiv (payload.length + 2) 2045)
  if used.any (fun x => s.store.failed.contains x || isProtected s.store x) then (false, s)
  else slotProgram (foldS used eraseWhole (eraseSuspend s)) tag secs used seq payload later

/-- A payload written to the slot of a pair that does not hold the newest, with the newest sequence plus 1 (R549, R570). -/
def slotWriteBy (s : State) (tag : Nat) (a b : List Nat) (payload : List Word) (later : Option (Nat × Option (Nat × Nat))) : Bool × State :=
  let (target, other, seq) := match slotNewest s.store tag a b with
    | some (0, q, _) => (b, a, q + 1)
    | some (_, q, _) => (a, b, q + 1)
    | none => (a, b, 1)
  if target.any (fun x => s.store.failed.contains x) then slotWriteAt s tag other seq payload later
  else slotWriteAt s tag target seq payload later
/-- The same in one step, the valid mark included (log entry 52). -/
def slotWrite (s : State) (tag : Nat) (a b : List Nat) (payload : List Word) : Bool × State := slotWriteBy s tag a b payload none
/-- The slots whose writing has ended by now get their valid marks, and a mailbox that waited for one its completion (R394, R549). -/
def slotsFollow (s : State) : State :=
  let due := s.store.writing.filter (fun e => decide (e.done ≤ s.now))
  let s := { s with store := { s.store with writing := s.store.writing.filter (fun e => decide (s.now < e.done)) } }
  foldS due (fun s e =>
    let s := { s with store := progWord s.store e.mark e.word }
    -- the copy of the learned capacity is no longer owed (R497)
    let s := whenS (e.tag == 0x02) (fun s => wr s F.GAUGE_STATUS_LEARN_WRITE_PENDING 0) s
    e.who.elim s (fun b => emit s (.mailbox b.1 b.2 0 []))) s
/-- Loss of power: what has been written in time stands, the other slots stay without a valid mark and are to be reported (R361, R394). -/
def slotsCut (s : State) : State :=
  let s := slotsFollow s
  { s with store := { s.store with writing := [], cuts := s.store.cuts ++ s.store.writing.map (fun e => (e.tag, e.arg)) } }
/-- The cut-off slots of an area reported by an event, once (R361, R394). -/
def cutsReport (s : State) (tag code : Nat) : State :=
  let s' := { s with store := { s.store with cuts := s.store.cuts.filter (fun e => e.1 != tag) } }
  foldS (s.store.cuts.filter (fun e => e.1 == tag)) (fun s e => event s code 1 0 e.2) s'

/-- The payload of the newest valid slot of a pair. -/
def slotPayload (st : Store) (tag : Nat) (a b : List Nat) : Option (List Word) :=
  (slotNewest st tag a b).map (fun r => r.2.2)

/-- The learned-capacity slot pair (R545). -/
def slotsLearned : List Nat × List Nat := ([2], [3])
/-- The Dirty Shutdown Count slot pair. -/
def slotsDsc : List Nat × List Nat := ([4], [5])
/-- The stage erase-intent slot pair. -/
def slotsIntent : List Nat × List Nat := ([6], [7])
/-- The media-key slot pair of a stage. -/
def slotsKey (n : Stage) : List Nat × List Nat := ([8 + 2 * n.val], [9 + 2 * n.val])
/-- Sectors from a first one. -/
def sectorsFrom (a n : Nat) : List Nat := (List.range n).map (a + ·)
/-- The training snapshot slot pair: sectors 16 to 19 and 20 to 23 (R545). -/
def slotsTrain : List Nat × List Nat := (sectorsFrom 16 4, sectorsFrom 20 4)
/-- The label storage copies of a stage. -/
def slotsLsa (n : Stage) : List Nat × List Nat := (sectorsFrom (2752 + 22 * n.val) 11, sectorsFrom (2763 + 22 * n.val) 11)

/-- Every bit of a slot's sectors programmed to 0 (R421, R550). -/
def zeroSector (st : Store) (sec : Nat) : Store :=
  (List.range 2048).foldl (fun st i => progCells st (2048 * sec + i) 0#56) st

/-! Recovery at the transition to Standby (R561). -/

/-- The directory's open intents and failed sectors read from a sector. -/
def dirLoad (st : Store) (b : Bool) : Store :=
  let st := { st with dirB := b, dirSeq := bits (headerOf st (b2n b)).toNat 16 32, dirUsed := 0, intents := [], failed := [], dirValid := true }
  ((List.range 2045).foldl (fun (p : Store × Bool) i =>
    if p.2 then p else
    let c := storeCells st (2048 * b2n b + 3 + i)
    if c = cellsErased then (p.1, true) else
    match parseEntry (secdedDecode c).2 with
    | some (x, k, n) => ({ applyEntry p.1 x k n with dirUsed := i + 1 }, false)
    | none => ({ p.1 with dirUsed := i + 1 }, false)) (st, false)).1

/-- The sectors with something programmed. -/
def usedSectors (st : Store) : List Nat := st.nor.foldl (fun acc e => insertNat acc (sectorOf e.1)) []

/-- Step 3 of R561: every headed sector begun and not validly headed is erased again. -/
def eraseHeadless (s : State) : State :=
  foldS (usedSectors s.store) (fun s sec =>
    match areaOf sec with
    | some a =>
      let begun := storeCells s.store (2048 * sec + 1) ≠ cellsErased ∨ storeCells s.store (2048 * sec + 2) ≠ cellsErased
      if a.tag.isSome ∧ sec ≠ dirSector s.store ∧ begun ∧ headerValid s.store sec = false then
        event (eraseWhole s sec) 0xB02 1 0 (sec % 8192 + bits (headerOf s.store sec).toNat 0 8 * 2 ^ 13)
      else s
    | none => s) s

/-- R561: directory selected or rebuilt, open intents erased again, headless sectors erased again. -/
def storeRecover (s : State) : State :=
  let st := s.store
  let va := headerValid st 0
  let vb := headerValid st 1
  let seqOf := fun sec => bits (headerOf st sec).toNat 16 32
  if va || vb then
    let b := vb && (!va || decide (seqOf 1 > seqOf 0))
    let s := { s with store := dirLoad st b }
    let s := foldS s.store.intents (fun s e =>
      let f := fresh (dirAppend s e.1 0 (e.2 + 1))
      event (eraseFinish f.2 e.1 (e.2 + 1) (1 + f.1 % 600)) 0xB01 1 0 e.1) s
    eraseHeadless s
  else
    let w1 := headerWord 0x01 0 1
    let (p0, s) := fresh s
    let (p1, s) := fresh s
    let erased := fun (x : Store) (sec p : Nat) => progWord (blankSector x sec) (2048 * sec) (eraseRecord ((eraseInfo st sec).elim 1 (fun e => e.1 + 1)) (1 + p % 600))
    let st := erased (erased st 0 p0) 1 p1
    let st := progWord (progWord st 1 w1) 2 (headerCheck w1)
    let s := { s with store := { st with dirB := false, dirSeq := 1, dirUsed := 0, intents := [], failed := [], dirValid := true } }
    event (eraseHeadless s) 0xB0C 2 0 0

end Sys2Proof.Machine
end

