-- ==== Sys2Proof/Machine/PbookOps.lean ====
section
/-! DEFINITION. The prompt book's recorder: record format, sequence numbers, rate limit, ring, cursors, clearing, copying to the script store (chapter 18), and the alert sources the recorder's codes set. -/

namespace Sys2Proof.Machine

/-- A record (R623). -/
def mkRec (tick seq code sev stage arg : Nat) : Rec :=
  let w0 : Word := BitVec.ofNat 48 (tick % 2 ^ 40 + seq % 256 * 2 ^ 40)
  let w1 : Word := BitVec.ofNat 48 (code % 4096 + sev % 4 * 4096 + stage % 4 * 16384 + arg % 2 ^ 32 * 65536)
  let mark := crc8 (wordBytes w0 ++ wordBytes w1 ++ leBytes 4 seq)
  ⟨w0, w1, BitVec.ofNat 48 (seq % 2 ^ 32 + mark * 2 ^ 32)⟩

/-- The sequence number of a record. -/
def recSeq (r : Rec) : Nat := bits r.w2.toNat 0 32
/-- The severity of a record. -/
def recSev (r : Rec) : Nat := bits r.w1.toNat 12 2

/-- R624. -/
def recValid (r : Rec) : Bool :=
  decide (recSeq r ≠ 0) && bits r.w2.toNat 40 8 == 0 && bits r.w0.toNat 40 8 == recSeq r % 256
    && bits r.w2.toNat 32 8 == crc8 (wordBytes r.w0 ++ wordBytes r.w1 ++ leBytes 4 (recSeq r))

/-- An empty storage location. -/
def recZero : Rec := ⟨0#48, 0#48, 0#48⟩

/-- The sequence number that follows (R625). -/
def seqNext (q : Nat) : Nat := if q % 2 ^ 32 = 2 ^ 32 - 1 then 1 else q % 2 ^ 32 + 1

/-- Record `a` precedes record `b` (R625). -/
def seqBefore (a b : Nat) : Bool :=
  let d := (b + 2 ^ 32 - a % 2 ^ 32) % 2 ^ 32
  decide (1 ≤ d) && decide (d < 2 ^ 31)

/-- The ring location of a sequence (R627). -/
def ringAt (p : PBook) (q : Nat) : Rec := mget recZero p.ring (q % 256)

/-- The valid records of the ring. -/
def ringRecs (p : PBook) : List Rec := (p.ring.map (·.2)).filter recValid

/-- Record position `k` of sector `x` of the script-store area (R628). -/
def areaRec (st : Store) (x k : Nat) : Rec :=
  let a := 2048 * (24 + x) + 3 + 3 * k
  ⟨(storeWord st a).2, (storeWord st (a + 1)).2, (storeWord st (a + 2)).2⟩

/-- The positions of the area that hold something: sector, position. -/
def areaSpots (st : Store) : List (Nat × Nat) :=
  (st.nor.filter (fun e => decide (24 ≤ sectorOf e.1) && decide (sectorOf e.1 ≤ 39) && decide (e.1 % 2048 ≥ 3) && e.1 % 2048 % 3 == 2)).map
    (fun e => (sectorOf e.1 - 24, (e.1 % 2048 - 3) / 3))

/-- The valid records of the area, with their positions. -/
def areaRecs (st : Store) : List (Nat × Nat × Rec) :=
  ((areaSpots st).map (fun p => (p.1, p.2, areaRec st p.1 p.2))).filter (fun r => recValid r.2.2)

/-- The script store is powered: outside Dark and Hold (R634). -/
def storePowered (s : State) : Bool := s.modes.mode ≠ .dark && s.modes.mode ≠ .hold

/-- The exempt codes (R632). -/
def exemptCodes : List Nat :=
  [0x001, 0x002, 0x005, 0x201, 0x203, 0x204, 0x205, 0x20E, 0x301, 0x304] ++
  [0x611, 0x710, 0x714, 0x715, 0x71B, 0xA01, 0xA07, 0xD01, 0xD06, 0xFFF]

/-- The high-rate codes (R632). -/
def highRateCodes : List Nat := [0x405, 0x505, 0x50C, 0x50D, 0x808, 0xB03]

/-- Records of a code a window accepts; none for no limit (R632, R643). -/
def rateLimit (s : State) (code : Nat) : Option Nat :=
  if exemptCodes.contains code then none
  else if highRateCodes.contains code then some (max 1 (rd s F.PBOOK_CFG_RL_LIMIT_HIGH))
  else some (max 1 (rd s F.PBOOK_CFG_RL_LIMIT))

/-- The rate-limit window length in ticks (R632, R643). -/
def rlWindow (s : State) : Nat := max 1 (rd s F.PBOOK_CFG_RL_WINDOW)

/-- The sequence number the next record takes; 0 is taken as 1 (R625). -/
def nextSeq (s : State) : Nat := if rd s F.PBOOK_STATUS_NEXT_SEQ = 0 then 1 else rd s F.PBOOK_STATUS_NEXT_SEQ

/-- An alert source occurs (R615). -/
def alert (s : State) (bit : Nat) : State :=
  wr s F.SB_ALERT_STATUS_SOURCES (rd s F.SB_ALERT_STATUS_SOURCES ||| 2 ^ bit)

/-- ALERT_N is driven low (R615). -/
def alertLow (s : State) : Bool := decide (rd s F.SB_ALERT_STATUS_SOURCES &&& rd s F.SB_ALERT_MASK_MASK ≠ 0)

/-- The alert sources of a recorded severity (R615 bits 2 and 3). -/
def alertSev (s : State) (sev : Nat) : State := if sev = 2 then alert s 2 else if sev = 1 then alert s 3 else s

/-- The alert sources of an occurrence (R615 bits 0, 4, 5, 6 and 7). -/
def alertCode (s : State) (code : Nat) : State :=
  if code = 0x001 then alert s 0
  else if code = 0x806 ∨ code = 0x80B then alert s 4
  else if code = 0x903 ∨ code = 0x909 ∨ code = 0x90B then alert s 5
  else if code = 0x105 ∨ code = 0x40E then alert s 6
  else if code = 0x00A ∨ code = 0x713 then alert s 7
  else s

/-- A record enters the ring (R625, R627); an eligible record it replaces before its copy is lost (R630). -/
def acceptRec (s : State) (tick code sev stage arg : Nat) : State :=
  let q := nextSeq s
  let old := ringAt s.pbook q
  let lost := recValid old && decide (recSev old ≥ rd s F.PBOOK_CFG_STORE_MIN_SEV) &&
    (s.pbook.copyDone == 0 || seqBefore s.pbook.copyDone (recSeq old))
  let p := { s.pbook with
    ring := mset recZero s.pbook.ring (q % 256) (mkRec tick q code sev stage arg)
    lost := s.pbook.lost + b2n lost }
  alertSev (wr { s with pbook := p } F.PBOOK_STATUS_NEXT_SEQ (seqNext q)) sev

/-- The tick at which the window after the one in progress opens: the first multiple of the present length that is not earlier than its end tick (R53). -/
def rlOpening (s : State) : Nat := ceilDiv s.pbook.window (rlWindow s) * rlWindow s

/-- The summary of the window that has ended, accepted at the next window's opening tick (R633). -/
def summarise (s : State) : State :=
  let p := s.pbook
  let low := p.supCodes.headD 0
  let arg := satN 16 p.suppressed + low * 65536 + min p.supCodes.length 15 * 2 ^ 28
  acceptRec { s with pbook := { p with suppressed := 0, supCodes := [], supSev := 0, counts := [] } }
    (rlOpening s) 0xFFF p.supSev 0 arg

/-- The limiter moved to the window of the present tick, whose end is kept (R53, R632, R633). After a change of length, what comes between the end of the old window and the next opening counts in the old one (log entry 117). -/
def rollWindow (s : State) : State :=
  if tickOf s < rlOpening s then s
  else
    let s := whenS (decide (s.pbook.suppressed > 0)) summarise s
    { s with pbook := { s.pbook with window := (tickOf s / rlWindow s + 1) * rlWindow s, counts := [] } }

/-- One event taken by the recorder or suppressed (R632). -/
def recordEv (s : State) (e : Ev) : State :=
  let s := alertCode (rollWindow s) e.code
  let n := mget 0 s.pbook.counts e.code
  match rateLimit s e.code with
  | none => acceptRec s (tickOf s) e.code e.sev e.stage e.arg
  | some lim =>
    if n < lim then
      acceptRec { s with pbook := { s.pbook with counts := mset 0 s.pbook.counts e.code (n + 1) } } (tickOf s) e.code e.sev e.stage e.arg
    else
      { s with pbook := { s.pbook with
          suppressed := s.pbook.suppressed + 1
          supCodes := insertNat s.pbook.supCodes e.code
          supSev := max s.pbook.supSev e.sev } }

/-- An event put among events of one clock by ascending code, after those of its own code (R625). -/
def insertEv : List Ev → Ev → List Ev
  | [], e => [e]
  | x :: xs, e => if x.code ≤ e.code then x :: insertEv xs e else e :: x :: xs

/-- The events of one clock in ascending code order (R625). -/
def sortEvs (es : List Ev) : List Ev := es.foldl insertEv []

/-- The running command's events taken by the recorder. -/
def recordAll (s : State) : State :=
  foldS (sortEvs s.evs) recordEv { s with evs := [] }

/-- The argument of the newest record of a code changed on the clock at which it was accepted, where a second input of that clock decides it (R58). -/
def recAmend (s : State) (code : Nat) (f : Nat → Nat) : State :=
  let newest := (ringRecs s.pbook).foldl (fun (a : Option Rec) r =>
    if bits r.w1.toNat 0 12 ≠ code then a
    else match a with
      | none => some r
      | some q => if seqBefore (recSeq q) (recSeq r) then some r else some q) none
  match newest with
  | none => s
  | some r =>
    let w := r.w1.toNat
    let r := mkRec (bits r.w0.toNat 0 40) (recSeq r) code (bits w 12 2) (bits w 14 2) (f (bits w 16 32))
    { s with pbook := { s.pbook with ring := mset recZero s.pbook.ring (recSeq r % 256) r } }

/-! Cursors and clearing (R634 to R636). -/

/-- The records of an area: false the ring, true the script store. -/
def areaOfBook (s : State) (store : Bool) : List Rec :=
  if store then (if storePowered s then (areaRecs s.store).map (fun r => r.2.2) else []) else ringRecs s.pbook

/-- The oldest record of the list that does not precede `q`. -/
def oldestFrom (rs : List Rec) (q : Nat) : Option Nat :=
  rs.foldl (fun acc r =>
    let x := recSeq r
    if seqBefore x q then acc else
    match acc with
    | none => some x
    | some y => if seqBefore x y then some x else some y) none

/-- A cursor placed at a sequence of an area (R634). -/
def cursorPlace (s : State) (set : Nat) (store : Bool) (q : Nat) : State :=
  let (q', empty) := match oldestFrom (areaOfBook s store) q with
    | some x => (x, false)
    | none => (q, true)
  wr (wr (wr s (F.PBOOK_CURSOR_SEQ set) q') (F.PBOOK_CURSOR_AREA set) (b2n store)) (F.PBOOK_CURSOR_EMPTY set) (b2n empty)

/-- The cursor after a read of word 2: the next valid record that follows, or the sequence that follows, with EMPTY (R634). -/
def cursorAdvance (s : State) (set : Nat) : State :=
  cursorPlace s set (rdb s (F.PBOOK_CURSOR_AREA set)) (seqNext (rd s (F.PBOOK_CURSOR_SEQ set)))

/-- EMPTY as it stands: a record accepted later at or beyond the cursor becomes visible (R634). -/
def cursorEmpty (s : State) (set : Nat) : Bool :=
  (oldestFrom (areaOfBook s (rdb s (F.PBOOK_CURSOR_AREA set))) (rd s (F.PBOOK_CURSOR_SEQ set))).isNone

/-- A word of a read window (R634). -/
def windowWord (s : State) (set k : Nat) : Word :=
  let q := rd s (F.PBOOK_CURSOR_SEQ set)
  let r := if rdb s (F.PBOOK_CURSOR_AREA set) then
      (((areaOfBook s true).find? (fun r => recSeq r == q)).getD recZero) else ringAt s.pbook q
  match k with
  | 0 => r.w0
  | 1 => r.w1
  | _ => r.w2

/-- The record is cleared by a bound: it does not follow it (R636). -/
def clearHit (bound : Nat) (r : Rec) : Bool := recValid r && !seqBefore bound (recSeq r)

/-- The ring part of a clear: word 2 of each such record is zero; how many (R636). -/
def clearRing (p : PBook) (bound : Nat) : Nat × PBook :=
  let hit := p.ring.filter (fun e => clearHit bound e.2)
  (hit.length, { p with ring := p.ring.map (fun e => if clearHit bound e.2 then (e.1, { e.2 with w2 := 0#48 }) else e) })

/-- The script-store part: every sector all of whose valid records qualify is erased (R636). -/
def clearArea (s : State) (bound : Nat) : Nat × State :=
  let rs := areaRecs s.store
  let secs := (List.range 16).filter (fun x =>
    let mine := rs.filter (fun r => r.1 == x)
    !mine.isEmpty && mine.all (fun r => clearHit bound r.2.2))
  let s' := foldS secs (fun s x => eraseWhole s (24 + x)) s
  -- an erased sector has no header: the next copy takes a fresh sector (R548)
  ((rs.filter (fun r => secs.contains r.1)).length,
    if secs.contains s.pbook.areaSector then { s' with pbook := { s'.pbook with areaPos := 512 } } else s')

/-- A clear of the selected areas (R636); event 0xD01 carries the count and the areas. -/
def clearBook (s : State) (bound areas : Nat) : State :=
  let ring := areas % 2 = 1
  let area := areas / 2 % 2 = 1
  let (n1, p) := if ring then clearRing s.pbook bound else (0, s.pbook)
  let s := { s with pbook := p }
  if area then
    if storePowered s then
      let (n2, s) := clearArea { s with pbook := { s.pbook with clearPending := none } } bound
      event s 0xD01 0 0 (min (n1 + n2) (2 ^ 30 - 1) + areas % 4 * 2 ^ 30)
    else
      let s := { s with pbook := { s.pbook with clearPending := some bound } }
      if ring then event s 0xD01 0 0 (min n1 (2 ^ 30 - 1) + 2 ^ 30) else s
  else if ring then event s 0xD01 0 0 (min n1 (2 ^ 30 - 1) + 2 ^ 30) else s

/-- A pending area clear carried out at entry to Standby (R636). -/
def clearPendingArea (s : State) : State :=
  match s.pbook.clearPending with
  | none => s
  | some b =>
    let (n, s) := clearArea { s with pbook := { s.pbook with clearPending := none } } b
    event s 0xD01 0 0 (min n (2 ^ 30 - 1) + 2 * 2 ^ 30)

/-! Renumbering and copying (R626, R629 to R631). -/

/-- The highest sequence number held in the script-store area, 0 if none (R626). -/
def areaHighest (st : Store) : Nat :=
  (areaRecs st).foldl (fun m r => if m = 0 ∨ seqBefore m (recSeq r.2.2) then recSeq r.2.2 else m) 0

/-- A sequence number `h` later: after 0xFFFF_FFFF comes 1 (R625). -/
def seqAdd (q h : Nat) : Nat := (q - 1 + h) % 4294967295 + 1

/-- Sequence numbers continued after a loss of VAON (R626). -/
def renumber (s : State) : State :=
  if rdb s F.PBOOK_STATUS_RENUMBER = false then s
  else
    let h := areaHighest s.store
    let ring := (ringRecs s.pbook).foldl (fun (m : NMap Rec) r =>
      let q := seqAdd (recSeq r) h
      mset recZero m (q % 256) (mkRec (bits r.w0.toNat 0 40) q (bits r.w1.toNat 0 12) (recSev r) (bits r.w1.toNat 14 2) (bits r.w1.toNat 16 32))) []
    let s := { s with pbook := { s.pbook with ring := ring, lastCopied := h, copyDone := h } }
    let s := wr (wr s F.PBOOK_STATUS_NEXT_SEQ (seqAdd (nextSeq s) h)) F.PBOOK_STATUS_RENUMBER 0
    event s 0xD06 0 0 h

/-- The first position after the last used one of the newest sector of the area (R631). -/
def areaResume (s : State) : State :=
  let heads := (List.range 16).filter (fun x => headerValid s.store (24 + x))
  let newest := heads.foldl (fun (m : Option Nat) x =>
    match m with
    | none => some x
    | some y => if bits (headerOf s.store (24 + x)).toNat 16 32 ≥ bits (headerOf s.store (24 + y)).toNat 16 32 then some x else some y) none
  match newest with
  | none => { s with pbook := { s.pbook with areaSector := 0, areaPos := 512, lastCopied := areaHighest s.store, copyDone := areaHighest s.store } }
  | some x =>
    let used := s.store.nor.foldl (fun m e =>
      if sectorOf e.1 = 24 + x ∧ e.1 % 2048 ≥ 3 then max m ((e.1 % 2048 - 3) / 3 + 1) else m) 0
    { s with pbook := { s.pbook with areaSector := x, areaPos := used, lastCopied := areaHighest s.store, copyDone := areaHighest s.store } }

/-- The next ring record to copy: the oldest eligible one that follows the newest copied (R629). -/
def copyNext (s : State) : Option Rec :=
  let min := rd s F.PBOOK_CFG_STORE_MIN_SEV
  ((ringRecs s.pbook).filter (fun r => decide (recSev r ≥ min) && (s.pbook.copyDone == 0 || seqBefore s.pbook.copyDone (recSeq r)))).foldl
    (fun acc r => match acc with
      | none => some r
      | some x => if seqBefore (recSeq r) (recSeq x) then some r else some x) none

/-- A fresh sector of the area: the one of lowest use sequence, erased and headed with the highest plus 1 (R629); none usable is R570. -/
def areaNewSector (s : State) : State :=
  let usable := (List.range 16).filter (fun x => !s.store.failed.contains (24 + x))
  let useOf := fun x => if headerValid s.store (24 + x) then bits (headerOf s.store (24 + x)).toNat 16 32 else 0
  match usable with
  | [] => if s.pbook.unusable then s else event { s with pbook := { s.pbook with unusable := true } } 0xD04 2 0 0
  | x0 :: xs =>
    let low := xs.foldl (fun m x => if useOf x < useOf m then x else m) x0
    let high := xs.foldl (fun m x => max m (useOf x)) (useOf x0)
    let s := eraseWhole s (24 + low)
    let w1 := headerWord 0x07 low (high + 1)
    let st := progWord (progWord s.store (2048 * (24 + low) + 1) w1) (2048 * (24 + low) + 2) (headerCheck w1)
    { s with store := st, pbook := { s.pbook with areaSector := low, areaPos := 0 } }

/-- One record copied, as R629 orders its programs; a read-back mismatch abandons the position. -/
def copyOne (s : State) : State :=
  match copyNext s with
  | none =>
    if s.pbook.lost > 0 then event { s with pbook := { s.pbook with lost := 0 } } 0xD02 1 0 s.pbook.lost else s
  | some r =>
    let s := if s.pbook.areaPos ≥ 512 then areaNewSector s else s
    if s.pbook.unusable then s
    else
      let a := 2048 * (24 + s.pbook.areaSector) + 3 + 3 * s.pbook.areaPos
      let st := progWords s.store a [r.w0, r.w1]
      let ok1 := readBack st a [r.w0, r.w1]
      let st := if ok1 then progWord st (a + 2) r.w2 else st
      let ok := ok1 && readBack st (a + 2) [r.w2]
      let p := { s.pbook with areaPos := s.pbook.areaPos + 1 }
      if ok then { s with store := st, pbook := { p with lastCopied := recSeq r, copyDone := recSeq r, retrying := false } }
      else
        let s := event { s with store := st } 0xB0D 1 0 (0x07 + (24 + p.areaSector) * 256)
        if p.retrying then { s with pbook := { p with retrying := false, lost := p.lost + 1, copyDone := recSeq r } }
        else { s with pbook := { p with retrying := true } }

end Sys2Proof.Machine
end

