-- ==== Sys2Proof/Machine/SchedOps.lean ====
section
/-! DEFINITION. The DRAM schedulers' shared operations: performance-counter hits, address mapping, queues, remap lookup, choice of the next command, refresh, activation tables, self-refresh (chapters 07 and 08). -/

namespace Sys2Proof.Machine

/-! Performance counters (R639 to R641). -/

/-- The counters run: Standby, Service, Restore, Save, and not frozen (R640). -/
def pmonRuns (s : State) : Bool := s.modes.mode ≠ .dark && s.modes.mode ≠ .hold && rd s F.PMON_CTRL_FREEZE == 0

/-- The counters that have a selection written: counter number and selection word. -/
def pmonSel (s : State) : List (Nat × Nat) :=
  (s.regs.filter (fun e => decide (0x3C60 ≤ e.1) && decide (e.1 ≤ 0x3C7F))).map (fun e => (e.1 - 0x3C60, e.2.toNat))

/-- A counter advanced; a wrap sets its OVERFLOW bit and may log 0xD05 (R639). -/
def pmonAdd (s : State) (k n : Nat) : State :=
  let v := (rawReg s (0x3C80 + k)).toNat + n
  let s1 := setReg s (0x3C80 + k) (BitVec.ofNat 48 v)
  if v < 2 ^ 48 then s1
  else
    let s2 := wr s1 F.PMON_STATUS_OVERFLOW (rd s1 F.PMON_STATUS_OVERFLOW ||| 2 ^ k)
    whenS (rdb s2 F.PMON_CTRL_WRAP_EVENT) (fun s => event s 0xD05 0 0 k) s2

/-- `n` occurrences of a source's item at an instance (R639 mode 0, R641). -/
def pmonHit (s : State) (group item inst n : Nat) : State :=
  if (pmonSel s).isEmpty || !pmonRuns s then s
  else foldS (pmonSel s) (fun s e =>
    let src := bits e.2 0 8
    let mode := bits e.2 14 2
    if bitOf e.2 16 && src == group * 32 + item && (mode == 0 || mode == 3) && (bitOf e.2 13 || bits e.2 8 5 == inst) then
      pmonAdd s e.1 n else s) s

/-! Channels and subchannels. -/

/-- A DRAM channel. -/
def chan (s : State) (c : DramCh) : Channel := qget s.dram.ch c
/-- A DRAM channel replaced. -/
def setChan (s : State) (c : DramCh) (x : Channel) : State := { s with dram := { s.dram with ch := qset s.dram.ch c x } }
/-- A subchannel: false A, true B. -/
def subch (s : State) (c : DramCh) (b : Bool) : SubCh := if b then (chan s c).subB else (chan s c).subA
/-- A subchannel replaced. -/
def setSub (s : State) (c : DramCh) (b : Bool) (x : SubCh) : State :=
  setChan s c (if b then { chan s c with subB := x } else { chan s c with subA := x })
/-- Way number of a subchannel for the performance counters (R641). -/
def subNo (c : DramCh) (b : Bool) : Nat := 2 * c.val + b2n b

/-- A bank that nothing has used since the channel trained (R280). -/
def bankInit : Bank := ⟨none, none, false, false, 2, 0, List.replicate 32 (0, 0), 0, 0⟩
/-- A bank of a subchannel. -/
def bankOf (x : SubCh) (k : Nat) : Bank := mget bankInit x.banks k
/-- A bank replaced. -/
def setBank (x : SubCh) (k : Nat) (b : Bank) : SubCh := { x with banks := mset bankInit x.banks k b }
/-- A rank. -/
def rankOf (x : SubCh) (r : Nat) : Rank := if r = 0 then x.rank0 else x.rank1
/-- A rank replaced. -/
def setRank (x : SubCh) (r : Nat) (k : Rank) : SubCh := if r = 0 then { x with rank0 := k } else { x with rank1 := k }

/-! Address mapping (R262 to R264). -/

/-- A field of a channel's DC_MAP as Dressing applied it (R265). -/
def mapRd (s : State) (f : Fld) : Nat := fldOf (qget s.dram.maps (fin4 ((f.idx - 0x1008) / 0x400))) f
/-- A channel's DC_MAP set, the register and what it maps with it (R265, R303). -/
def mapSet (s : State) (c : DramCh) (w : Word) : State :=
  setReg { s with dram := { s.dram with maps := qset s.dram.maps c w } } (F.DC_MAP_GRAIN c.val).idx w

/-- The channels of a stage, ascending (R262). -/
def stageChans (s : State) (n : Stage) : List DramCh :=
  fours.filter (fun c => mapRd s (F.DC_MAP_BOUND c.val) == 1 && mapRd s (F.DC_MAP_STAGE c.val) == n.val)

/-- The stage of a channel, if it is bound. -/
def chanStage (s : State) (c : DramCh) : Option Stage :=
  if mapRd s (F.DC_MAP_BOUND c.val) = 1 then some (fin4 (mapRd s (F.DC_MAP_STAGE c.val))) else none

/-- Coordinates of a subchannel-local line (R264): package rank, logical rank, bank group, bank, row, column. -/
def localCoord (s : State) (c : DramCh) (b : Bool) (l0 : Nat) : Coord :=
  let cb := if mapRd s (F.DC_MAP_WIDTH c.val) = 0 then 7 else 6
  let lb := mapRd s (F.DC_MAP_STACK c.val) % 3
  let pb := mapRd s (F.DC_MAP_RANKS c.val)
  let c0 := l0 % 4;               let l1 := l0 / 4
  let bgf := l1 % 8;              let l2 := l1 / 8
  let c1 := l2 % 2 ^ (cb - 2);    let l3 := l2 / 2 ^ (cb - 2)
  let bank := l3 % 4;             let l4 := l3 / 4
  let lr := l4 % 2 ^ lb;          let l5 := l4 / 2 ^ lb
  let pr := l5 % 2 ^ pb;          let row := l5 / 2 ^ pb
  ⟨c, b, l0, pr, lr, bgf ^^^ (row % 8), bank, row, (c0 + 4 * c1) * 16⟩

/-- The coordinates of a line of a stage; none for a stage without channels (R263). -/
def mapLine (s : State) (n : Stage) (line : Nat) : Option Coord :=
  let cs := stageChans s n
  match cs with
  | [] => none
  | c0 :: _ =>
    let g := 4 * 4 ^ mapRd s (F.DC_MAP_GRAIN c0.val)
    let ways := 2 * cs.length
    let unit := line / g
    let way := unit % ways
    let l := unit / ways * g + line % g
    some (localCoord s (cs.getD (way / 2) 0) (way % 2 == 1) l)

/-- The number of a bank in its subchannel: package rank, logical rank, bank address, bank group. -/
def bankNo (c : Coord) : Nat := c.prank * 128 + c.lrank * 32 + c.bank * 8 + c.bg

/-- The stage's raw capacity in lines (R514). -/
def rawLines (s : State) (n : Stage) : Nat := rd s (F.STAGE_SIZE_RAW_256MIB n.val) * 4194304
/-- The stage's raw capacity in frames. -/
def rawFrames (s : State) (n : Stage) : Nat := rd s (F.STAGE_SIZE_RAW_256MIB n.val) * 65536
/-- The stage's host-visible capacity in lines (R515). -/
def hostLines (s : State) (n : Stage) : Nat := rd s (F.STAGE_SIZE_HOST_256MIB n.val) * 4194304
/-- The stage's host-visible capacity in frames. -/
def hostFrames (s : State) (n : Stage) : Nat := rd s (F.STAGE_SIZE_HOST_256MIB n.val) * 65536

/-- Lines of one subchannel of a channel (R320). -/
def subLines (s : State) (c : DramCh) : Nat :=
  match chanStage s c with
  | some n => rawLines s n / (2 * max 1 (stageChans s n).length)
  | none => 0

/-- The DPA line of a subchannel-local line: the inverse of R263. -/
def lineOfLocal (s : State) (c : DramCh) (b : Bool) (l : Nat) : Nat :=
  match chanStage s c with
  | none => 0
  | some n =>
    let cs := stageChans s n
    let g := 4 * 4 ^ mapRd s (F.DC_MAP_GRAIN c.val)
    let pos := (cs.takeWhile (· ≠ c)).length
    (l / g * (2 * cs.length) + 2 * pos + b2n b) * g + l % g

/-! Stored lines (R307 to R316). -/

/-- Key of a line in the DRAM contents. -/
def lineKey (n : Stage) (line : Nat) : Nat := n.val * 2 ^ 36 + line

/-- What an unlisted line of a stage holds. -/
def fillCell (s : State) (n : Stage) (line : Nat) : LineCell :=
  match qget s.dram.fill n with
  | .zero => ⟨0#512, .clean⟩
  | .powerUp e => ⟨Config.dramPowerUp e (lineKey n line), .clean⟩
  | .above e k => if line ≥ k then ⟨0#512, .clean⟩ else ⟨Config.dramPowerUp e (lineKey n line), .clean⟩
/-- A stored line; what nothing has written holds what the stage's fill says. -/
def dramCell (s : State) (n : Stage) (line : Nat) : LineCell := (mfind s.dram.lines (lineKey n line)).getD (fillCell s n line)

/-- A line stored; the value an unlisted line reads as is not listed. -/
def setLine (s : State) (n : Stage) (line : Nat) (c : LineCell) : State :=
  { s with dram := { s.dram with lines := mset (fillCell s n line) s.dram.lines (lineKey n line) c } }

/-- The poison pattern (R310). -/
def poisonCell : LineCell := ⟨0#512, .poison []⟩

/-- The channel's devices are x8 (R303, R307). -/
def wideDev (s : State) (c : DramCh) : Bool := mapRd s (F.DC_MAP_WIDTH c.val) == 1
/-- What an armed injection stores in place of a line (R317, R343). On x8, where a device holds 16 bytes of a line, the correctable error of mode 0 takes 8 of them and mode 1 takes 9 (DESIGN CHOICE, log entry 132). -/
def injected (s : State) (c : DramCh) (cell : LineCell) : LineCell :=
  let dev := rd s (F.DC_INJECT_DEVICE c.val)
  let flip := fun (e : LineErrs) => match cell.cond with
    | .poison _ => { cell with cond := .poison e }
    | _ => { cell with cond := .wrong e }
  match rd s (F.DC_INJECT_MODE c.val) with
  | 0 => flip [(dev, 8)]
  | 1 => flip (if wideDev s c then [(dev, 9)] else [(dev, 8), ((dev + 1) % 10, 8)])
  | 2 => poisonCell
  | _ => cell

/-- A line write reaching the DRAM, with an armed injection applied (R315, R317). -/
def storeLine (s : State) (n : Stage) (line : Nat) (cell : LineCell) : State :=
  match mapLine s n line with
  | none => setLine s n line cell
  | some k =>
    let c := k.ch.val
    let hit := rd s (F.DC_INJECT_ARM c) == 1 && rd s (F.DC_INJECT_SUBCHANNEL c) == b2n k.sub &&
      (rd s (F.DC_INJECT_ANY c) == 1 || rd s (F.DC_INJECT_ADDR_LINE c) == k.local_)
    if hit then
      let s1 := setLine s n line (injected s k.ch cell)
      event (wr s1 (F.DC_INJECT_ARM c) 0) 0x50F 0 n.val (c + 4 * b2n k.sub + 8 * rd s (F.DC_INJECT_MODE c))
    else setLine s n line cell

/-! Requests (R266, R267, R276 to R279). -/

/-- A configuration fault of the crossbar (R22, R513): kind 0 DRAM channel, 1 flash channel, 2 cipher lane, 3 port, 4 core. Where no DRAM channel of the stage maps the line the spec names no resource number, and callers put 0 (DESIGN CHOICE, log entry 118). -/
def xbarFault (s : State) (n : Stage) (kind res : Nat) : State :=
  let s := wr (wr (wr s F.STAGE_XBAR_FAULT_STAGE n.val) F.STAGE_XBAR_FAULT_KIND kind) F.STAGE_XBAR_FAULT_RESOURCE res
  event (incSat s F.STAGE_XBAR_FAULT_COUNT 1) 0xA09 2 n.val (kind + 8 * res)

/-- A request put at its port; one at or above the raw capacity is never issued (R265), one that no channel of the stage maps is a configuration fault of the crossbar (R22). A request put again keeps its place in the order. -/
def dramPut (s : State) (r : DramReq) : State :=
  if r.line ≥ rawLines s r.stage then s
  else match mapLine s r.stage r.line with
    | none => xbarFault s r.stage 0 0
    | some k =>
      let x := subch s k.ch k.sub
      let r := if r.id = 0 then { r with id := s.dram.nextId, panicPorts := [r.port] } else r
      setSub { s with dram := { s.dram with nextId := s.dram.nextId + 1 } } k.ch k.sub { x with waiting := x.waiting ++ [r] }

/-- A request with nothing special about it. -/
def mkReq (port cls : Nat) (write : Bool) (n : Stage) (line : Nat) (data : BitVec 512) (poison : Bool) (use : DramUse) : DramReq :=
  ⟨0, port, cls, write, n, line, line, data, poison, use, 0, 0, false, [port], false, 0, true, false, none, false⟩

/-- A read put at its port. -/
def dramRead (s : State) (port cls : Nat) (n : Stage) (line : Nat) (use : DramUse) : State :=
  dramPut s (mkReq port cls false n line 0#512 false use)

/-- A full-line write put at its port. -/
def dramWrite (s : State) (port cls : Nat) (n : Stage) (line : Nat) (data : BitVec 512) (poison : Bool) (use : DramUse) : State :=
  dramPut s (mkReq port cls true n line data poison use)

/-- A read and write of one line (R279): the write is stored as the read's completion decides. `target` is the line written (another one for a remap copy). -/
def dramPair (s : State) (port cls : Nat) (n : Stage) (line target : Nat) (use : DramUse) : State :=
  let p := s.dram.nextPair
  let s := { s with dram := { s.dram with nextPair := p + 1 } }
  let s := dramPut s { mkReq port cls false n line 0#512 false use with pair := p }
  dramPut s { mkReq port cls true n target 0#512 false use with pair := p, ready := false, origLine := line }

/-- The remap lookup (R331, R333). -/
inductive Remapped where
  | direct | redirect (line : Nat) | wait (entry : Nat) | invalid (entry : Nat)
  deriving DecidableEq, Repr

/-- A free remap entry. -/
def remapFree : RemapEntry := ⟨0, 0, 0, 0, true, []⟩
/-- Remap entry `k`. -/
def remapAt (s : State) (k : Nat) : RemapEntry := mget remapFree s.dram.remap k
/-- Remap entry `k` replaced. -/
def setRemap (s : State) (k : Nat) (e : RemapEntry) : State := { s with dram := { s.dram with remap := mset remapFree s.dram.remap k e } }

/-- Spare lines of a stage, at most 512 (R344). -/
def spareCount (s : State) (n : Stage) : Nat := min 512 (bits (rawReg s 0x1100).toNat (10 * n.val) 10)
/-- Line number of a stage's spare line (R327, R514). -/
def spareLine (s : State) (n : Stage) (i : Nat) : Nat := rawLines s n - spareCount s n + i
/-- A line lies in the spare area (R328). -/
def inSpares (s : State) (n : Stage) (line : Nat) : Bool := decide (line ≥ rawLines s n - spareCount s n)

/-- The entry that maps a line, if any. -/
def remapOf (s : State) (n : Stage) (line : Nat) : Option (Nat × RemapEntry) :=
  s.dram.remap.find? (fun e => decide (e.2.state ≠ 0) && decide (e.2.stage = n) && e.2.line == line)

/-- Where the lookup sends a request (R330, R331, R333). -/
def remapLookup (s : State) (n : Stage) (line : Nat) : Remapped :=
  match remapOf s n line with
  | none => .direct
  | some (k, e) =>
    if e.parityOk = false ∨ e.spare ≥ spareCount s n ∨ e.state = 3 then .invalid k
    else if e.state = 1 then .wait k
    else .redirect (spareLine s n e.spare)

/-- The reads that use the read queue, the ports that use each queue (R266). -/
def queuePorts (write : Bool) : List Nat := if write then [0, 1, 3, 5, 6, 7] else [0, 1, 2, 3, 4, 6, 7]

/-- A free entry for a port: 64 entries, each port keeping a reserve of 4 (R267). -/
def queueRoom (q : List DramReq) (write : Bool) (port : Nat) : Bool :=
  let cnt := fun p => (q.filter (fun r => r.port == p)).length
  let reserve := ((queuePorts write).filter (· ≠ port)).foldl (fun a p => a + (4 - min 4 (cnt p))) 0
  decide (cnt port < 4 ∧ q.length < 64) || decide (q.length + reserve < 64)

/-- Two requests to one line whose order matters (R276). -/
def conflicts (a b : DramReq) : Bool := decide (a.stage = b.stage) && a.line == b.line && (a.write || b.write)

/-- A request with the class, the panic status and the age that one waiting for it passes on (R278). -/
def inherit (q r : DramReq) : DramReq :=
  { q with cls := min q.cls r.cls, panicPorts := q.panicPorts ++ r.panicPorts.filter (fun p => !q.panicPorts.contains p), age := min q.age r.age }
/-- Two requests lie in one line. -/
def oneLine (a b : DramReq) : Bool := decide (a.stage = b.stage) && a.line == b.line
/-- A queued request that an entering one waits for, itself or through the requests between them: every one of its line up to the newest write (R276, R278). -/
def waitedFor (qs : List DramReq) (r q : DramReq) : Bool :=
  oneLine q r && (r.write || qs.any (fun w => w.write && oneLine w r && decide (q.seq ≤ w.seq)))

/-- WQ_HIGH and WQ_LOW as taken (R297). -/
def wqHigh (s : State) (c : DramCh) : Nat := min 64 (rd s (F.DC_SCHED_CFG_WQ_HIGH c.val))
def wqLow (s : State) (c : DramCh) : Nat :=
  if rd s (F.DC_SCHED_CFG_WQ_LOW c.val) ≥ wqHigh s c then wqHigh s c - 1 else rd s (F.DC_SCHED_CFG_WQ_LOW c.val)

/-- A port is in panic on the channel; not under compatibility QoS (R272, R274). -/
def inPanic (s : State) (c : DramCh) (port : Nat) : Bool :=
  !s.modes.compat && ((port == 0 && (chan s c).panic0) || (port == 1 && (chan s c).panic1))
/-- Some real-time port is in panic on the channel. -/
def anyPanic (s : State) (c : DramCh) : Bool := inPanic s c 0 || inPanic s c 1
/-- A port in panic counts for the request (R278). -/
def reqPanic (s : State) (c : DramCh) (r : DramReq) : Bool := r.panicPorts.any (inPanic s c)

/-- Write drain began or ended by the queue's depth (R270). -/
def drainUpdate (s : State) (c : DramCh) (x : SubCh) : SubCh :=
  if x.wq.length ≥ wqHigh s c ∧ ¬ x.wq.isEmpty then { x with drain := true }
  else if x.wq.length ≤ wqLow s c then { x with drain := false } else x

/-- The line of a request is open for its pair: the pair's read has been issued and its write has not (R279). -/
def ownOpen (x : SubCh) (r : DramReq) : Bool := decide (r.pair ≠ 0) && x.pairOpen.contains (r.pair, lineKey r.stage r.line)
/-- A queued request of the line that a pair's write goes before: it entered after the pair's read (R279). -/
def pairBehind (x : SubCh) (r q : DramReq) : Bool :=
  r.write && oneLine q r && q.pair != r.pair && (ownOpen x r || x.rq.any (fun p => decide (r.pair ≠ 0) && p.pair == r.pair && decide (p.seq < q.seq)))
/-- A request enters its queue: age and order start, what it waits for takes its class and panic status, a pair's write those of the requests that wait for it, power-down ends, drain and idle timer follow (R267, R270, R278, R287, R288). -/
def queueEnter (s : State) (c : DramCh) (b : Bool) (r : DramReq) : State :=
  let x := subch s c b
  let qs := x.rq ++ x.wq
  let behind := fun (q : DramReq) => pairBehind x r q
  let r := (qs.filter behind).foldl inherit { r with age := s.now, seq := s.dram.nextId }
  let s := { s with dram := { s.dram with nextId := s.dram.nextId + 1 } }
  let pr := (mapLine s r.stage r.line).elim 0 (fun k => k.prank)
  let take := fun (q : DramReq) => if !behind q && waitedFor qs r q then inherit q r else q
  let rq := x.rq.map take
  let wq := x.wq.map take
  let x := if r.write then { x with rq := rq, wq := wq ++ [r] } else { x with rq := rq ++ [r], wq := wq }
  let x := setRank x pr { rankOf x pr with powerDown := false }
  let x := if r.cls ≤ 3 then { x with idleSince := s.now } else x
  let x := if r.use = .scrub then { x with scrubQueued := true } else x
  let aborted := decide (x.sr = .entering)
  let x := if aborted then { x with sr := .awake, idleSince := s.now } else x
  let s := setSub s c b (drainUpdate s c x)
  whenS aborted (fun s => incWrap s (F.DC_SR_COUNT_ABORTS c.val) 1) s

/-! Choosing a command (R268 to R271, R275). -/

/-- The age limit of a class in units of time; 0 is taken as 1 (R298). -/
def ageLimit (s : State) (c : DramCh) (cls : Nat) : Nat :=
  let n := match cls with
    | 0 => rd s (F.DC_AGE_A_CLASS0 c.val) | 1 => rd s (F.DC_AGE_A_CLASS1 c.val)
    | 2 => rd s (F.DC_AGE_A_CLASS2 c.val) | 3 => rd s (F.DC_AGE_A_CLASS3 c.val)
    | _ => rd s (F.DC_AGE_B_CLASS4 c.val)
  max 1 n * 1280

/-- A request waits under R276 or R279. The write of a pair whose read has been issued waits for its data alone. -/
def lineWaits (x : SubCh) (r : DramReq) : Bool :=
  let mate := fun (q : DramReq) => decide (r.pair ≠ 0) && q.pair == r.pair
  (!ownOpen x r && (x.rq ++ x.wq).any (fun q => oneLine q r && decide (q.seq < r.seq) && !mate q && (q.write || r.write || decide (r.pair ≠ 0))))
    || x.pairOpen.any (fun p => p.2 == lineKey r.stage r.line && decide (p.1 ≠ r.pair))
    || !r.ready
    || (r.write && x.rq.any mate)

/-- A write that write drain governs (R270). -/
def lateWrite (r : DramReq) : Bool := r.write && decide (r.cls ≥ 2)
/-- Write drain holds (R270, R273). -/
def draining (s : State) (c : DramCh) (x : SubCh) : Bool := x.drain && !anyPanic s c
/-- The level of R268 at which a request stands; with compatibility QoS the port priorities take the place of levels 2 to 9 (R275). -/
def levelOf (s : State) (c : DramCh) (x : SubCh) (r : DramReq) : Nat :=
  if s.modes.compat then 2 + bits (rawReg s (0x1004 + 0x400 * c.val)).toNat (2 * r.port) 2
  else if r.cls = 0 then (if reqPanic s c r then 2 else 3)
  else if r.promoted then 4
  else if lateWrite r && draining s c x then 5
  else 5 + r.cls
/-- Write drain under compatibility QoS: while it holds, the writes it governs go before other requests of classes 1 to 4; outside it they go only where no request of class 0 or 1 can (R270, R275; log entry 133). -/
def compatDrain (s : State) (c : DramCh) (x : SubCh) (rs : List DramReq) : List DramReq :=
  if !s.modes.compat then rs
  else if draining s c x then (if rs.any lateWrite then rs.filter (fun r => lateWrite r || decide (r.cls = 0)) else rs)
  else if rs.any (fun r => decide (r.cls ≤ 1)) then rs.filter (fun r => !lateWrite r) else rs

/-- The row of a request is open in its bank. -/
def rowOpen (s : State) (x : SubCh) (r : DramReq) : Bool :=
  match mapLine s r.stage r.line with
  | none => false
  | some k => decide ((bankOf x (bankNo k)).openRow = some k.row)

/-- A promoted request, or one of class 0 past its age limit: taken strictly oldest first (R268). -/
def strictAge (s : State) (c : DramCh) (r : DramReq) : Bool :=
  !s.modes.compat && (r.promoted || (r.cls == 0 && decide (s.now > r.age + ageLimit s c 0)))

/-- Before or after in the order of service: level, then open rows unless the level is taken by age, then age. -/
def better (s : State) (c : DramCh) (x : SubCh) (aged : Bool) (a b : DramReq) : Bool :=
  let la := levelOf s c x a
  let lb := levelOf s c x b
  if la ≠ lb then decide (la < lb)
  else
    let ra := rowOpen s x a
    let rb := rowOpen s x b
    if !aged && ra != rb then ra else decide (a.age < b.age) || (a.age == b.age && decide (a.seq < b.seq))

/-- A request of the host ports (R266). -/
def hostPort (q : DramReq) : Bool := q.port == 2 || q.port == 3
/-- A request restricted to idle slots may go: no host request is queued for the subchannel or waits at the channel's ports (R271); `free` lifts the restriction of trickle (R97). -/
def idleOk (s : State) (c : DramCh) (x : SubCh) (free : Bool) (r : DramReq) : Bool :=
  !r.idleOnly || (free && r.port == 4) || !((x.rq ++ x.wq).any hostPort || (subch s c false).waiting.any hostPort || (subch s c true).waiting.any hostPort)

/-- A class 3 or 4 request waits for the same-bank refresh that its rank owes to its bank (R283). -/
def refWaits (s : State) (c : DramCh) (x : SubCh) (r : DramReq) : Bool :=
  rd s (F.DC_REF_CFG_SAME_BANK c.val) == 1 && decide (r.cls ≥ 3) && (mapLine s r.stage r.line).elim false (fun k =>
    decide ((rankOf x k.prank).owed > 0) && k.bank == (rankOf x k.prank).setDone)

/-- The requests that may issue now; `blocked` are those DDR5 timing does not allow. -/
def candidates (s : State) (c : DramCh) (x : SubCh) (blocked : List Nat) (free : Stage → Bool) : List DramReq :=
  (x.rq ++ x.wq).filter (fun r => !blocked.contains r.id && !lineWaits x r && !refWaits s c x r && idleOk s c x (free r.stage) r)

/-- The first request in the order of service. -/
def chooseReq (s : State) (c : DramCh) (x : SubCh) (rs : List DramReq) : Option DramReq :=
  let rs := compatDrain s c x rs
  let top := rs.foldl (fun m r => min m (levelOf s c x r)) 99
  let aged := rs.any (fun r => levelOf s c x r == top && strictAge s c r)
  rs.foldl (fun acc r => match acc with
    | none => some r
    | some q => if better s c x aged r q then some r else some q) none

/-! Timing section (R348). -/

/-- A word of the timing section in use. -/
def timingWord (s : State) (i : Nat) : Nat := (s.dram.timing.getD i 0#48).toNat
/-- Data rate in MT/s of a speed code (R347). -/
def speedRate (v : Nat) : Nat := 3200 + 400 * v
/-- The first word of the set for the speed in use, if the section has one. -/
def timingSet (s : State) : Option Nat :=
  ((List.range (bits (timingWord s 0) 24 4)).map (fun k => 3 + 8 * k)).find?
    (fun i => bits (timingWord s i) 0 13 == speedRate (rd s F.DC_PHY_GLOBAL_SPEED_ACTIVE))
/-- A field of the speed set in use, 0 without one. -/
def timingFld (s : State) (word lo w : Nat) : Nat := (timingSet s).elim 0 (fun i => bits (timingWord s (i + word)) lo w)
/-- A time in ps or in ns as time units: whole data-path clocks, rounded up (R348). -/
def psClocks (n : Nat) : Nat := ceilDiv (n * 8) 5000 * unitsPerClock
def nsClocks (n : Nat) : Nat := ceilDiv (n * 8) 5 * unitsPerClock
/-- The refresh interval of a rank in time units (R282). -/
def refreshInterval (s : State) (c : DramCh) (hot : Bool) : Nat :=
  let t := nsClocks (timingFld s 6 0 16)
  let t := if rd s (F.DC_REF_CFG_MODE c.val) = 1 then t / 2 else t
  if hot then t / 2 else t
/-- RAAIMT, RAAMMT, and whether the devices require refresh management (R348, R351). -/
def raaImt (s : State) : Nat := bits (timingWord s 2) 0 16
def raaMmt (s : State) : Nat := bits (timingWord s 2) 16 16
def rfmRequired (s : State) : Bool := bitOf (timingWord s 2) 32

/-- Postponement and pull-in limits as taken (R301). -/
def postponeMax (s : State) (c : DramCh) : Nat := min 4 (max 1 (rd s (F.DC_REF_CFG_POSTPONE_MAX c.val)))
def pullinMax (s : State) (c : DramCh) : Nat := min 4 (rd s (F.DC_REF_CFG_PULLIN_MAX c.val))

/-! Refresh (R282 to R286, R355). -/


/-- Key of a delay: channel, kind, subchannel, rank, lane (R354). -/
def delayKey (c kind sub rank lane : Nat) : Nat := (((c * 8 + kind) * 2 + sub) * 2 + rank) * 64 + lane

/-- The staged delays of a rank take effect (R355). -/
def applyStaged (s : State) (c : DramCh) (b : Bool) (r : Nat) : State :=
  let mine := fun k : Nat => k / 64 % 2 == r && k / 128 % 2 == b2n b && k / 2048 == c.val
  let hits := s.dram.staged.filter (fun e => mine e.1)
  { s with dram := { s.dram with
      delays := hits.foldl (fun m e => mset 0 m e.1 e.2) s.dram.delays
      staged := s.dram.staged.filter (fun e => !mine e.1) } }

/-- Banks of a rank closed and their rolling counts reduced by a refresh covering them; `bank` limits it to one bank address (R283, R351). -/
def refreshBanks (s : State) (x : SubCh) (r : Nat) (bank : Option Nat) : SubCh :=
  let hit := fun k : Nat => k / 128 == r && (bank.elim true (fun b => k / 8 % 4 == b))
  { x with banks := x.banks.map (fun e => if hit e.1 then
      (e.1, { e.2 with openRow := none, justActivated := false, raa := e.2.raa - raaImt s }) else e) }

/-- An all-bank refresh of a rank. -/
def allBankRefresh (s : State) (c : DramCh) (b : Bool) (r : Nat) : State :=
  let x := refreshBanks s (subch s c b) r none
  let x := setRank x r { rankOf x r with owed := (rankOf x r).owed - 1, lastCmd := s.now, powerDown := false }
  let s := applyStaged (setSub s c b x) c b r
  emit (pmonHit s 3 11 (subNo c b) 1) (.ddr c.val (b2n b) 4 r 0 0)

/-- The next same-bank refresh of a rank's set; four make a unit (R282, R283). -/
def sameBankRefresh (s : State) (c : DramCh) (b : Bool) (r : Nat) : State :=
  let x := subch s c b
  let k := rankOf x r
  let bank := k.setDone
  let x := refreshBanks s x r (some bank)
  let k := if bank + 1 = 4 then { k with setDone := 0, owed := k.owed - 1 } else { k with setDone := bank + 1 }
  let x := setRank x r { k with lastCmd := s.now, powerDown := false }
  let s := applyStaged (setSub s c b x) c b r
  emit (pmonHit s 3 11 (subNo c b) 1) (.ddr c.val (b2n b) 5 r bank 0)

/-- The same command of level 1, whatever a mitigation has done of it. -/
def sameDue : DueCmd → DueCmd → Bool
  | .mitigate r b w _, .mitigate q m v _ => r == q && b == m && w == v
  | d, e => d == e
/-- A command due at level 1 added once. -/
def addDue (x : SubCh) (d : DueCmd) : SubCh := if x.due.any (sameDue d) then x else { x with due := x.due ++ [d] }
/-- The package rank of a command of level 1. -/
def dueRank : DueCmd → Nat
  | .forcedRefresh r | .mitigate r _ _ _ | .rfmBank r _ | .raaRfm r _ | .exitRefresh r => r
/-- A command goes to a rank now: its power-down ends, its power-down timer starts anew (R287). -/
def rankUsed (s : State) (x : SubCh) (r : Nat) : SubCh := setRank x r { rankOf x r with lastCmd := s.now, powerDown := false }
/-- The first due command removed. -/
def dropDue (x : SubCh) (d : DueCmd) : SubCh := { x with due := x.due.erase d }

/-! Row activation (R323 to R326, R351). -/

/-- The activation table after an activate of a row; the count that decides, if any (R323). -/
def activate (b : Bank) (row : Nat) : Bank × Option Nat :=
  match b.table.findIdx? (fun e => e.1 == row && decide (e.2 ≠ 0)) with
  | some i =>
    let c := (b.table.getD i (0, 0)).2 + 1
    ({ b with table := b.table.set i (row, c) }, some c)
  | none =>
    match b.table.findIdx? (fun e => e.2 == b.spill) with
    | some i => ({ b with table := b.table.set i (row, b.spill + 1) }, some (b.spill + 1))
    | none => ({ b with spill := b.spill + 1 }, none)

/-- THRESHOLD, RADIUS as taken (R342). -/
def rhThreshold (s : State) (c : DramCh) : Nat := max 1 (rd s (F.DC_RH_CFG_THRESHOLD c.val))
def rhRadius (s : State) (c : DramCh) : Nat := min 4 (max 1 (rd s (F.DC_RH_CFG_RADIUS c.val)))

/-- An activate of a row: table, mitigation or refresh management due, rolling count (R323, R351). -/
def activateRow (s : State) (c : DramCh) (b : Bool) (r bank row : Nat) : State :=
  let x := subch s c b
  let bk := bankOf x bank
  let (bk, cnt) := activate bk row
  let pred := match bk.lastRow with
    | none => bk.pred
    | some l => if l = row then (if bk.closedByPred then min 3 (bk.pred + 1) else bk.pred) else bk.pred - 1
  let raa := if rfmRequired s then bk.raa + 1 else bk.raa
  let bk := { bk with openRow := some row, pred := pred, justActivated := true, lastUse := s.now, raa := raa }
  let x := setBank x bank bk
  let t := rhThreshold s c
  let x := match cnt with
    | some n => if n % t = 0 then addDue x (.mitigate r bank row 0) else x
    | none => if bk.spill % t = 0 ∧ rd s (F.DC_RH_CFG_SPILL_RFM c.val) = 1 then addDue x (.rfmBank r bank) else x
  let x := if rfmRequired s ∧ raa ≥ raaImt s then addDue x (.raaRfm r bank) else x
  let x := rankUsed s x r
  emit (pmonHit (setSub s c b x) 3 8 (subNo c b) 1) (.ddr c.val (b2n b) 0 r bank row)

/-- Rows of a bank of the channel's devices (R264, R320). -/
def rowCount (s : State) (c : DramCh) : Nat :=
  let cb := if wideDev s c then 6 else 7
  subLines s c / 2 ^ (cb + 5 + mapRd s (F.DC_MAP_STACK c.val) % 3 + mapRd s (F.DC_MAP_RANKS c.val))
/-- The neighbours of a row that the device has, nearest first (R325). -/
def nearRows (s : State) (c : DramCh) (row : Nat) : List Nat :=
  (List.range (rhRadius s c)).flatMap (fun i => (if row + i + 1 < rowCount s c then [row + i + 1] else []) ++ (if i + 1 ≤ row then [row - i - 1] else []))
/-- Argument of events 0x50C and 0x50D without the row (R345). -/
def rankBankArg (c : DramCh) (b : Bool) (r bank : Nat) : Nat :=
  c.val + 4 * b2n b + 8 * r + 16 * (bank / 8 % 4) + 64 * (bank % 8)

/-- Directed refresh management is used on the channel (R325, R352). -/
def drfmOn (s : State) (c : DramCh) : Bool := rd s (F.DC_RH_CFG_DRFM c.val) == 1 && !(chan s c).drfmOff
/-- The next command of a mitigation: a precharge of the row that is open; with directed refresh management its command; else the activates of the neighbours, nearest first, each followed by its precharge (R325, R351). -/
def mitigateStep (s : State) (c : DramCh) (b : Bool) (r bank row k : Nat) : State :=
  let x := subch s c b
  let bk := bankOf x bank
  let near := nearRows s c row
  let ended := !drfmOn s c && decide (k ≥ near.length)
  if bk.openRow.isSome then
    let x := rankUsed s (setBank x bank { bk with openRow := none, justActivated := false }) r
    let x := if ended then dropDue x (.mitigate r bank row k) else x
    emit (setSub s c b x) (.ddr c.val (b2n b) 3 r bank 0)
  else if ended then setSub s c b (dropDue x (.mitigate r bank row k))
  else if drfmOn s c then emit (setSub s c b (rankUsed s (dropDue x (.mitigate r bank row k)) r)) (.ddr c.val (b2n b) 7 r bank row)
  else
    let raa := if rfmRequired s then bk.raa + 1 else bk.raa
    let x := setBank x bank { bk with openRow := some (near.getD k 0), justActivated := false, raa := raa }
    let x := { x with due := x.due.map (fun d => if d == .mitigate r bank row k then .mitigate r bank row (k + 1) else d) }
    let x := if rfmRequired s ∧ raa ≥ raaImt s then addDue x (.raaRfm r bank) else x
    emit (setSub s c b (rankUsed s x r)) (.ddr c.val (b2n b) 0 r bank (near.getD k 0))
/-- A mitigation's next activate would take the rolling count to RAAMMT while the bank's refresh management is due (R351). -/
def dueHeld (s : State) (c : DramCh) (x : SubCh) (d : DueCmd) : Bool :=
  match d with
  | .mitigate r bank row k =>
    let bk := bankOf x bank
    rfmRequired s && !drfmOn s c && bk.openRow.isNone && decide (k < (nearRows s c row).length) && decide (bk.raa + 1 ≥ raaMmt s) && x.due.contains (.raaRfm r bank)
  | _ => false
/-- A level 1 command carried out (R284, R286, R292, R325, R326, R351). -/
def issueDue (s : State) (c : DramCh) (b : Bool) (d : DueCmd) : State :=
  let x := subch s c b
  let n := ((chanStage s c).elim 0 (fun n => n.val))
  match d with
  | .forcedRefresh r =>
    if (rankOf x r).setDone ≠ 0 then
      let s := sameBankRefresh s c b r
      if (rankOf (subch s c b) r).setDone = 0 ∧ (rankOf (subch s c b) r).owed < postponeMax s c then
        setSub s c b (dropDue (subch s c b) d) else s
    else if (rankOf x r).owed < postponeMax s c then setSub s c b (dropDue x d)
    else
      let s := allBankRefresh (setSub s c b (dropDue x d)) c b r
      let s := incSat s (F.DC_REF_STATUS_FORCED c.val) 1
      event (pmonHit s 3 12 (subNo c b) 1) 0x502 1 n (c.val + 4 * b2n b + 8 * r)
  | .exitRefresh r =>
    let s := allBankRefresh (setSub s c b (dropDue x d)) c b r
    let x := subch s c b
    setSub s c b (setRank x r { rankOf x r with owed := 0 })
  | .mitigate r bank row k =>
    let s := mitigateStep s c b r bank row k
    if (subch s c b).due.any (sameDue d) then s
    else
      let s := incSat s (F.DC_RH_COUNT_MITIGATIONS c.val) 1
      event (pmonHit s 4 5 c.val 1) 0x50C 0 n (rankBankArg c b r bank + 512 * (row % 2 ^ 18))
  | .rfmBank r bank =>
    let x := refreshBanks s (rankUsed s (dropDue x d) r) r (some (bank / 8 % 4))
    let s := incSat (setSub s c b x) (F.DC_RH_COUNT_SPILL_RFM c.val) 1
    let s := emit s (.ddr c.val (b2n b) 6 r bank 0)
    event (pmonHit s 4 6 c.val 1) 0x50D 0 n (rankBankArg c b r bank)
  | .raaRfm r bank =>
    let x := refreshBanks s (rankUsed s (dropDue x d) r) r (some (bank / 8 % 4))
    let x := if raaImt s > 0 ∧ (bankOf x bank).raa ≥ raaImt s then addDue x d else x
    emit (setSub s c b x) (.ddr c.val (b2n b) 6 r bank 0)

/-! Column accesses (R280, R281). -/

/-- The bank after a column access to its open row: predictor and auto-precharge (R280, R281). -/
def columnAccess (s : State) (c : DramCh) (x : SubCh) (k : Coord) : SubCh :=
  let bk := bankOf x (bankNo k)
  let bk := if bk.justActivated then { bk with justActivated := false } else { bk with pred := min 3 (bk.pred + 1) }
  let bk := { bk with lastRow := some k.row, closedByPred := false, lastUse := s.now }
  let more := (x.rq ++ x.wq).any (fun q => (mapLine s q.stage q.line).elim false (fun j => bankNo j == bankNo k && j.row == k.row))
  let policy := rd s (F.DC_PAGE_CFG_POLICY c.val)
  let auto := match policy with
    | 1 => false
    | 2 => true
    | _ => decide (bk.pred ≤ 1)
  let bk := if !more && auto then { bk with openRow := none, closedByPred := policy != 2 } else bk
  rankUsed s (setBank x (bankNo k) bk) k.prank

/-- Event 0x504: a request waited more than four times its class age limit (R306). -/
def ageEvent (s : State) (c : DramCh) (r : DramReq) : State :=
  if s.now > r.age + 4 * ageLimit s c r.cls then event s 0x504 1 r.stage.val (c.val + 4 * r.cls + 32 * r.port) else s

/-- The line that a remap copy writes: the spare line of its entry (R330). -/
def copyTarget (s : State) (r : DramReq) : Option Nat :=
  match r.use with
  | .remapCopy k => some (spareLine s r.stage (remapAt s k).spare)
  | _ => none
/-- A line closed to every request but a pair's own (R279, R330). -/
def openLine (s : State) (pair : Nat) (n : Stage) (line : Nat) : State :=
  match mapLine s n line with
  | none => s
  | some k => setSub s k.ch k.sub { subch s k.ch k.sub with pairOpen := (pair, lineKey n line) :: (subch s k.ch k.sub).pairOpen }
/-- The read of a pair has been issued: until its write is, no other request to the line is, nor to the spare line that a remap copy writes (R279, R330). -/
def pairOpens (s : State) (r : DramReq) : State :=
  let s := openLine s r.pair r.stage r.line
  (copyTarget s r).elim s (openLine s r.pair r.stage)
/-- The write of a pair has been issued, or is not to be. -/
def pairClose (s : State) (pair : Nat) : State :=
  let shut := fun (x : SubCh) => { x with pairOpen := x.pairOpen.filter (fun p => decide (p.1 ≠ pair)) }
  { s with dram := { s.dram with ch := qmap (fun x => { x with subA := shut x.subA, subB := shut x.subB }) s.dram.ch } }
/-- The read of a remap copy waits until what entered for the spare line before the copy's write has been issued (R276, R330). -/
def copyHeld (s : State) (r : DramReq) : Bool :=
  !r.write && (copyTarget s r).elim false (fun l => (mapLine s r.stage l).elim false (fun k =>
    let y := subch s k.ch k.sub
    (y.rq ++ y.wq).any (fun q => decide (q.stage = r.stage) && q.line == l && q.pair != r.pair && !y.wq.any (fun w => w.pair == r.pair && decide (w.seq < q.seq)))))

/-- A request's column command: reads go in flight, writes are stored (R268, R279, R315). -/
def issueColumn (s : State) (c : DramCh) (b : Bool) (r : DramReq) (k : Coord) : State :=
  let x := subch s c b
  let x := { x with rq := x.rq.filter (fun q => decide (q.id ≠ r.id)), wq := x.wq.filter (fun q => decide (q.id ≠ r.id)) }
  let hit := !(bankOf x (bankNo k)).justActivated
  let x := columnAccess s c x k
  let x := if r.write then x else { x with inFlight := x.inFlight ++ [{ r with got := some (dramCell s r.stage r.line) }] }
  let x := if r.use = .scrub then { x with scrubQueued := false } else x
  let s := ageEvent (setSub s c b (drainUpdate s c x)) c r
  let s := if r.pair = 0 then s else if r.write then pairClose s r.pair else pairOpens s r
  let s := pmonHit s 3 r.cls (subNo c b) 1
  let s := whenS hit (fun s => pmonHit s 3 9 (subNo c b) 1) s
  let s := whenS r.idleOnly (fun s => pmonHit s 3 18 (subNo c b) 1) s
  let s := emit s (.ddr c.val (b2n b) (if r.write then 2 else 1) k.prank (bankNo k) k.col)
  if r.write then storeLine s r.stage r.line (if r.poison then poisonCell else ⟨r.data, .clean⟩) else s

/-- A chosen request's next DDR5 command: column access on an open row, precharge of another row, or activate (R268). -/
def issueReq (s : State) (c : DramCh) (b : Bool) (r : DramReq) : State :=
  match mapLine s r.stage r.line with
  | none => s
  | some k =>
    let x := subch s c b
    let bk := bankOf x (bankNo k)
    match bk.openRow with
    | some row =>
      if row = k.row then issueColumn s c b r k
      else
        let s := setSub s c b (rankUsed s (setBank x (bankNo k) { bk with openRow := none, justActivated := false }) k.prank)
        emit (pmonHit s 3 10 (subNo c b) 1) (.ddr c.val (b2n b) 3 k.prank (bankNo k) 0)
    | none => activateRow s c b k.prank (bankNo k) k.row

/-! Panic (R272). -/

/-- High mark as taken (R299). -/
def panicHigh (lo hi : Nat) : Nat := if hi ≤ lo then lo + 1 else hi

/-- Buffer levels replaced and panic raised or ended by the marks (R272, R274). -/
def panicUpdate (s : State) (c : DramCh) (l0 l1 : Nat) : State :=
  let x := chan s c
  let n := (chanStage s c).elim 0 (fun n => n.val)
  let lo0 := rd s (F.DC_PANIC_CFG_SAVE_LOW c.val)
  let hi0 := panicHigh lo0 (rd s (F.DC_PANIC_CFG_SAVE_HIGH c.val))
  let lo1 := rd s (F.DC_PANIC_CFG_TOUCH_LOW c.val)
  let hi1 := panicHigh lo1 (rd s (F.DC_PANIC_CFG_TOUCH_HIGH c.val))
  let p0 := !s.modes.compat && (decide (l0 < lo0) || (x.panic0 && decide (l0 ≤ hi0)))
  let p1 := !s.modes.compat && (decide (l1 < lo1) || (x.panic1 && decide (l1 ≤ hi1)))
  let was := x.panic0 || x.panic1
  let isNow := p0 || p1
  let raised := b2n (p0 && !x.panic0) + b2n (p1 && !x.panic1)
  let s := setChan s c { x with level0 := l0, level1 := l1, panic0 := p0, panic1 := p1, panicSince := if isNow && !was then s.now else x.panicSince, panicTime := if was && !isNow then x.panicTime + (s.now - x.panicSince) else x.panicTime }
  let s := incSat s (F.DC_PANIC_COUNT_PANICS c.val) raised
  let s := whenS (p0 && !x.panic0) (fun s => event s 0x501 0 n c.val) s
  whenS (p1 && !x.panic1) (fun s => event s 0x501 0 n (c.val + 4)) s

/-! Self-refresh (R288 to R294). -/

/-- The minimum residency in time units (R348). -/
def srResidency (s : State) : Nat := psClocks (timingFld s 5 32 16)

/-- The package ranks of a channel. -/
def ranksOf (s : State) (c : DramCh) : List Nat := if mapRd s (F.DC_MAP_RANKS c.val) = 1 then [0, 1] else [0]
/-- Some bank of the subchannel has a row open. -/
def rowsOpen (x : SubCh) : Bool := x.banks.any (fun e => e.2.openRow.isSome)
/-- Step 2 of the entry: every bank of each rank is precharged (R290). -/
def srPrecharge (s : State) (c : DramCh) (b : Bool) : State :=
  let x := subch s c b
  let x := { x with banks := x.banks.map (fun e => (e.1, { e.2 with openRow := none, justActivated := false })) }
  foldS (ranksOf s c) (fun s r => emit s (.ddr c.val (b2n b) 3 r 0 0)) (setSub s c b ((ranksOf s c).foldl (rankUsed s) x))
/-- Step 3: the entry command goes to each rank, and the entry is committed (R290). -/
def srCommit (s : State) (c : DramCh) (b : Bool) (idle : Bool) : State :=
  let x := { (ranksOf s c).foldl (fun x r => setRank x r { rankOf x r with powerDown := false }) (subch s c b) with sr := .committed s.now idle }
  foldS (ranksOf s c) (fun s r => emit s (.ddr c.val (b2n b) 8 r 0 0)) (incWrap (setSub s c b x) (F.DC_SR_COUNT_ENTRIES c.val) 1)
/-- An idle subchannel's next step of the entry: the precharge where a row is open, then the entry command (R290). -/
def srNext (s : State) (c : DramCh) (b : Bool) : State := if rowsOpen (subch s c b) then srPrecharge s c b else srCommit s c b true
/-- The entry of a stage's subchannel, its steps one after the other; one that is in self-refresh stays there (R288, R290). -/
def srEnter (s : State) (c : DramCh) (b : Bool) : State :=
  match (subch s c b).sr with
  | .committed since _ => setSub s c b { subch s c b with sr := .committed since false }
  | _ => srCommit (whenS (rowsOpen (subch s c b)) (fun s => srPrecharge s c b) s) c b false

/-- Exit issued: an all-bank refresh to each rank is due before any other command (R292). -/
def srExit (s : State) (c : DramCh) (b : Bool) : State :=
  let x := subch s c b
  match x.sr with
  | .committed since _ =>
    let t := max s.now (since + srResidency s)
    let x := { x with sr := .awake, idleSince := t }
    let x := { x with due := (ranksOf s c).map .exitRefresh ++ x.due.filter (fun d => !(ranksOf s c).any (fun r => d == .exitRefresh r)) }
    emit (setSub { s with now := t } c b x) (.ddr c.val (b2n b) 9 0 0 0)
  | _ => s

/-- Both subchannels of a stage's channels put into self-refresh (R288). -/
def stageSelfRefresh (s : State) (n : Stage) : State :=
  foldS (stageChans s n) (fun s c => srEnter (srEnter s c false) c true) s

/-- Both subchannels of a stage's channels taken out of self-refresh. -/
def stageSrExit (s : State) (n : Stage) : State :=
  foldS (stageChans s n) (fun s c => srExit (srExit s c false) c true) s


end Sys2Proof.Machine
end

