-- ==== Sys2Proof/Machine/CipherOps.lean ====
section
/-! DEFINITION. House cipher engine, contexts, key table and key area, random numbers, attestation leaves (chapter 11). Callers are numbered by role: 0 the core that holds the house role, 1 + n the stage core of S n. -/

namespace Sys2Proof.Machine

/-! Random numbers (R425). -/

/-- `n` random bytes, or nothing while the generator refuses; a reseed after every 1,024 requests (R425). -/
def randomBytes (s : State) (n : Nat) : Option (List Byte) × State :=
  if s.cipher.drbgFailed then (none, s)
  else
    let (bs, s) := freshBytes s n
    let k := s.cipher.drbgReqs + 1
    if k ≥ 1024 then (some bs, incWrap { s with cipher := { s.cipher with drbgReqs := 0 } } F.CIPH_TRNG_RESEEDS 1)
    else (some bs, { s with cipher := { s.cipher with drbgReqs := k } })

/-- A continuous health test fails (R425, R437). -/
def healthFail (s : State) (adaptive : Bool) : State :=
  let s := incSat { s with cipher := { s.cipher with drbgFailed := true } } F.CIPH_TRNG_HEALTH_FAILS 1
  event s 0x707 2 0 (b2n adaptive)

/-! Key table and key area (R417 to R422). -/

/-- A key-table entry. -/
def keyAt (s : State) (h : Nat) : Option (BitVec 256) := mfind s.cipher.keys h
/-- A key-table entry loaded. -/
def setKey (s : State) (h : Nat) (k : BitVec 256) : State := { s with cipher := { s.cipher with keys := mput s.cipher.keys h k } }
/-- A key-table entry cleared. -/
def clearKey (s : State) (h : Nat) : State := { s with cipher := { s.cipher with keys := mdel s.cipher.keys h } }
/-- The 32 bytes of a key. -/
def keyBytes (k : BitVec 256) : List Byte := leBytes 32 k.toNat
/-- The key of 32 bytes. -/
def bytesKey (bs : List Byte) : BitVec 256 := BitVec.ofNat 256 (leNat bs)
/-- The device wrapping key: HMAC-SHA-256 of the device secret with a fixed label (R417). -/
def wrappingKey : BitVec 256 := bytesKey (hmacSha256 (keyBytes Config.deviceSecret) Config.wrapLabel)

/-- The erase-intent slot's five words; zeros when no slot is valid (R550). -/
def intentWords (s : State) : List Word := (slotPayload s.store 0x04 slotsIntent.1 slotsIntent.2).getD (List.replicate 5 0#48)
/-- The recorded intent of a stage: 0 none, 1 Secure Erase, 2 Sanitize (R550). -/
def intentOf (s : State) (n : Stage) : Nat := bits ((intentWords s).getD 0 0#48).toNat (2 * n.val) 2
/-- The intent of a stage recorded (R392, R550). -/
def intentWrite (s : State) (n : Stage) (v : Nat) : Bool × State :=
  let ws := intentWords s
  slotWrite s 0x04 slotsIntent.1 slotsIntent.2 (ws.set 0 (withFld (ws.getD 0 0#48) ⟨0, 2 * n.val, 2⟩ v))
/-- The epoch a stage's next key takes (R419). -/
def nextEpoch (s : State) (n : Stage) : Nat :=
  let w := ((intentWords s).getD (1 + n.val) 0#48).toNat
  if bitOf w 16 then (bits w 0 16 + 1) % 65536 else 1

/-- The key-area slot of a stage: epoch and wrapped key (R419, R550). -/
def parseKeySlot (ws : List Word) : Nat × List Byte := (bits (ws.getD 0 0#48).toNat 2 16, ((ws.drop 1).flatMap wordBytes).take 40)

/-- A new media key: epoch recorded first, then the wrapped key, each read back; then the key table (R419). Whether it was drawn and stored. -/
def keyGenerate (s : State) (n : Stage) : Bool × State :=
  let (bs, s) := randomBytes s 32
  match bs with
  | none => (false, s)
  | some bs =>
    let e := nextEpoch s n
    let (ok1, s) := slotWrite s 0x04 slotsIntent.1 slotsIntent.2 ((intentWords s).set (1 + n.val) (BitVec.ofNat 48 (e + 65536)))
    if ok1 = false then (false, s)
    else
      let wrapped := keyWrap (keyBytes wrappingKey) bs
      let payload := BitVec.ofNat 48 (n.val + 4 * e) :: bytesWords (wrapped ++ [0#8, 0#8])
      let (ok2, s) := slotWrite s 0x05 (slotsKey n).1 (slotsKey n).2 payload
      if ok2 = false then (false, s)
      else
        let s := setKey s (1 + n.val) (bytesKey bs)
        let s := setReg s (0x2808 + n.val) (BitVec.ofNat 48 (e + 2 ^ 16 + 2 ^ 17))
        (true, event s 0x701 0 n.val e)

/-- Some key-area slot of the stage is valid. -/
def keyStored (s : State) (n : Stage) : Bool := (slotNewest s.store 0x05 (slotsKey n).1 (slotsKey n).2).isSome

/-- The newest slot that unwraps put into the key table (R420); none unwraps: UNREADABLE and event 0x703. -/
def keyLoad (s : State) (n : Stage) : Bool × State :=
  let tryWs := fun ws : List Word => (keyUnwrap (keyBytes wrappingKey) (parseKeySlot ws).2).map (fun k => ((parseKeySlot ws).1, k))
  let a := slotRead s.store 0x05 (slotsKey n).1
  let b := slotRead s.store 0x05 (slotsKey n).2
  let order := match slotNewest s.store 0x05 (slotsKey n).1 (slotsKey n).2 with
    | some (0, _, _) => [a, b]
    | _ => [b, a]
  match (order.filterMap (fun o => o.bind (fun r => tryWs r.2))) with
  | (e, k) :: _ => (true, setReg (setKey s (1 + n.val) (bytesKey k)) (0x2808 + n.val) (BitVec.ofNat 48 (e + 2 ^ 16 + 2 ^ 17)))
  | [] => (false, event (wr (wr s (F.CIPH_KEY_LOADED n.val) 0) (F.CIPH_KEY_UNREADABLE n.val) 1) 0x703 2 n.val 0)

/-- Crypto erase: key-table entry cleared, both key-area slots programmed to zero until they read zero (R421). -/
def cryptoErase (s : State) (n : Stage) : State :=
  let e := (slotNewest s.store 0x05 (slotsKey n).1 (slotsKey n).2).elim (rd s (F.CIPH_KEY_EPOCH n.val)) (fun r => (parseKeySlot r.2.2).1)
  let st := ((slotsKey n).1 ++ (slotsKey n).2).foldl zeroSector s.store
  let s := clearKey { s with store := st } (1 + n.val)
  event (setReg s (0x2808 + n.val) 0#48) 0x702 0 n.val e

/-! Contexts (R412 to R416). -/

/-- The role that owns a context slot (R412). -/
def slotOwner (slot : Nat) : Option Nat :=
  if slot < 16 then some 0 else if slot < 64 then some (1 + (slot - 16) / 12) else none

/-- A role may use a key handle in a call (R418). -/
def keyAllowed (role h : Nat) : Bool :=
  if role = 0 then decide (1 ≤ h) && decide (h ≤ 15) else h == role

/-- A context slot never used. -/
def slotInit : CtxSlot := ⟨0, none⟩
/-- A context slot. -/
def ctxSlot (s : State) (k : Nat) : CtxSlot := mget slotInit s.cipher.slots k
/-- A context slot replaced. -/
def setCtxSlot (s : State) (k : Nat) (c : CtxSlot) : State := { s with cipher := { s.cipher with slots := mset slotInit s.cipher.slots k c } }

/-- The kind's code (R413). -/
def callCode : CallKind → Nat
  | .gcmEncrypt => 0 | .gcmDecrypt => 1 | .gmac => 2 | .sha256 => 3
/-- The kind of a code. -/
def callOf : Nat → Option CallKind
  | 0 => some .gcmEncrypt | 1 => some .gcmDecrypt | 2 => some .gmac | 3 => some .sha256 | _ => none

/-- The 64 bytes of a context (R413). -/
def ctxBytes (slot saveCount nonce : Nat) (c : HouseCtx) : List Byte :=
  let mid := match c.kind with
    | .sha256 => c.digest.flatMap (fun x => beBytes 4 x.toNat)
    | _ => c.iv ++ leBytes 4 c.counter ++ beBytes 16 c.ghash.toNat
  [BitVec.ofNat 8 (callCode c.kind), BitVec.ofNat 8 slot] ++ leBytes 2 (if c.kind = .sha256 then 0xFFFF else c.key) ++ leBytes 4 saveCount
    ++ mid ++ leBytes 5 c.aadLen ++ leBytes 5 c.textLen ++ [BitVec.ofNat 8 (b2n c.inText), 0#8] ++ leBytes 4 nonce ++ List.replicate 8 0#8

/-- The context of 64 bytes. -/
def parseCtx (bs : List Byte) : Option HouseCtx :=
  (callOf (leNat (slice bs 0 1))).map fun k =>
    { kind := k, key := leNat (slice bs 2 2), iv := if k = .sha256 then [] else slice bs 8 12,
      counter := if k = .sha256 then 0 else leNat (slice bs 20 4),
      ghash := if k = .sha256 then 0#128 else BitVec.ofNat 128 (beNat (slice bs 24 16)),
      aadLen := leNat (slice bs 40 5), textLen := leNat (slice bs 45 5), inText := leNat (slice bs 50 1) == 1,
      digest := if k = .sha256 then (List.range 8).map (fun i => BitVec.ofNat 32 (beNat (slice bs (8 + 4 * i) 4))) else [],
      tail := [] }

/-- A digest that has taken nothing yet (R413). -/
def shaInit : HouseCtx := ⟨.sha256, 0xFFFF, [], 0, 0#128, 0, 0, true, shaStart, []⟩
/-- A digest that has taken whole blocks more. -/
def shaMore (c : HouseCtx) (bs : List Byte) : HouseCtx := { c with digest := shaBlocks c.digest bs, textLen := c.textLen + bs.length }
/-- The digest of what has been taken and the message's end. -/
def shaFinish (c : HouseCtx) (bs : List Byte) : List Byte := shaBytes (shaBlocks c.digest (shaPadded bs c.textLen))

/-- A call's end with an error: event 0x708 for errors 1, 2, 3, 5 and 7 (R409). -/
def callError (s : State) (err slot : Nat) : State :=
  let s := whenS ([1, 2, 3, 5, 7].contains err) (fun s => event s 0x708 1 0 (err + 16 * (slot % 64))) s
  emit s (.coreData err [])

/-- CONTEXT_SAVE (R414): the save count first, then the bytes, clear or wrapped; a caller that may not, or no boot nonce, is refused. -/
def contextSave (s : State) (role slot : Nat) (wrapped : Bool) : State :=
  if slotOwner slot ≠ some role ∨ (wrapped = false ∧ role ≠ 0) then callError s 5 slot
  else match s.cipher.bootNonce, (ctxSlot s slot).ctx with
  | some nonce, some c =>
    let n := ((ctxSlot s slot).saveCount + 1) % 2 ^ 32
    let s := setCtxSlot s slot { ctxSlot s slot with saveCount := n }
    let bs := ctxBytes slot n nonce.toNat c
    emit s (.coreData 0 (if wrapped then keyWrap (keyBytes wrappingKey) bs else bs))
  | _, _ => callError s 6 slot

/-- CONTEXT_RESTORE (R415): accepted only when unwrap, slot, save count and boot nonce all match. The wrapped context of a call that a gate instant ended puts that call back among the engine's calls (R416). -/
def contextRestore (s : State) (role slot : Nat) (wrapped : Bool) (bs : List Byte) : State :=
  if slotOwner slot ≠ some role then callError s 5 slot
  else
    let clear := if wrapped then keyUnwrap (keyBytes wrappingKey) bs else some bs
    let ok := match clear, s.cipher.bootNonce with
      | some b, some nonce =>
        leNat (slice b 1 1) == slot && leNat (slice b 4 4) == (ctxSlot s slot).saveCount && leNat (slice b 52 4) == nonce.toNat && b.length == 64
      | _, _ => false
    match ok, clear.bind parseCtx with
    | true, some c =>
    let s := setCtxSlot s slot { ctxSlot s slot with ctx := some c }
    -- the call that a gate instant ended goes on where its last unit left it (R416)
    let mine := fun (e : SavedCall) => e.call.slot == slot && wrapped && e.wrapped == bs
    let s := { s with cipher := { s.cipher with
      calls := s.cipher.calls ++ (s.cipher.saved.filter mine).map (·.call)
      saved := s.cipher.saved.filter (fun e => !mine e) } }
    emit s (.coreData 0 [])
    | _, _ => emit (event s 0x709 1 0 slot) (.coreData 6 [])

/-! House-engine calls (R408 to R411). -/

/-- Every chunk except the last is a multiple of 16 bytes (R409). -/
def chunksOk : List (List Byte) → Bool
  | [] => true
  | [_] => true
  | c :: cs => c.length % 16 == 0 && chunksOk cs

/-- The error a call begins with, 0 for none (R409, R412, R418). -/
def callCheck (role slot key : Nat) (aad text : List (List Byte)) : Nat :=
  if slotOwner slot ≠ some role ∨ keyAllowed role key = false then 5
  else if chunksOk aad = false ∨ chunksOk text = false then 3
  else if (text.map List.length).sum > 2 ^ 36 - 32 then 1
  else if (aad.map List.length).sum > 2 ^ 32 then 2
  else 0

/-! Where quarantined plaintext lies (R410). DESIGN CHOICE, log entry 137: a region of a stage core at or above `backstageAt` is its stage's DRAM from that byte on, one below is the core's SRAM. -/

/-- Where a stage core's addresses of its stage's DRAM begin. -/
def backstageAt : Nat := 2 ^ 40

/-- The region lies in memory a caller may name: its SRAM, or wholly in its stage's backstage (R410, R515). -/
def regionOk (s : State) (role region len : Nat) : Bool :=
  if region < backstageAt then decide (region + len ≤ backstageAt)
  else decide (1 ≤ role) && decide (64 * hostLines s (fin4 (role - 1)) ≤ region - backstageAt) &&
    decide (region - backstageAt + len ≤ 64 * rawLines s (fin4 (role - 1)))

/-- Bytes written into a stage's DRAM from byte `addr`: whole lines as writes, parts of a line as partial writes, on port 7 in class 4 (R266). -/
def backWrite (s : State) (n : Stage) (addr : Nat) (bs : List Byte) : State :=
  if bs.isEmpty then s
  else foldS (List.range ((addr + bs.length - 1) / 64 - addr / 64 + 1)) (fun s i =>
    let l := addr / 64 + i
    let lo := max addr (64 * l) - 64 * l
    let piece := slice bs (64 * l + lo - addr) (64 - lo)
    let data := BitVec.ofNat 512 (leNat piece * 2 ^ (8 * lo))
    if piece.length = 64 then dramWrite s 7 4 n l data false .backstage
    else dramPair s 7 4 n l l (.partialRead (BitVec.ofNat 64 ((2 ^ piece.length - 1) * 2 ^ lo)) data false)) s

/-- The bytes of a line that are quarantined read as zero (R410). -/
def lineSeen (s : State) (n : Stage) (line : Nat) (data : BitVec 512) : BitVec 512 :=
  s.cipher.quarantine.foldl (fun d q =>
    if q.core ≠ 1 + n.val ∨ q.base < backstageAt then d
    else
      let a := max (q.base - backstageAt) (64 * line) - 64 * line
      let b := min (q.base - backstageAt + q.len) (64 * line + 64) - 64 * line
      d &&& ~~~ (BitVec.ofNat 512 ((2 ^ (8 * (b - a)) - 1) * 2 ^ (8 * a)))) data

/-- A GCM or GMAC call admitted to the engine's callers; a decrypt quarantines its region from its first chunk (R410). -/
def callStart (s : State) (role slot key : Nat) (kind : CallKind) (iv : List Byte) (aad text : List (List Byte)) (tag : List Byte) (region : Nat) : State :=
  let err := if (keyAt s key).isNone then 5
    else if kind = .gcmDecrypt ∧ regionOk s role region (text.map List.length).sum = false then 5
    else callCheck role slot key aad text
  if err ≠ 0 then callError s err slot
  else
    let c : HouseCtx := ⟨kind, key, iv, 2, 0#128, 0, 0, false, [], []⟩
    let call : HouseCall := ⟨role, slot, c, aad.flatten, text.flatten, tag, region, []⟩
    let s := setCtxSlot s slot { ctxSlot s slot with ctx := some c }
    let q := if kind = .gcmDecrypt then s.cipher.quarantine ++ [⟨role, region, (text.map List.length).sum, none⟩] else s.cipher.quarantine
    { s with cipher := { s.cipher with calls := s.cipher.calls ++ [call], quarantine := q } }

/-- The bytes a unit holds (R411). -/
def unitBytes : Nat := 65536

/-- Key of a byte of a core's memory. -/
def coreKey (role addr : Nat) : Nat := role * 2 ^ 48 + addr

/-- Bytes written into a core's memory. -/
def coreStore (m : NMap Byte) (role addr : Nat) (bs : List Byte) : NMap Byte :=
  (bs.foldl (fun (p : NMap Byte × Nat) b => (mset 0#8 p.1 (coreKey role p.2) b, p.2 + 1)) (m, addr)).1

/-- Bytes written to a region: a core's SRAM, or its stage's DRAM (R410). -/
def regionWrite (s : State) (role addr : Nat) (bs : List Byte) : State :=
  if addr < backstageAt ∨ role = 0 then { s with cipher := { s.cipher with coreMem := coreStore s.cipher.coreMem role addr bs } }
  else backWrite s (fin4 (role - 1)) (addr - backstageAt) bs

/-- A write of a region is not yet done: it stands in a queue of its stage's channels, or its pair's read does (R410). -/
def regionPending (s : State) (q : Quarantine) : Bool :=
  let mine := fun (r : DramReq) => decide (r.stage.val + 1 = q.core) && decide ((q.base - backstageAt) / 64 ≤ r.origLine) && decide (64 * r.origLine < q.base - backstageAt + q.len)
    && (match r.use with
      | .backstage | .partialRead .. => true
      | _ => false)
  decide (backstageAt ≤ q.base) && (fours.any (fun c => [subch s c false, subch s c true].any (fun x => (x.waiting ++ x.rq ++ x.wq ++ x.inFlight).any mine))
    || s.dram.remap.any (fun e => e.2.waiting.any mine))
/-- The quarantines of calls whose tag did not match are lifted after their last zero writes; the calls end with error 4 (R410). -/
def quarantineLift (s : State) : State :=
  let over_ := fun (q : Quarantine) => q.ending.isSome && !regionPending s q
  let done := s.cipher.quarantine.filter over_
  foldS done (fun s q => emit (event s 0x70A 1 0 (q.ending.getD 0)) (.coreData 4 []))
    { s with cipher := { s.cipher with quarantine := s.cipher.quarantine.filter (fun q => !over_ q) } }

/-- A byte of a core's memory as an access reads it: zero while quarantined (R410). -/
def coreRead (s : State) (role addr : Nat) : Byte :=
  if s.cipher.quarantine.any (fun q => q.core == role && decide (q.base ≤ addr) && decide (addr < q.base + q.len)) then 0#8
  else mget 0#8 s.cipher.coreMem (coreKey role addr)

/-- One unit of a call: additional data first, then text (R411). -/
def callStep (key : List Byte) (c : HouseCall) : HouseCall :=
  let h := BitVec.ofNat 128 (beNat (aesEncrypt key (List.replicate 16 0#8)))
  if !c.aad.isEmpty then
    let u := c.aad.take unitBytes
    { c with aad := c.aad.drop unitBytes, ctx := { c.ctx with ghash := ghash h c.ctx.ghash u, aadLen := c.ctx.aadLen + u.length } }
  else
    let u := c.text.take unitBytes
    let o := gcmCtr key c.ctx.iv c.ctx.counter u
    let ct := if c.ctx.kind = .gcmDecrypt then u else o
    { c with
      text := c.text.drop unitBytes
      out := c.out ++ o
      ctx := { c.ctx with ghash := ghash h c.ctx.ghash ct, counter := c.ctx.counter + (u.length + 15) / 16, textLen := c.ctx.textLen + u.length, inText := true } }

/-- The tag of a finished call. -/
def callTag (key : List Byte) (c : HouseCall) : List Byte :=
  let h := BitVec.ofNat 128 (beNat (aesEncrypt key (List.replicate 16 0#8)))
  let g := ghash h c.ctx.ghash (beBytes 8 (8 * c.ctx.aadLen) ++ beBytes 8 (8 * c.ctx.textLen))
  xorBytes (beBytes 16 g.toNat) (aesEncrypt key (c.ctx.iv ++ beBytes 4 1))

/-- The call the next unit serves: the house core's in every second unit, the others in turn (R411). -/
def nextCall (c : Cipher) : Option HouseCall :=
  let house := c.calls.find? (fun x => x.core == 0)
  let order := (List.range 4).map (fun k => 1 + (c.lastCore + k) % 4)
  let others := order.findSome? (fun r => c.calls.find? (fun x => x.core == r))
  match c.houseNext, house, others with
  | true, some h, _ => some h
  | true, none, o => o
  | false, _, some o => some o
  | false, h, none => h

/-- The engine serves one unit (R411); the call's last unit ends it: a decrypt lifts or zeroes its quarantine (R410). -/
def houseUnit (s : State) : State :=
  match nextCall s.cipher with
  | none => s
  | some c => match keyAt s c.ctx.key with
   | none => callError { s with cipher := { s.cipher with calls := s.cipher.calls.filter (fun x => decide (x.slot ≠ c.slot)) } } 5 c.slot
   | some k =>
    let key := keyBytes k
    let c' := callStep key c
    let rest := s.cipher.calls.filter (fun x => decide (x.slot ≠ c.slot))
    let s := pmonHit s 6 5 16 1
    let base : Cipher := { s.cipher with lastCore := if c.core = 0 then s.cipher.lastCore else c.core % 5, houseNext := c.core != 0 }
    let s := { s with cipher := base }
    let s := whenS (decide (c.ctx.kind = .gcmDecrypt)) (fun s => regionWrite s c.core (c.region + c.out.length) (c'.out.drop c.out.length)) s
    if !(c'.aad.isEmpty && c'.text.isEmpty) then
      setCtxSlot { s with cipher := { s.cipher with calls := rest ++ [c'] } } c.slot { ctxSlot s c.slot with ctx := some c'.ctx }
    else
      let s := setCtxSlot { s with cipher := { s.cipher with calls := rest } } c.slot { ctxSlot s c.slot with ctx := none }
      match c.ctx.kind with
      | .gcmDecrypt =>
        let q := s.cipher.quarantine.filter (fun q => !(q.core == c.core && q.base == c.region))
        if callTag key c' = c.tag then emit { s with cipher := { s.cipher with quarantine := q } } (.coreData 0 [])
        else
          let s := regionWrite s c.core c.region (List.replicate c'.out.length 0#8)
          quarantineLift { s with cipher := { s.cipher with quarantine := q ++ [⟨c.core, c.region, c'.out.length, some c.slot⟩] } }
      | .gmac => emit s (.coreData 0 (callTag key c'))
      | _ => emit s (.coreData 0 (c'.out ++ callTag key c'))

/-- At a gate instant every call of a saving stage's core ends with error 8, its context wrapped into the house role's memory (R416). -/
def housePreempt (s : State) (saving : Stage → Bool) : State :=
  let hit := fun c : HouseCall => decide (c.core ≥ 1) && saving (fin4 (c.core - 1))
  let hits := s.cipher.calls.filter hit
  let s := { s with cipher := { s.cipher with calls := s.cipher.calls.filter (fun c => !hit c) } }
  foldS hits (fun s c =>
    let n := ((ctxSlot s c.slot).saveCount + 1) % 2 ^ 32
    let s := match s.cipher.bootNonce with
      | none => s
      | some nonce =>
        let w := keyWrap (keyBytes wrappingKey) (ctxBytes c.slot n nonce.toNat c.ctx)
        let s := setCtxSlot s c.slot { saveCount := n, ctx := some c.ctx }
        { s with cipher := { s.cipher with saved := s.cipher.saved ++ [⟨c, w⟩] } }
    emit s (.coreData 8 [])) s

/-! The identity key (R417, R426): two levels of LMS trees with LMOTS_SHA256_N32_W8 (RFC 8554). -/

/-- A tree of the identity key: its number (0 the top tree, 1 + t bottom tree t), its height, its LMS type code. -/
structure IdTree where
  no : Nat
  height : Nat
  type : Nat
  deriving DecidableEq, Repr

/-- The top tree: LMS_SHA256_M32_H10. -/
def topTree : IdTree := ⟨0, 10, 6⟩
/-- Bottom tree `t`: LMS_SHA256_M32_H15. -/
def bottomTree (t : Nat) : IdTree := ⟨1 + t, 15, 7⟩
/-- An identity seed: HMAC-SHA-256 of the device secret with a fixed label; 0 for the top level, 1 for the bottom level (R417). -/
def identitySeed (k : Nat) : List Byte := hmacSha256 (keyBytes Config.deviceSecret) (Config.seedLabel k)
/-- The seed of a tree's level. -/
def IdTree.seed (t : IdTree) : List Byte := identitySeed (min 1 t.no)
/-- A tree's identifier. -/
def IdTree.ident (t : IdTree) : List Byte := beBytes 16 (Config.treeId t.seed t.no).toNat
/-- A leaf's private values. -/
def IdTree.secret (t : IdTree) (q k : Nat) : List Byte := beBytes 32 (Config.privateValue t.seed t.no q k).toNat
/-- A leaf's one-time public key. -/
def IdTree.key (t : IdTree) (q : Nat) : List Byte := lmotsPublic t.ident q (t.secret q)
/-- A node of a tree, by its level above the leaves and its number. -/
def IdTree.node (t : IdTree) (d r : Nat) : List Byte := lmsNode t.ident (2 ^ t.height) t.key d r
/-- A tree's LMS public key: 56 bytes. -/
def IdTree.public (t : IdTree) : List Byte := beBytes 4 t.type ++ beBytes 4 4 ++ t.ident ++ t.node t.height 1
/-- A message signed with a tree's leaf. -/
def IdTree.sign (t : IdTree) (q : Nat) (msg : List Byte) : List Byte :=
  beBytes 4 q ++ lmotsSign t.ident q (t.secret q) (beBytes 32 (Config.randomiser t.seed t.no q).toNat) msg ++ beBytes 4 t.type
    ++ (List.range t.height).flatMap (fun d => t.node d (((2 ^ t.height + q) / 2 ^ d) ^^^ 1))
/-- The top-level signature of a bottom tree: top-tree leaf `t` signs its public key (R426). -/
def treeSignature (t : Nat) : List Byte := topTree.sign t (bottomTree t).public
/-- The HSS public key of the device identity: level count 2, then the top tree's public key; 60 bytes (R426, R431). -/
def identityPublic : List Byte := beBytes 4 2 ++ topTree.public
/-- A message signed with leaf `q`: leaf q mod 32,768 of bottom tree floor(q / 32,768) (R426). -/
def identitySign (q : Nat) (msg : List Byte) : List Byte :=
  beBytes 4 1 ++ treeSignature (q / 32768) ++ (bottomTree (q / 32768)).public ++ (bottomTree (q / 32768)).sign (q % 32768) msg
/-- What a tree area holds (R429): the node array, 65,535 nodes of 32 bytes in ascending number, and the top-level signature (their order: DESIGN CHOICE, log entry 78). -/
def treeBytes (t : Nat) : List Byte := ((List.range 65535).flatMap (fun i => (bottomTree t).node (15 - (i + 1).log2) (i + 1))) ++ treeSignature t
/-- The two tree areas, as a pair of slots (R429, R545). -/
def slotsTree : List Nat × List Nat := (sectorsFrom 2384 172, sectorsFrom 2556 172)

/-! Attestation (R426 to R431). -/

/-- The address of a block's reservation word (R546). -/
def attestWord (k : Nat) : Nat := 2048 * (2368 + k / 2048) + k % 2048

/-- The lowest block whose word reads all ones (R427). -/
def attestLowest (s : State) (start : Nat) : Nat :=
  ((List.range (32768 - start)).find? (fun i => storeCells s.store (attestWord (start + i)) == cellsErased)).elim 32768 (start + ·)

/-- A block reserved: its word programmed and read back; one whose read-back differs counts as used (R428). -/
def attestReserve : Nat → Nat → State → Option Nat × State
  | 0, _, s => (none, s)
  | fuel + 1, start, s =>
    let k := attestLowest s start
    if k ≥ 32768 then (none, s)
    else
      let w : Word := BitVec.ofNat 48 k
      let st := progWord s.store (attestWord k) w
      let s := { s with store := st, cipher := { s.cipher with blocksUsed := s.cipher.blocksUsed + 1 } }
      if readBack st (attestWord k) [w] then (some k, event s 0x70B 0 0 k) else attestReserve fuel (k + 1) s

/-- The next leaf taken: a new block reserved where one begins; none left, or the next tree not ready, answers none (R428 to R430). -/
def attestLeaf (s : State) : Option Nat × State :=
  if s.cipher.exhausted then (none, s)
  else
    let inBlock := s.cipher.leafBlock.elim false (fun b => s.cipher.leafNext / 1024 == b)
    let (blk, s) := if inBlock then (s.cipher.leafBlock, s) else attestReserve 32768 0 s
    match blk with
    | none => (none, s)
    | some b =>
      let q := if inBlock then s.cipher.leafNext else 1024 * b
      let s := whenS (!inBlock && s.cipher.leafBlock.isNone && decide (q > s.cipher.leafNext))
        (fun s => event s 0x70C 0 0 (q - s.cipher.leafNext)) s
      let s := { s with cipher := { s.cipher with leafBlock := some b, leafNext := q } }
      if q / 32768 ≠ s.cipher.treeNow ∧ s.cipher.treeReady = false then (none, s)
      else
        let s := if q / 32768 ≠ s.cipher.treeNow then
            { s with cipher := { s.cipher with treeNow := q / 32768, treeReady := false } } else s
        let last := q = 33554431
        let s := { s with cipher := { s.cipher with leafNext := q + 1, exhausted := last } }
        (some q, whenS (decide last) (fun s => event s 0x70E 2 0 0) s)

end Sys2Proof.Machine
end

