-- ==== Sys2Proof/Machine/Phy.lean ====
section
/-! DEFINITION. The DRAM interface: delays, training runs, drift tracking, local I3C bus, sensors (chapter 09). -/

namespace Sys2Proof.Machine

/-- Lanes of a delay kind (R369); kind 6 is reserved. -/
def delayLanes (kind : Nat) : Nat :=
  match kind with
  | 0 => 40 | 1 => 40 | 2 => 10 | 3 => 10 | 4 => 10 | 5 => 16 | 7 => 40 | _ => 0

/-- The delay that DC_DLY_SEL names: key, and whether there is such a delay (R354). -/
def delaySel (s : State) (c : DramCh) : Nat × Bool :=
  let kind := rd s (F.DC_DLY_SEL_KIND c.val)
  let lane := rd s (F.DC_DLY_SEL_LANE c.val)
  (delayKey c.val kind (rd s (F.DC_DLY_SEL_SUBCH c.val)) (rd s (F.DC_DLY_SEL_RANK c.val)) lane, decide (lane < delayLanes kind))

/-- The lane advances after an access with AUTO_INC 1 (R369, R648). -/
def delayAdvance (s : State) (c : DramCh) : State :=
  whenS (rdb s (F.DC_DLY_SEL_AUTO_INC c.val)) (fun s => incWrap s (F.DC_DLY_SEL_LANE c.val) 1) s

/-- A delay set at once or staged; one set at once leaves a staged value waiting (R355). -/
def delaySet (s : State) (k taps : Nat) (staged : Bool) : State :=
  if staged then { s with dram := { s.dram with staged := mput s.dram.staged k taps } }
  else { s with dram := { s.dram with delays := mset 0 s.dram.delays k taps } }

/-- A write of DC_DLY_DATA (R355, R369). -/
def delayWrite (s : State) (c : DramCh) (w : Word) : State :=
  let (k, ok) := delaySel s c
  let taps := bits w.toNat 0 12
  let staged := bitOf w.toNat 12
  let s := wr s (F.DC_DLY_DATA_STAGED c.val) (b2n staged)
  delayAdvance (whenS ok (fun s => delaySet s k taps staged) s) c

/-- What DC_DLY_DATA reads as (R369). -/
def delayView (s : State) (c : DramCh) : Word :=
  let (k, ok) := delaySel s c
  BitVec.ofNat 48 ((if ok then mget 0 s.dram.delays k else 0) + rd s (F.DC_DLY_DATA_STAGED c.val) * 4096
    + b2n (ok && (mfind s.dram.staged k).isSome) * 8192)

/-- Training runs only while the channel's stage is Dressing or in Standby (R357). -/
def trainAllowed (s : State) (c : DramCh) : Bool :=
  s.modes.mode = .standby || (chanStage s c).elim false (fun n => stageSt s n = .dressing)

/-- DC_TRN_CTRL.START: the pattern operation that MODE, PATTERN, SUBCH, RANK, BURSTS and USER name runs (R357, R369). -/
def trainStart (s : State) (c : DramCh) : State :=
  if trainAllowed s c then
    emit (setChan (wr s (F.DC_TRN_CTRL_DONE c.val) 0) c { chan s c with training := true })
      (.train c.val (rd s (F.DC_TRN_CTRL_SUBCH c.val)) (rd s (F.DC_TRN_CTRL_RANK c.val)) (rd s (F.DC_TRN_CTRL_MODE c.val)) (rd s (F.DC_TRN_CTRL_PATTERN c.val))
        (max 1 (rd s (F.DC_TRN_CTRL_BURSTS c.val))) (rd s (F.DC_TRN_PATTERN_USER c.val)))
  else s

/-- A pattern operation's end (R357). -/
def trainEnd (s : State) (c : DramCh) (lanes : BitVec 40) (errors : Nat) : State :=
  if (chan s c).training then
    let s := setChan s c { chan s c with training := false }
    let s := wr s (F.DC_TRN_RESULT_FAIL_LANES c.val) lanes.toNat
    let s := wr s (F.DC_TRN_RESULT_ERRORS c.val) (satN 8 errors)
    wr s (F.DC_TRN_CTRL_DONE c.val) 1
  else s

/-- A fraction rounded to the nearest whole number, halves away from zero. -/
def roundDiv (a : Int) (b : Nat) : Int :=
  if a ≥ 0 then ((2 * a.toNat + b) / (2 * b) : Nat) else -(((2 * (-a).toNat + b) / (2 * b) : Nat) : Int)

/-- An integer kept within plus and minus a limit. -/
def clampInt (a : Int) (n : Nat) : Int := max (-(n : Int)) (min (n : Int) a)

/-- The change in taps between two oscillator counts, before rounding limits: 128 × runtime × (c0 − c1) / (c0 × c1) (R363). -/
def driftTaps (runtime c0 c1 : Nat) : Int :=
  if c0 = 0 ∨ c1 = 0 then 0 else roundDiv (128 * runtime * ((c0 : Int) - c1)) (c0 * c1)

/-- A delay lowered by a number of taps, within its range. -/
def lowerTaps (old : Nat) (taps : Int) : Nat := min 4095 ((old : Int) - taps).toNat
/-- A rank's write DQ delays lowered by a number of taps: staged, or at once with what is staged of them moved as well (R355, R356, R363). -/
def moveDq (s : State) (c : DramCh) (b : Bool) (r : Nat) (taps : Int) (staged : Bool) : State :=
  if taps = 0 then s else
  foldS (List.range 40) (fun s lane =>
    let k := delayKey c.val 0 (b2n b) r lane
    let now := mget 0 s.dram.delays k
    let s := if staged then s else delaySet s k (lowerTaps now taps) false
    match mfind s.dram.staged k with
    | some v => delaySet s k (lowerTaps v taps) true
    | none => if staged then delaySet s k (lowerTaps now taps) true else s) s
/-- What a tracking measurement sends to a rank: the oscillator's start, two reads of its count, a read of MR4; they end the rank's power-down and count as its last command (R287, R353, R363). -/
def trackSend (s : State) (c : DramCh) (b : Bool) (r runtime : Nat) : State :=
  let s := setSub s c b (rankUsed s (subch s c b) r)
  emit (emit (emit (emit s (.ddr c.val (b2n b) 11 r 0 runtime)) (.ddr c.val (b2n b) 12 r 0 0)) (.ddr c.val (b2n b) 12 r 0 1)) (.ddr c.val (b2n b) 13 r 0 4)

/-- The largest total correction of any rank of a channel. -/
def driftMax (x : Channel) : Nat :=
  [x.subA.rank0, x.subA.rank1, x.subB.rank0, x.subB.rank1].foldl (fun m r => max m r.drift.natAbs) 0

/-- HIGH_TEMP as the ranks' flags give it (R353). -/
def highTempMask (x : Channel) : Nat :=
  b2n x.subA.rank0.highTemp + 2 * b2n x.subA.rank1.highTemp + 4 * b2n x.subB.rank0.highTemp + 8 * b2n x.subB.rank1.highTemp

/-- One rank's tracking measurement (R353, R363, R364); `staged` false applies it at once (R356). -/
def trackRank (s : State) (d : DriftRead) (staged : Bool) : State :=
  let c := d.ch
  let r := d.rank.val
  let x := subch s c d.sub
  let n := (chanStage s c).elim 0 (fun n => n.val)
  if rd s (F.DC_PHY_STATUS_TRAINED c.val) = 0 then s
  else match x.sr with
  | .committed _ _ => s
  | _ =>
    let runtime := if rd s (F.DC_TRACK_OSC_RUNTIME c.val) = 0 then 256 else rd s (F.DC_TRACK_OSC_RUNTIME c.val)
    let s := trackSend s c d.sub r runtime
    let x := subch s c d.sub
    let k := rankOf x r
    let arg := c.val + 4 * b2n d.sub + 8 * r
    let hot := if d.hot then true else if k.normalReads ≥ 1 then false else k.highTemp
    let step := max 1 (rd s (F.DC_TRACK_MAX_STEP c.val))
    let taps := clampInt (driftTaps runtime k.oscCount d.count) step
    let k' := { k with highTemp := hot, normalReads := if d.hot then 0 else k.normalReads + 1, oscCount := d.count, drift := k.drift + taps }
    let exceeds := decide (k'.drift.natAbs > rd s (F.DC_TRACK_RETRAIN_TAPS c.val))
    let k' := { k' with overLimit := k.overLimit || exceeds }
    let s := setSub s c d.sub (setRank x r k')
    let s := whenS (hot != k.highTemp) (fun s => event s 0x518 0 n (arg + 16 * b2n hot)) s
    let s := moveDq s c d.sub r taps staged
    let s := whenS (exceeds && !k.overLimit)
      (fun s => event (wr s (F.DC_PHY_STATUS_RETRAIN_DUE c.val) 1) 0x517 1 n (arg + 16 * satN 10 k'.drift.natAbs)) s
    let s := wr s (F.DC_PHY_STATUS_DRIFT_MAX c.val) (satN 10 (driftMax (chan s c)))
    wr s (F.DC_PHY_STATUS_HIGH_TEMP c.val) (highTempMask (chan s c))

/-- A tracking window's measurements; only in Service and Restore (R363). -/
def trackAll (s : State) (ds : List DriftRead) : State :=
  if serving s then foldS ds (fun s d => trackRank s d true) s else s

/-- DC_I3C_CMD.GO (R365, R370). -/
def i3cGo (s : State) : State :=
  if s.dram.i3cBusy then s
  else emit { wr s F.DC_I3C_CMD_BUSY 1 with dram := { s.dram with i3cBusy := true } } (.i3c (rd s F.DC_I3C_CFG_RATE) (rawReg s 0x1182) (rawReg s 0x1183))

/-- A transfer's end: 0 done, 1 no acknowledge, which event 0x51B reports, 2 timeout; a read leaves its bytes in the data register (R367, R370). -/
def i3cEnd (s : State) (result : Nat) (data : Word) : State :=
  if s.dram.i3cBusy then
    let s := wr (wr { s with dram := { s.dram with i3cBusy := false } } F.DC_I3C_CMD_BUSY 0) F.DC_I3C_CMD_RESULT result
    let s := whenS (decide (result = 1)) (fun s => event s 0x51B 1 0 (rd s F.DC_I3C_CMD_ADDR)) s
    whenS (decide (result = 0) && rdb s F.DC_I3C_CMD_READ)
      (fun s => setReg s 0x1183 (BitVec.ofNat 48 (data.toNat % 2 ^ (8 * (min 5 (rd s F.DC_I3C_CMD_LENGTH) + 1))))) s
  else s

/-- One sensor reading: address and degrees, or no acknowledge (R367). -/
def sensorRead (s : State) (r : Nat × Option Nat) : State :=
  match r.2 with
  | none => event s 0x51B 1 0 r.1
  | some t => whenS (decide (t ≥ rd s F.DC_I3C_CFG_WARN_C)) (fun s => event s 0x51C 1 0 (t % 256 + r.1 % 128 * 256)) s

/-- The sensors read and their maximum published (R367). -/
def sensorPoll (s : State) (rs : List (Nat × Option Nat)) : State :=
  let s := foldS rs sensorRead s
  match rs.filterMap (·.2) with
  | [] => s
  | t :: ts => { s with dram := { s.dram with dramTemp := ts.foldl max t } }

end Sys2Proof.Machine
end

