-- ==== Sys2Proof/Machine/ModeOps.lean ====
section
/-! DEFINITION. Device mode and stage state transitions with their records (chapter 02), and the settings of the playbills (R60). -/

namespace Sys2Proof.Machine

/-- The argument of event 0x00B for an ignored trigger (R72). -/
def ignored (s : State) (source : Nat) : State :=
  event s 0x00B 0 0 (modeCode s.modes.mode + source % 512 * 8)

/-- Source value of event 0x00B for a register request (R72). -/
def srcRegister : Nat := 0x1FF

/-- A device mode transition: MODE_LAST and event 0x001 (R41, R69, R72); domains that a request had switched on follow R51 again. -/
def modeTo (s : State) (m : Mode) (cause : Nat) : State :=
  if s.modes.mode = m then s
  else
    let arg := modeCode s.modes.mode + 8 * modeCode m + 64 * cause
    let s1 := wr (wr (wr (wr s F.MODE_LAST_FROM (modeCode s.modes.mode)) F.MODE_LAST_TO (modeCode m)) F.MODE_LAST_CAUSE cause)
      F.MODE_LAST_TICK (tickOf s)
    event { s1 with modes := { s1.modes with mode := m }, pack := { s1.pack with woken := 0#56 } } 0x001 0 0 arg

/-- A transition back to the same mode that R41 lists: Dark to Dark (R41). -/
def modeAgain (s : State) (cause : Nat) : State :=
  let m := modeCode s.modes.mode
  let s1 := wr (wr (wr (wr s F.MODE_LAST_FROM m) F.MODE_LAST_TO m) F.MODE_LAST_CAUSE cause) F.MODE_LAST_TICK (tickOf s)
  event s1 0x001 0 0 (9 * m + 64 * cause)

/-- Some stage is in the state. -/
def anyStage (s : State) (t : StageState) : Bool := fours.any (fun n => stageSt s n == t)

/-- The mode that the stage states give (R40). -/
def derivedMode (s : State) : Mode :=
  if anyStage s .restoring then .restore else if anyStage s .live then .service else .standby

/-- The device mode follows the stage states outside Dark, Save and Hold (R40). -/
def modeFollow (s : State) (cause : Nat) : State :=
  match s.modes.mode with
  | .dark | .save | .hold => s
  | _ => modeTo s (derivedMode s) cause

/-- A stage's state replaced with no record (R43). -/
def putStage (s : State) (n : Stage) (t : StageState) : State :=
  { s with modes := { s.modes with stages := qset s.modes.stages n t } }

/-- The ledger engine of a stage replaced. -/
def setLedger (s : State) (n : Stage) (l : LedgerState) : State := { s with ledger := qset s.ledger n l }
/-- The ledger engine of a stage. -/
def led (s : State) (n : Stage) : LedgerState := qget s.ledger n

/-- A stage that stops being Live has caps 0 on that clock; its sweep ends, and write-through operation ends with event 0x106 (R87, R99, R126). -/
def leaveLive (s : State) (n : Stage) : State :=
  let s := wr (wr s (F.LDG_CAP_FRAMES n.val) 0) (F.LDG_SOFT_FRAMES n.val) 0
  let s := wr (wr s (F.LDG_STATUS_WRITE_THROUGH n.val) 0) (F.LDG_STATUS_DEGRADED n.val) 0
  let s := whenS (led s n).writeThrough (fun s => event s 0x106 0 n.val 0) s
  let s := wr (wr (wr s (F.LDG_SWEEP_STATUS_ACTIVE n.val) 0) (F.LDG_STATUS_ABOVE_SOFT n.val) 0) (F.LDG_STATUS_OVER_CAP n.val) 0
  setLedger s n { led s n with writeThrough := false, aboveSoft := false, sweep := none, sweepDue := false, sweepPaused := false }
/-- The counts that run since the stage last entered Dressing at 0 (R123). -/
def countsZero (s : State) (n : Stage) : State :=
  let s := wr (wr s (F.LDG_FIRST_TOUCH_COUNT n.val) 0) (F.LDG_HELD_COUNT_COUNT n.val) 0
  wr (wr s (F.LDG_TRICKLED_COUNT n.val) 0) (F.LDG_REDIRTY_COUNT n.val) 0

/-- A stage state transition with event 0x002, and what leaving Live or entering Dressing does to the ledger engine (R48, R72, R87, R123). The device mode is left to the caller. -/
def stageTo (s : State) (n : Stage) (t : StageState) : State :=
  let old := stageSt s n
  if old = t then s
  else
    let s := event (putStage s n t) 0x002 0 n.val (stageCode old + 8 * stageCode t)
    let s := setLedger s n { led s n with notLiveLogged := false }
    let s := whenS (t == .dressing) (fun s => countsZero s n) s
    if old = .live then leaveLive s n else s

/-! Playbills (R60, R61, R119, R255, R260, R302, R405). -/

/-- The settings a playbill fixes (R60). -/
structure PlaybillSet where
  speed : Nat
  rate : Nat
  laneTop : Nat
  capMib : Nat
  soft : Nat
  settle : Nat
  trickle : Nat
  idleOnly : Nat
  strike : Nat
  ckpt : Nat
  pdTimer : Nat
  srIdle : Nat
  deriving DecidableEq, Repr

/-- The table of R60; a DRAM speed is coded as R347, a flash rate as R260. -/
def billSet : Playbill → PlaybillSet
  | .repertory => ⟨6, 1, 0, 32768, 75, 2, 25, 0, 25, 1, 256, 0⟩
  | .fullHouse => ⟨8, 0, 1, 0xFFFFFF, 75, 2, 100, 0, 25, 1, 256, 0⟩
  | .soloLatency => ⟨6, 1, 0, 262144, 75, 2, 100, 1, 25, 1, 256, 0⟩
  | .soloHoldup => ⟨6, 1, 0, 256, 50, 1, 100, 0, 25, 1, 256, 0⟩
  | .soloEndurance => ⟨6, 1, 0, 32768, 75, 8, 25, 0, 10, 0, 256, 0⟩
  | .soloPower => ⟨4, 2, 0, 32768, 75, 2, 25, 0, 25, 1, 64, 1000⟩

/-- The settings of a playbill but DRAM speed and flash rate loaded into their registers (R60, R63, R119, R255, R302). -/
def billLoad (s : State) (b : PlaybillReq) : State :=
  let p := billSet b.bill
  let s := wr (wr (wr s F.LDG_DEV_CAP_CAP_MIB p.capMib) F.SAVE_CFG_CKPT_AT_SAVE p.ckpt) F.FL_CFG_STRIKE_START_PCT p.strike
  let s := wr (wr s F.FL_CFG_STRIKE_IDLE_ONLY p.idleOnly) F.CIPH_CFG_LANE_TOP p.laneTop
  let s := foldS [0, 1, 2, 3] (fun s n =>
    wr (wr (wr (wr s (F.LDG_CFG_SOFT_PCT n) p.soft) (F.LDG_CFG_SETTLE n) p.settle) (F.LDG_CFG_TRICKLE_PCT n) p.trickle) (F.LDG_CFG_IDLE_ONLY n) p.idleOnly) s
  let s := foldS [0, 1, 2, 3] (fun s c => wr (wr s (F.DC_LP_CFG_PD_TIMER c) p.pdTimer) (F.DC_LP_CFG_SR_IDLE_US c) p.srIdle) s
  { s with modes := { s.modes with playbill := b.bill, compat := b.compat, applying := none } }

/-- The flash rate of a playbill loaded into every channel's RATE (R260). -/
def billRates (s : State) (b : Playbill) : State :=
  foldS (List.range 16) (fun s c => wr s (F.FL_CH_CFG_RATE c) (billSet b).rate) s

end Sys2Proof.Machine
end

