-- ==== Sys2Proof/Machine/CxlBase.lean ====
section
/-! DEFINITION. What the other engines use of the host side: CXL event logs, poison lists, completions, the Dirty Shutdown Count slots (chapter 10). -/

namespace Sys2Proof.Machine

/-! Event logs (R337, R395). -/

/-- An empty log. -/
def cxlLogInit : CxlLog := ⟨[], false, 0, 0, 0⟩
/-- The number by which a port's logical device keeps its logs and policy; the FM-owned one counts as LD-ID 4 (R374, R395). -/
def ldKey (port ld : Nat) : Nat := 5 * port + min 4 ld
/-- The number of a stage's logical device. -/
def stageKey (s : State) (n : Stage) : Nat := ldKey (rd s (F.STAGE_BIND_PORT n.val)) (rd s (F.STAGE_BIND_LD_ID n.val))
/-- A log of a logical device. -/
def ldLog (s : State) (key k : Nat) : CxlLog := mget cxlLogInit s.cxl.logs (4 * key + k)
/-- A log of a stage's logical device. -/
def cxlLog (s : State) (n : Stage) (k : Nat) : CxlLog := ldLog s (stageKey s n) k
/-- A log replaced. -/
def setLdLog (s : State) (key k : Nat) (l : CxlLog) : State := { s with cxl := { s.cxl with logs := mset cxlLogInit s.cxl.logs (4 * key + k) l } }
/-- The timestamp in nanoseconds: what was set, with the time since; 0 where none was (R372). -/
def timestampNow (s : State) : Nat :=
  let t := s.cxl.timestamp
  if t.2 = 0 then 0 else t.1 + (tickOf s + 1 - t.2) * 1000000000 / 32768

/-- A record put into a log; a full log overflows with event 0x610; an interrupt follows the policy (R395). -/
def cxlRecord (s : State) (n : Stage) (k : Nat) (r : CxlRec) : State :=
  let l := cxlLog s n k
  if l.recs.length < 64 then
    let s := setLdLog s (stageKey s n) k { l with recs := l.recs ++ [r] }
    if bits (mget 0 s.cxl.policy (stageKey s n)) (8 * k) 2 ≠ 0 then emit s (.hostEvent n.val k) else s
  else
    let s := setLdLog s (stageKey s n) k { l with
      overflow := true, overflowCount := satN 16 (l.overflowCount + 1), firstOver := if l.overflow then l.firstOver else timestampNow s, lastOver := timestampNow s }
    if l.overflow then s else event s 0x610 1 n.val (k + 4 * rd s (F.STAGE_BIND_LD_ID n.val))

/-! Poison list (R389). -/

/-- The entry covers the line. -/
def poisonCovers (e : PoisonEntry) (line : Nat) : Bool := decide (e.line ≤ line) && decide (line < e.line + e.lines)

/-- The list is full: what was to be added is dropped, the overflow flag and its timestamp are set, event 0x609 (R389). -/
def poisonFull (s : State) (n : Stage) : State :=
  event { s with cxl := { s.cxl with poisonOver := qset s.cxl.poisonOver n (some (timestampNow s)) } } 0x609 1 n.val (qget s.cxl.poison n).length
/-- An entry added once; a full list drops it and overflows (R389). -/
def poisonAdd (s : State) (n : Stage) (e : PoisonEntry) : State :=
  let ps := qget s.cxl.poison n
  if ps.contains e then s
  else if ps.length < 1024 then { s with cxl := { s.cxl with poison := qset s.cxl.poison n (ps ++ [e]) } }
  else poisonFull s n

/-- What is left of an entry without one of its lines: the lines in front of it, and those behind it where they are wanted. -/
def poisonSplit (e : PoisonEntry) (line : Nat) (behind : Bool) : List PoisonEntry :=
  if poisonCovers e line then
    (if e.line < line then [{ e with lines := line - e.line }] else []) ++
    (if behind && decide (line + 1 < e.line + e.lines) then [{ e with line := line + 1, lines := e.line + e.lines - line - 1 }] else [])
  else [e]
/-- The entry of one line taken out: a longer entry keeps its other lines, but for those behind the line where a second entry has no room in the list (DESIGN CHOICE, log entry 156) (R389); the overflow flag clears at 768 entries. -/
def poisonRemove (s : State) (n : Stage) (line : Nat) : State :=
  let parts := fun (behind : Bool) => (qget s.cxl.poison n).flatMap (fun e => poisonSplit e line behind)
  let room := decide ((parts true).length ≤ 1024)
  let ps := parts room
  let c := { s.cxl with poison := qset s.cxl.poison n ps }
  if room then { s with cxl := if ps.length ≤ 768 then { c with poisonOver := qset c.poisonOver n none } else c }
  else poisonFull { s with cxl := c } n

/-- A General Media Event record with its poison-list entry (R337). -/
def mediaError (s : State) (n : Stage) (line kind transaction : Nat) : State :=
  cxlRecord (poisonAdd s n ⟨line, 1, false⟩) n 2 (.generalMedia line kind transaction)

/-! Dirty Shutdown Count slots (R384, R550). -/

/-- The eight words of the newest Dirty Shutdown Count slot; zeros where none is valid. -/
def dscWords (s : State) : List Word := (slotPayload s.store 0x03 slotsDsc.1 slotsDsc.2).getD (List.replicate 8 0#48)
/-- A stage's count. -/
def dscCount (s : State) (n : Stage) : Nat := bits ((dscWords s).getD (2 * n.val) 0#48).toNat 0 32
/-- The last generation counted, if one has been. -/
def dscGen (s : State) (n : Stage) : Option Nat :=
  let w := ((dscWords s).getD (2 * n.val + 1) 0#48).toNat
  if bitOf w 32 then some (bits w 0 32) else none
/-- The stored shutdown state, true for dirty (R386). -/
def dscShutdown (s : State) (n : Stage) : Bool := bitOf ((dscWords s).getD (2 * n.val + 1) 0#48).toNat 33

/-- A stage's two words written to the alternate slot. -/
def dscWrite (s : State) (n : Stage) (count : Nat) (gen : Option Nat) (dirty : Bool) : State :=
  let ws := (dscWords s).set (2 * n.val) (BitVec.ofNat 48 (satN 32 count))
  let w := gen.getD 0 % 2 ^ 32 + b2n gen.isSome * 2 ^ 32 + b2n dirty * 2 ^ 33
  (slotWrite s 0x03 slotsDsc.1 slotsDsc.2 (ws.set (2 * n.val + 1) (BitVec.ofNat 48 w))).2

/-- The count raised by a number, the last counted generation recorded in the same slot write; a Memory Module record follows (R156, R384, R395). -/
def dscAdd (s : State) (n : Stage) (k gen : Nat) : State :=
  let c := dscCount s n + k
  cxlRecord (dscWrite s n c (some gen) (dscShutdown s n)) n 1 (.memoryModule 3 c)

end Sys2Proof.Machine
end

