-- ==== Sys2Proof/Machine/FlashOps.lean ====
section
/-! DEFINITION. The flash set of a stage: geometry, codewords and map entries, blocks and bands, placing codewords, seal logs and house records as they read back (R211 to R241). -/

namespace Sys2Proof.Machine

/-! Geometry (R213 to R217). -/

/-- A stage's flash set. -/
def fset (s : State) (n : Stage) : StageFlash := qget s.flash.sets n
/-- A stage's flash set replaced. -/
def setFset (s : State) (n : Stage) (x : StageFlash) : State := { s with flash := { s.flash with sets := qset s.flash.sets n x } }
/-- A stage's system blocks and strike. -/
def fsys (s : State) (n : Stage) : StageSys := qget s.flash.sys n
/-- A stage's system blocks and strike replaced. -/
def setFsys (s : State) (n : Stage) (x : StageSys) : State := { s with flash := { s.flash with sys := qset s.flash.sys n x } }

/-- The channel of a LUN index (R213). -/
def lunCh (lun : Nat) : Nat := lun % 16
/-- The flash channel is lost (R212, R160). -/
def chLost (s : State) (ch : Nat) : Bool := rdb s (F.FL_CH_STATUS_LOST ch)
/-- The flash channels bound to a stage. -/
def stageFlashChs (s : State) (n : Stage) : List Nat :=
  if rdb s (F.STAGE_BIND_BOUND n.val) then (List.range 16).filter (fun c => bitOf (rd s (F.STAGE_BIND_FLASH n.val)) c) else []
/-- The stage a flash channel is bound to. -/
def flashStage (s : State) (ch : Nat) : Option Stage := fours.find? (fun n => (stageFlashChs s n).contains ch)
/-- The LUNs of a stage's flash set in LUN order (R213). -/
def stageLuns (s : State) (n : Stage) : List Nat :=
  let chs := stageFlashChs s n
  let y := fsys s n
  (List.range 256).filter (fun i => chs.contains (i % 16) && decide (i / 16 % 4 ≤ y.lunsPer) && decide (i / 64 ≤ y.ces))
/-- The stage a LUN belongs to. -/
def lunStage (s : State) (lun : Nat) : Option Stage := fours.find? (fun n => (stageLuns s n).contains lun)
/-- The first and the last house LUN (R214). -/
def houseLun (s : State) (n : Stage) (copy : Nat) : Nat :=
  let chs := stageFlashChs s n
  if copy = 0 then chs.headD 0 else chs.getLastD 0
/-- SLC pages per block. -/
def pagesPer (s : State) (n : Stage) : Nat := max 1 (rd s (F.FL_STAGE_GEOM_PAGES n.val))
/-- Blocks per LUN. -/
def blocksPer (s : State) (n : Stage) : Nat := rd s (F.FL_STAGE_GEOM_BLOCKS n.val)
/-- A system block (R214). -/
def sysBlock (s : State) (n : Stage) (lun b : Nat) : Bool := decide (b < 8) && (lun == houseLun s n 0 || lun == houseLun s n 1)

/-! Blocks (R215, R241, R250 to R252). -/

/-- A block never erased by the controller. -/
def blockInit : Block := ⟨0, 0, 0, 0, 0, 0, 0, true, 0⟩
/-- Key of a block. -/
def blockKey (lun b : Nat) : Nat := lun * 65536 + b
/-- A block. -/
def blockAt (s : State) (lun b : Nat) : Block := mget blockInit s.flash.blocks (blockKey lun b)
/-- A block replaced. -/
def setBlock (s : State) (lun b : Nat) (x : Block) : State :=
  { s with flash := { s.flash with blocks := mset blockInit s.flash.blocks (blockKey lun b) x } }
/-- A block neither bad, retired nor factory marked, and outside the system blocks of the LUNs of `house` (R215). -/
def usableIn (house : List Nat) (s : State) (lun b : Nat) : Bool :=
  !(decide (b < 8) && house.contains lun) && decide ((blockAt s lun b).state ≤ 1) && !s.flash.factory.contains (blockKey lun b)
/-- The house LUNs of a stage. -/
def houseLuns (s : State) (n : Stage) : List Nat := [houseLun s n 0, houseLun s n 1]
/-- A block that a band may use (R215). -/
def blockUsable (s : State) (n : Stage) (lun b : Nat) : Bool := usableIn (houseLuns s n) s lun b
/-- The block holds nothing since its last erase, and was erased since the set was formatted (R533). -/
def blockErased (s : State) (n : Stage) (lun b : Nat) : Bool :=
  (blockAt s lun b).erased && (blockAt s lun b).epoch == (fset s n).fmt
/-- The LUNs of a band (R215). -/
def bandLuns (s : State) (n : Stage) (b : Nat) : List Nat := (stageLuns s n).filter (fun l => blockUsable s n l b)
/-- Every block of the band is erased. -/
def bandErased (s : State) (n : Stage) (b : Nat) : Bool :=
  let ls := bandLuns s n b
  !ls.isEmpty && ls.all (fun l => blockErased s n l b)
/-- Sum of a band's erase counts. -/
def bandErases (s : State) (n : Stage) (b : Nat) : Nat := ((bandLuns s n b).map (fun l => (blockAt s l b).erases)).sum
/-- The erased band, not open, whose blocks have the lowest mean erase count (R215). -/
def bestBand (s : State) (n : Stage) : Option Nat :=
  ((List.range (blocksPer s n)).filter (fun b => bandErased s n b && decide ((fset s n).band ≠ some b))).foldl (fun acc b =>
    match acc with
    | none => some b
    | some c => if bandErases s n b * (bandLuns s n c).length < bandErases s n c * (bandLuns s n b).length then some b else some c) none
/-- The erased band capacity in codeword slots: the erased bands, and what the open band has left unwritten (R248, R249; that the open band counts is a DESIGN CHOICE, log entry 145). -/
def erasedSlots (s : State) (n : Stage) : Nat :=
  let per := 4 * pagesPer s n
  let luns := stageLuns s n
  let house := houseLuns s n
  let x := fset s n
  let full := ((List.range (blocksPer s n)).map (fun b =>
    let ls := luns.filter (fun l => usableIn house s l b)
    if decide (x.band ≠ some b) && ls.all (fun l => blockErased s n l b) then ls.length * per else 0)).sum
  let left := (fset s n).band.elim 0 (fun b => (pagesPer s n - (fset s n).page) * (bandLuns s n b).length * 4 -
    ((bandLuns s n b).filter (· < (fset s n).pos)).length * 4)
  full + left
/-- The erased slots counted anew (R249). -/
def freeFollow (s : State) (n : Stage) : State := setFsys s n { fsys s n with free := erasedSlots s n }
/-- A system block that is bad, or carries a factory mark. -/
def sysBad (s : State) (lun b : Nat) : Bool := (blockAt s lun b).state == 2 || s.flash.factory.contains (blockKey lun b)
/-- SPARES_BAD: bit n - 2 for each system block n, 2 to 7, that is bad on a house LUN (R235). -/
def sparesBad (s : State) (n : Stage) : Nat :=
  ([2, 3, 4, 5, 6, 7].map (fun b => if (houseLuns s n).any (fun l => sysBad s l b) then 2 ^ (b - 2) else 0)).sum
/-- Good, unworn blocks outside the system blocks (R253). -/
def goodBlocks (s : State) (n : Stage) : Nat :=
  let house := houseLuns s n
  ((stageLuns s n).map (fun l => ((List.range (blocksPer s n)).filter (fun b =>
    usableIn house s l b && decide ((blockAt s l b).state = 0))).length)).sum
/-- Slots in MiB. -/
def slotsMib (k : Nat) : Nat := k * 4096 / 1048576
/-- Good capacity in MiB (R253). -/
def goodMib (s : State) (n : Stage) : Nat := slotsMib (goodBlocks s n * pagesPer s n * 4)

/-! Codewords (R226 to R228). -/

/-- The clear header (R227). -/
def frameHeader (n : Stage) (kind number gen seq flags : Nat) : List Byte :=
  let h := leBytes 4 (number % 2 ^ 29 + n.val * 2 ^ 29) ++ leBytes 4 gen ++ leBytes 4 seq ++ leBytes 1 kind ++ leBytes 1 flags
  h ++ leBytes 2 (crc16 h)
/-- Header fields: frame or part number, stage, generation, sequence, kind, flags. -/
def hNumber (h : List Byte) : Nat := bits (leNat (slice h 0 4)) 0 29
def hStage (h : List Byte) : Nat := bits (leNat (slice h 0 4)) 29 2
def hGen (h : List Byte) : Nat := leNat (slice h 4 4)
def hSeq (h : List Byte) : Nat := leNat (slice h 8 4)
def hKind (h : List Byte) : Nat := leNat (slice h 12 1)
def hFlags (h : List Byte) : Nat := leNat (slice h 13 1)
/-- The header check passes (R227). -/
def hOk (h : List Byte) : Bool :=
  h.length == 16 && leNat (slice h 14 2) == crc16 (slice h 0 14) && !bitOf (leNat (slice h 0 4)) 31
/-- The IV a header gives (R228). -/
def headerIv (h : List Byte) : List Byte :=
  slice h 8 4 ++ slice h 4 4 ++ leBytes 1 (hStage h) ++ leBytes 1 (hKind h) ++ [0#8, 0#8]
/-- A payload of 4,096 bytes; what a record does not fill is `fill`. -/
def padPayload (bs : List Byte) (fill : Byte) : List Byte := (bs ++ List.replicate (4096 - bs.length) fill).take 4096
/-- A codeword of a payload under the stage media key (R228, R402). -/
def mkCodeword (s : State) (n : Stage) (kind number gen seq flags : Nat) (payload : List Byte) : Codeword :=
  let h := frameHeader n kind number gen seq flags
  let r := gcmEncrypt (keyBytes ((keyAt s (1 + n.val)).getD 0#256)) (headerIv h) h payload
  ⟨r.1, h, r.2⟩
/-- The plaintext of a codeword whose tag verifies (R403). -/
def openCodeword (s : State) (n : Stage) (c : Codeword) : Option (List Byte) :=
  (keyAt s (1 + n.val)).bind (fun k => gcmDecrypt (keyBytes k) (headerIv c.header) c.header c.body c.tag)

/-! Map entries (R232). -/

/-- The value that means no copy. -/
def noCopy : Nat := 0xFFFFFFFF
/-- The entry of a copy. -/
def mkEntry (lun page slot gen seq : Nat) : Nat :=
  slot % 4 + page % 2 ^ 20 * 4 + lun % 256 * 2 ^ 22 + gen % 2 * 2 ^ 30 + seq % 2 * 2 ^ 31
def entrySlot (e : Nat) : Nat := bits e 0 2
def entryPage (e : Nat) : Nat := bits e 2 20
def entryLun (e : Nat) : Nat := bits e 22 8
/-- A map entry names a LUN of the stage's flash set (R22). -/
def flashMine (s : State) (n : Stage) (e : Nat) : Bool := (stageFlashChs s n).contains (lunCh (entryLun e))
/-- Key of a NAND page. -/
def pageKey (lun page : Nat) : Nat := lun * 2 ^ 20 + page
/-- A NAND page that nothing has programmed. -/
def pageInit : NandPage := ⟨[], [], []⟩
/-- What a slot holds, unless no read can decode it. -/
def slotAt (s : State) (lun page slot : Nat) : Option Codeword :=
  let p := mget pageInit s.flash.pages (pageKey lun page)
  if p.dead.contains slot then none else (p.slots.getD slot none)
/-- The codeword a map entry names. -/
def entryCw (s : State) (e : Nat) : Option Codeword := if e = noCopy then none else slotAt s (entryLun e) (entryPage e) (entrySlot e)
/-- Map entries of an index codeword's payload (R234). -/
def indexEntries (p : List Byte) : List Nat :=
  let k := min (leNat (slice p 0 4)) 1023
  (List.range k).map (fun i => leNat (slice p (4 + 4 * i) 4))
/-- An index codeword's payload; past its entries the bytes are 0 (R234; DESIGN CHOICE, log entry 146). -/
def indexPayload (es : List Nat) : List Byte := padPayload (leBytes 4 es.length ++ es.flatMap (leBytes 4)) 0#8
/-- A list cut into pieces of `k`. -/
def chunk {α : Type} (k : Nat) : Nat → List α → List (List α)
  | 0, _ => []
  | fuel + 1, xs => if xs.isEmpty then [] else xs.take k :: chunk k fuel (xs.drop k)
/-- Pieces of at most `k`. -/
def chunks {α : Type} (k : Nat) (xs : List α) : List (List α) := chunk (max 1 k) xs.length xs
/-! Records: payload layouts (R235 to R241). -/

/-- The house record (R235). -/
def housePayload (s : State) (n : Stage) (update seqA seqB : Nat) (hash : List Byte) : List Byte :=
  let body := leBytes 4 0x46584831 ++ leBytes 2 1 ++ leBytes 1 n.val ++ [0#8] ++ leBytes 4 update ++ leBytes 2 (stageLuns s n).length
    ++ leBytes 2 (rd s (F.STAGE_BIND_FLASH n.val)) ++ leBytes 2 (pagesPer s n) ++ leBytes 2 (blocksPer s n) ++ leBytes 4 (hostFrames s n)
    ++ leBytes 2 seqA ++ leBytes 2 seqB ++ leBytes 1 (sparesBad s n) ++ List.replicate 3 0#8 ++ hash
  padPayload body 0#8

/-- A house record read back. -/
structure HouseRec where
  stage : Nat
  update : Nat
  luns : Nat
  channels : Nat
  pages : Nat
  blocks : Nat
  frames : Nat
  sealA : Nat
  sealB : Nat
  sparesBad : Nat
  hash : List Byte
  deriving DecidableEq, Repr

/-- The fields of a house record's payload (R235). -/
def parseHouse (p : List Byte) : Option HouseRec :=
  if leNat (slice p 0 4) = 0x46584831 ∧ leNat (slice p 4 2) = 1 then
    some ⟨leNat (slice p 6 1), leNat (slice p 8 4), leNat (slice p 12 2), leNat (slice p 14 2), leNat (slice p 16 2), leNat (slice p 18 2),
      leNat (slice p 20 4), leNat (slice p 24 2), leNat (slice p 26 2), leNat (slice p 28 1), slice p 32 32⟩
  else none

/-- A seal-log record's payload; past its index the bytes are 0 (R237; DESIGN CHOICE, log entry 146). -/
def sealPayload (n : Stage) (sub reason gen lastSeq frames tick flushed ckpt ckptGen bad wear : Nat) (index : List Nat) : List Byte :=
  let body := leBytes 1 sub ++ leBytes 1 n.val ++ leBytes 1 reason ++ [0#8] ++ leBytes 4 gen ++ leBytes 4 lastSeq ++ leBytes 4 frames
    ++ leBytes 5 tick ++ List.replicate 3 0#8 ++ leBytes 4 flushed ++ leBytes 4 ckpt ++ leBytes 4 ckptGen ++ leBytes 4 bad ++ leBytes 4 wear
    ++ leBytes 2 index.length ++ leBytes 2 0 ++ index.flatMap (leBytes 4)
  padPayload body 0#8
/-- A seal-log record read back (R237). -/
def parseSeal (p : List Byte) : SealRec :=
  ⟨leNat (slice p 0 1), leNat (slice p 2 1), leNat (slice p 4 4), leNat (slice p 8 4), leNat (slice p 12 4), leNat (slice p 28 4),
    leNat (slice p 32 4), leNat (slice p 36 4), leNat (slice p 40 4),
    (List.range (min 1000 (leNat (slice p 44 2)))).map (fun i => leNat (slice p (48 + 4 * i) 4))⟩

/-- The programmed pages of a block, in page order: their page indexes. -/
def blockPages (s : State) (n : Stage) (lun b : Nat) : List Nat :=
  ((s.flash.pages.filter (fun e => decide (e.1 / 2 ^ 20 = lun) && decide (e.1 % 2 ^ 20 / pagesPer s n = b))).map (fun e => e.1 % 2 ^ 20))
/-- The entry of slot 0 of a page. -/
def pageEntry (lun page : Nat) : Nat := mkEntry lun page 0 0 0
/-- Generations that the records of the two logs show sealed, without a void record (R144). -/
def genSealed (a b : List SealRec) (g : Nat) : Bool :=
  let has := fun (l : List SealRec) => l.any (fun r => r.sub == 1 && r.gen == g)
  let later := (a ++ b).any (fun r => r.sub == 2 && decide (r.gen > g))
  !(a ++ b).any (fun r => r.sub == 3 && r.gen == g) && ((has a && has b) || ((has a || has b) && later))
/-- The highest sealed generation (R172). -/
def newestSealed (a b : List SealRec) : Option Nat :=
  (((a ++ b).filter (fun r => r.sub == 1 && genSealed a b r.gen)).map (·.gen)).foldl (fun acc g => some (max g (acc.getD 0))) none
/-- A dead generation: a verified open record, not sealed, no void record (R156). -/
def deadGen (a b : List SealRec) : Option Nat :=
  (((a ++ b).filter (fun r => r.sub == 2 && !genSealed a b r.gen && !(a ++ b).any (fun q => q.sub == 3 && q.gen == r.gen))).map (·.gen)).foldl
    (fun acc g => some (max g (acc.getD 0))) none
/-- The generations whose void record stands in both logs (R245). -/
def voidedBoth (a b : List SealRec) : List Nat :=
  ((a.filter (fun r => r.sub == 3 && b.any (fun q => q.sub == 3 && q.gen == r.gen))).map (·.gen)).foldl insertNat []
/-- The sealed records of usable generations, newest first. -/
def sealedRecs (a b : List SealRec) : List SealRec :=
  let rs := (a ++ b.filter (fun r => !a.contains r)).filter (fun r => r.sub == 1 && genSealed a b r.gen)
  rs.foldl (fun (acc : List SealRec) r => acc.takeWhile (fun q => q.gen > r.gen) ++ [r] ++ acc.dropWhile (fun q => q.gen > r.gen)) []

/-! Placing codewords (R215, R216, R228, R683). -/

/-- A codeword's place: LUN and page index, as the cursor of the open band gives it; one whose program failed goes to another LUN than that, where the band has one (R160). -/
def placeAt (s : State) (n : Stage) (avoid : Option Nat) : Option (Nat × Nat) :=
  let x := fset s n
  x.band.bind fun b =>
    let all := (bandLuns s n b).filter (fun l => !chLost s (lunCh l))
    let other := all.filter (fun l => decide (some l ≠ avoid))
    let ls := if other.isEmpty then all else other
    match ls.find? (fun l => decide (l ≥ x.pos)) with
    | some l => if x.page < pagesPer s n then some (l, b * pagesPer s n + x.page) else none
    | none => match ls with
      | l :: _ => if x.page + 1 < pagesPer s n then some (l, b * pagesPer s n + x.page + 1) else none
      | [] => none

/-- The open band made sure of: the next erased band is opened where the cursor has no place left; what R215 gives. -/
def bandReady (s : State) (n : Stage) (avoid : Option Nat) : State :=
  match placeAt s n avoid with
  | some _ => s
  | none =>
    match bestBand s n with
    | none => s
    | some b => wr (setFset s n { fset s n with band := some b, page := 0, pos := 0 }) (F.FL_STAGE_STATUS_OPEN_BAND n.val) b

/-- The cursor put behind a page. -/
def cursorPast (x : StageFlash) (per lun page : Nat) : StageFlash := { x with page := page % per, pos := lun + 1 }

/-- The open generation of a stage. -/
def openGen (s : State) (n : Stage) : Nat := rd s (F.SAVE_OPEN_OPEN_GEN n.val)

/-- Payload of checkpoint part `j`: the entries of its 1,024 frames (R239). -/
def mapPart (s : State) (n : Stage) (j : Nat) : List Byte :=
  (List.range 1024).flatMap (fun i => leBytes 4 (mget noCopy (fset s n).fmap (1024 * j + i)))

/-- The codeword of a job with its header: a relayed one keeps its own (R246), another takes the next sequence value (R228). -/
def jobCodeword (s : State) (n : Stage) (j : Job) : Codeword × State :=
  match j.body with
  | .relay cw => (cw, s)
  | b =>
    let x := fset s n
    let payload := match b with
      | .bytes bs => bs
      | .mapPart k => mapPart s n k
      | .relay cw => cw.body
    let cw := mkCodeword s n j.kind j.number (openGen s n) x.seq j.flags payload
    let s := setFset s n { x with seq := x.seq + 1 }
    (cw, if x.seq + 1 ≥ 0xF0000000 then wr s (F.FL_STAGE_STATUS_SEAL_NEEDED n.val) 1 else s)

/-- A job's codeword placed in the next slot of the open band; a full page moves the cursor on (R215). -/
def placeJob (s : State) (n : Stage) (j : Job) : State :=
  let s := bandReady s n j.avoid
  match placeAt s n j.avoid with
  | none => s
  | some (lun, page) =>
    let (cw, s) := jobCodeword s n j
    let x := fset s n
    let p : Placed := ⟨j, cw⟩
    let slots := match x.pages.find? (fun q => q.lun == lun && q.page == page) with
      | some q => q.slots ++ [p]
      | none => [p]
    let at_ := fun (q : OpenPage) => q.lun == lun && q.page == page
    let pages := if x.pages.any at_ then x.pages.map (fun q => if at_ q then ⟨lun, page, slots⟩ else q) else x.pages ++ [⟨lun, page, slots⟩]
    let x := { x with pages := pages, page := page % pagesPer s n, pos := lun }
    let x := if slots.length ≥ 4 then cursorPast x (pagesPer s n) lun page else x
    let s := setFset s n x
    let b := blockAt s lun (page / pagesPer s n)
    let s := setBlock s lun (page / pagesPer s n) { b with erased := false, epoch := (fset s n).fmt }
    if slots.length ≥ 4 then freeFollow s n else s

/-- A job put into the stage's queue for its lane. -/
def addJob (s : State) (n : Stage) (j : Job) : State := setFset s n { fset s n with jobs := (fset s n).jobs ++ [j] }

/-- A page's program passed: its codewords are in the NAND (R216). -/
def storePage (s : State) (lun page : Nat) (cws : List Codeword) (dead : List Nat) (flips : NMap Nat) : State :=
  { s with flash := { s.flash with pages := mset pageInit s.flash.pages (pageKey lun page) ⟨cws.map some, dead, flips⟩ } }
/-- The bits flipped in the codeword of a map entry. -/
def entryFlips (s : State) (e : Nat) : Nat := mget 0 (mget pageInit s.flash.pages (pageKey (entryLun e) (entryPage e))).flips (entrySlot e)
/-- Bits of a codeword; an injection that makes it uncorrectable counts as all of them and one (R226, R231). -/
def codewordBits : Nat := 4592 * 8
/-- The most flipped bits that a decode corrects: the characterised limits 5 × 10^-3 hard and 10^-2 soft, as whole bits of a codeword (R230; DEDUCED, log entry 130). -/
def decodeLimit (soft : Bool) : Nat := if soft then codewordBits / 100 else codewordBits * 5 / 1000

/-! Command tags and epochs (R224). -/

/-- A channel with nothing outstanding. -/
def chanFree : FlashChan := ⟨[], [], [], [], [], []⟩
/-- A flash channel. -/
def fch (s : State) (c : Nat) : FlashChan := mget chanFree s.flash.chans c
/-- A flash channel replaced; OUTSTANDING follows (R260). -/
def setFch (s : State) (c : Nat) (x : FlashChan) : State :=
  wr { s with flash := { s.flash with chans := mset chanFree s.flash.chans c x } } (F.FL_CH_STATUS_OUTSTANDING c) x.ops.length
/-- The lowest tag in service and not in use. -/
def freeTag (x : FlashChan) : Option Nat :=
  (List.range 64).find? (fun t => !x.ops.any (fun o => o.tag == t) && !x.awaiting.contains t)
/-- The LUN has an outstanding command (R683). -/
def lunBusy (s : State) (lun : Nat) : Bool := (fch s (lunCh lun)).ops.any (fun o => o.lun == lun)

/-- The kind of a NAND operation sent (R211). -/
def flashKind : FlashDo → Nat
  | .program .. => 0 | .read .. => 1 | .erase _ => 2 | .reset .. => 3

/-- The micro-program entry that carries out a command (R220). -/
def mpEntry : FlashDo → Nat
  | .program .. => 5
  | .read r _ => if r.step = 1 then 3 else 4
  | .erase _ => 6
  | .reset .. => 0

/-- A command issued on a LUN with a free tag, its epoch advanced, its micro-program run queued: SLC_ENTER before a program or an erase, and for a soft read the three runs of SOFT_READ with SOFT 0, 1 and 2 (R219, R220, R224, R230). -/
def flashIssue (s : State) (n : Stage) (lun page : Nat) (act : FlashDo) (retry : Nat) (soft : Bool) : State :=
  let c := lunCh lun
  let x := fch s c
  match freeTag x with
  | none => s
  | some t =>
    let e := (mget 0 x.epochs t + 1) % 4
    let run : MpRun := ⟨lun, n, mpEntry act, t, 0, 0, [], page, 0, retry, 0, .none, s.now⟩
    let runs : List MpRun := if soft then [0, 1, 2].map (fun k => { run with entry := 7, soft := k })
      else if mpEntry act = 5 ∨ mpEntry act = 6 then [{ run with entry := 2 }, run] else [run]
    let x := { x with epochs := mset 0 x.epochs t e, ops := x.ops ++ [⟨t, e, lun, page, act, s.now⟩], runs := x.runs ++ runs }
    foldS (if soft then [0, 1, 2] else [0]) (fun s (_ : Nat) => emit s (.nand lun (flashKind act) page 15)) (setFch s c x)

/-- The outstanding command of a tag and epoch (R224). -/
def flashOp (s : State) (c tag epoch : Nat) : Option FlashOp :=
  (fch s c).ops.find? (fun o => o.tag == tag && o.epoch == epoch)
/-- A command taken off its channel, with its run. -/
def flashDrop (s : State) (c tag : Nat) : State :=
  let x := fch s c
  setFch s c { x with ops := x.ops.filter (fun o => decide (o.tag ≠ tag)), runs := x.runs.filter (fun r => decide (r.tag ≠ tag)) }
/-- A stale completion is dropped and counted (R224). -/
def flashStale (s : State) (c tag epoch : Nat) : State :=
  event (incSat s (F.FL_CH_CMD_STALE c) 1) 0x405 0 ((flashStage s c).elim 0 (·.val)) (c + tag % 64 * 16 + epoch % 4 * 1024)

/-! Bad blocks (R243, R252). -/

/-- A block marked bad: cause as in the bad-block table; the table is owed, and the block's band is among the next victims (R243, R252). -/
def markBad (s : State) (n : Stage) (lun b cause : Nat) : State :=
  if (blockAt s lun b).state = 2 then s
  else
    let s := setBlock s lun b { blockAt s lun b with state := 2, cause := cause }
    let s := setFset s n { fset s n with badDue := true }
    let s := if sysBlock s n lun b then s else setFsys s n { fsys s n with badBands := (fsys s n).badBands.filter (· ≠ b) ++ [b] }
    event s (if cause = 1 then 0x406 else 0x407) 1 n.val (lun + b * 256)

/-! Micro-program sections and the steps of a read (R219, R230). -/

/-- The micro-program section of a stage (R526). -/
def microOf (s : State) (n : Stage) : List Word := qget s.flash.micro (fin4 (rd s (F.STAGE_BIND_MP_ID n.val)))
/-- A word of a section. -/
def microWord (m : List Word) (i : Nat) : Nat := (m.getD i 0#48).toNat
/-- Start word and length of an entry, if it is present (R219). -/
def microEntry (m : List Word) (e : Nat) : Option (Nat × Nat) :=
  let w := microWord m (3 + e)
  if bitOf w 21 then some (bits w 0 12, bits w 12 9) else none
/-- Read-retry levels (R219). -/
def retryLevels (m : List Word) : Nat := bits (microWord m 2) 0 4

/-- The step of the ladder is the soft decode (R230). -/
def softStep (s : State) (n : Stage) (step : Nat) : Bool := decide (step > retryLevels (microOf s n) + 1)
/-- The next step that the section has, after a read that did not decode (R230). -/
def nextStep (s : State) (n : Stage) (step : Nat) : Option Nat :=
  let m := microOf s n
  let k := if (microEntry m 4).isSome then retryLevels m else 0
  if step < k + 1 then some (step + 1)
  else if step ≤ retryLevels m + 1 ∧ (microEntry m 7).isSome then some (retryLevels m + 2) else none

/-! Nominal bandwidth (R218). -/

/-- Data rate of a trained channel in MB/s (R260). -/
def chRate (s : State) (c : Nat) : Nat :=
  match rd s (F.FL_CH_STATUS_RATE_ACTIVE c) with
  | 0 => 3200 | 1 => 2400 | 2 => 1600 | _ => 1200
/-- Program bandwidth of a channel in MB/s: the lesser of the bus and the array term. -/
def chProg (s : State) (n : Stage) (c luns : Nat) : Rat :=
  let cmd := rd s (F.FL_STAGE_TIMING_CMD_NS n.val)
  let prog := max 1 (rd s (F.FL_STAGE_TIMING_PROG_10NS n.val))
  let r := chRate s c
  min (((16384 * 1000 * r : Nat) : Rat) / ((18432 * 1000 + cmd * r : Nat) : Rat)) (((luns * 16384 * 100 : Nat) : Rat) / (prog : Rat))
/-- Read bandwidth of a channel in MB/s. -/
def chRead (s : State) (n : Stage) (c luns : Nat) : Rat :=
  min (((16384 * chRate s c : Nat) : Rat) / 18432) (((luns * 16384 * 100 : Nat) : Rat) / ((max 1 (rd s (F.FL_STAGE_TIMING_READ_10NS n.val)) : Nat) : Rat))
/-- The stage's trained channels, and the LUNs of each. -/
def trainedChs (s : State) (n : Stage) : List Nat := (stageFlashChs s n).filter (fun c => rdb s (F.FL_CH_STATUS_TRAINED c) && !chLost s c)
def chLuns (s : State) (n : Stage) : Nat := ((fsys s n).ces + 1) * ((fsys s n).lunsPer + 1)
/-- The stage program bandwidth in MB/s, exactly (R218). -/
def stageProg (s : State) (n : Stage) : Rat := ((trainedChs s n).map (fun c => chProg s n c (chLuns s n))).sum
/-- The sum of the channels' read bandwidths in MB/s, exactly (R218). -/
def stageRead (s : State) (n : Stage) : Rat := ((trainedChs s n).map (fun c => chRead s n c (chLuns s n))).sum
/-- A stage's nominal bandwidths reported in whole MB/s, from its trained channels (R212, R218). -/
def stageRates (s : State) (n : Stage) : State :=
  let s := wr s (F.FL_STAGE_RATE_PROG_MBPS n.val) (satN 24 (ratFloor (stageProg s n)))
  wr s (F.FL_STAGE_RATE_READ_MBPS n.val) (min 45000 (ratFloor (stageRead s n)))

end Sys2Proof.Machine
end

