-- ==== Sys2Proof/Machine/GaugeOps.lean ====
section
/-! DEFINITION. The battery gauge: conversions, updates, anchors, learning, charger control, rehearsals (chapter 13). -/

namespace Sys2Proof.Machine

/-- The sense resistor in units of 0.1 mΩ as taken (R506). -/
def senseR (s : State) : Nat := min 100 (max 20 (rd s F.GAUGE_CFG_SENSE_100UOHM))
/-- The update window in ticks as taken (R506). -/
def gaugeWindow (s : State) : Nat := min 33 (max 1 (rd s F.GAUGE_CFG_UPDATE))
/-- EFF_PCT as taken (R506). -/
def gaugeEff (s : State) : Nat := min 100 (max 1 (rd s F.GAUGE_PACK_EFF_PCT))
/-- A quotient rounded to the nearest code, halves away from zero (R485). -/
def codeRound (a : Int) (b : Nat) : Int := roundDiv a b

/-- Learned capacity in µAh. -/
def learnedUah (s : State) : Nat := rd s F.GAUGE_LEARNED_LEARNED_UAH
/-- One conversion: sense voltage in nV, BAT_V in µV (R485). -/
def gaugeConvert (s : State) (senseNv : Int) (batUv : Nat) : State :=
  let c := max (-32768) (min 32767 (codeRound (senseNv * 32768) 100000000))
  let v := min 4095 (codeRound ((batUv : Int) * 4096) 1200000).toNat
  { s with gauge := { s.gauge with codes := s.gauge.codes + c, volts := s.gauge.volts + v, ticks := s.gauge.ticks + 1 } }

/-- Charge of a sum of current codes in µAh: each code lasts one tick (R485). -/
def codesUah (s : State) (c : Int) : Rat := (c * 10000000 : Int) / ((2 ^ 30 * 36 * senseR s : Nat) : Rat)

/-- Battery present and not faulted. -/
def batteryOk (s : State) : Bool := rdb s F.GAUGE_STATUS_PRESENT && s.gauge.faults.isEmpty

/-- The tick 40-bit field stamped with VALID. -/
def stampTick (s : State) (ft fv : Fld) (t : Nat) : State := wr (wr s ft (t % 2 ^ 40)) fv 1

/-! Usable energy (R494). -/

/-- Usable energy in mJ: published state of charge minus uncertainty times 3.6 × EMPTY_MV × EFF_PCT ÷ 100; not below 0. -/
def usableOf (s : State) (soc unc : Nat) : Rat :=
  let d : Int := (soc : Int) - unc
  if d ≤ 0 then 0 else (d * (36 * rd s F.GAUGE_PACK_EMPTY_MV * gaugeEff s : Nat) : Int) / (1000000 : Rat)
/-- The usable energy that the recompute at an opening tick takes: from the newest update stamped before that tick (R86). -/
def usableAt (s : State) (tick : Nat) : Rat :=
  if s.gauge.pubTick ≥ tick then usableOf s s.gauge.prevSoc s.gauge.prevUnc
  else usableOf s (rd s F.GAUGE_SOC_SOC_UAH) (rd s F.GAUGE_UNC_UNC_UAH)

/-! Learned capacity (R496 to R498). -/

/-- The slot that the next copy goes to: the one that does not hold the newest (R549, R570). -/
def learnedSlot (st : Store) : Nat :=
  let t := (slotNewest st 0x02 slotsLearned.1 slotsLearned.2).elim 0 (fun q => if q.1 = 0 then 1 else 0)
  if (if t = 0 then slotsLearned.1 else slotsLearned.2).any (fun x => st.failed.contains x) then 1 - t else t
/-- The copy written to the script store (R497, R550): LEARN_WRITE_PENDING is set until its valid mark is written. -/
def learnedCopy (s : State) : State :=
  let r := slotWriteBy s 0x02 slotsLearned.1 slotsLearned.2
    [BitVec.ofNat 48 (learnedUah s), BitVec.ofNat 48 (rd s F.GAUGE_LEARNED_LEARN_UNC_MAH)] (some (learnedSlot s.store, none))
  wr r.2 F.GAUGE_STATUS_LEARN_WRITE_PENDING 1

/-- Learned capacity changed; the copy is written at once in Standby, Service or Restore, else owed (R496, R497). -/
def learnedChange (s : State) (uah uncMah : Nat) : State :=
  let old := learnedUah s
  if old = uah ∧ rd s F.GAUGE_LEARNED_LEARN_UNC_MAH = uncMah then s
  else
    let s := wr (wr s F.GAUGE_LEARNED_LEARNED_UAH (satN 32 uah)) F.GAUGE_LEARNED_LEARN_UNC_MAH (satN 16 uncMah)
    let s := event s 0x905 (if uah * 100 < old * 90 then 1 else 0) 0 (satN 16 (uah / 1000) + satN 16 (old / 1000) * 65536)
    match s.modes.mode with
    | .standby | .service | .restore => learnedCopy s
    | _ => wr s F.GAUGE_STATUS_LEARN_WRITE_PENDING 1

/-- A copy owed is written at entry to Service, unless its writing goes on (R497). -/
def learnedPending (s : State) : State :=
  let s := slotsFollow s
  whenS (rdb s F.GAUGE_STATUS_LEARN_WRITE_PENDING && !s.store.writing.any (fun e => e.tag == 0x02)) learnedCopy s

/-! Charger (R500). -/

/-- The condition for CHG_EN. -/
def chgWanted (s : State) : Bool :=
  rdb s F.PWR_VIN_STATUS_SUPPLY_GOOD && batteryOk s && rdb s F.GAUGE_CFG_CHG_ALLOW &&
    (s.modes.mode = .dark || s.modes.mode = .standby || s.modes.mode = .service || s.modes.mode = .restore) &&
    rd s F.GAUGE_REH_STATE != 3

/-- CHG_EN follows its condition; a rise ends the chance of learning (R496, R500). -/
def chgFollow (s : State) : State :=
  let want := chgWanted s
  if want = rdb s F.GAUGE_STATUS_CHG_EN then s
  else
    let s := emit (wr s F.GAUGE_STATUS_CHG_EN (b2n want)) (.chgEn want)
    whenS want (fun s => { s with gauge := { s.gauge with learning := none } }) s

/-! Rehearsal (R501, R502). -/

/-- The rehearsal rail driven (R501). -/
def rehRail (s : State) (on : Bool) : State :=
  let k := rd s F.GAUGE_CFG_REH_RAIL
  let en := rd s F.PWR_RAIL_STATUS_EN
  let en' := if on then en ||| 2 ^ k else en &&& (65535 - 2 ^ k)
  emit (if en = en' then s else emit (wr s F.PWR_RAIL_STATUS_EN en') (.railEn (BitVec.ofNat 16 en'))) (.load on)

/-- The rehearsal rail may be used (R501). -/
def rehRailOk (s : State) : Bool :=
  rdb s F.GAUGE_CFG_REH_RAIL_VALID && !s.gauge.railBad && (rd s F.GAUGE_CFG_REH_RAIL == 14 || rd s F.GAUGE_CFG_REH_RAIL == 15)

/-- The rails that the cue sequencer never drives high: the rehearsal rail (R501). -/
def rehMask (s : State) : Nat := if rehRailOk s then 2 ^ rd s F.GAUGE_CFG_REH_RAIL else 0

/-- A rehearsal ends: the rail goes low on the same clock, CHG_EN follows R500, event 0x90F (R502). -/
def rehEnd (s : State) (reason : Nat) : State :=
  if rd s F.GAUGE_REH_STATE = 0 then s
  else
    let s := whenS (rd s F.GAUGE_REH_STATE == 3) (fun s => rehRail s false) s
    let s := wr (wr (wr s F.GAUGE_REH_STATE 0) F.GAUGE_REH_LAST_END reason) F.LINK_STATUS_GRANT_PENDING 0
    event (chgFollow s) 0x90F 0 0 (reason + (if reason = 1 then satN 16 (learnedUah s / 1000) * 8 else 0))

/-- The discharge leg begins: the rail goes high, CHG_EN low (R501, R502). -/
def rehDischarge (s : State) : State :=
  event (chgFollow (rehRail (wr s F.GAUGE_REH_STATE 3) true)) 0x90E 0 0 3

/-- A rehearsal starts: charge leg, or at once the discharge leg from a fresh full anchor (R502). -/
def rehBegin (s : State) : State :=
  let s := { s with gauge := { s.gauge with legStart := tickOf s } }
  let s := wr s F.LINK_STATUS_GRANT_PENDING 0
  if s.gauge.newestFull ∧ s.gauge.sinceFull * 100 ≤ learnedUah s then rehDischarge s
  else event (wr s F.GAUGE_REH_STATE 2) 0x90E 0 0 2

/-- Whether a start must wait: main input not good, battery absent or faulted, one active, or no usable rail (C005h, R501). -/
def rehBusy (s : State) : Bool :=
  !rdb s F.PWR_VIN_STATUS_SUPPLY_GOOD || !batteryOk s || rd s F.GAUGE_REH_STATE != 0 || !rehRailOk s

/-- Awaiting the stage manager's grant (R502). -/
def rehAwait (s : State) : State :=
  event (wr (wr s F.GAUGE_REH_STATE 1) F.LINK_STATUS_GRANT_PENDING 1) 0x90D 0 0 0

/-! Updates (R488 to R493, R504). -/

/-- The state of charge that an anchor's event reports: 0 while unanchored (R489 to R491). -/
def socBefore (s : State) : Nat := if rdb s F.GAUGE_STATUS_UNANCHORED then 0 else rd s F.GAUGE_SOC_SOC_UAH
/-- The full anchor (R489). -/
def fullAnchor (s : State) : State :=
  let soc := socBefore s
  let g := { s.gauge with
             soc := learnedUah s, moved := 0, base := 1000 * rd s F.GAUGE_LEARNED_LEARN_UNC_MAH, fullDue := false,
             anchorTick := tickOf s, newestFull := true, learning := some 0, sinceFull := 0 }
  let s := stampTick { s with gauge := g } F.GAUGE_FULL_TICK_TICK F.GAUGE_FULL_TICK_VALID (tickOf s)
  event (wr s F.GAUGE_STATUS_UNANCHORED 0) 0x901 0 0 (soc / 1000)

/-- Ticks since a stamped 40-bit tick. -/
def ticksSince (s : State) (t : Nat) : Nat := (tick40 s + 2 ^ 40 - t % 2 ^ 40) % 2 ^ 40

/-- Learning from a discharge between the anchors (R496). -/
def learnFrom (s : State) (q : Rat) : State :=
  let uah := ratFloor q
  let dt := ticksSince s (rd s F.GAUGE_FULL_TICK_TICK)
  let unc : Rat := (rd s F.GAUGE_ERR_GAIN_PPM : Nat) * q / 1000000 + (rd s F.GAUGE_ERR_OFFSET_UA * dt : Nat) / 117964800
  let s := learnedChange s uah (ratCeil (unc / 1000))
  stampTick s F.GAUGE_LEARN_TICK_TICK F.GAUGE_LEARN_TICK_VALID (tickOf s)

/-- The empty anchor, applied at the second of two updates (R490); outside a rehearsal means in neither of its legs (DEDUCED, log entry 110). -/
def emptyAnchor (s : State) (at1 : Nat) : State :=
  let soc := socBefore s
  let learn := s.gauge.learning
  let s := event s 0x902 0 0 (soc / 1000)
  let s := match learn with
    | some q => learnFrom s q
    | none => s
  let g := { s.gauge with soc := 0, moved := 0, base := 0, emptyFirst := none, anchorTick := at1, newestFull := false, learning := none, vaonHold := false }
  let s := stampTick { s with gauge := g } F.GAUGE_EMPTY_TICK_TICK F.GAUGE_EMPTY_TICK_VALID at1
  let s := wr (wr s F.GAUGE_STATUS_UNANCHORED 0) F.GAUGE_STATUS_EXHAUSTED 1
  whenS (decide (rd s F.GAUGE_REH_STATE < 2)) (fun s => event s 0x910 1 0 (modeCode s.modes.mode)) s

/-- The empty condition over the window just ended (R490). -/
def emptyCond (s : State) : Bool :=
  let g := s.gauge
  decide (g.ticks > 0) &&
  decide (g.volts * 1200 * rd s F.GAUGE_CFG_VDIV ≤ rd s F.GAUGE_PACK_EMPTY_MV * 4096 * 1024 * g.ticks) &&
  decide (g.codes * 1000000 ≥ (max 1 (rd s F.GAUGE_PACK_EMPTY_LOAD_100MA) * 100 * 32768 * senseR s * g.ticks : Nat))

/-- The uncertainty in µAh (R492). -/
def uncertainty (s : State) : Nat :=
  let g := s.gauge
  g.base + ceilDiv (rd s F.GAUGE_ERR_OFFSET_UA * (tickOf s - g.anchorTick)) 117964800
    + ratCeil (g.moved * (rd s F.GAUGE_ERR_GAIN_PPM : Nat) / 1000000)
    + ceilDiv (rd s F.GAUGE_ERR_FADE_PPM_DAY * learnedUah s * ticksSince s (rd s F.GAUGE_LEARN_TICK_TICK)) (2831155200 * 1000000)

/-- Anchor due set or cleared (R491, R493). -/
def anchorDue (s : State) (unc : Nat) : State :=
  let over10 := decide (unc * 10 > learnedUah s)
  let want := over10 || s.gauge.vaonHold || rdb s F.GAUGE_STATUS_UNANCHORED
  if want && !rdb s F.GAUGE_STATUS_ANCHOR_DUE then event (wr s F.GAUGE_STATUS_ANCHOR_DUE 1) 0x903 1 0 (unc / 1000)
  else if !want && rdb s F.GAUGE_STATUS_ANCHOR_DUE then event (wr s F.GAUGE_STATUS_ANCHOR_DUE 0) 0x904 0 0 (unc / 1000)
  else s

/-- Rehearsal transitions of an update (R502, R504). -/
def rehUpdate (s : State) (full empty : Bool) : State :=
  if rd s F.GAUGE_REH_STATE = 2 ∧ full then rehDischarge s
  else if rd s F.GAUGE_REH_STATE = 3 ∧ empty then rehEnd s 1
  else s

/-- One update of the gauge at its opening tick (R488, R504). -/
def gaugeUpdate (s : State) : State :=
  let g := s.gauge
  let q := codesUah s g.codes
  let soc := max 0 (min (learnedUah s : Rat) (g.soc - q))
  let cond := emptyCond s
  let absq := if q < 0 then -q else q
  let meanV := if g.ticks = 0 then rd s F.GAUGE_MEAS_PACK_MV else g.volts * 1200 * rd s F.GAUGE_CFG_VDIV / (4096 * 1024 * g.ticks)
  let meanI := if g.ticks = 0 then untwos 20 (rd s F.GAUGE_MEAS_CURRENT_MA) else roundDiv (g.codes * 1000000) (32768 * senseR s * g.ticks)
  let s := { s with gauge := { g with
               pubTick := tickOf s, prevSoc := rd s F.GAUGE_SOC_SOC_UAH, prevUnc := rd s F.GAUGE_UNC_UNC_UAH
               soc := soc, moved := g.moved + absq, codes := 0, volts := 0, ticks := 0,
               learning := g.learning.map (· + q), sinceFull := g.sinceFull + q } }
  let s := wr (wr s F.GAUGE_MEAS_PACK_MV (satN 16 meanV)) F.GAUGE_MEAS_CURRENT_MA (twos 20 meanI)
  let s := wr s F.GAUGE_SOC_SOC_UAH (ratFloor soc)
  let present := rdb s F.GAUGE_STATUS_PRESENT
  let full := present && s.gauge.fullDue
  let s := whenS full fullAnchor s
  let empty := present && cond && s.gauge.emptyFirst.isSome
  let at1 := s.gauge.emptyFirst.getD 0
  let s := if empty then emptyAnchor s at1
    else { s with gauge := { s.gauge with emptyFirst := if cond && present then some (tickOf s) else none } }
  let s := rehUpdate s full empty
  let unc := uncertainty s
  let s := anchorDue s unc
  let pub := if rdb s F.GAUGE_STATUS_UNANCHORED then 0 else ratFloor s.gauge.soc
  let s := wr (wr s F.GAUGE_SOC_SOC_UAH (satN 32 pub)) F.GAUGE_SOC_MOVED_MAH (satN 16 (ratFloor s.gauge.moved / 1000))
  let s := wr (wr s F.GAUGE_UNC_UNC_UAH (satN 32 unc)) F.GAUGE_UNC_STAMP (tickOf s % 65536)
  whenS (rdb s F.GAUGE_STATUS_EXHAUSTED && decide (pub * 100 > learnedUah s)) (fun s => wr s F.GAUGE_STATUS_EXHAUSTED 0) s

/-- The gauge becomes unanchored: state of charge reads 0, anchor due (R491). -/
def unanchor (s : State) : State :=
  let s := { s with gauge := { s.gauge with learning := none, newestFull := false, emptyFirst := none, fullDue := false } }
  wr (wr (wr s F.GAUGE_STATUS_UNANCHORED 1) F.GAUGE_STATUS_ANCHOR_DUE 1) F.GAUGE_SOC_SOC_UAH 0

/-- Learned capacity limited to MIN_MAH (R491, R496). -/
def learnedReset (s : State) : State :=
  learnedChange s (min (learnedUah s) (1000 * rd s F.GAUGE_PACK_MIN_MAH)) (rd s F.GAUGE_LEARNED_LEARN_UNC_MAH)

/-- FAULT and FAULT_CAUSE as the causes that hold give them (R487, R507). -/
def faultStatus (s : State) : State :=
  let low := s.gauge.faults.foldl min 4
  wr (wr s F.GAUGE_STATUS_FAULT (b2n (!s.gauge.faults.isEmpty))) F.GAUGE_STATUS_FAULT_CAUSE (if low = 4 then 0 else low)

end Sys2Proof.Machine
end

