-- ==== Sys2Proof/Machine/LedgerOps.lean ====
section
/-! DEFINITION. The ledger engine: frame states and residue, effective caps, the tap, held writes, write-through operation, sweeps and the trickle queue (chapter 03), with the restore check in front of the tap (R188 to R192). -/

namespace Sys2Proof.Machine

/-! Frame states and residue (R73 to R82). -/

/-- A stage's restore. -/
def rst (s : State) (n : Stage) : RestoreState := qget s.restore n
/-- A stage's restore replaced. -/
def setRst (s : State) (n : Stage) (r : RestoreState) : State := { s with restore := qset s.restore n r }
/-- A stage's save. -/
def sav (s : State) (n : Stage) : StageSave := qget s.saves n
/-- A stage's save replaced. -/
def setSav (s : State) (n : Stage) (x : StageSave) : State := { s with saves := qset s.saves n x }

/-- A frame's ledger state: 0 clean, 1 dirty, 2 in-flight, 3 dirty-again (R73). -/
def frameState (s : State) (n : Stage) (f : Nat) : Nat := mget 0 (led s n).ledger f
/-- The stage residue (R82). -/
def residue (s : State) (n : Stage) : Nat := rd s (F.LDG_STATUS_RESIDUE n.val)
/-- The stage effective cap. -/
def stageCap (s : State) (n : Stage) : Nat := rd s (F.LDG_CAP_FRAMES n.val)
/-- The soft watermark. -/
def softMark (s : State) (n : Stage) : Nat := rd s (F.LDG_SOFT_FRAMES n.val)

/-- First-touch writes are held for flash space: the erased slots are at or below the save reserve plus the residue (R249). -/
def spaceHolds (s : State) (n : Stage) : Bool :=
  stageSt s n = .live && decide ((fsys s n).free ≤ (fsys s n).reserve + residue s n)
/-- SPACE_HOLD as it stands; event 0x40C as the hold begins (R249). -/
def spaceRefresh (s : State) (n : Stage) : State :=
  let s := whenS (spaceHolds s n && !rdb s (F.FL_STAGE_STATUS_SPACE_HOLD n.val)) (fun s => event s 0x40C 1 n.val (ceilDiv ((fsys s n).reserve * 4096) 1048576)) s
  wr s (F.FL_STAGE_STATUS_SPACE_HOLD n.val) (b2n (spaceHolds s n))

/-- ABOVE_SOFT, AT_CAP, OVER_CAP, HELD as the engine stands; event 0x101 when the residue rises above the soft watermark (R121, R126). The event also comes where a recompute puts the watermark below an unchanged residue (DESIGN CHOICE, log entry 121). -/
def ledRefresh (s : State) (n : Stage) : State :=
  let l := led s n
  let live := stageSt s n = .live
  let above := decide live && decide (residue s n > softMark s n)
  let s := wr (wr s (F.LDG_STATUS_ABOVE_SOFT n.val) (b2n above)) (F.LDG_STATUS_AT_CAP n.val) (b2n l.holdSince.isSome)
  let s := wr (wr s (F.LDG_STATUS_OVER_CAP n.val) (b2n (decide live && decide (residue s n > stageCap s n)))) (F.LDG_STATUS_HELD n.val) l.held.length
  let s := whenS (above && !l.aboveSoft) (fun s => event s 0x101 0 n.val (residue s n)) s
  spaceRefresh (setLedger s n { led s n with aboveSoft := above }) n

/-- The residue of a stage and the sum over all stages changed in one clock (R82). -/
def addResidue (s : State) (n : Stage) (up : Bool) (k : Nat) : State :=
  if up then wr (wr s (F.LDG_STATUS_RESIDUE n.val) (residue s n + k)) F.LDG_DEV_RESIDUE_TOTAL (rd s F.LDG_DEV_RESIDUE_TOTAL + k)
  else wr (wr s (F.LDG_STATUS_RESIDUE n.val) (residue s n - k)) F.LDG_DEV_RESIDUE_TOTAL (rd s F.LDG_DEV_RESIDUE_TOTAL - k)

/-- What the running clock has done in the stage's ledger so far (R76). -/
def marksOf (s : State) (n : Stage) : ClockMarks :=
  if (led s n).marks.edge = edgeOf s.now then (led s n).marks else ⟨edgeOf s.now, []⟩
/-- A frame that the running clock has changed already (R76). -/
def changedNow (s : State) (n : Stage) (f : Nat) : Bool := (marksOf s n).changed.contains f
/-- Time moved on to the next clock edge. A trickle report takes its clock to an end: the host writes of that clock stand before it, so that a later command's write comes on a later clock (R76; DESIGN CHOICE, log entry 123). -/
def clockNext (s : State) : State := until_ s ((edgeOf s.now + 1) * unitsPerClock)
/-- A write to the frame is a first touch (R74). -/
def firstTouch (s : State) (n : Stage) (f : Nat) : Bool := frameState s n f == 0

/-- A frame's state changed, with residue, line status and settle counter (R74, R82, R103). -/
def setFrame (s : State) (n : Stage) (f v : Nat) : State :=
  let m := marksOf s n
  let l := { led s n with marks := { m with changed := insertNat m.changed f } }
  let old := mget 0 l.ledger f
  if old = v then s
  else
    let line := f / 256
    let cnt := mget 0 l.lineCount line
    let l1 := { l with ledger := mset 0 l.ledger f v }
    if old = 0 then
      addResidue (setLedger s n { l1 with lineCount := mset 0 l.lineCount line (cnt + 1) }) n true 1
    else if v = 0 then
      let l2 := { l1 with lineCount := mset 0 l.lineCount line (cnt - 1), settle := if cnt ≤ 1 then mset 0 l.settle line 0 else l.settle }
      addResidue (setLedger s n l2) n false 1
    else setLedger s n l1

/-! Completions, with their DevLoad (R96, R192, R381). -/

/-- DevLoad of a stage's responses: 0 Light, 1 Optimal, 2 Moderate Overload, 3 Severe Overload. -/
def loadOf (s : State) (n : Stage) : Nat :=
  let l := led s n
  let r := rst s n
  if decide (l.held.length ≥ 192) || decide (r.heldReads.length ≥ 192) then 3
  else if l.holdSince.isSome || !r.heldReads.isEmpty || l.held.any (·.touch) then 2
  else qget s.cxl.devLoad n
/-- A response's DevLoad counted (R641). -/
def loadHit (s : State) (port load : Nat) : State :=
  if load = 2 then pmonHit s 0 5 port 1 else if load = 3 then pmonHit s 0 6 port 1 else s
/-- The port has its link; port 2 stands for a host that is gone (R375). -/
def portIn (s : State) (k : Nat) : Bool := (k == 0 && s.cxl.p0.inL0) || (k == 1 && s.cxl.p1.inL0)
/-- A read's completion; it is lost with its link (R375). -/
def readReply (s : State) (n : Stage) (port tag : Nat) (d : BitVec 512) (poison : Bool) : State :=
  let load := loadOf s n
  if portIn s port then emit (loadHit (pmonHit s 0 2 port 1) port load) (.memData port tag d poison load) else s
/-- A write's completion to its owner. -/
def writeComplete (s : State) (n : Stage) (o : WriteDone) : State :=
  match o with
  | .mem port tag => if portIn s port then emit (loadHit s port (loadOf s n)) (.memDone port tag (loadOf s n)) else s
  | .mailbox port ld _ => emit s (.mailbox port ld 0 [])

/-! Write-through operation (R98 to R100). -/

/-- Withheld completions of a frame that has become clean are returned (R98, R100). -/
def wtRelease (s : State) (n : Stage) (f : Nat) : State :=
  let l := led s n
  let hit := l.withheld.filter (fun e => e.1 == f)
  foldS hit (fun s e => writeComplete s n e.2) (setLedger s n { l with withheld := l.withheld.filter (fun e => e.1 != f) })

/-- Every frame of a stage clean, residue 0, line status and settle counters cleared (R74, R112). A completion still withheld belongs to a write that a tear has lost; it is returned to nobody (R98, R132; DESIGN CHOICE, log entry 143). -/
def ledgerClear (s : State) (n : Stage) : State :=
  let s := addResidue s n false (residue s n)
  ledRefresh (setLedger s n { led s n with ledger := [], lineCount := [], settle := [], queue := [], gathers := [], withheld := [], marks := ⟨edgeOf s.now, []⟩ }) n

/-- A frame selected by trickle: in-flight and in the trickle queue (R104, R105). An entry of the frame that waits there unread serves it; one already being read stands beside the new one (log entry 25). -/
def trickleSelect (s : State) (n : Stage) (f : Nat) : State :=
  let s := setFrame s n f 2
  if (led s n).queue.any (fun q => q.frame == f && q.progress == 0) then s
  else setLedger s n { led s n with queue := (led s n).queue ++ [⟨f, 0⟩] }

/-- Room in the trickle queue (R105). -/
def trickleRoom (s : State) (n : Stage) : Nat := 4096 - (led s n).queue.length

/-- Trickle may select: the stage is Live, its gate is open, its sequence limit is not reached (R84, R228). -/
def trickleRuns (s : State) (n : Stage) : Bool :=
  stageSt s n = .live && !(led s n).gated && !s.saveDev.gate && decide ((fset s n).seq < 0xF0000000)

/-- Dirty frames that write-through operation has still to queue (R98). -/
def wtDirty (s : State) (n : Stage) : List Nat :=
  if (led s n).writeThrough && trickleRuns s n then ((led s n).ledger.filter (fun e => e.2 == 1)).map (·.1) else []
/-- In write-through operation every dirty frame goes to the trickle queue as space allows (R98); one that this clock has changed goes with the next (R76). -/
def wtQueue (s : State) (n : Stage) : State :=
  foldS (((wtDirty s n).filter (fun f => !changedNow s n f)).take (trickleRoom s n)) (fun s f => trickleSelect s n f) s
/-- What write-through operation queued on the clock after the newest change, where that clock has passed since: nothing happens in the stage's ledger between two commands but this (R76, R98). -/
def wtCatch (s : State) (n : Stage) : State :=
  let e := (led s n).marks.edge + 1
  if e < edgeOf s.now then { wtQueue { s with now := e * unitsPerClock } n with now := s.now } else s

/-! Touch queue (R189 to R192). -/

/-- A frame is restored, or the stage has no restore pending. -/
def isRestored (s : State) (n : Stage) (f : Nat) : Bool := !(rst s n).pending || (rst s n).restored.contains f
/-- The restore check is resolved on chip: the summary bit of the frame's MiB is set, or its bitmap line is cached (R188). -/
def touchKnown (s : State) (n : Stage) (f : Nat) : Bool :=
  (rst s n).bitLines.contains (f / 512) || ((List.range 256).all (fun i => (rst s n).restored.contains (f / 256 * 256 + i)))

/-- TOUCH_QUEUED and HELD_READS as they stand (R206). -/
def touchStatus (s : State) (n : Stage) : State :=
  wr (wr s (F.RESTORE_STATUS_TOUCH_QUEUED n.val) (rst s n).touchQ.length) (F.RESTORE_STATUS_HELD_READS n.val) (rst s n).heldReads.length

/-- A frame's fetch put into the touch queue where there is room; one that the background restore reads is joined (R181, R189). -/
def touchEnqueue (s : State) (n : Stage) (f : Nat) : State :=
  let r := rst s n
  if r.touchQ.any (fun t => t.frame == f) ∨ r.touchQ.length ≥ 32 then s
  else
    let s := pmonHit s 2 2 n.val 1
    touchStatus (setRst s n { rst s n with touchQ := r.touchQ ++ [⟨f, if r.reading.contains f ∨ r.writing.contains f then 2 else 0⟩] }) n

/-- An access held for touch is counted (R208). -/
def touchCount (s : State) (n : Stage) : State := incWrap s (F.RESTORE_TOUCH_COUNT_COUNT n.val) 1

/-! Backstage addresses (R514). -/

/-- Bytes as lines of whole 4 KiB units (R514). -/
def ceil4k (b : Nat) : Nat := ceilDiv b 4096 * 64
/-- The base line of backstage component `k` of R514. -/
def backBase (s : State) (n : Stage) (k : Nat) : Nat :=
  let fr := rawFrames s n
  let sizes := [ceil4k (64 * spareCount s n), ceil4k 16384, ceil4k 67108864, ceil4k (ceilDiv fr 8), ceil4k (ceilDiv fr 4), ceil4k (4 * fr),
    ceil4k (rd s (F.STAGE_BACK_WORK_MIB n.val) * 1048576)]
  rawLines s n - (sizes.take k).sum
/-- The DPA line that holds ledger line `k`. -/
def ledgerDpa (s : State) (n : Stage) (k : Nat) : Nat := backBase s n 5 + k
/-- The DPA line that holds restore-bitmap line `k`. -/
def bitmapDpa (s : State) (n : Stage) (k : Nat) : Nat := backBase s n 4 + k

/-- The DPA line that holds line `k` of the frame map, 16 entries each (R514). -/
def mapDpa (s : State) (n : Stage) (k : Nat) : Nat := backBase s n 6 + k
/-- A line of the frame map as it now stands. -/
def mapLineData (s : State) (n : Stage) (k : Nat) : BitVec 512 :=
  BitVec.ofNat 512 ((List.range 16).foldl (fun a i => a + mget noCopy (fset s n).fmap (16 * k + i) * 2 ^ (32 * i)) 0)
/-- The frame-map lines of some frames, each once, ascending. -/
def mapLinesOf (fs : List Nat) : List Nat := fs.foldl (fun ls f => insertNat ls (f / 16)) []
/-- The DPA line that holds a frame's heat entry, eight entries to a line (R514, R685). -/
def heatDpa (s : State) (n : Stage) (f : Nat) : Nat := backBase s n 3 + f % 4194304 / 8

/-! Host reads (R94, R188 to R190). -/

/-- A host read enters the crossbar (R380). -/
def readIssue (s : State) (n : Stage) (h : HeldRead) : State := dramRead s 2 1 n h.line (.hostRead h.port h.tag)

/-- The gate is closed for the stage, in a device save or a stage seal of its own (R129, R50). -/
def gateShut (s : State) (n : Stage) : Bool := (led s n).gated || s.saveDev.gate
/-- Two lists merged by the time that each element carries; of equal times the first list's comes first. -/
def mergeSince : Nat → List (Nat × Nat) → List (Nat × Nat) → List (Nat × Nat)
  | 0, xs, ys => xs ++ ys
  | _ + 1, [], ys => ys
  | _ + 1, xs, [] => xs
  | k + 1, x :: xs, y :: ys => if x.1 ≤ y.1 then x :: mergeSince k xs (y :: ys) else y :: mergeSince k (x :: xs) ys
/-- Waiting accesses take the free touch-queue entries in arrival order (R190); behind a closed gate only the writes do (R161, R199). -/
def touchRefill (s : State) (n : Stage) : State :=
  let rs := if gateShut s n then [] else (rst s n).heldReads.map (fun h => (h.since, h.line / 64))
  let ws := ((led s n).held.filter (fun w => w.touch)).map (fun w => (w.since, w.line / 64))
  foldS (mergeSince (rs.length + ws.length) rs ws) (fun s e => if isRestored s n e.2 then s else touchEnqueue s n e.2) s

/-- A host read past the held-write check: the restore check, the held-read list (R188 to R190, R206, R208). A read that finds the list full stands before it; the read that fills it ends the stage's read credits. Behind a closed gate a held read starts no fetch (R161). -/
def readTouch (s : State) (n : Stage) (h : HeldRead) : State :=
  let f := h.line / 64
  let r := rst s n
  if !r.pending then readIssue s n h
  else if !touchKnown s n f then
    let k := f / 512
    let s := pmonHit (setRst s n { r with bitWaitR := r.bitWaitR ++ [h], bitFilling := insertNat r.bitFilling k }) 2 5 n.val 1
    if r.bitFilling.contains k then s else dramRead s 1 0 n (bitmapDpa s n k) (.bitmapFill k)
  else if isRestored s n f then readIssue s n h
  else if r.heldReads.length ≥ 256 then setLedger s n { led s n with stallR := (led s n).stallR ++ [h] }
  else
    let s := touchCount s n
    let s := setRst s n { rst s n with heldReads := r.heldReads ++ [{ h with since := s.now }] }
    let s := if gateShut s n then s else touchEnqueue s n f
    let s := if r.heldReads.length + 1 = 256 then
        emit (event { s with cxl := { s.cxl with noRead := qset s.cxl.noRead n true } } 0x30B 1 n.val h.port) (.readCredits n.val true)
      else s
    touchStatus s n

/-- A host read: it waits while the held-write buffer has a write to its line (R94). -/
def readCheck (s : State) (n : Stage) (h : HeldRead) : State :=
  let l := led s n
  if l.held.any (fun w => w.line == h.line) then setLedger s n { l with waitReads := l.waitReads ++ [h] }
  else readTouch s n h

/-- Reads whose held write has been admitted go on; one released to the tap that waits there for its ledger line is not yet admitted (R94). -/
def readsGo (s : State) (n : Stage) : State :=
  let l := led s n
  let free := fun (h : HeldRead) => !l.held.any (fun w => w.line == h.line) && !l.tap.any (fun w => w.wasHeld && w.line == h.line)
  foldS (l.waitReads.filter free) (fun s h => readTouch s n h) (setLedger s n { l with waitReads := l.waitReads.filter (fun h => !free h) })
/-- Read credits granted again once the held-read list has room (R190). -/
def readRoom (s : State) (n : Stage) : State :=
  if qget s.cxl.noRead n && decide ((rst s n).heldReads.length < 256) then
    emit { s with cxl := { s.cxl with noRead := qset s.cxl.noRead n false } } (.readCredits n.val false)
  else s

/-! The tap (R77, R80, R83, R91 to R93). -/

/-- The ledger tap's DRAM write for a host write; what it stores decides the poison list (R315, R316, R389). -/
def tapStore (s : State) (n : Stage) (w : HostWrite) : State :=
  match w.mask with
  | none =>
    let s := dramWrite s 3 2 n w.line w.data w.poison .hostWrite
    if !w.poison then poisonRemove s n w.line
    else match w.owner with
      | .mailbox .. => cxlRecord (poisonAdd s n ⟨w.line, 1, true⟩) n 2 (.generalMedia w.line 1 4)
      | .mem .. => mediaError s n w.line 1 2
  | some m => dramPair s 3 2 n w.line w.line (.partialRead m w.data w.poison)

/-- What an admitted write does to its frame's state and the counts (R74, R123). A selection that the same clock has made of the frame comes after the write, which found it dirty (R76): a frame in-flight since this clock and not yet read stays in-flight. -/
def writeFrame (s : State) (n : Stage) (f : Nat) : State :=
  match frameState s n f with
  | 0 => pmonHit (incWrap (setFrame s n f 1) (F.LDG_FIRST_TOUCH_COUNT n.val) 1) 1 0 n.val 1
  | 2 =>
    if changedNow s n f && (led s n).queue.any (fun q => q.frame == f && q.progress == 0) then s
    else incWrap (setFrame s n f 3) (F.LDG_REDIRTY_COUNT n.val) 1
  | _ => s

/-- A host write admitted: the frame's state changes, the write goes to DRAM, its completion is returned, withheld or, after a gate instant, dropped; reads that waited for it go on (R74, R83, R94, R98, R132). -/
def admitWrite (s : State) (n : Stage) (w : HostWrite) : State :=
  let f := w.line / 64
  let s := writeFrame (wtCatch s n) n f
  let s := tapStore s n w
  let s := if w.silent then s
    else if (led s n).writeThrough then setLedger s n { led s n with withheld := (led s n).withheld ++ [(f, w.owner)] }
    else writeComplete s n w.owner
  ledRefresh (readsGo s n) n

/-- First-touch writes to the stage are held: at the cap, or for flash space (R91, R98, R249). -/
def capHolds (s : State) (n : Stage) : Bool :=
  !(led s n).writeThrough && (decide (residue s n ≥ stageCap s n) || spaceHolds s n)

/-- First-touch writes begin to be held at the cap: event 0x102 (R121, R126). -/
def holdBegin (s : State) (n : Stage) : State :=
  let l := led s n
  if l.holdSince.isNone && l.held.any (fun w => !w.touch) then
    setLedger (event s 0x102 0 n.val (stageCap s n)) n { l with holdSince := some s.now }
  else s
/-- The first element that satisfies a test changed. -/
def updFirst {α : Type} (p : α → Bool) (f : α → α) : List α → List α
  | [] => []
  | x :: xs => if p x then f x :: xs else x :: updFirst p f xs
/-- A write enters the held-write buffer; a full buffer withholds write credits (R92, R95). Beyond 256 it waits in front. -/
def holdWrite (s : State) (n : Stage) (w : HostWrite) : State :=
  let l := led s n
  if l.held.length ≥ 256 then setLedger s n { l with tap := l.tap ++ [w] }
  else
    let s := holdBegin (setLedger s n { l with held := l.held ++ [{ w with since := s.now, wasHeld := true }] }) n
    let s := pmonHit (incWrap s (F.LDG_HELD_COUNT_COUNT n.val) 1) 1 1 n.val 1
    let s := whenS (decide (l.held.length + 1 = 256)) (fun s =>
      emit (event { s with cxl := { s.cxl with noWrite := qset s.cxl.noWrite n true } } 0x107 1 n.val w.port) (.credits n.val true)) s
    ledRefresh s n

/-- A write at the tap: it waits for its ledger line, is held as a first touch, or is admitted (R80, R91, R92). -/
def tapWrite (s : State) (n : Stage) (w : HostWrite) : State :=
  let l := led s n
  let line := w.line / 64 / 256
  if !l.cached.contains line then
    let s := pmonHit s 1 4 n.val 1
    let s := setLedger s n { led s n with tap := (led s n).tap ++ [w], filling := insertNat l.filling line }
    if l.filling.contains line then s else dramRead s 7 1 n (ledgerDpa s n line) (.ledgerFill line)
  else
    let s := pmonHit s 1 3 n.val 1
    if firstTouch s n (w.line / 64) ∧ capHolds s n ∧ (led s n).gated = false then holdWrite s n w
    else admitWrite s n w

/-- The end of holding: event 0x103 once no write is held for the cap (R126); writes held for a touch fetch may stand in the buffer still (DESIGN CHOICE, log entry 121). -/
def holdEnd (s : State) (n : Stage) : State :=
  let l := led s n
  match l.holdSince with
  | some t =>
    if l.held.any (fun w => !w.touch) then s
    else event (ledRefresh (setLedger s n { l with holdSince := none }) n) 0x103 0 n.val (satN 32 ((s.now - t) / unitsPerUs))
  | none => s

/-- Credits granted again once the buffer has room, unless the gate is closed (R95, R134). -/
def holdRoom (s : State) (n : Stage) : State :=
  if qget s.cxl.noWrite n && decide ((led s n).held.length < 256) && !(led s n).gated then
    emit { s with cxl := { s.cxl with noWrite := qset s.cxl.noWrite n false } } (.credits n.val false)
  else s

/-- The credits that a gate withheld, granted again unless the buffer is full (R95, R134). -/
def gateCredits (s : State) (n : Stage) : State :=
  if (led s n).held.length ≥ 256 then s else emit { s with cxl := { s.cxl with noWrite := qset s.cxl.noWrite n false } } (.credits n.val false)

/-- A held write leaves the buffer; LDG_HOLD_MAX follows (R125). -/
def heldTake (s : State) (n : Stage) (w : HostWrite) : State :=
  let l := led s n
  let us := satN 32 ((s.now - w.since) / unitsPerUs)
  let s := setLedger s n { l with held := l.held.erase w }
  let s := if us > rd s (F.LDG_HOLD_MAX_MAX_US n.val) then wr s (F.LDG_HOLD_MAX_MAX_US n.val) us else s
  holdRoom s n

/-- The oldest held write that may go: its frame restored, and no cap or space hold for a first touch (R93, R191). One whose frame an earlier write has made non-clean needs no room under the cap, and goes past older first touches that wait for it (R92, R93; DESIGN CHOICE, log entry 144). -/
def releasable (s : State) (n : Stage) : Option HostWrite :=
  (led s n).held.find? (fun w => isRestored s n (w.line / 64) && (!capHolds s n || !firstTouch s n (w.line / 64)))

/-- One held write released to pass the tap again (R93). -/
def heldRelease (s : State) (n : Stage) : State :=
  if (led s n).gated || s.saveDev.gate then s
  else match releasable s n with
  | none => s
  | some w => holdEnd (ledRefresh (tapWrite (heldTake s n w) n { w with touch := false }) n) n

/-- The oldest held writes that may go released one after another (R93). -/
def heldPump : Nat → State → Stage → State
  | 0, s, _ => s
  | k + 1, s, n => if (releasable s n).isSome && !(led s n).gated && !s.saveDev.gate then heldPump k (heldRelease s n) n else s

/-- Every write held for the cap released in buffer order, as write-through operation begins (R98). -/
def heldReleaseAll (s : State) (n : Stage) : State :=
  let ws := (led s n).held.filter (fun w => isRestored s n (w.line / 64))
  holdEnd (foldS ws (fun s w => tapWrite (heldTake s n w) n { w with touch := false }) s) n

/-- A host write past the restore check: held for a touch fetch, or at the tap (R188, R191). One that finds the buffer full stands in front of it and is checked again there. -/
def writeTouch (s : State) (n : Stage) (w : HostWrite) : State :=
  let f := w.line / 64
  if isRestored s n f && touchKnown s n f || !(rst s n).pending then tapWrite s n { w with touch := false }
  else if !touchKnown s n f then
    let r := rst s n
    let k := f / 512
    let s := pmonHit (setRst s n { r with bitWaitW := r.bitWaitW ++ [w], bitFilling := insertNat r.bitFilling k }) 2 5 n.val 1
    if r.bitFilling.contains k then s else dramRead s 1 0 n (bitmapDpa s n k) (.bitmapFill k)
  else if (led s n).held.length ≥ 256 then holdWrite s n { w with touch := true }
  else
    let s := holdWrite (touchCount s n) n { w with touch := true }
    touchEnqueue s n f

/-- A write at the tap that no ledger line is being filled for: it stands in front of the full held-write buffer. -/
def atFront (s : State) (n : Stage) (w : HostWrite) : Bool := !(led s n).filling.contains (w.line / 64 / 256)
/-- Writes that waited in front of the full held-write buffer take the places that have become free; one whose ledger line has left the cache meanwhile has it filled again (R80, R92, R95). -/
def frontGo (s : State) (n : Stage) : State :=
  let ws := (led s n).tap.filter (atFront s n)
  foldS ws (fun s w =>
    if (led s n).held.length < 256 then writeTouch (setLedger s n { led s n with tap := (led s n).tap.erase w }) n w else s) s

/-! Effective caps (R86 to R90). -/

/-- The configured cap in MiB (R90). -/
def configuredMib (s : State) : Nat :=
  let sum := (fours.map (fun n => if rdb s (F.STAGE_BIND_BOUND n.val) then rd s (F.STAGE_SIZE_HOST_256MIB n.val) * 256 else 0)).sum
  min (max (rd s F.LDG_DEV_CAP_CAP_MIB) 256) (max sum 256)

/-- Event 0x10A for a requested cap outside its limits (R90). -/
def capChecked (s : State) (mib : Nat) : State :=
  let sum := (fours.map (fun n => if rdb s (F.STAGE_BIND_BOUND n.val) then rd s (F.STAGE_SIZE_HOST_256MIB n.val) * 256 else 0)).sum
  whenS (decide (mib < 256) || decide (mib > sum)) (fun s => event s 0x10A 1 0 mib) s

/-- Device effective cap in frames and its limit (R86); usable and fixed energy in mJ exactly. -/
def deviceCap (s : State) (u : Rat) : Nat × Nat :=
  let conf := configuredMib s * 256
  let f := rd s F.LDG_DEV_ENERGY_PARAM_FIXED_MJ
  let e := max 1 (rd s F.LDG_DEV_ENERGY_PARAM_PER_GIB_MJ)
  if !batteryOk s then (0, 2)
  else if u ≤ f then (0, 3)
  else
    let afforded := ratFloor ((u - f) * 262144 / e)
    (min conf afforded, if afforded < conf then 1 else 0)

/-- A stage's weight (R87). -/
def stageWeight (s : State) (n : Stage) : Nat :=
  if rd s (F.LDG_CFG_SHARE n.val) = 0 then rd s (F.STAGE_SIZE_HOST_256MIB n.val) else rd s (F.LDG_CFG_SHARE n.val)
/-- SOFT_PCT as taken (R119). -/
def softPct (s : State) (n : Stage) : Nat := min 100 (max 1 (rd s (F.LDG_CFG_SOFT_PCT n.val)))
/-- A stage's effective cap out of the device cap (R87). -/
def stageShare (s : State) (n : Stage) : Nat :=
  if stageSt s n = .live then
    let sum := (fours.map (fun m => if stageSt s m = .live then stageWeight s m else 0)).sum
    min (hostFrames s n) (rd s F.LDG_DEV_EFF_EFF_CAP * stageWeight s n / max 1 sum)
  else 0

/-- Write-through operation entered or left as the cap says (R98, R99). -/
def wtFollow (s : State) (n : Stage) : State :=
  let l := led s n
  let want := stageSt s n = .live ∧ stageCap s n = 0
  if want ∧ l.writeThrough = false then
    let s := wr (wr (setLedger s n { l with writeThrough := true }) (F.LDG_STATUS_WRITE_THROUGH n.val) 1) (F.LDG_STATUS_DEGRADED n.val) 1
    let s := event s 0x105 2 n.val (rd s F.LDG_DEV_EFF_LIMIT)
    wtQueue (if l.gated || s.saveDev.gate then s else heldReleaseAll s n) n
  else if ¬ want ∧ l.writeThrough = true then
    let s := wr (wr (setLedger s n { l with writeThrough := false }) (F.LDG_STATUS_WRITE_THROUGH n.val) 0) (F.LDG_STATUS_DEGRADED n.val) 0
    event s 0x106 0 n.val (stageCap s n)
  else s

/-- The device cap divided among the Live stages, soft watermarks with it; a cap lowered below the residue logs 0x104 (R87, R88, R126). -/
def divideCap (s : State) : State :=
  foldS fours (fun s n =>
    let cap := stageShare s n
    let low := stageSt s n = .live ∧ residue s n > cap ∧ cap < stageCap s n
    let s := whenS (decide low) (fun s => event s 0x104 1 n.val (residue s n - cap)) s
    let s := wr (wr s (F.LDG_CAP_FRAMES n.val) cap) (F.LDG_SOFT_FRAMES n.val) (cap * softPct s n / 100)
    ledRefresh (wtFollow s n) n) s

/-- The recompute of the device and stage caps at an opening tick (R86 to R88). USABLE_MJ is the usable energy rounded down to whole mJ (DESIGN CHOICE, log entry 121). -/
def recomputeCaps (s : State) (tick : Nat) : State :=
  let u := usableAt s tick
  let (cap, lim) := deviceCap s u
  let s := wr (wr s F.LDG_DEV_EFF_EFF_CAP cap) F.LDG_DEV_EFF_LIMIT lim
  let s := wr (wr s F.LDG_DEV_USABLE_USABLE_MJ (satN 32 (ratFloor u))) F.LDG_DEV_USABLE_STAMP (tick % 65536)
  divideCap s

/-! Sweeps (R101 to R105). -/

/-- The sweep window in ticks (R120). -/
def sweepLen (s : State) (n : Stage) : Nat :=
  let v := rd s (F.LDG_SWEEP_CFG_INTERVAL n.val)
  if v = 0 then 33 else v

/-- A sweep begins (R101, R124). -/
def sweepBegin (s : State) (n : Stage) : State :=
  let s := setLedger s n { led s n with sweep := some 0, sweepDue := false }
  wr (incWrap s (F.LDG_SWEEP_STATUS_SWEEPS n.val) 1) (F.LDG_SWEEP_STATUS_ACTIVE n.val) 1

/-- A sweep ends; one that waits for it starts at once (R102). -/
def sweepEnd (s : State) (n : Stage) : State :=
  let s := wr (setLedger s n { led s n with sweep := none }) (F.LDG_SWEEP_STATUS_ACTIVE n.val) 0
  if (led s n).sweepDue then sweepBegin s n else s

/-- The opening of a sweep window (R101, R102). -/
def sweepOpen (s : State) (n : Stage) : State :=
  if (led s n).sweep.isSome then
    let s := wr (setLedger s n { led s n with sweepDue := true }) (F.LDG_SWEEP_STATUS_OVERRUN n.val) 1
    event s 0x10B 0 n.val (rd s (F.LDG_SWEEP_STATUS_SWEEPS n.val))
  else sweepBegin s n

/-- The next ledger line with something not clean, from a position on. -/
def sweepNext (l : LedgerState) (k : Nat) : Option Nat := (l.lineCount.find? (fun e => decide (e.1 ≥ k))).map (·.1)

/-- One visit of a sweep (R103, R104); a full queue leaves it at the line (R105). A visit whose line holds a frame that this clock has made dirty comes on the next clock: a frame changes at most once a clock (R76). -/
def sweepVisit (s : State) (n : Stage) : State :=
  let s := wtCatch s n
  match (led s n).sweep with
  | none => s
  | some k =>
    match sweepNext (led s n) k with
    | none => sweepEnd s n
    | some line =>
      let fs := (led s n).ledger.filter (fun e => e.1 / 256 == line)
      let s := if fs.any (fun e => e.2 == 1 && changedNow s n e.1) then clockNext s else s
      let bump := fs.any (fun e => e.2 == 1 || e.2 == 3)
      let c := mget 0 (led s n).settle line
      let c := if bump && !((led s n).sweepPaused && k == line) then min 15 (c + 1) else c
      let s := setLedger s n { led s n with settle := mset 0 (led s n).settle line c, sweepPaused := false }
      let ok := decide (c ≥ max 1 (rd s (F.LDG_CFG_SETTLE n.val))) || decide (residue s n > softMark s n)
      let go := ok && trickleRuns s n
      let ds := if go then (fs.filter (fun e => e.2 == 1)).map (·.1) else []
      let room := trickleRoom s n
      let s := foldS (ds.take room) (fun s f => trickleSelect s n f) s
      if ds.length > room then
        setLedger s n { led s n with sweep := some line, sweepPaused := true }
      else
        match sweepNext (led s n) (line + 1) with
        | none => sweepEnd s n
        | some j => setLedger s n { led s n with sweep := some j }

/-- The first element that satisfies a test removed. -/
def dropFirst {α : Type} (p : α → Bool) : List α → List α
  | [] => []
  | x :: xs => if p x then xs else x :: dropFirst p xs
/-- The oldest trickle-queue entry of a frame freed (R105). -/
def trickleFree (s : State) (n : Stage) (f : Nat) : State :=
  setLedger s n { led s n with queue := dropFirst (fun q => q.frame == f) (led s n).queue }

/-- A trickle's report applied to its frame: completion or failure, after every write of its clock; a stale one changes nothing (R74, R75, R76, R84). The report of a codeword whose frame was put back to dirty and selected again counts for nothing: the later codeword's does (DESIGN CHOICE, log entry 25). True if it was taken. -/
def trickleReport (s : State) (n : Stage) (f : Nat) (pass : Bool) : Bool × State :=
  let v := frameState s n f
  let gated := (led s n).gated || s.saveDev.gate
  let s := trickleFree s n f
  if gated ∨ (v ≠ 2 ∧ v ≠ 3) ∨ (led s n).queue.any (fun q => q.frame == f) = true then (false, wtQueue s n)
  else
    if pass then
      let s := pmonHit (incWrap s (F.LDG_TRICKLED_COUNT n.val) 1) 1 6 n.val 1
      let s := setFrame s n f (if v = 2 then 0 else 1)
      let s := if v = 2 then wtRelease s n f else s
      (true, ledRefresh (wtQueue (clockNext s) n) n)
    else
      let s := event (pmonHit (setFrame s n f 1) 1 7 n.val 1) 0x108 1 n.val f
      (true, ledRefresh (wtQueue (clockNext s) n) n)

/-! The ledger cache (R79 to R81). -/

/-- The 64 bytes of a ledger line (R78). -/
def ledgerLineData (s : State) (n : Stage) (line : Nat) : BitVec 512 :=
  BitVec.ofNat 512 (((led s n).ledger.filter (fun e => e.1 / 256 == line)).foldl (fun a e => a + e.2 * 2 ^ (2 * (e.1 % 256))) 0)

/-- The metadata phase of a stage's save has ended (R80, R136). -/
def metaOver (p : SavePhase) : Bool :=
  p = .index || p = .seal || p = .committed || p = .torn || p = .leftSealed
/-- The class of an eviction's write: 0 between the gate instant and the end of the metadata phase of a save, a stage seal of its own included, else 4 (R50, R80). -/
def evictClass (s : State) (n : Stage) : Nat :=
  if (led s n).gated && (s.saveDev.gate || (sav s n).alone) && !metaOver (sav s n).phase then 0 else 4
/-- The set of the stage's share of the cache that a ledger line goes to: the line number modulo the number of sets (DESIGN CHOICE, log entry 122). -/
def cacheSet (l : LedgerState) (line : Nat) : Nat := line % max 1 l.sets
/-- The cached lines of the set that a line goes to. -/
def cacheWays (l : LedgerState) (line : Nat) : List Nat := l.cached.filter (fun k => cacheSet l k == cacheSet l line)
/-- A line leaves the cache, written back to backstage (R79, R80). -/
def cacheEvict (s : State) (n : Stage) (v : Nat) : State :=
  let s := pmonHit (setLedger s n { led s n with cached := (led s n).cached.filter (· ≠ v) }) 1 5 n.val 1
  dramWrite s 7 (evictClass s n) n (ledgerDpa s n v) (ledgerLineData s n v) false (.ledgerEvict v)
/-- The lines of a stage that its share no longer holds, the highest of each set first, leave the cache (R79; which lines go, DESIGN CHOICE, log entry 122). -/
def cacheFit (s : State) (n : Stage) : State :=
  let extra := (led s n).cached.filter (fun k => decide (((cacheWays (led s n) k).filter (· < k)).length ≥ 16))
  foldS extra (fun s k => cacheEvict s n k) s
/-- The 4,096 sets of 16 ways divided among the bound stages in proportion to their host-visible capacity (R79). -/
def divideWays (s : State) : State :=
  let host := fun (n : Stage) => if rdb s (F.STAGE_BIND_BOUND n.val) then rd s (F.STAGE_SIZE_HOST_256MIB n.val) else 0
  let sum := (fours.map host).sum
  foldS fours (fun s n => cacheFit (setLedger s n { led s n with sets := 4096 * host n / max 1 sum }) n) s

/-- A filled line enters the cache; where the 16 ways of its set are taken one is evicted: the one named, else the lowest of the set (R79, R80). The writes that waited for the line pass the tap. -/
def ledgerFillDone (s : State) (n : Stage) (line victim : Nat) (bad : Bool) : State :=
  let l := led s n
  let s := setLedger s n { l with filling := l.filling.filter (· ≠ line), arrived := l.arrived.filter (fun e => e.1 != line) }
  let ways := cacheWays (led s n) line
  let s := if ways.length ≥ 16 then cacheEvict s n (if ways.contains victim then victim else ways.headD 0) else s
  let s := setLedger s n { led s n with cached := insertNat (led s n).cached line }
  let s := if bad then
      let top := hostFrames s n
      let fs := (List.range 256).filter (fun j => decide (256 * line + j < top))
      let s := foldS fs (fun s j => setFrame s n (256 * line + j) 1) s
      let s := dramWrite s 7 (evictClass s n) n (ledgerDpa s n line) (ledgerLineData s n line) false (.ledgerEvict line)
      event s 0x10C 2 n.val (256 * line)
    else s
  let mine := fun (w : HostWrite) => w.line / 64 / 256 == line
  let ws := (led s n).tap.filter mine
  let s := setLedger s n { led s n with tap := (led s n).tap.filter (fun w => !mine w) }
  ledRefresh (wtQueue (foldS ws (fun s w => writeTouch s n w) s) n) n

end Sys2Proof.Machine
end

