-- ==== Sys2Proof/Machine/Integrity.lean ====
section
/-! DEFINITION. DRAM integrity: outcomes of reads, what each requester gets, write-backs, poison, error capture, scrub, line remap (chapter 08), and the frames that trickle and the flush gather line by line. -/

namespace Sys2Proof.Machine

/-! Outcomes (R307 to R310). -/

/-- What the line code guarantees of an error (R307, R308). -/
inductive CodeClass where
  | none | corrected | detected
  /-- outside the classes of R307 -/
  | unsure
  deriving DecidableEq, Repr

/-- Bytes of one device of one line: 8 on x4, 16 on x8 (R307). -/
def devBytes (wide : Bool) : Nat := if wide then 16 else 8
/-- Wrong bytes of a device. -/
def wrongIn (wide : Bool) (e : LineErrs) (d : Nat) : Nat := min (devBytes wide) (((e.filter (fun p => p.1 == d)).map (·.2)).sum)
/-- The devices of a subchannel that have wrong bytes, with their number: 10 devices on x4, 5 on x8 (R307). -/
def wrongDevs (wide : Bool) (e : LineErrs) : List (Nat × Nat) :=
  ((List.range (if wide then 5 else 10)).map (fun d => (d, wrongIn wide e d))).filter (fun p => decide (p.2 > 0))
/-- The class of an error: x4 corrects one device and detects two, x8 corrects 8 bytes and detects one device (R307). -/
def codeClass (wide : Bool) (e : LineErrs) : CodeClass :=
  let ds := wrongDevs wide e
  if ds.isEmpty then .none
  else if wide then (if (ds.map (·.2)).sum ≤ 8 then .corrected else if ds.length = 1 then .detected else .unsure)
  else if ds.length = 1 then .corrected else if ds.length = 2 then .detected else .unsure
/-- The device with the most corrected bytes (R340). -/
def worstDev (wide : Bool) (e : LineErrs) : Nat :=
  ((wrongDevs wide e).foldl (fun a p => if p.2 > a.2 then p else a) (15, 0)).1
/-- The wrong bytes that a stored line carries. -/
def cellErrs (cell : LineCell) : LineErrs :=
  match cell.cond with
  | .clean => []
  | .wrong e | .poison e => e
/-- The line holds the poison pattern (R310). -/
def cellPoison (cell : LineCell) : Bool :=
  match cell.cond with
  | .poison _ => true
  | _ => false

/-- The outcome of a read whose error the code classes, with the device located, from what is stored and what the read added (R307, R309). An error outside the classes has no entry here. -/
def outcomeOf (wide : Bool) (cell : LineCell) (raw : LineErrs) : Option (ReadOutcome × Nat) :=
  let e := cellErrs cell ++ raw
  match codeClass wide e with
  | .detected => some (.uncorrectable, 15)
  | .unsure => none
  | .none => some (if cellPoison cell then (.poisoned, 15) else (.clean, 15))
  | .corrected => some (if cellPoison cell then (.poisoned, 15) else (.corrected, worstDev wide e))
/-- A free line: the data of a line that nothing gives. -/
def freshLine (s : State) : BitVec 512 × State :=
  let (v, s) := fresh s
  (BitVec.ofNat 512 v, s)
/-- A read's outcome, its device and the data of the line. What the code does with an error outside its classes is free: detected, corrected to wrong data, or unseen (R308). -/
def readOutcome (s : State) (c : DramCh) (cell : LineCell) (raw : LineErrs) : (ReadOutcome × Nat × BitVec 512) × State :=
  match outcomeOf (wideDev s c) cell raw with
  | some (o, d) => ((o, d, cell.data), s)
  | none =>
    let (k, s) := fresh s
    let (data, s) := freshLine s
    ((if k % 3 = 0 then .uncorrectable else if k % 3 = 1 then .corrected else .clean, 15, data), s)

/-- The data a requester gets. -/
def outcomeData (cell : LineCell) (o : ReadOutcome) : BitVec 512 :=
  match o with
  | .clean | .corrected => cell.data
  | .poisoned | .uncorrectable => 0#512

/-- The data cannot be used (R311). -/
def outcomeBad (o : ReadOutcome) : Bool := o == .poisoned || o == .uncorrectable

/-! Error capture (R340). -/

/-- An error record put into the channel's queue; a full queue loses its newest (R340). -/
def capture (s : State) (c : DramCh) (n : Stage) (b : Bool) (line dev kind : Nat) : State :=
  let w : Word := BitVec.ofNat 48 (line % 2 ^ 35 + n.val * 2 ^ 35 + b2n b * 2 ^ 37 + min dev 15 * 2 ^ 38 + kind * 2 ^ 42 + 2 ^ 45)
  let x := chan s c
  if x.captures.length < 16 then setChan s c { x with captures := x.captures ++ [w] }
  else setChan s c { x with captures := x.captures.dropLast ++ [w], captureLost := true }

/-- The oldest record read and removed (R340). -/
def captureTake (s : State) (c : DramCh) : Word × State :=
  let x := chan s c
  match x.captures with
  | [] => (0#48, s)
  | w :: ws => (if x.captureLost then w ||| BitVec.ofNat 48 (2 ^ 46) else w, setChan s c { x with captures := ws, captureLost := false })

/-! Pairs (R279, R313, R315). -/

/-- A request list with the write of a pair replaced or dropped. -/
def pairFix (rs : List DramReq) (pair : Nat) (d : Option (BitVec 512 × Bool)) : List DramReq :=
  rs.filterMap (fun r => if r.pair == pair && r.write then d.map (fun v => { r with data := v.1, poison := v.2, ready := true }) else some r)

/-- The write of a pair told what to store, or dropped, wherever it waits. -/
def pairWrite (s : State) (pair : Nat) (d : Option (BitVec 512 × Bool)) : State :=
  let fix := fun x : SubCh =>
    { x with wq := pairFix x.wq pair d, waiting := pairFix x.waiting pair d }
  let rem := s.dram.remap.map (fun e => (e.1, { e.2 with waiting := pairFix e.2.waiting pair d }))
  let s := { s with dram := { s.dram with ch := qmap (fun x => { x with subA := fix x.subA, subB := fix x.subB }) s.dram.ch, remap := rem } }
  if d.isNone then pairClose s pair else s

/-- Bytes of a mask taken from a write, the others from the line (R315). -/
def mergeBytes (old new : BitVec 512) (mask : BitVec 64) : BitVec 512 :=
  BitVec.ofNat 512 ((List.range 64).foldl (fun a i =>
    a + (if mask.getLsbD i then bits new.toNat (8 * i) 8 else bits old.toNat (8 * i) 8) * 2 ^ (8 * i)) 0)

/-- R314: the save of the stage, the device's or a stage seal of its own (R50), forbids write-backs, poison writes and remap copies from its gate instant to its end. -/
def saveForbids (s : State) (n : Stage) : Bool :=
  (s.saveDev.gate && qget s.saveDev.saving n) || ((sav s n).alone && (led s n).gated && stageSt s n == .live)

/-! Remap (R328 to R335). -/

/-- A spare index of the stage that no entry uses and that has not failed. -/
def spareFree (s : State) (n : Stage) (i : Nat) : Bool :=
  !s.dram.burned.contains (n.val * 512 + i) && !(s.dram.remap.any (fun e => decide (e.2.state ≠ 0) && decide (e.2.stage = n) && e.2.spare == i))

/-- The spare line chosen for a failing line (R329). -/
def spareFor (s : State) (n : Stage) (line : Nat) : Option Nat :=
  let frees := (List.range (spareCount s n)).filter (spareFree s n)
  match mapLine s n line with
  | none => none
  | some k =>
    let other := frees.find? (fun i => (mapLine s n (spareLine s n i)).elim false (fun j => !(j.ch == k.ch && j.sub == k.sub)))
    match other with
    | some i => some i
    | none => frees.find? (fun i => (mapLine s n (spareLine s n i)).elim false (fun j => bankNo j != bankNo k))

/-- A DRAM Event record with the line's coordinates (R337). -/
def dramRecord (s : State) (n : Stage) (line what : Nat) : State :=
  match mapLine s n line with
  | none => s
  | some k => cxlRecord s n 1 (.dram k what)

/-- A remap refused: event 0x509, capture kind 4, DRAM Event record (R329, R335, R337). -/
def remapRefuse (s : State) (c : DramCh) (n : Stage) (b : Bool) (line why : Nat) : State :=
  dramRecord (event (capture s c n b line 15 4) 0x509 1 n.val (line / 64 % 2 ^ 29 + why * 2 ^ 29)) n line 1

/-- A failing line of a stage: an entry allocated and its copy issued, or refused (R329, R330, R332). -/
def remapFailing (s : State) (c : DramCh) (n : Stage) (b : Bool) (line : Nat) : State :=
  if stageSt s n ≠ .live ∨ saveForbids s n then remapRefuse s c n b line 2
  else if inSpares s n line then
    let i := line - spareLine s n 0
    match s.dram.remap.find? (fun e => e.2.state == 2 && decide (e.2.stage = n) && e.2.spare == i) with
    | none => s
    | some (k, e) =>
      match spareFor s n line with
      | none => dramRecord (event s 0x50A 1 n.val k) n line 2
      | some j =>
        let s := { s with dram := { s.dram with burned := insertNat s.dram.burned (n.val * 512 + i) } }
        dramPair (setRemap s k { e with spare := j, state := 1 }) 7 4 n line (spareLine s n j) (.remapCopy k)
  else if (remapOf s n line).isSome then s
  else
    match (List.range 64).find? (fun k => (remapAt s k).state == 0) with
    | none => remapRefuse s c n b line 0
    | some k =>
      match spareFor s n line with
      | none => remapRefuse s c n b line 1
      | some j => dramPair (setRemap s k ⟨line, n, j, 1, true, []⟩) 7 4 n line (spareLine s n j) (.remapCopy k)

/-- REMAP_COPY_DONE: the copy of an entry has been read and its spare write has entered its queue: entry valid, waiting requests go to the spare (R330). -/
def remapDone (s : State) (k : Nat) : State :=
  let e := remapAt s k
  let mine := fun (r : DramReq) => decide (r.use = .remapCopy k)
  let unread := fours.any (fun c => [subch s c false, subch s c true].any (fun x =>
    (x.rq ++ x.inFlight ++ x.waiting).any mine || x.wq.any (fun r => mine r && !r.ready)))
  if e.state ≠ 1 ∨ unread then s
  else
    let c := (mapLine s e.stage e.line).elim 0 (fun j => j.ch.val)
    let s := setRemap s k { e with state := 2, waiting := [] }
    let s := event s 0x508 0 e.stage.val (k + e.spare % 1024 * 64 + c * 65536)
    let s := dramRecord s e.stage e.line 0
    foldS e.waiting (fun s r => dramPut s { r with line := spareLine s e.stage e.spare }) s

/-! Frames gathered for trickle and the flush (R106 to R108, R137 to R139, R229). -/

/-- The 64 bytes of a line. -/
def lineBytes (d : BitVec 512) : List Byte := leBytes 64 d.toNat
/-- A line of 64 bytes. -/
def bytesLine (bs : List Byte) : BitVec 512 := BitVec.ofNat 512 (leNat bs)

/-- A gathered frame becomes a codeword's payload: lines that could not be read are zeros, and the poisoned flag is set (R229). -/
def gatherJob (s : State) (n : Stage) (g : Gather) : State :=
  let bad := g.lines.any (fun e => e.2.2) || g.fault
  let body := (List.range 64).flatMap (fun i =>
    match mfind g.lines i with
    | some (d, false) => if g.fault then List.replicate 64 0#8 else lineBytes d
    | _ => List.replicate 64 0#8)
  let s := setLedger s n { led s n with gathers := (led s n).gathers.filter (fun q => !(q.frame == g.frame && q.flush == g.flush)) }
  let s := if g.fault then event s 0x208 2 n.val g.frame
    else if bad then event s (if g.flush then 0x206 else 0x109) 1 n.val g.frame else s
  addJob s n ⟨if g.flush then .flush g.frame else .trickle g.frame, 0, g.frame, b2n bad, .bytes body, 0, none⟩

/-- The frame has been gathered whole, or a fault stands in for it. -/
def gathered (g : Gather) : Bool := g.fault || g.lines.length == 64
/-- The gathered frames at the head of the list become payloads, in the order in which they were begun (R106, R137). -/
def gatherPump : Nat → State → Stage → State
  | 0, s, _ => s
  | k + 1, s, n =>
    match (led s n).gathers with
    | [] => s
    | g :: _ => if gathered g then gatherPump k (gatherJob s n g) n else s
/-- A gather replaced by what it has become; frames that are whole go on in order. -/
def gatherSet (s : State) (n : Stage) (g : Gather) : State :=
  let s := setLedger s n { led s n with gathers := (led s n).gathers.map (fun q => if q.frame == g.frame && q.flush == g.flush then g else q) }
  gatherPump (led s n).gathers.length s n

/-- A line of a gathered frame arrives. -/
def gatherLine (s : State) (n : Stage) (line : Nat) (flush : Bool) (d : BitVec 512) (bad : Bool) : State :=
  match (led s n).gathers.find? (fun g => g.frame == line / 64 && g.flush == flush) with
  | none => s
  | some g => gatherSet s n { g with lines := mput g.lines (line % 64) (d, bad) }

/-- A frame's flush read met a translation fault: its codeword, at its turn, carries zeros (R160). -/
def gatherFault (s : State) (n : Stage) (frame : Nat) : State :=
  match (led s n).gathers.find? (fun g => g.frame == frame && g.flush) with
  | none => s
  | some g => gatherSet s n { g with fault := true }

/-- A flush frame for which the crossbar finds no resource: nothing of it is read (R22, R160). -/
def gatherUnmapped (s : State) (n : Stage) (frame : Nat) : State :=
  gatherFault (xbarFault (setLedger s n { led s n with gathers := (led s n).gathers ++ [⟨frame, true, [], false⟩] }) n 0 0) n frame

/-- The 64 reads of a frame issued (R106, R137). -/
def gatherStart (s : State) (n : Stage) (frame : Nat) (flush idle : Bool) : State :=
  let s := setLedger s n { led s n with gathers := (led s n).gathers ++ [⟨frame, flush, [], false⟩] }
  foldS (List.range 64) (fun s i =>
    dramPut s { mkReq (if flush then 0 else 4) (if flush then 0 else 3) false n (64 * frame + i) 0#512 false
      (if flush then .flush frame else .trickle frame) with idleOnly := idle }) s

/-! Read completion (R311 to R322, R337). -/

/-- The transaction type of a General Media Event record that a read's outcome makes (R337; PRESUMED, log entry 153). -/
def transactionOf (u : DramUse) : Nat :=
  match u with
  | .hostRead .. => 1
  | .partialRead .. | .hostWrite => 2
  | .scan => 3
  | .scrub => 5
  | _ => 6
/-- Counting and logging of an outcome on its channel (R335, R337, R339, R340). -/
def countOutcome (s : State) (c : DramCh) (b : Bool) (r : DramReq) (o : ReadOutcome) (dev : Nat) (partialWr : Bool) : State :=
  let n := r.stage
  match o with
  | .clean => s
  | .corrected =>
    let s := incSat (pmonHit s 4 0 c.val 1) (F.DC_ECC_COUNT_CORRECTED c.val) 1
    let s := event (capture s c n b r.line dev 0) 0x505 0 n.val (r.origLine / 64 % 2 ^ 29 + min dev 7 * 2 ^ 29)
    let x := chan s c
    if x.ceSince + 1 ≥ max 1 (rd s (F.DC_ECC_CFG_CE_REPORT c.val)) then
      cxlRecord (setChan s c { x with ceSince := 0 }) n 0 (.generalMedia r.origLine 0 (transactionOf r.use))
    else setChan s c { x with ceSince := x.ceSince + 1 }
  | .uncorrectable =>
    let s := incSat (pmonHit s 4 1 c.val 1) (F.DC_ECC_COUNT_UNCORRECTABLE c.val) 1
    let s := capture s c n b r.line 15 1
    mediaError (whenS (!partialWr) (fun s => event s 0x506 2 n.val (r.origLine / 64 % 2 ^ 29)) s) n r.origLine 2 (transactionOf r.use)
  | .poisoned => capture (pmonHit s 4 2 c.val 1) c n b r.line 15 2

/-- The line is failing (R328). -/
def isFailing (s : State) (c : DramCh) (r : DramReq) (o : ReadOutcome) : Bool :=
  o == .uncorrectable || (o == .corrected && (chan s c).watch.contains (lineKey r.stage r.line))

/-- The end of a scrub pass on a channel (R322). -/
def scrubPassEnd (s : State) (c : DramCh) : State :=
  let x := chan s c
  let hours := (tickOf s - x.scrubStart) / 117964800
  let s := wr (incWrap s (F.DC_SCRUB_STATUS_PASSES c.val) 1) (F.DC_SCRUB_STATUS_PASS_TIME_H c.val) (satN 8 hours)
  let s := event s 0x50B 0 ((chanStage s c).elim 0 (·.val)) x.scrubUncorr
  setChan s c { chan s c with scrubUncorr := 0, scrubStart := tickOf s }

/-- A scrub read of a line has not completed, wherever the remap lookup has sent it. -/
def scrubReads (s : State) (n : Stage) (line : Nat) : Bool :=
  let mine := fun (r : DramReq) => decide (r.use = .scrub) && decide (r.stage = n) && r.origLine == line
  fours.any (fun c => [subch s c false, subch s c true].any (fun x => (x.waiting ++ x.rq ++ x.inFlight).any mine))
    || s.dram.remap.any (fun e => e.2.waiting.any mine)
/-- The end of a media scan (R391). -/
def scanEnd (s : State) : State :=
  match s.cxl.scan with
  | none => s
  | some x =>
    if x.outstanding = 0 ∧ x.next ≥ x.stop then
      event { s with cxl := { s.cxl with scan := none, background := none, scanResults := qset s.cxl.scanResults x.stage x.listed } }
        0x60A 0 x.stage.val x.listed.length
    else s

/-- The scan's next read issued: one at a time (R391). -/
def scanNext (s : State) : State :=
  match s.cxl.scan with
  | none => s
  | some x =>
    if x.outstanding = 0 ∧ x.next < x.stop then
      dramRead { s with cxl := { s.cxl with scan := some { x with next := x.next + 1, outstanding := 1 } } } 7 4 x.stage x.next .scan
    else scanEnd s

/-- What the requester does with the line (R311, R313, R315, R321). -/
def deliver (s : State) (c : DramCh) (b : Bool) (r : DramReq) (cell : LineCell) (o : ReadOutcome) : State :=
  let n := r.stage
  let d := outcomeData cell o
  match r.use with
  | .hostRead port tag =>
    let s := readReply s n port tag d (outcomeBad o)
    whenS (outcomeBad o) (fun s => poisonAdd s n ⟨r.origLine, 1, false⟩) s
  | .partialRead mask data poison =>
    if poison then mediaError (pairWrite s r.pair (some (0#512, true))) n r.origLine 1 2
    else if outcomeBad o then
      let s := incSat (pairWrite s r.pair (some (0#512, true))) (F.DC_ECC_COUNT_DISCARDED c.val) 1
      let s := mediaError (capture s c n b r.line 15 3) n r.origLine 1 2
      event s 0x507 1 n.val (r.origLine / 64 % 2 ^ 29)
    else pairWrite s r.pair (some (mergeBytes d data mask, false))
  | .trickle _ => gatherLine s n r.origLine false d (outcomeBad o)
  | .flush _ => gatherLine s n r.origLine true d (outcomeBad o)
  | .ledgerFill k => setLedger s n { led s n with arrived := (led s n).arrived ++ [(k, outcomeBad o)] }
  | .bitmapFill k => setRst s n { rst s n with bitArrived := (rst s n).bitArrived ++ [k] }
  | .scrub =>
    (mapLine s n r.origLine).elim s (fun k =>
      let s := whenS (o == .uncorrectable) (fun s => setChan s k.ch { chan s k.ch with scrubUncorr := (chan s k.ch).scrubUncorr + 1 }) s
      whenS (k.local_ + 1 == subLines s k.ch && !scrubReads s n (lineOfLocal s k.ch (!k.sub) k.local_)) (fun s => scrubPassEnd s k.ch) s)
  | .writeBack =>
    if o = .corrected then
      let s := pmonHit (pairWrite s r.pair (some (d, false))) 4 3 c.val 1
      setChan s c { chan s c with watch := (lineKey n r.line :: ((chan s c).watch.filter (· ≠ lineKey n r.line))).take 32 }
    else pairWrite s r.pair none
  | .poisonWrite => pairWrite s r.pair (if o = .uncorrectable then some (0#512, true) else none)
  | .remapCopy _ => pairWrite s r.pair (some (d, outcomeBad o))
  | .scan =>
    match s.cxl.scan with
    | none => s
    | some x =>
      scanNext { s with cxl := { s.cxl with scan := some { x with outstanding := 0, listed := if outcomeBad o then x.listed ++ [r.origLine] else x.listed } } }
  | _ => s

/-- The follow-up of an outcome: corrective write-back, poison write, and the remap of a line that the read found failing (R312, R321, R328). -/
def followUp (s : State) (c : DramCh) (b : Bool) (r : DramReq) (o : ReadOutcome) (failing : Bool) : State :=
  let n := r.stage
  let s :=
    if saveForbids s n then s
    else match o with
      | .corrected =>
        if rd s (F.DC_ECC_CFG_WRITEBACK c.val) = 1 ∨ r.use = .scrub ∨ r.use = .scan then dramPair s 7 4 n r.line r.line .writeBack else s
      | .uncorrectable => dramPair s 7 4 n r.line r.line .poisonWrite
      | _ => s
  whenS failing (fun s => remapFailing s c n b r.line) s

/-- The oldest read in flight on a subchannel completes; the outcome of a partial write with the poison indication is neither counted nor logged (R309, R311, R315). -/
def readComplete (s : State) (c : DramCh) (b : Bool) (raw : LineErrs) : State :=
  let x := subch s c b
  match x.inFlight with
  | [] => s
  | r :: rest =>
    let cell := r.got.getD (dramCell s r.stage r.line)
    let ((o, dev, data), s) := readOutcome s c cell raw
    let isPartial := match r.use with
      | .partialRead .. => true
      | _ => false
    let silent := match r.use with
      | .partialRead _ _ poison => poison
      | _ => false
    let data := if r.pair = 0 then lineSeen s r.stage r.origLine data else data
    let s := setSub s c b { x with inFlight := rest }
    let failing := isFailing s c r o
    let s := if silent then s else countOutcome s c b r o dev isPartial
    followUp (deliver s c b r { cell with data := data } o) c b r o failing

/-! Scrub (R319 to R322). -/

/-- Patrol scrub runs on the channel (R319, R161, R341). -/
def scrubRuns (s : State) (c : DramCh) : Bool :=
  rd s (F.DC_SCRUB_CFG_ENABLE c.val) == 1 && !s.saveDev.gate && serving s &&
    (chanStage s c).elim false (fun n => stageSt s n == .live && !(rst s n).pending && !(led s n).gated)

/-- One scrub read on each subchannel at the channel's position, which moves on (R320, R322). -/
def scrubQueue (s : State) (c : DramCh) : State :=
  match chanStage s c with
  | none => s
  | some n =>
    let total := subLines s c
    let p := if rd s (F.DC_SCRUB_STATUS_POSITION c.val) ≥ total then 0 else rd s (F.DC_SCRUB_STATUS_POSITION c.val)
    let s := foldS [false, true] (fun s b => dramRead (pmonHit s 4 4 c.val 1) 7 4 n (lineOfLocal s c b p) .scrub) s
    wr s (F.DC_SCRUB_STATUS_POSITION c.val) (if p + 1 ≥ total then 0 else p + 1)

end Sys2Proof.Machine
end

