-- ==== Sys2Proof/Machine/FlashRec.lean ====
section
/-! DEFINITION. Records on a stage's flash set: multi-codeword records, map checkpoints, seal-log and house programs with their rollover (R233 to R244), space, capacity and wear reports, and what strike may reclaim (R245 to R253). -/

namespace Sys2Proof.Machine

/-! Records of several codewords (R234, R140, R243). -/

/-- A writer of the stage by owner. -/
def writerOf (s : State) (n : Stage) (owner : Nat) : Option RecWriter := (fset s n).writers.find? (fun w => w.owner == owner)
/-- A writer replaced or added. -/
def putWriter (s : State) (n : Stage) (w : RecWriter) : State :=
  setFset s n { fset s n with writers := (fset s n).writers.filter (fun q => q.owner != w.owner) ++ [w] }
/-- A writer removed. -/
def dropWriter (s : State) (n : Stage) (owner : Nat) : State :=
  setFset s n { fset s n with writers := (fset s n).writers.filter (fun q => q.owner != owner) }

/-- The flags of a record kind (R227). -/
def kindFlags (kind : Nat) : Nat := if kind = 7 then 2 else if kind = 3 ∨ kind = 5 ∨ kind = 8 then 4 else 0

/-- A job for a record codeword. -/
def recJob (owner kind part : Nat) (payload : List Byte) : Job := ⟨.record owner part, kind, part, kindFlags kind, .bytes payload, 0, none⟩

/-- The codewords of a record queued in record order, with a writer that waits for them. -/
def recStart (s : State) (n : Stage) (owner : Nat) (indexing : Bool) (ps : List (Nat × List Byte)) : State :=
  let s := setFset s n { fset s n with serial := (fset s n).serial + (if indexing then 0 else 1) }
  let serial := if indexing then (writerOf s n owner).elim (fset s n).serial (·.serial) else (fset s n).serial
  let s := putWriter s n ⟨owner, [], ps.length, indexing, serial⟩
  foldS (ps.zipIdx) (fun s e => addJob s n (recJob owner e.1.1 e.2 e.1.2)) s

/-- The payloads of a list of packed entries; unused bytes are 0xFF (R241). -/
def packEntries (size : Nat) (es : List (List Byte)) : List (List Byte) :=
  (chunks (4096 / size) es).map (fun c => padPayload c.flatten 0xFF#8)

/-- A record codeword has passed: its entry kept for strike (R247). -/
def recLive (s : State) (n : Stage) (kind gen serial entry : Nat) : State :=
  setFset s n { fset s n with recs := (fset s n).recs ++ [⟨kind, gen, serial, entry⟩] }

/-! Tables (R241, R243). -/

/-- The blocks of the flash set in LUN order, then block order. -/
def setBlocks (s : State) (n : Stage) : List (Nat × Nat) :=
  (stageLuns s n).flatMap (fun l => (List.range (blocksPer s n)).map (fun b => (l, b)))
/-- The bad-block table's entries: factory marks, bad, abandoned and retired blocks. -/
def badEntries (s : State) (n : Stage) : List (List Byte) :=
  (setBlocks s n).filterMap (fun p =>
    let k := blockAt s p.1 p.2
    if s.flash.factory.contains (blockKey p.1 p.2) then some (leBytes 1 p.1 ++ leBytes 2 p.2 ++ [0#8])
    else if k.state = 2 ∨ k.state = 3 then some (leBytes 1 p.1 ++ leBytes 2 p.2 ++ leBytes 1 k.cause) else none)
/-- Mean hard-decode iterations of a block × 8, in whole eighths (R241). -/
def blockIters (k : Block) : Nat := 8 * k.iterSum / max 1 k.iterCount
/-- The mean exceeds a number of iterations (R251). -/
def itersOver (k : Block) (lim : Nat) : Bool := decide (k.iterSum > lim * max 1 k.iterCount)
/-- The wear table's entries. -/
def wearEntries (s : State) (n : Stage) : List (List Byte) :=
  (setBlocks s n).map (fun p =>
    let k := blockAt s p.1 p.2
    let st := if sysBlock s n p.1 p.2 then 4 else if s.flash.factory.contains (blockKey p.1 p.2) then 2 else k.state
    leBytes 8 (k.erases % 2 ^ 24 + st * 2 ^ 24 + satN 8 (blockIters k) * 2 ^ 32 + satN 8 k.lastProg * 2 ^ 40))
/-- A table that is owed begins to be written, one writer each, in the open generation of a Live stage (R228, R243). -/
def tablesStart (s : State) (n : Stage) : State :=
  let sealing := match (sav s n).phase with
    | .seal | .committed | .torn | .leftSealed => true
    | _ => false
  if stageSt s n ≠ .live || sealing then s
  else
  let s := if (fset s n).badDue && (writerOf s n 9).isNone then
      let ps := (packEntries 4 (badEntries s n)).map (fun p => (9, p))
      recStart (setFset s n { fset s n with badDue := false }) n 9 false (if ps.isEmpty then [(9, padPayload [] 0xFF#8)] else ps)
    else s
  if (fset s n).wearDue && (writerOf s n 10).isNone then
    recStart (setFset s n { fset s n with wearDue := false, erasesSince := 0 }) n 10 false ((packEntries 8 (wearEntries s n)).map (fun p => (10, p)))
  else s

/-- The index codewords of a list of entries (R234). -/
def indexJobs (es : List Nat) : List (Nat × List Byte) := (chunks 1023 es).map (fun c => (11, indexPayload c))

/-- A table's codewords have all passed: its index codewords follow, then its place is known. -/
def tableDone (s : State) (n : Stage) (w : RecWriter) : State :=
  let es := w.entries.map (·.2)
  if w.indexing then
    let x := fset s n
    let r : TableRef := ⟨es.headD noCopy, w.serial⟩
    dropWriter (setFset s n (if w.owner = 9 then { x with badTable := r } else { x with wearTable := r })) n w.owner
  else recStart s n w.owner true (indexJobs es)

/-! Map checkpoints (R239, R240). -/

/-- Data codewords of a checkpoint. -/
def ckptParts (s : State) (n : Stage) : Nat := ceilDiv (hostFrames s n) 1024
/-- The completion record's payload; past its index entries the bytes are 0 (R239; DESIGN CHOICE, log entry 146). -/
def ckptPayload (s : State) (n : Stage) (k : Ckpt) : List Byte :=
  let idx := k.indexes.map (·.2)
  padPayload (leBytes 4 k.startGen ++ leBytes 4 k.startSeq ++ leBytes 4 (hostFrames s n) ++ leBytes 2 idx.length ++ leBytes 2 0
    ++ shaFinish k.digest (k.taken.flatMap (·.2)) ++ idx.flatMap (leBytes 4)) 0#8
/-- The stage writes a checkpoint. -/
def ckptBegin (s : State) (n : Stage) : State :=
  let x := fset s n
  setFset s n { x with
    serial := x.serial + 1, ckptFrames := 0, ckptTick := tickOf s
    ckpt := some ⟨openGen s n, x.seq, 0, [], [], [], 0, x.serial + 1, false, shaInit, []⟩ }
/-- The next codeword of the checkpoint stream queued, one in the queue at a time. -/
def ckptFeed (s : State) (n : Stage) : State :=
  match (fset s n).ckpt with
  | none => s
  | some k =>
    let waits := (fset s n).jobs.any (fun j => match j.use with
      | .record 3 _ => true
      | _ => false)
    if k.preempted ∨ waits then s
    else if k.step = 0 ∧ k.next < ckptParts s n then
      addJob (setFset s n { fset s n with ckpt := some { k with next := k.next + 1 } }) n ⟨.record 3 k.next, 3, k.next, 4, .mapPart k.next, 0, none⟩
    else if k.step = 1 then
      match (indexJobs (k.parts.map (·.2)))[k.next]? with
      | some j => addJob (setFset s n { fset s n with ckpt := some { k with next := k.next + 1 } }) n (recJob 3 11 k.next j.2)
      | none => s
    else if k.step = 2 ∧ k.next = 0 then
      addJob (setFset s n { fset s n with ckpt := some { k with next := 1 } }) n (recJob 3 4 0 (ckptPayload s n k))
    else s
/-- A codeword of the stream has passed; the completion record ends it and trims the map delta (R239, R240, R140). -/
def ckptPassed (s : State) (n : Stage) (kind part gen entry : Nat) : State :=
  match (fset s n).ckpt with
  | none => s
  | some k =>
    if kind = 3 then
      let parts := mput k.parts part entry
      setFset s n { fset s n with ckpt := some (if parts.length ≥ ckptParts s n then { k with parts := parts, step := 1, next := 0 } else { k with parts := parts }) }
    else if kind = 11 then
      let ix := mput k.indexes part entry
      setFset s n { fset s n with ckpt := some (if ix.length ≥ (chunks 1023 (k.parts.map (·.2))).length then { k with indexes := ix, step := 2, next := 0 } else { k with indexes := ix }) }
    else
      let x := fset s n
      let d := if k.startGen = openGen s n then x.delta.filter (fun e => decide (e.2 ≥ k.startSeq)) else x.delta
      setFset s n { x with ckpt := none, ckptDone := some ⟨entry, k.startGen, gen, k.serial⟩, delta := d }
/-- The stream abandoned: it has no completion record, and what of it has not been issued is not programmed (R141, R161). -/
def ckptAbandon (s : State) (n : Stage) : State :=
  let x := fset s n
  let own := fun (u : ProgUse) => match u with
    | .record 3 _ => false
    | _ => true
  setFset s n { x with
    ckpt := none, jobs := x.jobs.filter (fun j => own j.use)
    pages := x.pages.map (fun p => { p with slots := p.slots.filter (fun q => own q.job.use) }) }
/-- A stage's checkpoint stream abandoned, with event 0x20F (R141, R161). -/
def ckptGiveUp (s : State) (n : Stage) : State :=
  match (fset s n).ckpt with
  | some k => event (ckptAbandon s n) 0x20F 0 n.val (1024 * k.parts.length)
  | none => s
/-- The first part of a list that has not passed. -/
def firstOpen (m : NMap Nat) (top : Nat) : Nat := ((List.range top).find? (fun j => (mfind m j).isNone)).getD top
/-- The stream pre-empted at a gate instant: its digest takes the parts that have passed in order, and its context is saved wrapped, in the stage core's first slot (R161, R413, R416). Without a boot nonce the engine saves no context and the stream is abandoned (R425). -/
def ckptPreempt (s : State) (n : Stage) : State :=
  match (fset s n).ckpt, s.cipher.bootNonce with
  | none, _ => s
  | some _, none => ckptGiveUp s n
  | some k, some nonce =>
    if k.preempted then s
    else
      let first := if k.step = 0 then firstOpen k.parts (ckptParts s n) else ckptParts s n
      let c := shaMore k.digest ((k.taken.filter (fun e => decide (e.1 < first))).flatMap (·.2))
      let slot := 16 + 12 * n.val
      let count := ((ctxSlot s slot).saveCount + 1) % 2 ^ 32
      let s := setCtxSlot s slot { ctxSlot s slot with saveCount := count }
      setFset s n { fset s n with ckpt := some { k with
        preempted := true, taken := [], digest := shaInit, context := keyWrap (keyBytes wrappingKey) (ctxBytes slot count nonce.toNat c) } }
/-- The stream taken up again where its digest stopped (R161). -/
def ckptResume (s : State) (n : Stage) : State :=
  match (fset s n).ckpt with
  | none => s
  | some k =>
    if !k.preempted then s
    else
      let c := ((keyUnwrap (keyBytes wrappingKey) k.context).bind parseCtx).getD shaInit
      let next := c.textLen / 4096
      let k := { k with preempted := false, digest := c, context := [] }
      setFset s n { fset s n with ckpt := some (
        if next < ckptParts s n then { k with step := 0, next := next, parts := k.parts.filter (fun e => decide (e.1 < next)) }
        else { k with next := if k.step = 1 then firstOpen k.indexes k.parts.length else 0 }) }

/-! Seal-log and house programs (R235 to R238, R142, R143). -/

/-- The block of a seal-log copy and its next page. -/
def sealBlock (y : StageSys) (copy : Nat) : Nat × Nat := if copy = 0 then (y.blockA, y.posA) else (y.blockB, y.posB)
/-- The block of a seal-log copy and its next page set. -/
def setSealBlock (y : StageSys) (copy b pos : Nat) : StageSys :=
  if copy = 0 then { y with blockA := b, posA := pos } else { y with blockB := b, posB := pos }

/-- A block erased: its pages are gone, its count grows; after 1,024 erases of the stage both tables are owed (R243, R250). -/
def eraseBlock (s : State) (n : Stage) (lun b : Nat) : State :=
  let ps := s.flash.pages.filter (fun e => !(e.1 / 2 ^ 20 == lun && e.1 % 2 ^ 20 / pagesPer s n == b))
  let s := { s with flash := { s.flash with pages := ps } }
  let k := blockAt s lun b
  let x := fset s n
  let x := { x with
    erasesSince := x.erasesSince + 1, wearDue := x.wearDue || decide (x.erasesSince + 1 ≥ 1024), badDue := x.badDue || decide (x.erasesSince + 1 = 1024) }
  setBlock (setFset s n x) lun b { k with erases := satN 24 (k.erases + 1), erased := true, epoch := x.fmt }

/-! Codewords of a system block, read through their lanes (R21, R402, R403). -/

/-- The read-path injection that the next codeword read on a channel takes: how many bits it flips (R231). -/
def injectRead (s : State) (ch : Nat) : Nat × State :=
  if rdb s F.FL_INJECT_ARM && rdb s F.FL_INJECT_ON_READ && rd s F.FL_INJECT_CHANNEL == ch then
    (if rdb s F.FL_INJECT_UNCORRECTABLE then codewordBits + 1 else rd s F.FL_INJECT_BITS, wr s F.FL_INJECT_ARM 0)
  else (0, s)
/-- A lane checks a tag; an armed test inverts the check once (R403, R407). -/
def laneCheck (s : State) (n : Stage) (ch : Nat) (cw : Codeword) : Option (List Byte) × State :=
  let test := s.cipher.laneTest == some ch
  let s := if test then event (wr { s with cipher := { s.cipher with laneTest := none } } F.CIPH_LANE_TEST_ARM 0) 0x706 0 n.val ch else s
  match (if test then none else openCodeword s n cw) with
  | some p => (some p, s)
  | none => (none, pmonHit (incSat s (F.CIPH_LANE_FAIL_TAG_FAILS ch) 1) 6 3 ch 1)
/-- A read has come to soft decode: counted, event 0x409, and a refresh of its band (R230, R260, R261). -/
def softReached (s : State) (n : Stage) (e : Nat) : State :=
  let lun := entryLun e
  let b := entryPage e / max 1 (pagesPer s n)
  let s := pmonHit (incSat s (F.FL_CH_DECODE_SOFT_READS (lunCh lun)) 1) 5 4 (lunCh lun) 1
  event (setFsys s n { fsys s n with refresh := insertNat (fsys s n).refresh b }) 0x409 0 n.val (lun + b * 256)
/-- A read whose first decode fails is counted where read-retry levels follow (R230, R260). -/
def retryReached (s : State) (ch : Nat) : State := pmonHit (incSat s (F.FL_CH_DECODE_RETRY_READS ch) 1) 5 3 ch 1
/-- The codeword of a map entry as the steps of the ladder read it: hard decode, the retry levels, soft decode, or uncorrectable (R230, R231). -/
def ladderRead (s : State) (n : Stage) (e : Nat) : Option Codeword × State :=
  let ch := lunCh (entryLun e)
  let (flips, s) := injectRead (pmonHit (emit s (.nand (entryLun e) 1 (entryPage e) 15)) 5 1 ch 1) ch
  let bits_ := flips + entryFlips s e
  let cw := entryCw s e
  if cw.isSome && decide (bits_ ≤ decodeLimit false) then (cw, s)
  else
    let m := microOf s n
    let s := whenS ((microEntry m 4).isSome && decide (retryLevels m ≠ 0)) (fun s => retryReached s ch) s
    if (microEntry m 7).isSome then
      let s := softReached s n e
      if cw.isSome && decide (bits_ ≤ decodeLimit true) then (cw, s) else (none, incSat s (F.FL_CH_DECODE_UNCORRECTABLE ch) 1)
    else (none, incSat s (F.FL_CH_DECODE_UNCORRECTABLE ch) 1)
/-- The codeword of a map entry read and passed through its lane, under the stage's key, or for a house record under the key of the stage that its clear header names; one outside the stage's flash set is not read (R22, R402). -/
def laneRead (s : State) (n : Stage) (e : Nat) (named : Bool) : Option (List Byte × List Byte) × State :=
  let ch := lunCh (entryLun e)
  if !flashMine s n e then (none, xbarFault s n 1 ch)
  else match ladderRead s n e with
  | (none, s) => (none, s)
  | (some c, s) =>
    let (p, s) := laneCheck (pmonHit s 6 1 ch 1) (if named then fin4 (hStage c.header) else n) ch c
    (p.map (fun b => (c.header, b)), s)
/-- A record of the stage read so: its header checks and names the stage. -/
def recRead (s : State) (n : Stage) (e : Nat) : Option (List Byte × List Byte) × State :=
  let (r, s) := laneRead s n e false
  (r.bind (fun q => if hOk q.1 && hStage q.1 == n.val then some q else none), s)
/-- Several records read in turn; what could not be read is left out. -/
def recReads (s : State) (n : Stage) (es : List Nat) : List (Nat × (List Byte × List Byte)) × State :=
  es.foldl (fun a e =>
    let (r, s) := recRead a.2 n e
    (a.1 ++ (r.map (fun q => (e, q))).toList, s)) ([], s)
/-- The payloads of a record read through its index codewords, if all can be read (R234). -/
def recordRead_ (s : State) (n : Stage) (idx : List Nat) : Option (List Byte) × State :=
  let add := fun (a : Option (List Byte) × State) (d : Nat) =>
    let (q, s) := recRead a.2 n d
    (a.1.bind (fun bs => q.map (fun q => bs ++ q.2)), s)
  idx.foldl (fun a e =>
    let (r, s) := recRead a.2 n e
    match a.1, r with
    | some bs, some q => (indexEntries q.2).foldl add (some bs, s)
    | _, _ => (none, s)) (some [], s)
/-- Both seal logs as they read, in log order (R172, R237). -/
def logsRead (s : State) (n : Stage) : (List SealRec × List SealRec) × State :=
  let log := fun (s : State) (copy : Nat) =>
    let lun := houseLun s n copy
    let (rs, s) := recReads s n ((blockPages s n lun (if copy = 0 then (fsys s n).blockA else (fsys s n).blockB)).map (pageEntry lun))
    (rs.filterMap (fun r => if hKind r.2.1 = 2 then some (parseSeal r.2.2) else none), s)
  let (a, s) := log s 0
  let (b, s) := log s 1
  ((a, b), s)

/-! The system blocks of a house LUN (R214, R235 to R238). -/

/-- The system block of the house record on a house LUN. -/
def houseBlock (y : StageSys) (copy : Nat) : Nat := if copy = 0 then y.houseA else y.houseB
/-- The next page of the house record on a house LUN. -/
def housePos (y : StageSys) (copy : Nat) : Nat := if copy = 0 then y.housePos0 else y.housePos1
/-- The house record's block, its next page, and whether it must be erased first. -/
def setHouseBlock (y : StageSys) (copy b pos : Nat) (fresh : Bool) : StageSys :=
  if copy = 0 then { y with houseA := b, housePos0 := pos, freshA := fresh } else { y with houseB := b, housePos1 := pos, freshB := fresh }
/-- The seal-log copy must move to a spare block, or need not any more. -/
def setMove (y : StageSys) (copy : Nat) (v : Bool) : StageSys := if copy = 0 then { y with moveA := v } else { y with moveB := v }
/-- The next spare system block of a house LUN: the lowest number after the present one, round the blocks 2 to 7, that is not bad and not in use (R214, R238). -/
def nextSpare (s : State) (n : Stage) (copy cur : Nat) : Option Nat :=
  let y := fsys s n
  let lun := houseLun s n copy
  let order := ([2, 3, 4, 5, 6, 7].filter (· > cur)) ++ ([2, 3, 4, 5, 6, 7].filter (· < cur))
  order.find? (fun b => decide (b ≠ (sealBlock y copy).1) && decide (b ≠ houseBlock y copy) && decide ((blockAt s lun b).state ≠ 2) && !s.flash.factory.contains (blockKey lun b))
/-- The house records of the two house LUNs that verify, under the key of the stage that each header names, with the block they stand in: block 0, or a spare that the record has moved to (R235, R533; DESIGN CHOICE, log entry 34). -/
def houseReads (s : State) (n : Stage) : List (Nat × Nat × HouseRec) × State :=
  let places := [0, 1].flatMap (fun k => [0, 2, 3, 4, 5, 6, 7].flatMap (fun b => (blockPages s n (houseLun s n k) b).map (fun p => (k, b, pageEntry (houseLun s n k) p))))
  places.foldl (fun a q =>
    let (r, s) := laneRead a.2 n q.2.2 true
    (a.1 ++ ((r.bind (fun x => if hOk x.1 && hKind x.1 == 1 then parseHouse x.2 else none)).map (fun h => (q.1, q.2.1, h))).toList, s)) ([], s)
/-- The newest of the house records read (R235). -/
def houseNewest (rs : List (Nat × Nat × HouseRec)) : Option HouseRec :=
  rs.foldl (fun (acc : Option HouseRec) r => match acc with
    | none => some r.2.2
    | some q => if r.2.2.update ≥ q.update then some r.2.2 else some q) none
/-- The block that holds the newest house record of a copy, block 0 where none is read. -/
def houseAt (rs : List (Nat × Nat × HouseRec)) (copy : Nat) : Nat :=
  ((rs.filter (fun r => r.1 == copy)).foldl (fun (acc : Nat × Nat) r => if r.2.2.update + 1 > acc.2 then (r.2.1, r.2.2.update + 1) else acc) (0, 0)).1
/-- A system page programmed at once with a codeword that keeps its bytes: it passes its lane by Relay; a program that fails makes its block bad (R238, R252, R402, R404; in one step, log entry 22). -/
def sysStore (s : State) (n : Stage) (lun b pos : Nat) (cw : Codeword) : State :=
  let ch := lunCh lun
  let (p, s) := laneCheck (pmonHit (pmonHit (pmonHit s 5 1 ch 1) 6 2 ch 1) 5 0 ch 1) n ch cw
  let s := whenS p.isNone (fun s => event s 0x704 1 n.val (ch + hNumber cw.header % 2 ^ 28 * 16)) s
  let s := emit s (.nand lun 0 (b * pagesPer s n + pos) 15)
  if s.flash.failing.contains (blockKey lun b) then markBad (incSat s (F.FL_CH_CMD_PROG_FAILS ch) 1) n lun b 1
  else
    let s := storePage s lun (b * pagesPer s n + pos) [cw] [] []
    setBlock s lun b { blockAt s lun b with erased := false, epoch := (fset s n).fmt }

/-- The house record of the stage as it now is. -/
def houseNow (s : State) (n : Stage) : List Byte :=
  let y := fsys s n
  housePayload s n y.update y.blockA y.blockB (bytesOfHash s n)
where
  /-- SHA-256 of the stage section that dressed the set, as the last house record holds it (R235). -/
  bytesOfHash (s : State) (n : Stage) : List Byte := if (fsys s n).houseBytes.length = 32 then (fsys s n).houseBytes else List.replicate 32 0#8

/-- A codeword for a system page, encrypted by its lane and queued on its house LUN (R21, R235, R237). -/
def sysQueue (s : State) (n : Stage) (use : ProgUse) (copy kind gen seq : Nat) (payload : List Byte) : State :=
  let lun := houseLun s n copy
  let cw := mkCodeword s n kind 0 gen seq 0 payload
  let s := pmonHit s 6 0 (lunCh lun) 1
  setFset s n { fset s n with sysQ := (fset s n).sysQ ++ [⟨lun, ⟨use, kind, 0, 0, .bytes [], 0, none⟩, cw⟩] }
/-- A house record's program queued on a house LUN (R236). -/
def houseProg (s : State) (n : Stage) (copy : Nat) : State :=
  let s := setFsys s n { fsys s n with houseNext := copy == 0 }
  sysQueue s n (.house copy) copy 1 0 (fsys s n).update (houseNow s n)
/-- The house record rewritten: the first house LUN's copy, the other once that has passed (R236). -/
def houseRewrite (s : State) (n : Stage) : State :=
  houseProg (setFsys s n { fsys s n with update := (fsys s n).update + 1 }) n 0
/-- The house record's block on a house LUN is bad: the next spare takes its place, erased first; with no spare left that LUN has no place for a copy (R214, R252; DESIGN CHOICE, log entry 34). -/
def houseMove (s : State) (n : Stage) (copy : Nat) : State :=
  match nextSpare s n copy (houseBlock (fsys s n) copy) with
  | some b => setFsys s n (setHouseBlock (fsys s n) copy b 0 true)
  | none => s
/-- The house LUN's present house block can still be written. -/
def houseUsable (s : State) (n : Stage) (copy : Nat) : Bool :=
  let lun := houseLun s n copy
  !chLost s (lunCh lun) && !sysBad s lun (houseBlock (fsys s n) copy)
/-- The system blocks of a fresh set: a spare serves where the house record's block or the first seal-log block is bad (R214). -/
def sysFresh (s : State) (n : Stage) : State :=
  foldS [0, 1] (fun s c =>
    let lun := houseLun s n c
    let s := if sysBad s lun (houseBlock (fsys s n) c) then houseMove s n c else s
    if sysBad s lun (sealBlock (fsys s n) c).1 then setFsys s n (setMove (fsys s n) c true) else s) s

/-- The records a rollover keeps: sealed and void ones from the newest sealed checkpoint's generation on, and the newest open one, in log order (R238). -/
def rolloverKeeps (s : State) (n : Stage) (lun b : Nat) : List Codeword :=
  let cws := (blockPages s n lun b).filterMap (fun p => slotAt s lun p 0)
  let from_ := (fset s n).ckptSealed.elim 0 (·.gen)
  let opens := (cws.filter (fun c => hSeq c.header == 2)).map (fun c => hGen c.header)
  let newest := opens.foldl max 0
  cws.filter (fun c => if hSeq c.header = 2 then hGen c.header == newest else decide (hGen c.header ≥ from_))

/-- A seal-log copy moved to a spare block that has been erased, with the records it must keep; the house record follows, event 0x410 (R238). A spare that fails meanwhile is bad, and the next one serves (R252). -/
def sealMoved (s : State) (n : Stage) (copy b : Nat) : State :=
  let lun := houseLun s n copy
  let keep := rolloverKeeps s n lun (sealBlock (fsys s n) copy).1
  let s := foldS (keep.zipIdx) (fun s e => if sysBad s lun b then s else sysStore s n lun b e.2 e.1) s
  if sysBad s lun b then setFsys s n (setMove (fsys s n) copy true)
  else
  let s := setFsys s n (setMove (setSealBlock (fsys s n) copy b keep.length) copy false)
  houseRewrite (event s 0x410 0 n.val (lunCh lun + b % 16 * 16)) n
/-- The copy's seal-log block takes no further record: a program failed there, or it is full (R143, R238). -/
def sealFull (s : State) (n : Stage) (copy : Nat) : Bool :=
  (if copy = 0 then (fsys s n).moveA else (fsys s n).moveB) || decide ((sealBlock (fsys s n) copy).2 ≥ pagesPer s n)
/-- The copy's seal-log record can be placed: its channel works, and its block has room or a spare is left (R143). -/
def sealPlace (s : State) (n : Stage) (copy : Nat) : Bool :=
  !chLost s (lunCh (houseLun s n copy)) && (!sealFull s n copy || (nextSpare s n copy (sealBlock (fsys s n) copy).1).isSome)
/-- One copy of a seal-log record queued on its house LUN (R237). -/
def sealProg (s : State) (n : Stage) (copy : Nat) (j : SealJob) : State := sysQueue s n (.sealCopy copy) copy 2 j.gen j.sub j.payload

/-- A seal-log record begins to be programmed into both logs (R142, R145, R156). -/
def sealStart (s : State) (n : Stage) (sub reason gen lastSeq : Nat) (index : List Nat) : State :=
  let x := fset s n
  let ck := x.ckptDone
  let index := index.take 1000
  let payload := if sub = 1 then
      sealPayload n 1 0 gen lastSeq (hostFrames s n) ((sav s n).gateTime / unitsPerTick) (sav s n).flushed (ck.elim noCopy (·.entry)) (ck.elim 0 (·.gen))
        x.badTable.entry x.wearTable.entry index
    else sealPayload n sub reason gen lastSeq 0 0 0 noCopy 0 noCopy noCopy []
  let j : SealJob := ⟨sub, gen, payload, false, false, 1, 1⟩
  let s := setFsys s n { fsys s n with seals := (fsys s n).seals ++ [j] }
  sealProg (sealProg s n 0 j) n 1 j

/-! Space, capacity and wear (R218, R248 to R253, R258, R259). -/

/-- HEAT_MAX as taken (R164). -/
def heatMax (s : State) : Nat := min 0x400000 (rd s F.SAVE_CFG_HEAT_MAX)
/-- The save reserve in codewords (R249). -/
def saveReserve (s : State) (n : Stage) : Nat :=
  ceilDiv (8 * ((fset s n).delta.length + stageCap s n)) 4096 + ceilDiv (4 * (led s n).lineCount.length) 4096 + ceilDiv (4 * heatMax s) 4096 + 64
/-- Codeword slots of the set's good capacity. -/
def goodSlots (s : State) (n : Stage) : Nat := goodBlocks s n * pagesPer s n * 4
/-- A stage's share of the configured cap in MiB, exactly, by its weight among the bound stages (R253). -/
def capShare (s : State) (n : Stage) : Rat :=
  let sum := (fours.map (fun m => if rdb s (F.STAGE_BIND_BOUND m.val) then stageWeight s m else 0)).sum
  ((configuredMib s * stageWeight s n : Nat) : Rat) / ((max 1 sum : Nat) : Rat)
/-- The good capacity below which backup capacity is degraded, in MiB exactly (R253). -/
def capNeed (s : State) (n : Stage) : Rat := (((rd s (F.STAGE_SIZE_HOST_256MIB n.val) * 256 : Nat) : Rat) + capShare s n) * 12 / 10
/-- Backup capacity degraded, set and cleared, by the exact capacities; the registers show whole MiB, what is needed rounded up (R253, R258). -/
def capacityFollow (s : State) (n : Stage) : State :=
  let good := goodMib s n
  let need := ratCeil (capNeed s n)
  let bad := decide (((goodSlots s n * 4096 : Nat) : Rat) / 1048576 < capNeed s n)
  let s := whenS (bad && !rdb s (F.FL_STAGE_STATUS_CAPACITY_DEGRADED n.val)) (fun s => event s 0x40E 2 n.val good) s
  wr (wr (wr s (F.FL_STAGE_CAPACITY_GOOD_MIB n.val) good) (F.FL_STAGE_CAPACITY_NEEDED_MIB n.val) need) (F.FL_STAGE_STATUS_CAPACITY_DEGRADED n.val) (b2n bad)
/-- The set's blocks with their factory marks. -/
def wearBlocks (s : State) (n : Stage) : List (Bool × Block) :=
  (setBlocks s n).map (fun p => (s.flash.factory.contains (blockKey p.1 p.2), blockAt s p.1 p.2))
/-- The highest block erase count of the set (R258). -/
def maxErases (s : State) (n : Stage) : Nat :=
  let luns := stageLuns s n
  s.flash.blocks.foldl (fun m e => if e.2.erases > m ∧ luns.contains (e.1 / 65536) then e.2.erases else m) 0
/-- The mean erase count of good blocks, system blocks left out as in the good capacity (R253, R258; DESIGN CHOICE, log entry 147). -/
def meanErases (s : State) (n : Stage) : Nat :=
  let blocks := ((setBlocks s n).filter (fun p => !sysBlock s n p.1 p.2)).map (fun p => (s.flash.factory.contains (blockKey p.1 p.2), blockAt s p.1 p.2))
  let good := blocks.filter (fun k => !k.1 && decide (k.2.state = 0))
  (good.map (fun k => k.2.erases)).sum / max 1 good.length
/-- Static wear levelling is active: the highest and lowest block erase counts differ by more than 2,000 (R246). -/
def wearLevel (s : State) (n : Stage) : Bool :=
  let top := maxErases s n
  decide (top > 2000) && decide (top > (wearBlocks s n).foldl (fun m k => min m k.2.erases) top + 2000)
/-- Blocks bad or retired, factory marks included (R258). -/
def retiredBlocks (s : State) (n : Stage) : Nat :=
  ((wearBlocks s n).filter (fun k => k.1 || k.2.state == 2 || k.2.state == 3)).length
/-- Worn blocks that await retirement (R258). -/
def wornBlocks (s : State) (n : Stage) : Nat := ((wearBlocks s n).filter (fun k => !k.1 && k.2.state == 1)).length
/-- The wear reports follow the set's blocks (R258). -/
def wearFollow (s : State) (n : Stage) : State :=
  let level := wearLevel s n
  let s := wr (wr s (F.FL_STAGE_WEAR_MAX_ERASES n.val) (satN 24 (maxErases s n))) (F.FL_STAGE_WEAR_MEAN_ERASES n.val) (satN 24 (meanErases s n))
  let s := wr (wr s (F.FL_STAGE_BLOCKS_RETIRED n.val) (satN 24 (retiredBlocks s n))) (F.FL_STAGE_BLOCKS_WORN_PENDING n.val) (satN 24 (wornBlocks s n))
  wr s (F.FL_STAGE_STATUS_WEAR_LEVEL n.val) (b2n level)
/-- What follows a change of the set's blocks: capacity and wear. -/
def blocksFollow (s : State) (n : Stage) : State := wearFollow (capacityFollow s n) n

/-! What strike may reclaim (R245 to R247). -/

/-- A generation whose void record has passed on both copies. -/
def isVoided (s : State) (n : Stage) (g : Nat) : Bool := (fsys s n).voided.contains g
/-- The stage's newest sealed generation, 0 for none. -/
def sealedGen (s : State) (n : Stage) : Nat := rd s (F.SAVE_GEN_SEALED_GEN n.val)
/-- A record codeword is superseded (R247). -/
def superseded (s : State) (n : Stage) (r : LiveRec) : Bool :=
  let x := fset s n
  if r.gen = openGen s n then false
  else match r.kind with
    | 3 => x.ckptSealed.elim false (fun k => decide (r.serial < k.serial))
    | 5 | 8 | 11 => x.ckptSealed.elim false (fun k => decide (r.gen < k.gen))
    | 6 | 7 => decide (r.gen < sealedGen s n)
    | 9 => decide (r.serial < x.sealedBad.serial)
    | 10 => decide (r.serial < x.sealedWear.serial)
    | _ => false
/-- The entry's block was neither erased nor written since the set was formatted: nothing in it belongs to the set (R533). -/
def outOfFormat (s : State) (n : Stage) (e : Nat) : Bool := (blockAt s (entryLun e) (entryPage e / pagesPer s n)).epoch != (fset s n).fmt
/-- A codeword may be erased (R245, R533). -/
def reclaimable (s : State) (n : Stage) (e : Nat) (c : Codeword) : Bool :=
  let x := fset s n
  let g := hGen c.header
  if isVoided s n g || outOfFormat s n e then true
  else if hKind c.header = 0 then
    let f := hNumber c.header
    decide (mget noCopy x.fmap f ≠ e) && (g == openGen s n || (!x.openFrames.contains f && !x.relocs.any (fun r => r.2.1 == e)))
  else match x.recs.find? (fun r => r.entry == e) with
    | some r => superseded s n r
    | none => false
/-- The codewords of a band with their map entries. -/
def bandWords (s : State) (n : Stage) (b : Nat) : List (Nat × Codeword) :=
  let ls := stageLuns s n
  (s.flash.pages.filter (fun e => ls.contains (e.1 / 2 ^ 20) && decide (e.1 % 2 ^ 20 / pagesPer s n = b) && !sysBlock s n (e.1 / 2 ^ 20) b)).flatMap (fun e =>
    (e.2.slots.zipIdx).filterMap (fun q => q.1.map (fun c => (mkEntry (e.1 / 2 ^ 20) (e.1 % 2 ^ 20) q.2 (hGen c.header) (hSeq c.header), c))))
/-- The live frame copies of a band: those the frame map names (R246). -/
def bandLive (s : State) (n : Stage) (b : Nat) : List (Nat × Codeword) :=
  (bandWords s n b).filter (fun q => hKind q.2.header == 0 && mget noCopy (fset s n).fmap (hNumber q.2.header) == q.1)
/-- A band that strike may take: not open, not erased since formatting, each frame copy reclaimable or relocatable, no record live (R248, R533). -/
def bandEligible (s : State) (n : Stage) (b : Nat) : Bool :=
  let ws := bandWords s n b
  decide ((fset s n).band ≠ some b) && !(fset s n).relocBands.contains b && !bandErased s n b && !(bandLuns s n b).isEmpty &&
    ws.all (fun q => reclaimable s n q.1 q.2 || (hKind q.2.header == 0 && mget noCopy (fset s n).fmap (hNumber q.2.header) == q.1))
/-- The victim: the eligible band with the fewest codewords not reclaimable, or of lowest mean erase count under wear levelling; the band of a block that went bad goes first, then a scheduled refresh (R230, R248, R252). -/
def chooseVictim (s : State) (n : Stage) : Option Nat :=
  let bs := (List.range (blocksPer s n)).filter (bandEligible s n)
  let cost := fun b => ((bandWords s n b).filter (fun q => !reclaimable s n q.1 q.2)).length
  let lev := rdb s (F.FL_STAGE_STATUS_WEAR_LEVEL n.val)
  match ((fsys s n).badBands ++ (fsys s n).refresh).find? (fun b => bs.contains b) with
  | some b => some b
  | none => bs.foldl (fun acc b =>
      match acc with
      | none => some b
      | some c =>
        let less := if lev then bandErases s n b * (bandLuns s n c).length < bandErases s n c * (bandLuns s n b).length else cost b < cost c
        if less then some b else some c) none
/-- STRIKE_START_PCT as taken (R255). -/
def strikePct (s : State) : Nat := min 100 (max 1 (rd s F.FL_CFG_STRIKE_START_PCT))
/-- Strike may run on the stage (R51, R187, R161). -/
def strikeAllowed (s : State) (n : Stage) : Bool :=
  stageSt s n == .live && !(rst s n).pending && !(led s n).gated && !s.saveDev.gate && serving s
/-- The band being struck, with VICTIM_BAND (R259). -/
def setVictim (s : State) (n : Stage) (v : Option Nat) : State :=
  wr (setFsys s n { fsys s n with victim := v }) (F.FL_STAGE_STATUS_VICTIM_BAND n.val) (v.getD 0xFFFF)
/-- Free space, strike's start, stop and urgency (R248). A scheduled refresh, or static wear levelling, makes strike run also where the row of the table that applies says Stopped (DESIGN CHOICE, log entry 148). -/
def strikeFollow (s : State) (n : Stage) : State :=
  let free := erasedSlots s n
  let good := goodSlots s n
  let y := fsys s n
  let luns := stageLuns s n
  let house := houseLuns s n
  let widest := (List.range (blocksPer s n)).foldl (fun m b => max m (luns.filter (fun l => usableIn house s l b)).length) 0
  let urgent := decide (free ≤ saveReserve s n + 2 * (widest * pagesPer s n * 4))
  let want := strikeAllowed s n && (decide (free * 100 < good * strikePct s) || urgent || !y.refresh.isEmpty ||
    rdb s (F.FL_STAGE_STATUS_WEAR_LEVEL n.val) || (y.strikeOn && decide (free * 100 < good * (strikePct s + 5))))
  let urg := want && urgent
  let s := whenS (want && !y.strikeOn) (fun s => event s 0x40A 0 n.val (slotsMib free)) s
  let s := whenS (urg && !y.urgentLogged) (fun s => event s 0x40B 1 n.val (slotsMib free)) s
  let s := setFsys s n { fsys s n with strikeOn := want, urgentLogged := urg }
  let s := wr (wr s (F.FL_STAGE_STATUS_STRIKE_ACTIVE n.val) (b2n want)) (F.FL_STAGE_STATUS_STRIKE_URGENT n.val) (b2n urgent)
  setVictim s n (if !want then none else if (fsys s n).victim.isNone then chooseVictim s n else (fsys s n).victim)
/-- The save reserve computed for an effective-cap period (R249, R54). -/
def reserveSet (s : State) (n : Stage) : State :=
  let res := saveReserve s n
  wr (setFsys s n { fsys s n with reserve := res }) (F.FL_STAGE_SPACE_RESERVE_MIB n.val) (ceilDiv (res * 4096) 1048576)
/-- Free space, space holding and the need of a seal (R249); a recompute that finds the hold already standing, and no band to strike, asks for a seal. -/
def spaceFollow (s : State) (n : Stage) (atRecompute : Bool) : State :=
  let was := rdb s (F.FL_STAGE_STATUS_SPACE_HOLD n.val)
  let s := freeFollow (if atRecompute then reserveSet s n else s) n
  let free := (fsys s n).free
  let hold := spaceHolds s n
  let stuck := hold && was && atRecompute && (chooseVictim s n).isNone
  let limit := decide ((fset s n).seq ≥ 0xF0000000)
  let need := limit || stuck || (hold && (fsys s n).spaceLogged)
  let s := spaceRefresh (wr s (F.FL_STAGE_SPACE_FREE_MIB n.val) (slotsMib free)) n
  let s := whenS (stuck && !(fsys s n).spaceLogged) (fun s => event s 0x40D 2 n.val (slotsMib free)) s
  let s := setFsys s n { fsys s n with spaceLogged := stuck || (hold && (fsys s n).spaceLogged) }
  wr s (F.FL_STAGE_STATUS_SEAL_NEEDED n.val) (b2n need)

/-- A worn block found (R251): cause 0 erases, 1 iterations, 2 program time. -/
def wornCheck (s : State) (n : Stage) (lun b : Nat) : State :=
  let k := blockAt s lun b
  let why := if k.erases > rd s F.FL_CFG_RATED_ERASES then some 0
    else if itersOver k (rd s F.FL_CFG_ITER_WORN) then some 1
    else if k.slow ≥ 3 then some 2 else none
  match why with
  | some c => if k.state = 0 ∧ sysBlock s n lun b = false then blocksFollow (setBlock s lun b { k with state := 1, cause := c }) n else s
  | none => s
/-- A block erased within a step of Dressing or of an erase command, as a Block Erase of its LUN: worn, or bad where the die fails it (R211, R251, R252, R392, R533). -/
def eraseNow (s : State) (n : Stage) (lun b : Nat) : State :=
  let s := emit (pmonHit s 5 2 (lunCh lun) 1) (.nand lun 2 (b * pagesPer s n) 15)
  if s.flash.failing.contains (blockKey lun b) then markBad (incSat s (F.FL_CH_CMD_ERASE_FAILS (lunCh lun)) 1) n lun b 2
  else wornCheck (eraseBlock s n lun b) n lun b
/-- A worn block retired as its band is struck: left out of later bands, event 0x408 (R251). -/
def retireWorn (s : State) (n : Stage) (lun b : Nat) : State :=
  let k := blockAt s lun b
  if k.state = 1 then
    let s := blocksFollow (setBlock s lun b { k with state := 3, cause := 3 }) n
    event (setFset s n { fset s n with badDue := true }) 0x408 0 n.val (lun + b * 256 + k.cause % 4 * 2 ^ 24)
  else s

end Sys2Proof.Machine
end

