-- ==== Sys2Proof/Machine/SaveOps.lean ====
section
/-! DEFINITION. The save: gate instant, drain, flush, metadata, seal, commit, tear, abort, the records of open and void generations, and a stage's entry to Live (chapter 04, R186, R197). -/

namespace Sys2Proof.Machine

/-! Mode changes with what hangs on them. -/

/-- The device mode follows the stage states; entry to Service writes a learned copy that is owed (R497), CHG_EN follows (R500). -/
def follow (s : State) (cause : Nat) : State :=
  let t := modeFollow s cause
  if t.modes.mode = s.modes.mode then s
  else chgFollow (whenS (t.modes.mode = .service) learnedPending t)

/-! Status (R166). -/

/-- The stage takes no further part in the save (R148). -/
def saveEnded (p : SavePhase) : Bool := p = .committed || p = .torn || p = .leftSealed
/-- PHASE of a stage's save phase (R166). -/
def phaseCode : SavePhase → Nat
  | .none => 6 | .drain => 1 | .waitRails => 2 | .touch => 2 | .flush => 3 | .metadata _ => 4 | .checkpoint => 4 | .index => 4
  | .seal => 5 | .committed => 6 | .torn => 6 | .leftSealed => 6
/-- The stages being saved. -/
def savingStages (s : State) : List Stage := fours.filter (fun n => qget s.saveDev.saving n)
/-- POWER_DOWN runs: it is committed and nothing ends it (R455). -/
def downRuns (s : State) : Bool := s.power.run.elim false (fun r => r.prog == 1)
/-- An abort is still possible (R152): not once POWER_DOWN is committed. -/
def abortWindow (s : State) : Bool :=
  s.saveDev.gate && !downRuns s && s.saveDev.cause == 8 && rdb s F.SAVE_CFG_ABORT_EN && !s.saveDev.anyTorn && !s.saveDev.firstSeal && s.saveDev.abort == 0
/-- SAVE_STATUS as the save stands (R166). -/
def saveStatus (s : State) : State :=
  let v := s.saveDev
  let ps := (savingStages s).map (fun n => phaseCode (sav s n).phase)
  let phase := if !v.gate then 0 else if v.abort ≠ 0 then 7 else if !v.drained then 1 else if !v.railsOff then 2 else ps.foldl min 6
  let mask := fun (p : SavePhase → Bool) => mask4 (fun n => qget v.saving n && p (sav s n).phase)
  let s := wr (wr s F.SAVE_STATUS_PHASE phase) F.SAVE_STATUS_SAVING (mask4 (fun n => qget v.saving n))
  let s := wr (wr s F.SAVE_STATUS_SEALED (mask (· == .committed))) F.SAVE_STATUS_TORN (mask (· == .torn))
  wr s F.SAVE_STATUS_ABORT_WINDOW (b2n (abortWindow s))
/-- A stage's phase set. -/
def savePhase (s : State) (n : Stage) (p : SavePhase) : State := saveStatus (setSav s n { sav s n with phase := p })

/-! Records of the last save (R167, R684). -/

/-- SAVE_LAST written at a save's end, with alert source 1 (R167, R615). -/
def saveLast (s : State) (outcome : Nat) : State :=
  let v := s.saveDev
  let torn := (savingStages s).filter (fun n => (sav s n).phase == .torn)
  let reason := (torn.head?).elim 0 (fun n => rd s (F.SAVE_TEAR_REASON n.val))
  let s := wr (wr (wr s F.SAVE_LAST_CAUSE v.cause) F.SAVE_LAST_OUTCOME outcome) F.SAVE_LAST_SEALED (rd s F.SAVE_STATUS_SEALED)
  let s := wr (wr s F.SAVE_LAST_TORN (rd s F.SAVE_STATUS_TORN)) F.SAVE_LAST_TORN_REASON reason
  alert (wr s F.SAVE_LAST_DURATION (satN 28 (v.lastCommit / unitsPerTick - v.gateTime / unitsPerTick))) 1

/-- What the stage had queued for flash dropped: payloads, unissued codewords, unissued system pages but those to keep; a table whose writer goes with them is owed again (R243). -/
def dropQueued (s : State) (n : Stage) (keep : SysProg → Bool) : State :=
  let x := fset s n
  let owes := fun (owner : Nat) => x.writers.any (fun w => w.owner == owner)
  setFset s n { x with jobs := [], pages := [], sysQ := x.sysQ.filter keep, writers := [], badDue := x.badDue || owes 9, wearDue := x.wearDue || owes 10 }

/-- A stage torn while the controller keeps power: its save stops (R154, R155, R684). -/
def tearStage (s : State) (n : Stage) (reason : Nat) : State :=
  let g := openGen s n
  let s := wr (wr s (F.SAVE_TEAR_GEN n.val) g) (F.SAVE_TEAR_REASON n.val) reason
  let s := event s 0x205 2 n.val (reason + g % 2 ^ 29 * 8)
  let s := setFsys (dropQueued s n (fun _ => false)) n { fsys s n with seals := [] }
  let s := setSav s n { sav s n with phase := .torn }
  let s := setRst s n { rst s n with goLive := none }
  saveStatus { s with saveDev := { s.saveDev with anyTorn := true } }
/-- A stage of the running save torn unless it has ended its save (R154, R158). -/
def tearSaving (s : State) (n : Stage) (reason : Nat) : State :=
  if qget s.saveDev.saving n && !saveEnded (sav s n).phase then tearStage s n reason else s

/-! Seal-log records (R142 to R145, R156). -/

/-- The attempts of a seal copy (R164). -/
def sealAttempts (s : State) : Nat := max 1 (rd s F.SAVE_CFG_SEAL_ATTEMPTS)

/-- The open record of a stage begins (R145): generation, and why the stage is to become Live (0 restore, 1 Dressing, 2 intermission). -/
def openRecord (s : State) (n : Stage) (gen why : Nat) : State :=
  let x := fset s n
  let x := { x with seq := 1, delta := [], openFrames := [], relocs := [], relocBands := [], genParts := [] }
  let s := wr (wr (setFset s n x) (F.SAVE_OPEN_OPEN_GEN n.val) gen) (F.SAVE_OPEN_RECORDED n.val) 0
  let s := setRst s n { rst s n with goLive := some why }
  sealStart s n 2 0 gen (if rdb s (F.SAVE_GEN_VALID n.val) then sealedGen s n else 0) []

/-- The newest sealed generation of the two logs put into SAVE_GEN, and the next open generation (R163, R170). -/
def genLoad (s : State) (n : Stage) (a b : List SealRec) : State :=
  let top := (a ++ b).foldl (fun m r => max m r.gen) 0
  let s := match newestSealed a b with
    | some g => wr (wr s (F.SAVE_GEN_SEALED_GEN n.val) g) (F.SAVE_GEN_VALID n.val) 1
    | none => wr (wr s (F.SAVE_GEN_SEALED_GEN n.val) 0) (F.SAVE_GEN_VALID n.val) 0
  let s := setFsys s n { fsys s n with voided := voidedBoth a b }
  wr (wr s (F.SAVE_OPEN_OPEN_GEN n.val) (top + 1)) (F.SAVE_OPEN_RECORDED n.val) 0
/-- A dead generation's void record begins (R156). -/
def voidStart (s : State) (n : Stage) (d : Nat) : State :=
  let reason := if rd s (F.SAVE_TEAR_GEN n.val) = d ∧ rd s (F.SAVE_TEAR_REASON n.val) ≠ 0 then rd s (F.SAVE_TEAR_REASON n.val) else 6
  sealStart s n 3 reason d 0 []
/-- Both void copies have passed: the count rises, the event, the next open generation unless a later one is already open (R156, R684). -/
def voidDone (s : State) (n : Stage) (d : Nat) : State :=
  let s := event (dscAdd s n 1 d) 0x20E 2 n.val d
  let s := setFsys s n { fsys s n with voided := insertNat (fsys s n).voided d }
  let s := if rd s (F.SAVE_TEAR_GEN n.val) = d then wr s (F.SAVE_TEAR_REASON n.val) 0 else s
  if openGen s n > d then s else wr (wr s (F.SAVE_OPEN_OPEN_GEN n.val) (d + 1)) (F.SAVE_OPEN_RECORDED n.val) 0

/-! Entry to Live (R186, R197). -/

/-- Frames restored so far. -/
def restoredCount (s : State) (n : Stage) : Nat := rd s (F.RESTORE_PROGRESS_FRAMES n.val)
/-- The heat region at the start of Live after a restore: each entry counts from the end of the list (R197). -/
def heatInit (list : List Nat) : NMap Nat :=
  (list.zipIdx).foldl (fun m e => if (mfind m e.1).isSome then m else mset 0 m e.1 (list.length - e.2)) []
/-- Both open-record copies have passed: the stage becomes Live, every frame clean, caps divided anew (R74, R87, R129, R145, R186, R201). -/
def goLiveNow (s : State) (n : Stage) (why : Nat) : State :=
  let s := wr s (F.SAVE_OPEN_RECORDED n.val) 1
  let s := stageTo s n .live
  let s := wr (ledgerClear s n) (F.RESTORE_STATUS_MEM_ACTIVE n.val) 1
  let s := setLedger { s with timers := mset 0 s.timers (timerSweep n.val) 0 } n { led s n with liveTick := tickOf s, notLiveLogged := false }
  let s := divideCap (wr (wr s (F.LDG_SWEEP_STATUS_SWEEPS n.val) 0) (F.LDG_SWEEP_STATUS_ACTIVE n.val) 0)
  let s := { s with heat := qset s.heat n { qget s.heat n with sampled := 0 } }
  let r := rst s n
  let s := setRst s n { r with goLive := none }
  let s := if why = 0 then
      let s := { s with heat := qset s.heat n { qget s.heat n with counts := heatInit r.heatList, ring := [], skip := 0 } }
      let s := wr s (F.RESTORE_TIMES_TO_LIVE_100US n.val) (satN 24 ((s.now - r.startTime) / (100 * unitsPerUs)))
      if r.pending then event s 0x303 0 n.val (restoredCount s n) else s
    else if why = 2 then event s 0x30D 0 n.val (openGen s n) else s
  if s.saveDev.gate then s
  else
    let s := setLedger s n { led s n with gated := false }
    let s := setSav s n { sav s n with phase := .none, alone := false }
    follow (strikeFollow (spaceFollow (reserveSet s n) n false) n) (if why = 2 then 0x10 else if why = 0 ∧ !r.pending then 0x07 else 0x06)

/-! Flush (R136 to R139). -/

/-- Frames of a stage that are not clean, ascending. -/
def dirtyFrames (s : State) (n : Stage) : List Nat := (led s n).ledger.map (·.1)

/-- The heat list: counts descending, ties by ascending frame, at most HEAT_MAX (R140, R196). -/
def heatOrder (m : NMap Nat) : List Nat :=
  let ins := fun (acc : List (Nat × Nat)) (e : Nat × Nat) => acc.takeWhile (fun q => q.2 ≥ e.2) ++ [e] ++ acc.dropWhile (fun q => q.2 ≥ e.2)
  (m.foldl ins []).map (·.1)

/-- The seal begins once every record it names has passed (R142). -/
def trySeal (s : State) (n : Stage) : State :=
  if (sav s n).phase ≠ .index ∨ !((fset s n).writers.filter (fun w => w.owner != 11)).isEmpty then s
  else
    match writerOf s n 11 with
    | some w =>
      if w.outstanding ≠ 0 then s
      else sealBegin (dropWriter s n 11) (w.entries.map (·.2))
    | none => sealBegin s []
where
  /-- Both seal copies queued: the metadata time ends (R142). META_10US is the longest saving stage's, as R169 says of FLUSH_10US (DESIGN CHOICE, log entry 149). -/
  sealBegin (s : State) (idx : List Nat) : State :=
    let t := satN 12 ((s.now - (sav s n).metaStart) / (10 * unitsPerUs))
    let s := whenS s.saveDev.gate (fun s => wr s F.SAVE_TIMES_META_10US (max t (rd s F.SAVE_TIMES_META_10US))) s
    let s := sealStart s n 1 0 (openGen s n) ((fset s n).seq - 1) idx
    savePhase (setSav s n { sav s n with sealStart := s.now }) n .seal

/-- The index codewords of the generation's records begin (R234, R237). -/
def indexStart (s : State) (n : Stage) : State :=
  let js := indexJobs (fset s n).genParts
  let s := savePhase s n .index
  if js.isEmpty then trySeal s n else recStart s n 11 true js

/-- A map checkpoint of the stage is due (R239). Before a stage's first checkpoint of a power cycle the 600 s count from tick 0 (DESIGN CHOICE, log entry 151). -/
def ckptIsDue (s : State) (n : Stage) : Bool :=
  decide ((fset s n).ckptFrames ≥ 16777216) || decide (s.now / unitsPerTick ≥ (fset s n).ckptTick + 19660800)
/-- After the metadata records: a checkpoint that was due at the gate instant, where R141 lets it be written; otherwise the index. Main input that has failed since the metadata phase began leaves it out as well (DESIGN CHOICE, log entry 125). -/
def ckptAtSave (s : State) (n : Stage) : State :=
  if (sav s n).ckptDue ∧ (fset s n).ckpt.isNone ∧ rdb s F.SAVE_CFG_CKPT_AT_SAVE ∧ s.saveDev.cause ≠ 8 ∧ !s.power.failed then
    ckptFeed (savePhase (ckptBegin s n) n .checkpoint) n
  else indexStart s n

/-- The reads of backstage for the metadata records: the frame-map lines of the map delta and the lines of the heat list (R266). -/
def metaReads (s : State) (n : Stage) : State :=
  let heat := ((heatOrder (qget s.heat n).counts).take (heatMax s)).foldl (fun ls f => insertNat ls (heatDpa s n f)) []
  let s := foldS (mapLinesOf ((fset s n).delta.map (·.1))) (fun s k => dramRead s 0 0 n (mapDpa s n k) .backstage) s
  foldS heat (fun s l => dramRead s 0 0 n l .backstage) s
/-- The metadata records in their order: ledger delta, map delta, heat list, relocations (R140, R241, R246). -/
def metaStart (s : State) (n : Stage) : State :=
  let x := fset s n
  let led_ := (packEntries 4 ((sav s n).lines.map (leBytes 4))).map (fun p => (6, p))
  let map_ := (packEntries 8 (x.delta.map (fun e => leBytes 4 e.1 ++ leBytes 4 (mget noCopy x.fmap e.1)))).map (fun p => (5, p))
  let heat_ := (packEntries 4 (((heatOrder (qget s.heat n).counts).take (heatMax s)).map (leBytes 4))).map (fun p => (7, p))
  let rel_ := (packEntries 12 (x.relocs.map (fun r => leBytes 4 r.1 ++ leBytes 4 r.2.1 ++ leBytes 4 r.2.2))).map (fun p => (8, p))
  let ps := led_ ++ map_ ++ heat_ ++ rel_
  let s := savePhase (setSav s n { sav s n with metaStart := s.now, ckptDue := (sav s n).ckptDue && !s.power.failed }) n (.metadata 0)
  let s := tablesStart (metaReads s n) n
  if ps.isEmpty then ckptAtSave s n else recStart s n 5 false ps

/-- The end of the flush of a stage (R136, R169, R171). -/
def flushEnd (s : State) (n : Stage) : State :=
  let t := satN 24 ((s.now - (sav s n).flushStart) / (10 * unitsPerUs))
  let s := whenS s.saveDev.gate (fun s => wr s F.SAVE_TIMES_FLUSH_10US (max t (rd s F.SAVE_TIMES_FLUSH_10US))) s
  metaStart (event s 0x202 0 n.val (sav s n).flushed) n

/-- The flush of a stage: every frame that is not clean is read at class 0, in ascending order; a frame the crossbar finds no resource for is written poisoned (R137, R139, R160). -/
def flushStart (s : State) (n : Stage) : State :=
  let fs := dirtyFrames s n
  let s := savePhase (setSav s n { sav s n with flushStart := s.now, outstanding := fs.length }) n .flush
  if fs.isEmpty then flushEnd s n
  else foldS fs (fun s f =>
    if (List.range 64).any (fun i => (mapLine s n (64 * f + i)).isNone) then gatherUnmapped s n f else gatherStart s n f true false) s

/-- A stage past its drain flushes once the link rails are off and its touch fetches are done; an abort begins no flush (R136, R153, R199). -/
def flushTry (s : State) (n : Stage) : State :=
  let x := sav s n
  if (¬ qget s.saveDev.saving n ∧ ¬ x.alone) ∨ (s.saveDev.gate ∧ s.saveDev.abort ≠ 0) then s
  else if x.phase ≠ .waitRails ∧ x.phase ≠ .touch then s
  else if s.saveDev.gate && !s.saveDev.railsOff then s
  else if !(led s n).held.isEmpty || !(led s n).tap.isEmpty || (rst s n).goLive.isSome then savePhase s n .touch
  else flushStart s n

/-! Drain (R132, R135, R199). -/

/-- Writes received before the gate begin to drain: a device save returns no completion for one still waiting, a withheld one included; a held write passes the tap without the cap test, unless its frame is not restored, which leaves it for its touch fetch; a write that waits for its ledger line or bitmap line goes on when the line comes (R132, R135, R199). -/
def drainBegin (s : State) (n : Stage) : State :=
  let quiet := fun (ws : List HostWrite) => if s.saveDev.gate then ws.map (fun w => { w with silent := true }) else ws
  let l := led s n
  let r := rst s n
  let s := setRst (setLedger s n { l with tap := quiet l.tap, held := quiet l.held, withheld := if s.saveDev.gate then [] else l.withheld }) n { r with bitWaitW := quiet r.bitWaitW }
  let s := foldS ((led s n).held.filter (fun w => isRestored s n (w.line / 64))) (fun s w => tapWrite (heldTake s n w) n { w with touch := false }) s
  ledRefresh (frontGo (holdEnd s n) n) n
/-- A write of the stage, or the read of a partial one, stands at a port of a DRAM scheduler: it is not in its queue yet (R132). -/
def writesAtPort (s : State) (n : Stage) : Bool :=
  let at_ := fun (r : DramReq) => r.port == 3 && r.stage == n && (r.write || r.pair != 0)
  fours.any (fun c => (subch s c false).waiting.any at_ || (subch s c true).waiting.any at_) || s.dram.remap.any (fun e => e.2.waiting.any at_)
/-- Every write received before the gate has passed the tap and reached its DRAM scheduler queue, but for those that wait for a touch fetch (R132, R136, R199). -/
def drainDone (s : State) (n : Stage) : Bool :=
  (led s n).tap.all (atFront s n) && (rst s n).bitWaitW.isEmpty && !writesAtPort s n
/-- The drain of a stage ends: event 0x20D where the residue exceeds the cap (R135, R136). -/
def drainStage (s : State) (n : Stage) : State :=
  let excess := residue s n - stageCap s n
  let s := whenS (decide (residue s n > stageCap s n)) (fun s => event s 0x20D 1 n.val excess) s
  let s := setSav s n { sav s n with lines := (led s n).lineCount.map (·.1) }
  ledRefresh (savePhase s n (if (led s n).held.isEmpty then .waitRails else .touch)) n

/-! The gate instant (R128, R129, R134, R161). -/

/-- Self-refresh entries begun and not committed on a stage's channels are aborted (R294). -/
def srAbort (s : State) (n : Stage) : State :=
  foldS (stageChans s n) (fun s c => foldS [false, true] (fun s b =>
    if (subch s c b).sr = .entering then
      incWrap (setSub s c b { subch s c b with sr := .awake, idleSince := s.now }) (F.DC_SR_COUNT_ABORTS c.val) 1
    else s) s) s

/-- A scan of a stage whose gate closes ends without completion (R391). -/
def scanStop (s : State) (n : Stage) : State :=
  match s.cxl.scan with
  | some x => if x.stage = n then { s with cxl := { s.cxl with scan := none, background := s.cxl.background.filter (fun b => b.opcode != 0x4304) } } else s
  | none => s
/-- What the gate ends in a stage: trickle with its sweep, strike, checkpoint stream, background reads (R85, R161, R198). Frames whose background read is discarded, or whose fetch is not issued, are read again later; a touch fetch that had joined such a read is fetched by itself; record reads of a map rebuild stay queued until the gate reopens. -/
def gateStage (s : State) (n : Stage) : State :=
  let s := scanStop (srAbort s n) n
  let l := led s n
  let s := wr (setLedger s n { l with queue := [], gathers := [], gated := true, sweep := none, sweepDue := false, sweepPaused := false }) (F.LDG_SWEEP_STATUS_ACTIVE n.val) 0
  let x := fset s n
  let keep := fun (u : ProgUse) => match u with
    | .trickle _ | .relocate .. | .record 3 _ => false
    | _ => true
  let s := setFset s n { x with
    jobs := x.jobs.filter (fun j => keep j.use)
    pages := x.pages.map (fun p => { p with slots := p.slots.filter (fun q => keep q.job.use) }) }
  let s := ckptPreempt s n
  let s := wr (setFsys s n { fsys s n with strikeOn := false, victim := none, moving := [] }) (F.FL_STAGE_STATUS_STRIKE_ACTIVE n.val) 0
  let s := wr s (F.FL_STAGE_STATUS_VICTIM_BAND n.val) 0xFFFF
  let held := fun (f : Nat) => (led s n).held.any (fun w => w.line / 64 == f)
  let waits := fun (f : Nat) => (qget s.flash.readQ n).any (fun r => r.use == .touch f)
  let q := (qget s.flash.readQ n).filter (fun r => match r.use with
    | .touch f => held f
    | .record => true
    | _ => false)
  let r := rst s n
  let t := r.touchQ.filter (fun t => held t.frame || r.writing.contains t.frame || (t.progress == 1 && !waits t.frame))
  let t := t.map (fun t => if r.reading.contains t.frame then { t with progress := 0 } else t)
  let s := { s with flash := { s.flash with readQ := qset s.flash.readQ n q } }
  let s := touchStatus (setRst s n { r with touchQ := t, next := (r.reading ++ r.touchQ.map (·.frame)).foldl min r.next, reading := [] }) n
  if r.pending ∨ stageSt s n = .restoring then event s 0x30C 0 n.val (hostFrames s n - restoredCount s n) else s

/-- The stage's flash set holds a sealed generation, as the clear headers of the seal logs show it (R43, R48). -/
def holdsSealed (s : State) (n : Stage) : Bool :=
  let log := fun (copy : Nat) =>
    let lun := houseLun s n copy
    (blockPages s n lun (sealBlock (fsys s n) copy).1).filterMap (fun p => (slotAt s lun p 0).bind (fun c =>
      if hOk c.header && hKind c.header == 2 && hStage c.header == n.val then
        some (⟨hSeq c.header, 0, hGen c.header, 0, 0, 0, 0, 0, 0, []⟩ : SealRec) else none))
  (newestSealed (log 0) (log 1)).isSome

/-- A Dressing that stops ends as R48 gives for a failed one (R129). -/
def dressStop (s : State) (n : Stage) : State :=
  stageTo s n (if holdsSealed s n then .sealed else .unbound)

/-- Bit of a four-fold flag set by a test. -/
def stagesWhere (f : Stage → Bool) : Quad Bool := qtab f

/-- A seal program of the stage has been issued: a copy is no longer queued, or has been tried before (R142, R143, R152). -/
def sealIssued (s : State) (n : Stage) : Bool :=
  (fsys s n).seals.any (fun j => j.sub == 1 && (decide (j.tries0 > 1) || decide (j.tries1 > 1) ||
    decide (((fset s n).sysQ.filter (fun q => hSeq q.placed.cw.header == 1 && hGen q.placed.cw.header == j.gen && hKind q.placed.cw.header == 2)).length < 2)))
/-- The gate instant: cause and post-seal action (R129, R130, R134, R161, R169). -/
def gateInstant (s : State) (cause action : Nat) : State :=
  let was := s.saveDev
  let committing := fun (n : Stage) => (rst s n).goLive.isSome && (fsys s n).seals.any (fun j => j.sub == 2)
  let saving := stagesWhere (fun n => stageSt s n == .live || stageSt s n == .restoring || committing n)
  let left := stagesWhere (fun n => stageSt s n == .restoring && !committing n)
  let s := { s with saveDev := { was with
    gate := true, gateTime := s.now, cause := cause, action := action, drained := false, railsOff := false, abort := 0
    lastCommit := s.now, anyTorn := false, saving := saving, restoring := left, intermissionDue := false, firstSeal := fours.any (fun n => qget saving n && sealIssued s n), linkDown := false } }
  let s := wr s F.SAVE_GATE_TICK_TICK (tickOf s)
  let s := setReg (setReg s 0x0C05 0#48) 0x0C06 0#48
  let s := wr s F.SAVE_STATUS_CAUSE cause
  let s := foldS fours (fun s n =>
    if stageSt s n = .dressing ∧ !committing n then dressStop s n
    else if qget saving n then
      let alone := (sav s n).alone
      let due := ckptIsDue s n
      let s := gateStage s n
      if qget left n then setSav s n { sav s n with phase := .leftSealed, gateTime := s.now, flushed := 0, poisoned := 0 }
      else
        let s := drainBegin s n
        if alone then s else setSav s n ⟨.drain, false, 0, 0, 0, [], s.now, s.now, s.now, s.now, 0, .none, due⟩
    else s) s
  let s := foldS fours (fun s n => if qget saving n then emit { s with cxl := { s.cxl with noWrite := qset s.cxl.noWrite n true } } (.credits n.val true) else s) s
  let s := whenS (decide (rd s F.GAUGE_REH_STATE ≠ 0)) (fun s => rehEnd s 3) s
  let s := housePreempt s (fun n => qget saving n)
  let s := modeTo s .save cause
  saveStatus (chgFollow (event s 0x201 0 0 (cause + 64 * mask4 (fun n => qget saving n))))

/-! Commit (R142, R49, R112). -/

/-- The second seal copy has passed: the commit point of a stage (R142). SEAL_US is the longest saving stage's (R169; DESIGN CHOICE, log entry 149). -/
def commitStage (s : State) (n : Stage) (gen : Nat) : State :=
  let x := fset s n
  let s := setFset s n { x with
    ckptSealed := x.ckptDone, sealedBad := x.badTable, sealedWear := x.wearTable
    delta := [], openFrames := [], relocs := [], relocBands := [], genParts := [] }
  let s := wr (wr s (F.SAVE_GEN_SEALED_GEN n.val) gen) (F.SAVE_GEN_VALID n.val) 1
  let s := wr (wr s (F.SAVE_OPEN_OPEN_GEN n.val) (gen + 1)) (F.SAVE_OPEN_RECORDED n.val) 0
  let us := satN 12 ((s.now - (sav s n).sealStart) / unitsPerUs)
  let s := whenS s.saveDev.gate (fun s => wr s F.SAVE_TIMES_SEAL_US (max us (rd s F.SAVE_TIMES_SEAL_US))) s
  let s := stageTo (ledgerClear s n) n .sealed
  let s := wr s (F.RESTORE_STATUS_MEM_ACTIVE n.val) 0
  let s := event { s with saveDev := { s.saveDev with lastCommit := s.now } } 0x203 0 n.val gen
  savePhase s n .committed

/-! Abort (R152, R153). -/

/-- Supply good in a save that may abort: no further program is issued (R152, R153 step 1). -/
def abortStart (s : State) : State := saveStatus { s with saveDev := { s.saveDev with abort := 1 } }
/-- Programs of saving stages are still outstanding. -/
def programsOut (s : State) : Bool :=
  (savingStages s).any (fun n => (stageFlashChs s n).any (fun c => (fch s c).ops.any (fun o => match o.act with
    | .program .. => true
    | _ => false)))
/-- An abort is withdrawn: the save goes on from where it stopped (R153 step 2). -/
def abortWithdraw (s : State) : State := saveStatus { s with saveDev := { s.saveDev with abort := 0 } }
/-- R85, as step 3 of R153; the metadata records written so far are superseded at the next seal. House, open and void records still queued are programmed after the gate reopens. -/
def abortLedger (s : State) (n : Stage) : State :=
  let l := led s n
  let s := setLedger s n { l with ledger := l.ledger.map (fun e => (e.1, if e.2 = 2 ∨ e.2 = 3 then 1 else e.2)), gathers := [], queue := [] }
  let s := setFsys (setFset s n { fset s n with genParts := [] }) n { fsys s n with seals := (fsys s n).seals.filter (fun j => j.sub != 1) }
  ledRefresh (dropQueued s n (fun q => !(hKind q.placed.cw.header == 2 && hSeq q.placed.cw.header == 1))) n

/-- The gate reopens after the resume run: held writes follow the ledger rules, restore and streams go on (R153 step 5, R133, R161). The device goes from Save to Service, the one transition R41 lists for an abort, and from there to Restore on the same clock where a stage is Restoring, as R40 gives (DESIGN CHOICE, log entry 116). -/
def gateReopen (s : State) : State :=
  let flushed := ((savingStages s).map (fun n => (sav s n).flushed)).sum
  let s := saveLast s 4
  let ns := savingStages s
  let down := s.saveDev.linkDown
  let s := { s with saveDev := { s.saveDev with gate := false, abort := 0, saving := qall false, restoring := qall false } }
  let s := event (wr s F.SAVE_STATUS_CAUSE 0) 0x204 1 0 flushed
  let s := modeFollow (modeTo s .service 0x0F) 0x05
  let s := foldS ns (fun s n =>
    let after := (led s n).afterGate
    let s := setLedger s n { led s n with gated := false, afterGate := [] }
    let s := setSav s n { sav s n with phase := .none, alone := false }
    let s := gateCredits s n
    let s := ckptFeed (ckptResume s n) n
    let s := if down then s else foldS after (fun s w => writeTouch s n w) s
    tablesStart (ledRefresh (touchRefill s n) n) n) s
  saveStatus (chgFollow (whenS (s.modes.mode = .service) learnedPending s))

end Sys2Proof.Machine
end

