-- ==== Sys2Proof/Machine/CueBase.lean ====
section
/-! DEFINITION. The cue memory, the rails and the sequencer's choice of a source (R443 to R458). -/

namespace Sys2Proof.Machine

/-! Cue memory (R447, R450, R451). -/

/-- A word of the cue memory. -/
def cueWord (s : State) (i : Nat) : Word := mget 0#48 s.power.cueMem i
/-- A run of words of the cue memory. -/
def cueWords (s : State) (a n : Nat) : List Word := (List.range n).map (fun i => cueWord s (a + i))
/-- The header is valid and the table CRC passes (R448, R450). -/
def tableValid (s : State) : Bool :=
  let w := (cueWord s 0).toNat
  bits w 0 16 == 1 && decide (36 ≤ bits w 16 11) && decide (bits w 16 11 ≤ 1280) &&
    bits (cueWord s 35).toNat 0 32 == crcWords (cueWords s 1 18 ++ cueWords s 29 6)
/-- Start and length of a program (R450). -/
def progPlace (s : State) (p : Nat) : Nat × Nat :=
  let w := (cueWord s (19 + 2 * p)).toNat
  (bits w 0 11, bits w 11 9)
/-- A program is present and its CRC passes. -/
def progValid (s : State) (p : Nat) : Bool :=
  let (a, n) := progPlace s p
  decide (p < 5) && bitOf (cueWord s (19 + 2 * p)).toNat 20 && decide (1 ≤ n) && decide (n ≤ 256) && decide (a + n ≤ 1280) &&
    bits (cueWord s (20 + 2 * p)).toNat 0 32 == crcWords (cueWords s a n)
/-- The masks of a valid section: PRESENT, CRITICAL, HOLD, LINK; the built-in sequence has rails 0 to 13 present and no others (R449, R450). -/
def presentMask (s : State) : Nat := if tableValid s then bits (cueWord s 1).toNat 0 16 else 0x3FFF
def criticalMask (s : State) : Nat := if tableValid s then bits (cueWord s 1).toNat 16 16 else 0
def holdMask (s : State) : Nat := if tableValid s then bits (cueWord s 1).toNat 32 16 else 0
def linkMask (s : State) : Nat := if tableValid s then bits (cueWord s 2).toNat 0 16 else 0
/-- A rail's attribute word (R451). -/
def railAttr (s : State) (r : Nat) : Nat := if tableValid s then (cueWord s (3 + r)).toNat else 0
/-- The stages in a rail's mask (R158). -/
def railStage (s : State) (r : Nat) (n : Stage) : Bool := bitOf (railAttr s r) n.val
/-- The monitor bound to a rail (R451). -/
def railMon (s : State) (r : Nat) : Option Nat := if bitOf (railAttr s r) 7 then some (bits (railAttr s r) 4 3) else none
/-- The predecessors of a rail that count: present ones (R450, R458). -/
def railPreds (s : State) (r : Nat) : Nat := bits (cueWord s (29 + r / 3)).toNat (16 * (r % 3)) 16 &&& presentMask s
/-- PROG_VALID and TABLE_VALID (R482). -/
def cueFlags (s : State) : State :=
  let ps := [0, 1, 2, 3, 4].foldl (fun a p => a + b2n (progValid s p) * 2 ^ p) 0
  wr (wr s F.CUE_STATUS_PROG_VALID ps) F.CUE_STATUS_TABLE_VALID (b2n (tableValid s))
/-- The cue memory replaced (R447). -/
def cueLoad (s : State) (ws : List Word) : State :=
  let m := (ws.zipIdx).foldl (fun (m : NMap Word) e => mset 0#48 m e.2 e.1) []
  cueFlags { s with power := { s.power with cueMem := m, cuePending := none } }

/-! Rails (R443, R444, R446). -/

/-- The rails of a mask. -/
def railsOf (m : Nat) : List Nat := (List.range 16).filter (bitOf m)
/-- A rail's monitor is in its window (R444). -/
def monOk (s : State) (r : Nat) : Bool :=
  (railMon s r).elim true (fun c => !rdb s (F.PWR_VMON_DATA_LOW c) && !rdb s (F.PWR_VMON_DATA_HIGH c))
/-- A rail shows RAIL_PG high with its monitor in window (R453). -/
def railGood (s : State) (r : Nat) : Bool := bitOf (rd s F.PWR_RAIL_STATUS_PG) r && monOk s r
/-- A rail shows RAIL_PG low with its monitor below the discharge threshold (R453). -/
def railOff (s : State) (r : Nat) : Bool :=
  !bitOf (rd s F.PWR_RAIL_STATUS_PG) r && (railMon s r).elim true (fun c => decide (rd s (F.PWR_VMON_DATA_MV c) < bits (railAttr s r) 8 16))
/-- The RAIL_EN outputs changed. -/
def setEn (s : State) (v : Nat) : State :=
  if rd s F.PWR_RAIL_STATUS_EN = v then s else emit (wr s F.PWR_RAIL_STATUS_EN v) (.railEn (BitVec.ofNat 16 v))
/-- Rails driven high; never the rehearsal rail (R501). -/
def railsOn (s : State) (m : Nat) : State := setEn s (rd s F.PWR_RAIL_STATUS_EN ||| (m &&& (65535 - rehMask s)))
/-- Rails driven low; they leave the watch (R443, R453). -/
def railsDown (s : State) (m : Nat) : State :=
  let s := setEn s (rd s F.PWR_RAIL_STATUS_EN &&& (65535 - m))
  wr s F.PWR_RAIL_STATUS_WATCHED (rd s F.PWR_RAIL_STATUS_WATCHED &&& (65535 - m))
/-- Rails found good: they enter the watch; a POWER_UP clears their fault (R443, R446). -/
def railsFound (s : State) (m : Nat) (up : Bool) : State :=
  let s := wr s F.PWR_RAIL_STATUS_WATCHED (rd s F.PWR_RAIL_STATUS_WATCHED ||| m)
  if up then wr s F.PWR_RAIL_FAULT_FAULTED (rd s F.PWR_RAIL_FAULT_FAULTED &&& (65535 - m)) else s
/-- A rail is critical. -/
def railCritical (s : State) (r : Nat) : Bool := bitOf (criticalMask s) r

/-- The number that stands for a core PLL among the failed critical rails: its mask holds every stage (R672). -/
def pllRail : Nat := 16
/-- No stage in the mask of a failed critical rail may leave Sealed or Unbound until the next power-up; neither may any in recovery or under the over-temperature trip (R45, R445, R446). -/
def stageBlocked (s : State) (n : Stage) : Bool :=
  s.modes.recovery || rdb s F.PWR_THERM_TRIPPED || bitOf s.power.blocked pllRail || (List.range 16).any (fun r => bitOf s.power.blocked r && railStage s r n)

/-! Runs (R448, R452, R455). -/

/-- The report code of a program (R452). -/
def reportCode (p : Nat) : Nat := if p = 0 then 5 else p
/-- No image is in effect since the latest boot: the built-in sequence runs (R524). -/
def noImage (s : State) : Bool := s.modes.mode ≠ .dark && s.modes.mode ≠ .hold && !s.modes.booting && !s.modes.recovery && !rdb s F.IMG_STATUS_VALID
/-- The source of a sequence, and whether the resume run executes POWER_UP restricted (R448, R457, R524). -/
def cueSource (s : State) (p : Nat) : Nat × Bool :=
  if !tableValid s || noImage s then (2, false)
  else if rdb s F.CUE_CFG_FORCE_TABLE then (1, false)
  else if progValid s p then (0, false)
  else if p = 4 ∧ progValid s 0 then (0, true)
  else (1, false)
/-- A run put in place with its status and event 0x805 (R448, R482). -/
def cueBegin (s : State) (p : Nat) : State :=
  let (src, restrict) := cueSource s p
  let s := { s with power := { s.power with run := some ⟨p, src, restrict, 0, .none, 0⟩ } }
  let s := wr (wr (wr s F.CUE_STATUS_RUNNING (reportCode p)) F.CUE_STATUS_SOURCE src) F.CUE_STATUS_PC 0
  let s := if p = 0 then wr s F.CUE_STATUS_COMMITTED 0 else if p = 1 then wr s F.CUE_STATUS_COMMITTED 1 else s
  if src = 0 then s else event s 0x805 1 0 (reportCode p + b2n (src == 2) * 8)
/-- The run's bookkeeping at its end: result 0 pass, 1 fail, 2 ended by another; a waiting cue section is written then (R447, R482). -/
def cueClear (s : State) (result : Nat) : State :=
  match s.power.run with
  | none => s
  | some r =>
    let s := wr (wr { s with power := { s.power with run := none } } F.CUE_STATUS_RUNNING 0) F.CUE_STATUS_LAST_RESULT result
    let s := if result = 0 then event s 0x801 0 0 (reportCode r.prog + r.source * 8) else s
    match s.power.cuePending with
    | some ws => if r.prog = 1 then { s with power := { s.power with cuePending := none } } else cueLoad s ws
    | none => s
/-- The run's wait changed. -/
def cueWait (s : State) (w : CueWait) : State :=
  { s with power := { s.power with run := s.power.run.map (fun r => { r with wait := w }) } }
/-- CUE_LAST_FAIL and event 0x802 (R459, R482). -/
def cueFailed (s : State) (rail kind : Nat) : State :=
  match s.power.run with
  | none => s
  | some r =>
    let p := reportCode r.prog
    let s := wr (wr (wr s F.CUE_LAST_FAIL_PROGRAM p) F.CUE_LAST_FAIL_WORD r.pc) F.CUE_LAST_FAIL_RAIL rail
    let s := wr (wr s F.CUE_LAST_FAIL_KIND kind) F.CUE_LAST_FAIL_TICK (tickOf s)
    event s 0x802 2 0 (p + r.pc % 256 * 8 + rail * 2048 + kind * 2 ^ 15)

/-- The word a program run stands at; a restricted resume run executes POWER_UP's (R453, R457). -/
def cueInstr (s : State) : Option Nat :=
  s.power.run.bind fun r =>
    if r.source = 0 then
      let (a, n) := progPlace s (if r.restrict then 0 else r.prog)
      if r.pc < n then some (cueWord s (a + r.pc)).toNat else none
    else none
/-- The instruction a run stands at, if it waits for nothing and its opcode is the one given. -/
def cueAt (s : State) (op : Nat) : Option (CueRun × Nat) :=
  match s.power.run, cueInstr s with
  | some r, some w => if r.wait = .none ∧ w / 2 ^ 42 = op then some (r, w) else none
  | _, _ => none
/-- A run moved to a word. -/
def cuePc (s : State) (k : Nat) : State :=
  wr { s with power := { s.power with run := s.power.run.map (fun r => { r with pc := k, wait := .none }) } } F.CUE_STATUS_PC k
/-- The mask of an ENABLE or WAIT_GOOD as the run takes it (R457). -/
def cueMask (s : State) (r : CueRun) (m : Nat) : Nat := if r.restrict then m &&& linkMask s else m

/-! Passes of the dependency table (R458). -/

/-- The rails a program of the dependency table works on. -/
def depTargets (s : State) (p : Nat) : Nat :=
  match p with
  | 0 => presentMask s
  | 1 => 65535
  | 2 => linkMask s
  | 3 => 65535 - holdMask s
  | _ => linkMask s
/-- The program switches rails on. -/
def depUp (p : Nat) : Bool := p = 0 || p ≥ 4
/-- Rails still to do. -/
def depLeft (s : State) (p : Nat) : Nat :=
  let en := rd s F.PWR_RAIL_STATUS_EN
  if depUp p then depTargets s p &&& (65535 - en) else depTargets s p &&& en
/-- A predecessor is good: watched, or switched on, not failed and found good as the pass looks at it (R443, R458; DEDUCED, log entry 138). -/
def predGood (s : State) (r : Nat) : Bool :=
  bitOf (rd s F.PWR_RAIL_STATUS_WATCHED) r || (bitOf (rd s F.PWR_RAIL_STATUS_EN) r && railGood s r && !bitOf (rd s F.PWR_RAIL_FAULT_FAULTED) r)
/-- The rails of the next pass (R458). -/
def depPass (s : State) (p : Nat) : Nat :=
  let en := rd s F.PWR_RAIL_STATUS_EN
  let left := railsOf (depLeft s p)
  let ok := fun r => if depUp p then (railsOf (railPreds s r)).all (predGood s)
    else !(railsOf (en &&& presentMask s)).any (fun q => q != r && bitOf (railPreds s q) r)
  (left.filter ok).foldl (fun a r => a + 2 ^ r) 0

/-- PG_TIMEOUT and DISCHARGE as taken (R481, R482). -/
def pgTimeout (s : State) : Nat := max 1 (rd s F.PWR_RETRY_PG_TIMEOUT)
def dischargeTicks (s : State) : Nat := max 1 (rd s F.CUE_CFG_DISCHARGE)

end Sys2Proof.Machine
end

