-- ==== Sys2Proof/Machine/RestoreOps.lean ====
section
/-! DEFINITION. The restore of a stage: locating the generation, rebuilding the frame map, copying frames, touch service, going Live, intermission resume of a stage (chapter 05). -/

namespace Sys2Proof.Machine

/-! Reads of records (R172, R176). -/

/-- PHASE of RESTORE_STATUS (R206). -/
def restorePhase (s : State) (n : Stage) (k : Nat) : State := wr s (F.RESTORE_STATUS_PHASE n.val) k

/-- The codewords a phase needs are queued for reading; one on a flash channel that is not the stage's cannot be had (R22). -/
def wantRead (s : State) (n : Stage) (p : RPhase) (es : List Nat) : State :=
  let all := es.eraseDups
  let mine := all.filter (flashMine s n)
  let s := foldS (all.filter (fun e => !flashMine s n e)) (fun s e => xbarFault s n 1 (lunCh (entryLun e))) s
  let s := setRst s n { rst s n with phase := p, want := es, got := [], outstanding := mine.length }
  let q := (qget s.flash.readQ n) ++ mine.map (fun e => ⟨.record, e, 1, 0⟩)
  { s with flash := { s.flash with readQ := qset s.flash.readQ n q } }

/-- What a phase read, in the order wanted. -/
def wanted (r : RestoreState) : List (Option (List Byte × List Byte)) := r.want.map (fun e => (mget none r.got e))

/-- Entries of every programmed page of a block, slot 0. -/
def blockEntries (s : State) (n : Stage) (lun b : Nat) : List Nat := (blockPages s n lun b).map (pageEntry lun)

/-! The outcome of the map rebuild (R178, R184, R185, R302). -/

/-- Frames of the heat list to restore before the stage may go Live (R185, R204). -/
def earlyFrames (s : State) (n : Stage) : Nat := max 1 (rd s (F.RESTORE_CFG_EARLY_MIB n.val)) * 256

/-- The early condition: the heat list's first frames, or the whole list, are restored (R185). -/
def earlyReady (s : State) (n : Stage) : Bool :=
  let r := rst s n
  ((r.heatList.filter (fun f => decide (f < hostFrames s n))).take (earlyFrames s n)).all (fun f => r.restored.contains f)

/-- The stage's open record begins once it may become Live (R145, R184, R185). -/
def liveTry (s : State) (n : Stage) : State :=
  let r := rst s n
  if stageSt s n ≠ .restoring ∨ r.phase ≠ .copy ∨ r.goLive.isSome ∨ s.saveDev.gate then s
  else if (rdb s (F.RESTORE_CFG_TOUCH_EN n.val) && earlyReady s n) || !r.pending then openRecord s n (openGen s n) 0
  else s

/-- The map is rebuilt: event 0x302, copying begins (R176, R178, R179). -/
def mapRebuilt (s : State) (n : Stage) : State :=
  let r := rst s n
  let s := foldS (mapLinesOf ((fset s n).fmap.map (·.1))) (fun s k => dramWrite s 5 3 n (mapDpa s n k) (mapLineData s n k) false .mapWrite) s
  let s := event s 0x302 0 n.val (satN 32 ((s.now - r.rebuildStart) / unitsPerUs))
  let s := restorePhase s n (if r.heatList.isEmpty then 4 else 3)
  liveTry (setRst s n { r with phase := .copy, heatPos := 0, next := 0, restored := [], writing := [], reading := [], pending := true, got := [], want := [] }) n

/-! Full scan (R173, R177). -/

/-- A generation's copies may be restored: at most G, not void, and sealed as far as the logs still tell (R173). -/
def genUsable (s : State) (n : Stage) (g : Nat) : Bool :=
  let r := rst s n
  let oldest := r.sealed.foldl (fun m q => min m q.gen) (rd s (F.RESTORE_GEN_GEN n.val))
  decide (g ≤ rd s (F.RESTORE_GEN_GEN n.val)) && !r.voids.contains g && (r.sealed.any (fun q => q.gen == g) || decide (g < oldest))

/-- A pair (generation, sequence) that is not less than another. -/
def copyNewer (a b : Nat × Nat) : Bool := decide (a.1 > b.1) || (a.1 == b.1 && decide (a.2 ≥ b.2))

/-- A frame copy as a scan found it: generation, sequence, whether its tag verified, and its entry. -/
abbrev ScanCopy := Nat × Nat × Bool × Nat
/-- The copy that a map entry names, as its header shows it, if it is one of the frame. -/
def entryCopy (s : State) (f e : Nat) : Option ScanCopy :=
  (entryCw s e).bind (fun c => if hOk c.header && hKind c.header == 0 && hNumber c.header == f then some (hGen c.header, hSeq c.header, true, e) else none)
/-- A scanned copy takes the place of another: a greater pair of generation and sequence, or an equal one that decodes where the other does not (R173, R177). -/
def copyBetter (a b : ScanCopy) : Bool :=
  if a.1 = b.1 ∧ a.2.1 = b.2.1 then a.2.2.1 || !b.2.2.1 else copyNewer (a.1, a.2.1) (b.1, b.2.1)
/-- The newest copy of each frame among the codewords scanned and those that the map held before (R173, R177). -/
def scanMap (s : State) (n : Stage) (base : NMap Nat) : NMap Nat :=
  (rst s n).got.foldl (fun (m : NMap Nat) e =>
    match e.2 with
    | some (h, p) =>
      if hKind h = 0 ∧ genUsable s n (hGen h) then
        let a : ScanCopy := (hGen h, hSeq h, !p.isEmpty, e.1)
        let old := mget noCopy m (hNumber h)
        match (entryCopy s (hNumber h) old).map (fun b => (b.1, b.2.1, (rst s n).got.all (fun q => q.1 != old || q.2.elim false (fun x => !x.2.isEmpty)), old)) with
        | some b => if copyBetter a b then mset noCopy m (hNumber h) e.1 else m
        | none => mset noCopy m (hNumber h) e.1
      else m
    | none => m) base

/-- A frame copy that was relocated after the map as it stands was written: the map names another place, which holds nothing of the frame any more or the same copy (R177, R246). -/
def movedLater (s : State) (n : Stage) (q : Nat × Codeword) : Bool :=
  let h := q.2.header
  let e := mget noCopy (fset s n).fmap (hNumber h)
  hKind h == 0 && decide (e ≠ q.1) && (entryCopy s (hNumber h) e).elim true (fun c => c.1 == hGen h && c.2.1 == hSeq h)
/-- A record of the rebuild cannot be decoded: frame headers are scanned, event 0x308 with its generation (R177). The whole set is scanned from an empty map; after a lost map delta the bands written in its generation and each later one, those that hold only codewords relocated there included, on the map as the earlier generations leave it. -/
def scanStart (s : State) (n : Stage) (gen : Nat) (whole : Bool) : State :=
  let s := event (wr s (F.RESTORE_STATUS_FULL_SCAN n.val) 1) 0x308 1 n.val gen
  let s := if whole then setFset s n { fset s n with fmap := [] } else s
  let bands := (List.range (blocksPer s n)).filter (fun b => whole || (bandWords s n b).any (fun q => hOk q.2.header && (decide (hGen q.2.header ≥ gen) || movedLater s n q)))
  wantRead s n .scan (bands.flatMap (fun b => (bandWords s n b).map (·.1)))

/-! Deltas (R176, R241, R242). -/

/-- The entries of a payload, `size` bytes each, up to the first that is all ones. -/
def unpackEntries (size : Nat) (p : List Byte) : List (List Byte) :=
  ((chunks size p).take (4096 / size)).takeWhile (fun e => e != List.replicate size 0xFF#8)

/-- The entries of a record of several payloads. -/
def unpackRecord (size : Nat) (p : List Byte) : List (List Byte) := (chunks 4096 p).flatMap (unpackEntries size)

/-- Map deltas of one generation, then its relocations, applied in record order (R176, R242). -/
def applyGen (m : NMap Nat) (rs : List (List Byte × List Byte)) : NMap Nat :=
  let m := (rs.filter (fun r => hKind r.1 == 5)).foldl (fun m r =>
    (unpackEntries 8 r.2).foldl (fun m e => mset noCopy m (bits (leNat (slice e 0 4)) 0 29) (leNat (slice e 4 4))) m) m
  (rs.filter (fun r => hKind r.1 == 8)).foldl (fun m r =>
    (unpackEntries 12 r.2).foldl (fun m e =>
      let f := bits (leNat (slice e 0 4)) 0 29
      if mget noCopy m f = leNat (slice e 4 4) then mset noCopy m f (leNat (slice e 8 4)) else m) m) m

/-- The heat list as read back, hottest first (R179, R241). -/
def heatOf (rs : List (List Byte × List Byte)) : List Nat :=
  (rs.filter (fun r => hKind r.1 == 7)).flatMap (fun r => (unpackEntries 4 r.2).map (fun e => bits (leNat e) 0 29))

/-- The generations whose deltas are applied, ascending (R176). -/
def deltaGens (s : State) (n : Stage) : List SealRec :=
  ((rst s n).sealed.filter (fun q => decide (q.gen ≥ (rst s n).ckptGen))).reverse

/-- The first generation from the checkpoint on that the logs do not account for (R177). -/
def chainBreak (s : State) (n : Stage) : Option Nat :=
  let r := rst s n
  let lo := max 1 r.ckptGen
  ((List.range (rd s (F.RESTORE_GEN_GEN n.val) + 1 - lo)).map (lo + ·)).find? (fun g => !(r.sealed.any (fun q => q.gen == g) || r.voids.contains g))

/-! The sequence of phases. -/

/-- The restore stops: no readable log or no sealed generation (R174). -/
def restoreStop (s : State) (n : Stage) : State :=
  let s := restorePhase s n 6
  let s := event (setRst s n { rst s n with phase := .idle, pending := false }) 0x309 2 n.val 0
  follow (stageTo s n .sealed) 0x19

/-- The index codewords of the generations to apply are read next; where a generation is missing the set is scanned. -/
def gensStart (s : State) (n : Stage) : State :=
  match chainBreak s n with
  | none => wantRead s n .genIndex ((deltaGens s n).flatMap (·.index))
  | some g => scanStart s n g true

/-- The next checkpoint candidate tried; none left means the deltas from the stage's first generation (R175, R177). -/
def candNext (s : State) (n : Stage) : State :=
  match (rst s n).cands with
  | [] => gensStart (setFset (setRst s n { rst s n with ckptGen := 0 }) n { fset s n with fmap := [] }) n
  | c :: _ => wantRead s n .ckptDone [c.ckpt]
/-- A checkpoint that cannot be used passed over (R177). -/
def candDrop (s : State) (n : Stage) : State := candNext (setRst s n { rst s n with cands := (rst s n).cands.drop 1 }) n

/-- A dead generation found gets its void record, unless one is being written (R156). -/
def deadVoid (s : State) (n : Stage) (a b : List SealRec) : State :=
  match deadGen a b with
  | some d => if (fsys s n).voided.contains d || (fsys s n).seals.any (fun j => j.sub == 3 && j.gen == d) then s else voidStart s n d
  | none => s
/-- The end of locating: G, the dead generation's void record, the candidates (R156, R172, R174, R175). -/
def locateDone (s : State) (n : Stage) (a b : List SealRec) : State :=
  match newestSealed a b with
  | none => restoreStop (deadVoid s n a b) n
  | some g =>
    let voids := ((a ++ b).filter (fun r => r.sub == 3)).map (·.gen)
    let rs := sealedRecs a b
    let cands := (rs.filter (fun q => q.ckpt != noCopy)).foldl (fun (acc : List SealRec) q => if acc.any (fun x => x.ckpt == q.ckpt) then acc else acc ++ [q]) []
    let top := (a ++ b).foldl (fun m r => max m r.gen) 0
    let s := wr (wr s (F.SAVE_GEN_SEALED_GEN n.val) g) (F.SAVE_GEN_VALID n.val) 1
    let s := wr (wr s (F.SAVE_OPEN_OPEN_GEN n.val) (top + 1)) (F.SAVE_OPEN_RECORDED n.val) 0
    let s := event (wr (deadVoid s n a b) (F.RESTORE_GEN_GEN n.val) g) 0x301 0 n.val g
    let s := setFsys s n { fsys s n with voided := (voidedBoth a b).foldl insertNat (fsys s n).voided }
    let s := setRst s n { rst s n with sealed := rs, voids := voids, cands := cands, rebuildStart := s.now }
    candNext (restorePhase s n 2) n

/-- Seal-log records among what was read from one house LUN. -/
def sealsRead (s : State) (n : Stage) (copy : Nat) : List SealRec :=
  let r := rst s n
  (r.want.filter (fun e => entryLun e == houseLun s n copy)).filterMap (fun e =>
    (mget none r.got e).bind (fun q => if hKind q.1 = 2 then some (parseSeal q.2) else none))

/-- One phase of the rebuild ended: what it read decides the next (R172 to R177). -/
def restorePhaseEnd (s : State) (n : Stage) : State :=
  let r := rst s n
  let all := wanted r
  let whole := all.all (·.isSome)
  let got := all.filterMap id
  match r.phase with
  | .house =>
    let best := (got.filterMap (fun q => if hKind q.1 = 1 then parseHouse q.2 else none)).foldl (fun (acc : Option HouseRec) h =>
      match acc with
      | none => some h
      | some q => if h.update ≥ q.update then some h else some q) none
    let s := match best with
      | some h => setFsys s n { fsys s n with update := h.update, blockA := h.sealA, blockB := h.sealB, houseBytes := h.hash }
      | none => s
    wantRead s n .logs (blockEntries s n (houseLun s n 0) (fsys s n).blockA ++ blockEntries s n (houseLun s n 1) (fsys s n).blockB)
  | .logs => locateDone s n (sealsRead s n 0) (sealsRead s n 1)
  | .ckptDone =>
    match all.head? with
    | some (some (h, p)) =>
      if hKind h = 4 ∧ genUsable s n (hGen h) ∧ genUsable s n (leNat (slice p 0 4)) then
        let k := min 960 (leNat (slice p 12 2))
        let s := setRst s n { r with ckptGen := leNat (slice p 0 4), ckptHash := slice p 16 32 }
        wantRead s n .ckptIndex ((List.range k).map (fun i => leNat (slice p (48 + 4 * i) 4)))
      else candDrop s n
    | _ => candDrop s n
  | .ckptIndex => if whole then wantRead s n .ckptData (got.flatMap (fun q => indexEntries q.2)) else candDrop s n
  | .ckptData =>
    let bytes := got.flatMap (·.2)
    if whole ∧ sha256 bytes = r.ckptHash then
      let m := (got.zipIdx).foldl (fun (m : NMap Nat) e =>
        (List.range 1024).foldl (fun m i => mset noCopy m (1024 * e.2 + i) (leNat (slice e.1.2 (4 * i) 4))) m) []
      gensStart (setFset s n { fset s n with fmap := m }) n
    else candDrop s n
  | .genIndex =>
    if whole then
      let of_ := (deltaGens s n).flatMap (fun q => q.index.flatMap (fun i => (mget none r.got i).elim [] (fun x => (indexEntries x.2).map (fun e => (e, q.gen)))))
      wantRead (setRst s n { r with deltaOf := of_.foldl (fun m e => mput m e.1 e.2) [] }) n .deltas (got.flatMap (fun q => indexEntries q.2))
    else
      let lost := (deltaGens s n).find? (fun q => q.index.any (fun i => (mget none r.got i).isNone))
      scanStart s n (lost.elim 0 (·.gen)) true
  | .deltas =>
    let g := rd s (F.RESTORE_GEN_GEN n.val)
    let gens := (deltaGens s n).map (·.gen)
    let s := setRst s n { r with heatList := heatOf (got.filter (fun q => hGen q.1 == g)) }
    let lost := (r.want.zip all).filter (fun e => e.2.isNone && !((entryCw s e.1).elim false (fun c => hOk c.header && (hKind c.header == 6 || hKind c.header == 7))))
    let upTo := fun (stop : Option Nat) => (gens.filter (fun k => stop.elim true (fun q => decide (k < q)))).foldl (fun m k => applyGen m (got.filter (fun q => hGen q.1 == k))) (fset s n).fmap
    match lost with
    | e :: es =>
      let first := es.foldl (fun q x => min q (mget g r.deltaOf x.1)) (mget g r.deltaOf e.1)
      let newest := (r.sealed.find? (fun q => q.ckpt != noCopy)).map (·.ckpt)
      if newest.isSome ∧ (r.cands.head?).map (·.ckpt) = newest then
        let s := wr s (F.RESTORE_GEN_DELTAS n.val) (satN 8 (gens.filter (fun k => decide (k < first))).length)
        scanStart (setFset s n { fset s n with fmap := upTo (some first) }) n first false
      else scanStart s n first true
    | [] =>
      let m := upTo none
      mapRebuilt (wr (setFset s n { fset s n with fmap := m }) (F.RESTORE_GEN_DELTAS n.val) (satN 8 gens.length)) n
  | .scan =>
    let g := rd s (F.RESTORE_GEN_GEN n.val)
    let heat := if r.heatList.isEmpty then heatOf (got.filter (fun q => hGen q.1 == g)) else r.heatList
    let s := setFset s n { fset s n with fmap := scanMap s n (fset s n).fmap }
    mapRebuilt (setRst s n { rst s n with heatList := heat }) n
  | _ => s

/-- Phases that need nothing read end at once; each phase is entered at most once for each candidate. -/
def restoreRun : Nat → State → Stage → State
  | 0, s, _ => s
  | fuel + 1, s, n =>
    let r := rst s n
    if r.phase = .idle ∨ r.phase = .copy ∨ r.outstanding ≠ 0 then s else restoreRun fuel (restorePhaseEnd s n) n

/-- The phases as far as they go without a read; a rebuild that a gate instant met waits for the gate to reopen or for intermission (R161, R198). -/
def restoreGo (s : State) (n : Stage) : State :=
  if s.saveDev.gate ∨ stageSt s n ≠ .restoring then s else restoreRun (16 + 4 * (rst s n).cands.length + 4096) s n

/-- A record codeword read for the restore has come back, or cannot be decoded. -/
def recordRead (s : State) (n : Stage) (e : Nat) (v : Option (List Byte × List Byte)) : State :=
  let r := rst s n
  if r.outstanding = 0 then s
  else restoreGo (setRst s n { r with got := mset none r.got e v, outstanding := r.outstanding - 1 }) n

/-- Restore start: Sealed to Restoring, registers cleared, ledger clean, the house record is read first (R112, R172, R207, R208). -/
def restoreStart (s : State) (n : Stage) : State :=
  let s := ledgerClear (stageTo s n .restoring) n
  let s := setReg (setReg (setReg s (F.RESTORE_GEN_GEN n.val).idx 0#48) (F.RESTORE_PROGRESS_FRAMES n.val).idx 0#48) (F.RESTORE_POISONED_FRAMES n.val).idx 0#48
  let s := setReg (setReg s (F.RESTORE_TIMES_TO_DONE_10MS n.val).idx 0#48) (F.RESTORE_TOUCH_COUNT_COUNT n.val).idx 0#48
  let s := restorePhase (wr s (F.RESTORE_STATUS_FULL_SCAN n.val) 0) n 1
  let s := setRst s n { rst s n with
    sealed := [], voids := [], cands := [], deltaOf := [], ckptGen := 0, ckptHash := [], heatList := [], heatPos := 0, next := 0, restored := [], writing := [], reading := []
    touchQ := [], heldReads := [], startTime := s.now, pending := false, goLive := none, waitResume := false, kept := false }
  let s := follow s 0x05
  let s := wantRead s n .house (blockEntries s n (houseLun s n 0) (fsys s n).houseA ++ blockEntries s n (houseLun s n 1) (fsys s n).houseB)
  restoreGo s n

/-! Copying frames (R178 to R183). -/

/-- The 64 line writes of a frame: zeros, the codeword's data, or the poison pattern (R178 to R180, R182). Behind a closed gate the save engine's port does a touch fetch's (R199, R266). -/
def frameWrite (s : State) (n : Stage) (f : Nat) (touch : Bool) (data : Option (List Byte)) : State :=
  let r := rst s n
  let s := setRst s n { r with writing := insertNat r.writing f, reading := r.reading.filter (· ≠ f) }
  foldS (List.range 64) (fun s i =>
    let d := match data with
      | some bs => bytesLine (slice bs (64 * i) 64)
      | none => 0#512
    if touch then dramWrite s (if (led s n).gated then 0 else 1) 0 n (64 * f + i) d data.isNone (.touchWrite f)
    else dramWrite s 5 3 n (64 * f + i) d data.isNone (.restoreWrite f)) s

/-- A frame poisoned: event, count, poison-list entry of 64 lines (R182, R389). -/
def framePoison (s : State) (n : Stage) (f : Nat) (touch : Bool) (code sev : Nat) : State :=
  let s := incSat (event s code sev n.val f) (F.RESTORE_POISONED_FRAMES n.val) 1
  frameWrite (poisonAdd s n ⟨64 * f, 64, false⟩) n f touch none

/-- The first of `k` numbers from `f` on that satisfies a test. -/
def firstFrom (p : Nat → Bool) : Nat → Nat → Option Nat
  | 0, _ => none
  | k + 1, f => if p f then some f else firstFrom p k (f + 1)

/-- The next frame in the order of R179 that is neither restored nor on its way. -/
def nextFrame (s : State) (n : Stage) : Option Nat :=
  let r := rst s n
  let free := fun f => decide (f < hostFrames s n) && !r.restored.contains f && !r.writing.contains f && !r.reading.contains f &&
    !r.touchQ.any (fun t => t.frame == f)
  match (r.heatList.drop r.heatPos).find? free with
  | some f => some f
  | none => firstFrom free (hostFrames s n - r.next) r.next

/-- The restore copies frames now: the stage Restoring or Live with its restore pending, no gate (R51, R161). -/
def copying (s : State) (n : Stage) : Bool :=
  (rst s n).phase == .copy && (rst s n).pending && !s.saveDev.gate && (stageSt s n == .restoring || stageSt s n == .live)

/-! A frame restored (R180, R184, R185, R191, R199). -/

/-- A held access leaves the touch service: the longest hold (R208). -/
def touchHeld (s : State) (n : Stage) (since : Nat) : State :=
  let us := satN 32 ((s.now - since) / unitsPerUs)
  if us > rd s (F.RESTORE_TOUCH_MAX_MAX_US n.val) then wr s (F.RESTORE_TOUCH_MAX_MAX_US n.val) us else s

/-- A held write whose frame is restored: behind a closed gate it passes the tap without the cap test; at the cap, or for flash space, a first touch stays held; else it is at the tap again (R91, R180, R191, R199). -/
def touchWriteGo (s : State) (n : Stage) (w : HostWrite) : State :=
  let s := touchHeld s n w.since
  let w' := { w with touch := false }
  if s.saveDev.gate || (led s n).gated then tapWrite (heldTake s n w) n { w' with silent := w.silent || s.saveDev.gate }
  else if capHolds s n && firstTouch s n (w.line / 64) then
    holdBegin (setLedger s n { led s n with held := updFirst (· == w) (fun _ => w') (led s n).held }) n
  else tapWrite (heldTake s n w) n w'

/-- Held reads and writes of a restored frame released (R180, R191, R199). -/
def frameRelease (s : State) (n : Stage) (f : Nat) : State :=
  let r := rst s n
  let hs := r.heldReads.filter (fun h => h.line / 64 == f)
  let s := setRst s n { r with heldReads := r.heldReads.filter (fun h => h.line / 64 != f), touchQ := r.touchQ.filter (fun t => t.frame != f) }
  let s := foldS hs (fun s h => readIssue (touchHeld s n h.since) n h) (readRoom s n)
  let s := foldS ((led s n).held.filter (fun w => w.touch && w.line / 64 == f)) (fun s w => touchWriteGo s n w) s
  touchStatus (touchRefill (readsGo (frontGo (holdEnd (ledRefresh s n) n) n) n) n) n

/-- The last frame is restored (R184, R207). -/
def restoreComplete (s : State) (n : Stage) : State :=
  let r := rst s n
  let s := restorePhase (setRst s n { r with pending := false }) n 5
  let s := wr s (F.RESTORE_TIMES_TO_DONE_10MS n.val) (satN 24 ((s.now - r.startTime) / (10000 * unitsPerUs)))
  let s := event s 0x304 0 n.val (satN 32 ((s.now - r.startTime) / (1000 * unitsPerUs)))
  if stageSt s n = .live then strikeFollow s n else s

/-- A frame restored: its bit in the bitmap, its held accesses, and what its being restored completes (R180). -/
def frameRestored (s : State) (n : Stage) (f : Nat) : State :=
  let r := rst s n
  let heatPos := if r.heatList.isEmpty then 0 else (r.heatList.takeWhile (fun g => decide (g ≥ hostFrames s n) || g == f || r.restored.contains g)).length
  let s := setRst s n { r with writing := r.writing.filter (· ≠ f), restored := insertNat r.restored f, heatPos := heatPos }
  let s := incSat (pmonHit s 2 1 n.val 1) (F.RESTORE_PROGRESS_FRAMES n.val) 1
  let s := whenS (heatPos ≥ r.heatList.length && rd s (F.RESTORE_STATUS_PHASE n.val) == 3) (fun s => restorePhase s n 4) s
  let s := frameRelease s n f
  let s := if (rst s n).restored.length ≥ hostFrames s n then restoreComplete s n else s
  flushTry (liveTry s n) n

/-! Intermission resume of a stage (R46, R198, R201, R202). -/

/-- INTERMISSION ends when no stage is still to be brought back (R46). -/
def interFollow (s : State) : State :=
  if s.modes.intermission && (qlist s.modes.interWait).all (· == false) then { s with modes := { s.modes with intermission := false } } else s
/-- A stage that the intermission has brought back, or handed on (R46). -/
def interDone (s : State) (n : Stage) : State :=
  interFollow { s with modes := { s.modes with interWait := qset s.modes.interWait n false } }

/-- One tracking measurement of every rank of a stage, applied at once; what a rank reads is not given (R356). -/
def resumeTrack (s : State) (n : Stage) : State :=
  foldS (stageChans s n) (fun s c => foldS [false, true] (fun s b => foldS (if mapRd s (F.DC_MAP_RANKS c.val) = 1 then [(0 : Fin 2), 1] else [0]) (fun s r =>
    let (count, s) := fresh s
    let (hot, s) := fresh s
    trackRank s ⟨c, b, r, count % 65536, decide (hot % 2 = 1)⟩ false) s) s) s

/-- Steps 3 to 5 of R201: the DRAM leaves self-refresh; a sealed stage writes its open record, one left Sealed goes on with its restore. -/
def interResume (s : State) (n : Stage) : State :=
  let s := resumeTrack (stageSrExit (wr (setRst s n { rst s n with waitResume := false }) (F.RESTORE_STATUS_WAIT_RESUME n.val) 0) n) n
  let s := setLedger s n { led s n with gated := false }
  if (rst s n).kept then
    let s := setRst s n { rst s n with kept := false }
    let s := follow (stageTo s n .restoring) 0x10
    restoreGo (interDone s n) n
  else openRecord s n (sealedGen s n + 1) 2

/-! A port that goes down. -/

/-- A port of the host: P0 or the combined port, or P1. -/
def portOf (s : State) (k : Nat) : CxlPort := if k = 0 then s.cxl.p0 else s.cxl.p1
/-- A port of the host replaced. -/
def setPort (s : State) (k : Nat) (p : CxlPort) : State :=
  { s with cxl := if k = 0 then { s.cxl with p0 := p } else { s.cxl with p1 := p } }
/-- The port number of events: the combined port is 2 (R400). -/
def portNo (s : State) (k : Nat) : Nat := if k = 0 ∧ s.cxl.combined = true then 2 else k
/-- What the port still owes to a host that is gone is owed to nobody: its completions are lost (R375). -/
def portLoses (s : State) (k : Nat) : State :=
  let owner := fun (o : WriteDone) => match o with
    | .mem p tag => if p = k then .mem 2 tag else .mem p tag
    | .mailbox p ld op => if p = k then .mem 2 0 else .mailbox p ld op
  let wr_ := fun (ws : List HostWrite) => ws.map (fun w => { w with owner := owner w.owner })
  let req := fun (r : DramReq) => match r.use with
    | .hostRead p tag => if p = k then { r with use := .hostRead 2 tag } else r
    | _ => r
  let sub := fun (x : SubCh) => { x with rq := x.rq.map req, waiting := x.waiting.map req, inFlight := x.inFlight.map req }
  let s := foldS fours (fun s n =>
    let l := led s n
    let r := rst s n
    let keep := fun (hs : List HeldRead) => hs.filter (fun h => h.port != k)
    let s := setLedger s n { l with
      tap := wr_ l.tap, held := wr_ l.held, afterGate := wr_ l.afterGate, withheld := l.withheld.map (fun e => (e.1, owner e.2)), waitReads := keep l.waitReads
      stallW := l.stallW.filter (fun w => w.port != k), stallR := keep l.stallR }
    touchStatus (setRst s n { r with heldReads := keep r.heldReads, bitWaitR := keep r.bitWaitR, bitWaitW := wr_ r.bitWaitW }) n) s
  { s with dram := { s.dram with
      ch := qmap (fun c => { c with subA := sub c.subA, subB := sub c.subB }) s.dram.ch
      remap := s.dram.remap.map (fun e => (e.1, { e.2 with waiting := e.2.waiting.map req })) } }
/-- A port's link is lost: nothing is owed to its host any more; the stages keep their states and the flush flag stands until a CXL.mem write (R375, R383). -/
def linkLose (s : State) (k : Nat) : State :=
  let s := setPort s k { portOf s k with inL0 := false, gpf2 := false, pmeOff := false }
  event (portLoses s k) 0x602 1 0 (portNo s k)

end Sys2Proof.Machine
end

