-- ==== Sys2Proof/Machine/FlashEng.lean ====
section
/-! DEFINITION. The flash channels at work: training, micro-program runs, issuing programs and reads, strike, timeouts (R212, R219 to R225, R230, R245 to R248, R683). -/

namespace Sys2Proof.Machine

/-! Micro-programs (R219 to R223). -/

/-- An opcode is one of the instructions; the reserved 0x0C is rejected with the illegal ones (R221, R222; DESIGN CHOICE, log entry 127). -/
def opLegal (op : Nat) : Bool := decide (1 ≤ op) && decide (op ≤ 0x0B)
/-- An instruction word is legal and its jump stays in its entry, forward unless it is LOOP (R221, R222). -/
def microOpOk (w at_ a n : Nat) : Bool :=
  let op := w / 2 ^ 42
  let inside := fun t => decide (a ≤ t) && decide (t < a + n)
  if op = 0x08 then inside (bits w 16 12) && decide (bits w 16 12 > at_)
  else if op = 0x0A then inside (bits w 8 12)
  else opLegal op
/-- The first fault of a section, as its word index (R219, R220, R222): its layout, whose 12-bit length admits no section of 4,096 words (DESIGN CHOICE, log entry 127), a missing entry, an entry at fault, then an illegal opcode outside every entry. A reserved slot that is present is a fault (DESIGN CHOICE, log entry 127). -/
def microFault (m : List Word) : Option Nat :=
  let w0 := microWord m 0
  if bits w0 0 16 ≠ 1 ∨ bits w0 16 12 ≠ m.length ∨ m.length > 4096 ∨ m.length < 19 then some 0
  else
    match [0, 1, 2, 3, 5, 6].find? (fun e => (microEntry m e).isNone) with
    | some e => some (3 + e)
    | none =>
      let bad := ((List.range 16).filterMap (fun e => (microEntry m e).map (fun q => (e, q)))).filterMap (fun q =>
        let a := q.2.1
        let n := q.2.2
        if q.1 ≥ 8 ∨ n = 0 ∨ n > 256 ∨ a + n > m.length then some (3 + q.1)
        else match (List.range n).find? (fun i => !microOpOk (microWord m (a + i)) (a + i) a n) with
          | some i => some (a + i)
          | none => if microWord m (a + n - 1) / 2 ^ 42 = 0x0B then none else some (a + n - 1))
      let loose := (List.range (m.length - 19)).find? (fun i => !opLegal (microWord m (19 + i) / 2 ^ 42))
      if bad.isEmpty then loose.map (19 + ·) else bad.head?

/-- The channel's executing run: the first that waits for nothing and for no earlier run of its own command. -/
def mpRun (s : State) (c : Nat) : Option MpRun :=
  let rs := (fch s c).runs
  rs.find? (fun r => r.wait == .none && rs.find? (fun q => q.tag == r.tag) == some r)
/-- The word a run stands at: its place in the section and its value. -/
def mpWord (s : State) (r : MpRun) : Nat × Nat :=
  let m := microOf s r.stage
  let a := ((microEntry m r.entry).getD (0, 0)).1
  (a + r.word, microWord m (a + r.word))
/-- The run and the word of the channel's current instruction, if its opcode is the one given. -/
def mpAt (s : State) (c op : Nat) : Option (MpRun × Nat) :=
  (mpRun s c).bind (fun r => if (mpWord s r).2 / 2 ^ 42 = op then some (r, (mpWord s r).2) else none)
/-- A run of a channel replaced. -/
def mpSet (s : State) (c : Nat) (r : MpRun) : State :=
  setFch s c { fch s c with runs := (fch s c).runs.map (fun q => if q.tag == r.tag && q.entry == r.entry && q.soft == r.soft then r else q) }
/-- The run goes on at the next word. -/
def mpNext (r : MpRun) : MpRun := { r with word := r.word + 1, wait := .none }
/-- The run jumps to a word of the section. -/
def mpJump (s : State) (r : MpRun) (target : Nat) : MpRun :=
  { r with word := target - ((microEntry (microOf s r.stage) r.entry).getD (0, 0)).1, wait := .none }
/-- A run's failure recorded (R223). -/
def mpFailed (s : State) (c : Nat) (r : MpRun) (code : Nat) : State :=
  let s := wr (wr s F.FL_MP_STATUS_CHANNEL c) F.FL_MP_STATUS_ENTRY r.entry
  let s := wr (wr s F.FL_MP_STATUS_WORD (mpWord s r).1) F.FL_MP_STATUS_CODE code
  event s 0x40F 2 r.stage.val (c + r.entry * 16 + code * 256)
/-- The bytes that an ADDR instruction issues; the sources 5 to 7, which the table does not define, are taken as SOFT (R221; DESIGN CHOICE, log entry 127). -/
def mpAddr (r : MpRun) (w : Nat) : List Byte :=
  let n := bits w 0 3 + 1
  match bits w 3 3 with
  | 0 => leBytes n r.col
  | 1 => leBytes n r.row
  | 2 => (leBytes 4 (bits w 6 32)).take n
  | 3 => leBytes n r.retry
  | _ => leBytes n r.soft

/-! Channel training (R212). -/

/-- The INIT entry run on a channel that trains, on its first LUN and with no command tag of its own (R211, R220; DESIGN CHOICE, log entry 128). -/
def initTag : Nat := 64
def initRun (s : State) (n : Stage) (c : Nat) : State :=
  let run : MpRun := ⟨c, n, 1, initTag, 0, 0, [], 0, 0, 0, 0, .none, s.now⟩
  setFch s c { fch s c with runs := run :: (fch s c).runs.filter (fun r => r.tag != initTag) }
/-- An INIT that fails fails its channel, and the Dressing of its stage (R212, R223, R534). -/
def initFails (s : State) (n : Stage) (c : Nat) : State :=
  let s := setFch s c { fch s c with runs := (fch s c).runs.filter (fun r => r.tag != initTag) }
  let s := { s with image := { s.image with dressFault := qset s.image.dressFault n 10 } }
  stageRates (event (wr (wr s (F.FL_CH_STATUS_TRAINED c) 0) (F.FL_CH_STATUS_LOST c) 1) 0x403 2 n.val c) n
/-- A channel lost: it trains at no rate, or its lane has failed (R212, R406). -/
def chLose (s : State) (c : Nat) : State :=
  let stage := flashStage s c
  let s := event (wr (wr s (F.FL_CH_STATUS_TRAINED c) 0) (F.FL_CH_STATUS_LOST c) 1) 0x403 2 (stage.elim 0 (·.val)) c
  stage.elim s (fun m => stageRates s m)
/-- A channel trains at the first rate that trains, or is lost; an INIT whose Read ID differs fails, with failure code 0 and the first word of the entry (R212, R223, R260; DESIGN CHOICE, log entry 128). -/
def chTrain (s : State) (c : Nat) (reach : Option Nat) (readId : Word) : State :=
  let stage := flashStage s c
  let wrong := stage.elim false (fun n => (microOf s n).getD 1 0#48 ≠ readId)
  let s := setReg (setReg s (F.FL_CH_DECODE_RETRY_READS c).idx 0#48) (F.FL_CH_CMD_STALE c).idx 0#48
  let n := stage.elim 0 (·.val)
  let set := rd s (F.FL_CH_CFG_RATE c)
  let s := if wrong then
      let r : MpRun := ⟨c, fin4 n, 1, initTag, 0, 0, [], 0, 0, 0, 0, .none, s.now⟩
      let s := mpFailed s c r 0
      { s with image := { s.image with dressFault := qset s.image.dressFault (fin4 n) 10 } }
    else s
  match (if wrong then none else reach) with
  | some k =>
    let k := max set (min 3 k)
    let s := initRun s (fin4 n) c
    let s := wr (wr (wr s (F.FL_CH_STATUS_RATE_ACTIVE c) k) (F.FL_CH_STATUS_TRAINED c) 1) (F.FL_CH_STATUS_LOST c) 0
    let s := if k = set then event s 0x401 0 n (c + k * 16) else event s 0x402 1 n (c + k * 16)
    stage.elim s (fun m => stageRates s m)
  | none => chLose s c

/-! Issuing programs (R4, R110, R683). -/

/-- A job is one of trickle. -/
def isTrickle (j : Job) : Bool := match j.use with
  | .trickle _ => true
  | _ => false
/-- The page's trickle codewords. -/
def trickleIn (p : OpenPage) : Nat := (p.slots.filter (fun q => isTrickle q.job)).length
/-- The stage may issue programs of the open band now: not after it is torn, and not during an abort (R153, R155). -/
def programsOn (s : State) (n : Stage) : Bool := s.saveDev.abort == 0 && (sav s n).phase != .torn
/-- A page of the open band may go: full, or nothing more is queued for it; trickle within its budget (R110, R683). -/
def pageReady (s : State) (n : Stage) (p : OpenPage) : Bool :=
  !p.slots.isEmpty && (decide (p.slots.length ≥ 4) || (fset s n).jobs.isEmpty) && (trickleIn p == 0 || decide ((fsys s n).budget > 0))
/-- Trickle takes its turn on a channel: no page before this one waits there with trickle codewords (R106). -/
def trickleTurn (s : State) (n : Stage) (p : OpenPage) : Bool :=
  trickleIn p == 0 || !((fset s n).pages.takeWhile (· != p)).any (fun q => lunCh q.lun == lunCh p.lun && decide (trickleIn q > 0))
/-- Strike at the urgent level goes first: trickle leaves a channel to a relocation that waits for it (R248). -/
def strikeFirst (s : State) (n : Stage) (ch : Nat) : Bool :=
  (fsys s n).strikeOn && rdb s (F.FL_STAGE_STATUS_STRIKE_URGENT n.val) &&
    ((fset s n).jobs.any (fun j => match j.use with
      | .relocate .. => true
      | _ => false) || (fset s n).pages.any (fun q => lunCh q.lun == ch && q.slots.any (fun p => match p.job.use with
      | .relocate .. => true
      | _ => false)))
/-- A page of nothing but trickle yields to strike. -/
def strikeYield (s : State) (n : Stage) (p : OpenPage) : Bool := decide (0 < trickleIn p) && trickleIn p == p.slots.length && strikeFirst s n (lunCh p.lun)
/-- TRICKLE_PCT as taken: 1 to 100 (R119). -/
def tricklePct (s : State) (n : Stage) : Nat := min 100 (max 1 (rd s (F.LDG_CFG_TRICKLE_PCT n.val)))
/-- The rate of trickle in bytes per second, exactly (R110): the full bandwidth above the soft watermark, while writes are held, and in write-through operation (R97, R98). -/
def trickleRate (s : State) (n : Stage) : Rat :=
  let full := decide (residue s n > softMark s n) || (led s n).holdSince.isSome || (led s n).writeThrough
  stageProg s n * 1000000 * (if full then 100 else tricklePct s n : Nat) / 100
/-- The byte budget at a tick's opening edge; the fraction of a byte is kept (R110). -/
def budgetTick (s : State) (n : Stage) : State :=
  let y := fsys s n
  setFsys s n { y with budget := min y.budget 0 + trickleRate s n / 32768 }

/-- The block of a system page's next program, its page, and whether a block must be erased first: the next spare for a seal-log copy that moves, the house record's own (R214, R236, R238). -/
def sysPlace (s : State) (n : Stage) (q : SysProg) : Option (Nat × Nat × Bool) :=
  let y := fsys s n
  match q.placed.job.use with
  | .house c =>
    if !houseUsable s n c then none
    else
      let fresh := (if c = 0 then y.freshA else y.freshB) || decide (housePos y c ≥ pagesPer s n)
      some (houseBlock y c, housePos y c, fresh)
  | .sealCopy c =>
    if !sealPlace s n c then none
    else if sealFull s n c then (nextSpare s n c (sealBlock y c).1).map (fun b => (b, 0, true))
    else some ((sealBlock y c).1, (sealBlock y c).2, false)
  | _ => none
/-- A system page's program issued, or the Block Erase that must come first; the first seal program of a save closes its abort window (R152, R211, R236, R238). -/
def sysIssue (s : State) (n : Stage) (q : SysProg) : State :=
  match sysPlace s n q with
  | none => s
  | some (b, _, true) => flashIssue (pmonHit s 5 2 (lunCh q.lun) 1) n q.lun (b * pagesPer s n) (.erase b) 0 false
  | some (b, pos, false) =>
    let s := setFset s n { fset s n with sysQ := (fset s n).sysQ.erase q }
    let s := setFsys s n (match q.placed.job.use with
      | .house c => setHouseBlock (fsys s n) c b (pos + 1) false
      | .sealCopy c => setSealBlock (fsys s n) c b (pos + 1)
      | _ => fsys s n)
    let s := setBlock s q.lun b { blockAt s q.lun b with erased := false, epoch := (fset s n).fmt }
    let first := hKind q.placed.cw.header == 2 && hSeq q.placed.cw.header == 1 && s.saveDev.gate && qget s.saveDev.saving n
    let s := whenS first (fun s => saveStatus { s with saveDev := { s.saveDev with firstSeal := true } }) s
    flashIssue (pmonHit s 5 0 (lunCh q.lun) 1) n q.lun (b * pagesPer s n + pos) (.program [q.placed] true) 0 false

/-- A page program issued on an idle LUN: a system page first, else a page of the open band that is ready (R142, R683). -/
def programIssue (s : State) (n : Stage) (lun : Nat) : State :=
  let x := fset s n
  if lunBusy s lun || chLost s (lunCh lun) || !programsOn s n then s
  else match x.sysQ.find? (fun q => q.lun == lun) with
  | some q => sysIssue s n q
  | none =>
    match x.pages.find? (fun p => p.lun == lun && pageReady s n p && trickleTurn s n p && !strikeYield s n p) with
    | none => s
    | some p =>
      let x' := { x with pages := x.pages.erase p }
      let x' := if p.slots.length < 4 ∧ x.page = p.page % pagesPer s n ∧ x.pos = p.lun then cursorPast x' (pagesPer s n) p.lun p.page else x'
      let s := setFset s n x'
      let s := if p.slots.length < 4 then freeFollow s n else s
      let s := setFsys s n { fsys s n with budget := (fsys s n).budget - (4096 * trickleIn p : Nat) }
      flashIssue (pmonHit s 5 0 (lunCh lun) 1) n lun p.page (.program p.slots false) 0 false

/-! Issuing reads (R179, R189, R230). -/

/-- A read sent to its LUN at its step: READ, READ_RETRY 1 to k, then SOFT_READ (R230). -/
def readIssueAt (s : State) (n : Stage) (r : ReadReq) : State :=
  let soft := softStep s n r.step
  flashIssue (pmonHit s 5 1 (lunCh (entryLun r.entry)) 1) n (entryLun r.entry) (entryPage r.entry) (.read r false) (if soft then 0 else r.step - 1) soft
/-- What a codeword that cannot be read does to what wanted it; a background read that a gate instant met is discarded (R161, R177, R182). -/
def readLost (s : State) (n : Stage) (r : ReadReq) : State :=
  match r.use with
  | .background f => if copying s n && (rst s n).reading.contains f then framePoison s n f ((rst s n).touchQ.any (fun t => t.frame == f)) 0x306 1 else s
  | .touch f => framePoison s n f true 0x306 1
  | .strike _ => s
  | .record => recordRead s n r.entry none
/-- A read issued on a LUN: one that is queued for it, else the next background frame, whose zeros or poison need no read (R178, R179, R181, R182). -/
def readIssueLun (s : State) (n : Stage) (lun : Nat) : State :=
  let q := qget s.flash.readQ n
  let setQ := fun (s : State) (q : List ReadReq) => { s with flash := { s.flash with readQ := qset s.flash.readQ n q } }
  let shut := (led s n).gated || s.saveDev.gate
  match q.find? (fun r => entryLun r.entry == lun && !(shut && r.use == .record)) with
  | some r =>
    if lunBusy s lun then s
    else if chLost s (lunCh lun) then readLost (setQ s (q.erase r)) n r
    else readIssueAt (setQ s (q.erase r)) n r
  | none =>
    if !copying s n then s
    else match nextFrame s n with
    | none => s
    | some f =>
      let e := mget noCopy (fset s n).fmap f
      let r := rst s n
      let s := if (r.heatList.drop r.heatPos).contains f then s else setRst s n { r with next := f + 1 }
      if e = noCopy then frameWrite s n f false (some (List.replicate 4096 0#8))
      else if !flashMine s n e then framePoison (xbarFault s n 1 (lunCh (entryLun e))) n f false 0x306 1
      else if chLost s (lunCh (entryLun e)) then framePoison s n f false 0x306 1
      else if entryLun e = lun ∧ !lunBusy s lun then
        readIssueAt (setRst s n { rst s n with reading := insertNat (rst s n).reading f }) n ⟨.background f, e, 1, 0⟩
      else setRst s n r
/-- A fetch may be issued for the frame: the gate is open, or a write received before it waits for the frame (R161, R199). -/
def fetchAllowed (s : State) (n : Stage) (f : Nat) : Bool := !gateShut s n || (led s n).held.any (fun w => w.line / 64 == f)
/-- The oldest waiting touch-queue entry goes to its LUN ahead of the background restore; a frame with no copy is written as zeros at once; one that the background restore is reading joins that read (R178, R181, R189). -/
def touchStart (s : State) (n : Stage) : State :=
  let r := rst s n
  match r.touchQ.find? (fun t => t.progress == 0 && fetchAllowed s n t.frame) with
  | none => s
  | some t =>
    let joins := r.reading.contains t.frame || r.writing.contains t.frame
    let s := setRst s n { r with touchQ := r.touchQ.map (fun q => if q.frame == t.frame then { q with progress := if joins then 2 else 1 } else q) }
    if joins then s
    else
    let e := mget noCopy (fset s n).fmap t.frame
    if e = noCopy then frameWrite s n t.frame true (some (List.replicate 4096 0#8))
    else if !flashMine s n e then framePoison (xbarFault s n 1 (lunCh (entryLun e))) n t.frame true 0x306 1
    else if chLost s (lunCh (entryLun e)) then framePoison s n t.frame true 0x306 1
    else
      let q := qget s.flash.readQ n
      let isTouch := fun (u : ReadReq) => match u.use with
        | .touch _ => true
        | _ => false
      let q := q.takeWhile isTouch ++ [⟨.touch t.frame, e, 1, 0⟩] ++ q.dropWhile isTouch
      { s with flash := { s.flash with readQ := qset s.flash.readQ n q } }

/-! Strike (R245 to R248). -/

/-- The frame map's line that holds a frame's entry, written back by strike (R246, R248, R514). -/
def mapUpdate (s : State) (n : Stage) (f : Nat) : State :=
  dramPut s { mkReq 6 4 true n (mapDpa s n (f / 16)) (mapLineData s n (f / 16)) false .strikeMap with idleOnly := rdb s F.FL_CFG_STRIKE_IDLE_ONLY }
/-- The frame map's line that holds a frame's entry, read by strike (R246, R248, R266). -/
def mapLookup (s : State) (n : Stage) (f : Nat) : State :=
  dramPut s { mkReq 6 4 false n (mapDpa s n (f / 16)) 0#512 false .strikeMap with idleOnly := rdb s F.FL_CFG_STRIKE_IDLE_ONLY }
/-- Strike has its turn: first when urgent, else when no trickle waits (R248). -/
def strikeTurn (s : State) (n : Stage) : Bool :=
  (fsys s n).strikeOn && strikeAllowed s n && (rdb s (F.FL_STAGE_STATUS_STRIKE_URGENT n.val) || !(fset s n).jobs.any isTrickle)
/-- The erase of one block of a victim issued; a worn block is retired instead (R245, R251). -/
def strikeErase (s : State) (n : Stage) (lun b : Nat) : State :=
  let s := retireWorn s n lun b
  if (blockAt s lun b).state = 3 ∨ lunBusy s lun ∨ chLost s (lunCh lun) then s
  else flashIssue (pmonHit s 5 2 (lunCh lun) 1) n lun (b * pagesPer s n) (.erase b) 0 false
/-- One step of strike: a live copy read for relocation, or the blocks of a band that holds nothing live erased (R245, R246). -/
def strikeStep (s : State) (n : Stage) : State :=
  let s := strikeFollow s n
  if !strikeTurn s n then s
  else match (fsys s n).victim with
  | none => s
  | some b =>
    let live := (bandLive s n b).filter (fun q => !(fsys s n).moving.contains q.1)
    match live.find? (fun q => !lunBusy s (entryLun q.1)) with
    | some q =>
      let s := setFsys s n { fsys s n with moving := insertNat (fsys s n).moving q.1 }
      let s := mapLookup s n (hNumber q.2.header)
      readIssueAt s n ⟨.strike (hNumber q.2.header), q.1, 1, 0⟩
    | none =>
      if !live.isEmpty || (bandWords s n b).any (fun q => (fsys s n).moving.contains q.1) then s
      else if (fset s n).relocBands.contains b then setVictim s n none
      else if (bandWords s n b).all (fun q => reclaimable s n q.1 q.2) then
        let todo := (stageLuns s n).filter (fun l => !sysBlock s n l b && decide ((blockAt s l b).state ≤ 1) && !s.flash.factory.contains (blockKey l b) && !blockErased s n l b)
        if todo.isEmpty then
          setVictim (setFsys s n { fsys s n with refresh := (fsys s n).refresh.filter (· ≠ b), badBands := (fsys s n).badBands.filter (· ≠ b) }) n none
        else foldS todo (fun s l => strikeErase s n l b) s
      else setVictim s n none

/-! Timeouts (R225). -/

/-- A command timeout in units (R260). -/
def cmdTimeout (s : State) (c : Nat) : Nat :=
  let us := rd s (F.FL_CH_CFG_CMD_TIMEOUT_US c)
  (if us = 0 then 5000 else us) * unitsPerUs

/-- The LUN of an abandoned command is reset; its tag waits for the reset's pass (R225). -/
def resetLun (s : State) (n : Stage) (c : Nat) (o : FlashOp) : State :=
  let s := setFch s c { fch s c with awaiting := insertNat (fch s c).awaiting o.tag }
  let redo := match o.act with
    | .read r _ => some r
    | _ => none
  flashIssue s n o.lun o.page (.reset o.tag redo) 0 false

/-- A reset has ended with pass: the tag is in service again, an abandoned read is issued again (R225). -/
def resetDone (s : State) (n : Stage) (c tag : Nat) (redo : Option ReadReq) : State :=
  let s := setFch s c { fch s c with awaiting := (fch s c).awaiting.filter (· ≠ tag) }
  match redo with
  | some r => { s with flash := { s.flash with readQ := qset s.flash.readQ n (r :: qget s.flash.readQ n) } }
  | none => s

/-! Blocks erased (R252). -/

/-- The copy that a house LUN keeps. -/
def houseCopy (s : State) (n : Stage) (lun : Nat) : Nat := if lun = houseLun s n 0 then 0 else 1
/-- A system block has been erased: the house record's block starts again, a spare takes over the seal-log copy that moves (R236, R238). -/
def sysErased (s : State) (n : Stage) (lun b : Nat) : State :=
  let c := houseCopy s n lun
  if houseBlock (fsys s n) c = b then setFsys s n (setHouseBlock (fsys s n) c b 0 false)
  else if sealFull s n c then sealMoved s n c b else s
/-- An erase ends: on pass the block is erased and checked for wear; else it is bad, a failed or an abandoned one alike (R225, R243, R251, R252). -/
def eraseEnd (s : State) (n : Stage) (lun b : Nat) (pass : Bool) (cause : Nat) : State :=
  if pass then
    let s := wornCheck (eraseBlock s n lun b) n lun b
    let s := if sysBlock s n lun b then sysErased s n lun b else s
    tablesStart (strikeFollow (spaceFollow (wearFollow s n) n false) n) n
  else
    let s := if cause = 4 then s else incSat s (F.FL_CH_CMD_ERASE_FAILS (lunCh lun)) 1
    let s := markBad s n lun b cause
    let s := if sysBlock s n lun b && houseBlock (fsys s n) (houseCopy s n lun) == b then houseMove s n (houseCopy s n lun) else s
    tablesStart (spaceFollow (blocksFollow s n) n false) n

end Sys2Proof.Machine
end

