-- ==== Sys2Proof/Machine/RegOps.lean ====
section
/-! DEFINITION. The register file as its paths reach it: access types, reset domains, locks, register loads, recorded accesses (R15, R528, R645 to R655). -/

namespace Sys2Proof.Machine

/-- The field rows of an index (R113, R659). -/
def regFields (i : Nat) : List FieldRow := (regRow? (homeIdx i)).elim [] (·.fields)
/-- The index is allocated (R646). -/
def regExists (i : Nat) : Bool := (regRow? (homeIdx i)).isSome
/-- The mask of a field. -/
def rowMask (f : FieldRow) : Nat := (2 ^ f.width - 1) * 2 ^ f.lo
/-- The bits of a register that lie in fields of the given access types. -/
def accessMask (i : Nat) (ok : Access → Bool) : Word := BitVec.ofNat 48 ((regFields i).foldl (fun a f => if ok f.access then a + rowMask f else a) 0)
/-- The reset domain of an index; the remap registers are always-on (R649). -/
def regDomain (i : Nat) : Domain := (regRow? (homeIdx i)).elim .main (·.domain)

/-- The registers as a core reset or entry to Dark leaves them: RS fields and the always-on and fused registers stand, every other field is at reset (R649, R650). -/
def dropMain (s : State) : State :=
  { s with regs := s.regs.filterMap (fun e =>
      if regDomain e.1 = .main then
        let m := accessMask e.1 (· == .rs)
        let w := (regReset e.1 &&& ~~~m) ||| (e.2 &&& m)
        if w = regReset e.1 then none else some (e.1, w)
      else some e) }

/-! Locks (R651 to R653). -/

/-- The stage whose scope an index lies in; none for the device scope (R651). -/
def regScope (s : State) (i : Nat) : Option Stage :=
  if i / 1024 = 2 ∧ 0x10 ≤ i % 256 ∧ i % 256 < 0x20 then some (fin4 (i % 1024 / 256))
  else if 0x0E00 ≤ i ∧ i < 0x0E40 then some (fin4 ((i - 0x0E00) / 16))
  else if 0x2010 ≤ i ∧ i < 0x2050 then some (fin4 ((i - 0x2010) / 16))
  else if 0x4010 ≤ i ∧ i < 0x4050 then some (fin4 ((i - 0x4010) / 16))
  else if 0x1000 ≤ i ∧ i < 0x2000 then (if i % 1024 < 256 then chanStage s (fin4 ((i - 0x1000) / 1024)) else none)
  else if 0x2100 ≤ i ∧ i < 0x2500 then flashStage s ((i - 0x2100) / 64)
  else none
/-- The lock of an index's scope holds and KEEP_OPEN does not keep its group open (R652, R653). -/
def regLocked (s : State) (i : Nat) : Bool :=
  let held := match regScope s i with
    | none => rdb s F.GLB_LOCK_DEVICE
    | some n => bitOf (rd s F.GLB_LOCK_STAGES) n.val
  held && !bitOf (rd s F.GLB_LOCK_KEEP_OPEN) (i / 1024)

/-- A stage's lock set or cleared (R652). -/
def stageLock (s : State) (n : Stage) (on : Bool) : State :=
  let v := rd s F.GLB_LOCK_STAGES
  wr s F.GLB_LOCK_STAGES (if on then v ||| 2 ^ n.val else v &&& (15 - 2 ^ n.val))

/-! Register loads (R528, R529, R654). -/

/-- A load of the bits of a mask. -/
def loadReg (s : State) (i : Nat) (v m : Word) : State := setReg s i ((rawReg s i &&& ~~~m) ||| (v &&& m))
/-- The entries of a register-load section: index, value, mask (R528). -/
def loadEntries (ws : List Word) : List (Nat × Word × Word) :=
  let n := bits ((ws.headD 0#48).toNat) 16 16
  (List.range n).map (fun k => (bits ((ws.getD (1 + 3 * k) 0#48).toNat) 0 16, ws.getD (2 + 3 * k) 0#48, ws.getD (3 + 3 * k) 0#48))
/-- The loads of a section applied in entry order. -/
def loadSection (s : State) (ws : List Word) : State := foldS (loadEntries ws) (fun s e => loadReg s e.1 e.2.1 e.2.2) s

/-! Writes (R15, R647, R653, R655). -/

/-- A register after a write: each access type acts on its fields; `locked` keeps RWK fields (R15, R653). -/
def writtenWord (i : Nat) (old new : Word) (locked : Bool) : Word :=
  let rw := accessMask i (fun a => a == .rw || a == .rs || (a == .rwk && !locked))
  let w1c := accessMask i (· == .rw1c)
  ((old &&& ~~~rw) ||| (new &&& rw)) &&& ~~~(new &&& w1c)

/-- An access recorded in GLB_ACCESS (R646, R647, R653, R655, R658). -/
def accessNote (s : State) (i kind path ld : Nat) : State :=
  let s := wr (wr s F.GLB_ACCESS_INDEX i) F.GLB_ACCESS_KIND kind
  incSat (wr (wr s F.GLB_ACCESS_PATH path) F.GLB_ACCESS_LD_ID ld) F.GLB_ACCESS_COUNT 1

/-- The paths of R655 that write. -/
inductive WPath where
  | bar2 | ld (ld : Nat) (stage : Stage) | recovery | core | sideband
  deriving DecidableEq, Repr
/-- PATH of GLB_ACCESS (R658). -/
def pathCode : WPath → Nat
  | .bar2 => 0 | .ld .. => 0 | .sideband => 1 | .recovery => 2 | .core => 3

/-- The domain that serves the register is off: Dark and Hold leave only the always-on one (R608, R674). -/
def mainOff (s : State) : Bool := s.modes.mode = .dark || s.modes.mode = .hold
/-- A register with an RS field. -/
def hasRs (i : Nat) : Bool := (regFields i).any (fun f => f.access == .rs)
/-- The local-bus registers, which only the control cores reach (R367). -/
def isI3c (i : Nat) : Bool := 0x1181 ≤ i && i ≤ 0x1183

/-- A write reaches its register: the fields it may change are changed. While the main domain is off only RS fields of a main-domain register commit (R650). -/
def commitWrite (s : State) (p : WPath) (i : Nat) (w : Word) : State :=
  let locked := regLocked s i
  let old := rawReg s i
  let differs := decide ((old ^^^ w) &&& accessMask i (· == .rwk) ≠ 0#48)
  let s := if locked && differs && decide (p ≠ .core) && decide (p ≠ .recovery) then accessNote s i 2 (pathCode p) (match p with | .ld k _ => k | _ => 0) else s
  if mainOff s && regDomain i = .main then
    let m := accessMask i (· == .rs)
    setReg s i ((old &&& ~~~m) ||| (w &&& m))
  else setReg s i (writtenWord i (rawReg s i) w locked)

/-- Whether a write of a path commits, and what it leaves in GLB_ACCESS when it does not (R646, R647, R655). -/
def writeAllowed (s : State) (p : WPath) (i : Nat) (full : Bool) : Bool × State :=
  match p with
  | .core => (regExists i, whenS (!regExists i && !mainOff s) (fun s => accessNote s i 4 3 0) s)
  | .sideband => (regExists i && !isI3c i, s)
  | .recovery => if !regExists i then (false, accessNote s i 4 2 0) else (s.modes.recovery && i / 1024 == 17, s)
  | .bar2 =>
    if !regExists i then (false, accessNote s i 4 0 0)
    else if !full then (false, accessNote s i 1 0 0)
    else (!isI3c i, s)
  | .ld k n =>
    if !regExists i then (false, accessNote s i 4 0 k)
    else if !full then (false, accessNote s i 1 0 k)
    else if regScope s i = some n ∨ i = 0x3C02 ∨ i = 0x3C0A then (true, s)
    else (false, accessNote s i 3 0 k)

end Sys2Proof.Machine
end

