-- ==== Sys2Proof/Machine/Image.lean ====
section
/-! DEFINITION. Swirad containers: parsing, the checks of R510 and R516 to R528, the sections of a stage layout, cue faults (R454), timing faults (R349). -/

namespace Sys2Proof.Machine

/-! Stage layout sections (R526). -/

/-- A stage layout section's fields (R526). -/
structure Layout where
  stage : Nat
  dram : Nat
  flash : Nat
  port : Nat
  grain : Nat
  share : Nat
  mp : Nat
  eraseOk : Bool
  shrinkOk : Bool
  spares : Nat
  work : Nat
  blocks : Nat
  pages : Nat
  ces : Nat
  luns : Nat
  host : Nat
  deriving DecidableEq, Repr

/-- A word of a section. -/
def secWord (ws : List Word) (i : Nat) : Nat := (ws.getD i 0#48).toNat
/-- The fields of a stage layout section. -/
def layoutOf (ws : List Word) : Layout :=
  let w := secWord ws
  { stage := bits (w 0) 24 2, dram := bits (w 1) 0 4, flash := bits (w 1) 4 16, port := bits (w 1) 20 1, grain := bits (w 1) 21 2, share := bits (w 1) 23 8
    mp := bits (w 1) 31 2, eraseOk := bitOf (w 1) 33, shrinkOk := bitOf (w 1) 34, spares := bits (w 2) 0 10, work := bits (w 2) 10 14
    blocks := bits (w 3) 0 16, pages := bits (w 3) 16 12, ces := bits (w 3) 28 2, luns := bits (w 3) 30 2, host := bits (w 4) 0 24 }
/-- Bits of a number set. -/
def ones (n : Nat) : Nat := ((List.range 48).filter (bitOf n)).length

/-- Raw capacity of a layout in 256 MiB units under an organisation word H1 (R349, R514): two subchannels a channel, 8 devices of x4 or 4 of x8 a rank. -/
def rawUnits (l : Layout) (h1 : Nat) : Nat :=
  let devs := if bitOf h1 0 then 4 else 8
  let dens := match bits h1 4 2 with
    | 0 => 8
    | 1 => 12
    | _ => 16
  ones l.dram * 2 * devs * dens * 2 ^ (bits h1 1 2 % 3) * (1 + bits h1 3 1)
/-- Bytes rounded up to 4 KiB. -/
def up4k (b : Nat) : Nat := ceilDiv b 4096 * 4096
/-- Bytes of the backstage components of R514. -/
def backBytes (l : Layout) (raw : Nat) : Nat :=
  let f := raw * 65536
  up4k (64 * l.spares) + 16384 + 67108864 + up4k (f / 8) + up4k (f / 4) + up4k (4 * f) + l.work * 1048576
/-- Host-visible capacity in 256 MiB units (R515). -/
def hostUnits (l : Layout) (h1 : Nat) : Nat :=
  let raw := rawUnits l h1
  (raw * 268435456 - backBytes l raw) / 268435456
/-- Stage weight of a layout (R87). -/
def layoutWeight (l : Layout) (h1 : Nat) : Nat := if l.share = 0 then hostUnits l h1 else l.share
/-- LUN indices of a layout in LUN order (R213, R526). -/
def layoutLuns (l : Layout) : List Nat :=
  (List.range 256).filter (fun i => bitOf l.flash (i % 16) && decide (i / 16 / 4 ≤ l.ces) && decide (i / 16 % 4 ≤ l.luns))
/-- Good capacity of a layout in bytes, counted as R253 counts it (R510). -/
def layoutGood (s : State) (l : Layout) : Nat :=
  let ls := layoutLuns l
  let sys := fun (lun b : Nat) => b < 8 ∧ (some lun = ls.head? ∨ lun = ls.foldl (fun m i => if i % 16 ≥ m % 16 ∧ i < 16 then i else m) 0)
  let bad := fun (k : Nat) => ls.contains (k / 65536) && decide (k % 65536 < l.blocks) && !decide (sys (k / 65536) (k % 65536))
  let marked := ((s.flash.blocks.filter (fun e => decide (e.2.state = 1 ∨ e.2.state = 2 ∨ e.2.state = 3))).map (·.1) ++ s.flash.factory).foldl insertNat []
  (ls.length * l.blocks - 16 - (marked.filter bad).length) * l.pages * 16384

/-! Cue section faults (R454). -/

/-- Instruction faults of one program of a cue section: opcodes, masks, conditions (R454). -/
def cueOpBad (p w link hold : Nat) : Bool :=
  let op := w / 2 ^ 42
  let m := bits w 0 16
  match op with
  | 1 => p != 0 && p != 4 || (p == 4 && decide (m &&& (65535 - link) ≠ 0))
  | 2 => p == 0 || p == 4 || (p == 2 && decide (m &&& (65535 - link) ≠ 0)) || (p == 3 && decide (m &&& hold ≠ 0))
  | 3 => p != 0 && p != 4 || (p == 4 && decide (m &&& (65535 - link) ≠ 0))
  | 4 => false
  | 5 => false
  | 6 => p != 2
  | 7 => decide (bits w 0 4 ≥ 2)
  | 0x0B => false
  | _ => true
/-- Rails left when those without a remaining predecessor are taken away again and again; what is left lies on or behind a cycle. -/
def depCycle (preds : Nat → Nat) : Nat → Nat → Nat
  | 0, left => left
  | k + 1, left => depCycle preds k ((((List.range 16).filter (fun r => bitOf left r && decide (preds r &&& left ≠ 0))).map (2 ^ ·)).foldl (· + ·) 0)
/-- The word of the first fault of a cue section, if it has one (R450, R454). -/
def cueFault (ws : List Word) : Option Nat :=
  let w := secWord ws
  let n := ws.length
  if bits (w 0) 0 16 ≠ 1 ∨ bits (w 0) 16 11 ≠ n ∨ n > 1280 ∨ n < 36 then some 0
  else
    let present := bits (w 1) 0 16
    let critical := bits (w 1) 16 16
    let hold := bits (w 1) 32 16
    let link := bits (w 2) 0 16
    let preds := fun r => bits (w (29 + r / 3)) (16 * (r % 3)) 16 &&& present
    let progs := (List.range 5).filter (fun p => bitOf (w (19 + 2 * p)) 20)
    let place := fun p => (bits (w (19 + 2 * p)) 0 11, bits (w (19 + 2 * p)) 11 9)
    let masks := (if (critical ||| hold) &&& (65535 - present) ≠ 0 then [1] else []) ++ (if link &&& (65535 - present) ≠ 0 ∨ link &&& critical ≠ 0 then [2] else [])
    let placed := fun p => let (a, k) := place p; decide (36 ≤ a) && decide (1 ≤ k) && decide (k ≤ 256) && decide (a + k ≤ n)
    let clash := fun p => progs.any (fun q => decide (q < p) && decide ((place p).1 < (place q).1 + (place q).2) && decide ((place q).1 < (place p).1 + (place p).2))
    let wrong := progs.flatMap (fun p =>
      let (a, k) := place p
      if !placed p || clash p then [19 + 2 * p]
      else
        ((List.range k).filter (fun i => cueOpBad p (w (a + i)) link hold)).map (a + ·)
          ++ (if w (a + k - 1) / 2 ^ 42 = 0x0B then [] else [a + k - 1])
          ++ (if bits (w (20 + 2 * p)) 0 32 = crcWords ((List.range k).map (fun i => ws.getD (a + i) 0#48)) then [] else [20 + 2 * p]))
    let cyc := depCycle preds 16 present
    let deps := ((List.range 16).filter (fun r => bitOf present r &&
        (bitOf cyc r || (!bitOf link r && decide (preds r &&& link ≠ 0)) || (bitOf hold r && decide (preds r &&& (65535 - hold) ≠ 0))))).map (fun r => 29 + r / 3)
    let crc := if bits (w 35) 0 32 = crcWords ((ws.drop 1).take 18 ++ (ws.drop 29).take 6) then [] else [35]
    (masks ++ wrong ++ deps ++ crc).foldl (fun m x => some (m.elim x (min x))) none

/-! Timing section faults (R348, R349). -/

/-- The speed code of a data rate (R347). -/
def speedCode (mt : Nat) : Option Nat := (List.range 9).find? (fun k => speedRate k == mt)
/-- The word of the first fault of a timing section (R349): its format, length, rates. -/
def timingFault (ws : List Word) : Option Nat :=
  let w := secWord ws
  let k := bits (w 0) 24 4
  if bits (w 0) 0 16 ≠ 1 ∨ bits (w 0) 16 8 ≠ ws.length ∨ ws.length ≠ 3 + 8 * k ∨ k > 8 then some 0
  else
    let rate := fun i => bits (w (3 + 8 * i)) 0 13
    ((List.range k).find? (fun i => (speedCode (rate i)).isNone || (List.range i).any (fun j => rate j == rate i))).map (fun i => 3 + 8 * i)

/-! Register-load sections (R528). -/

/-- A stage register load may name the index: the stage's own sub-blocks, and the channel registers of its channels (R528, R651). -/
def loadInStage (l : Layout) (n i : Nat) : Bool :=
  (i / 1024 == 2 && decide (0x10 ≤ i % 256) && decide (i % 256 < 0x20) && i % 1024 / 256 == n) ||
  (decide (0x0E00 ≤ i) && decide (i < 0x0E40) && (i - 0x0E00) / 16 == n) ||
  (decide (0x2010 ≤ i) && decide (i < 0x2050) && (i - 0x2010) / 16 == n) ||
  (decide (0x4010 ≤ i) && decide (i < 0x4050) && (i - 0x4010) / 16 == n) ||
  (decide (0x1000 ≤ i) && decide (i < 0x2000) && decide (i % 1024 < 256) && bitOf l.dram ((i - 0x1000) / 1024)) ||
  (decide (0x2100 ≤ i) && decide (i < 0x2500) && bitOf l.flash ((i - 0x2100) / 64))
/-- A register-load section is sound: `ok` says which indices it may name. -/
def loadsOk (ws : List Word) (ok : Nat → Bool) : Bool :=
  let w0 := secWord ws 0
  bits w0 0 16 == 1 && decide (ws.length = 1 + 3 * bits w0 16 16) &&
    (loadEntries ws).all (fun e => regExists e.1 && ok e.1 && decide (e.2.2 &&& ~~~(accessMask e.1 (fun a => a == .rw || a == .rwk)) = 0#48))

/-! Containers (R516 to R521). -/

/-- The header fields a container carries (R516). -/
structure CHead where
  partial_ : Bool
  length : Nat
  build : Nat
  svn : Nat
  fuseSvn : Nat
  count : Nat
  base : Nat
  deriving DecidableEq, Repr

/-- A number of `n` bytes at a place of a byte string. -/
def le (bs : List Byte) (at_ n : Nat) : Nat := leNat (slice bs at_ n)
/-- The header of a container (R516). -/
def cHead (bs : List Byte) : CHead := ⟨le bs 6 1 == 1, le bs 8 4, le bs 12 4, le bs 16 1, le bs 17 1, le bs 18 1, le bs 20 4⟩
/-- A sound header: magic, format, kind, length, reserved bytes (R516). -/
def cHeadOk (bs : List Byte) : Bool :=
  decide (bs.length ≥ 32) && le bs 0 4 == 0x53575244 && le bs 4 2 == 1 && decide (le bs 6 1 ≤ 1) && le bs 7 1 == 0 && decide (le bs 8 4 = bs.length)
    && decide (bs.length ≤ 786432) && bs.length % 6 == 0 && decide (le bs 16 1 ≤ 64) && le bs 19 1 == 0 && le bs 24 8 == 0 && (le bs 6 1 == 1 || le bs 20 4 == 0)
/-- Section `i` of a container. -/
def cSection (bs : List Byte) (i : Nat) : ImgSection :=
  let e := slice bs (32 + 48 * i) 48
  ⟨le e 0 1, le e 1 1, le e 12 4, e, bytesWords (slice bs (le e 4 4) (le e 8 4))⟩
/-- The sections of a container in table order. -/
def cSections (bs : List Byte) : List ImgSection := (List.range (cHead bs).count).map (cSection bs)
/-- Section types that belong to a stage (R518). -/
def stageType (t : Nat) : Bool := t = 2 || t = 5
/-- The first entry of the section table with a fault, or `count` itself out of range; none for a sound table (R517). -/
def cTableFault (bs : List Byte) : Option Nat :=
  let k := (cHead bs).count
  if k = 0 ∨ k > 16 ∨ bs.length < 32 + 48 * k then some 0
  else
    let off := fun i => le bs (32 + 48 * i + 4) 4
    let size := fun i => le bs (32 + 48 * i + 8) 4
    let prev := fun i => if i = 0 then 32 + 48 * k else off (i - 1) + size (i - 1)
    (List.range k).find? (fun i =>
      let e := slice bs (32 + 48 * i) 48
      !(off i % 6 == 0 && size i % 6 == 0 && decide (prev i ≤ off i) && decide (off i + size i ≤ bs.length) && le e 2 2 == 0
        && (if stageType (le e 0 1) then decide (le e 1 1 < 4) else le e 1 1 == 0xFF)
        && (if le e 0 1 = 7 then decide (le e 12 4 < 4) else le e 12 4 == 0)
        && sha256 (slice bs (off i) (size i)) == slice e 16 32))
/-- The signature of a container under the module maker's hash (R519); none programmed: no container is accepted (R595). -/
def cSigned (s : State) (bs : List Byte) : SigResult :=
  let k := (cHead bs).count
  let at_ := le bs (32 + 48 * (k - 1) + 4) 4 + le bs (32 + 48 * (k - 1) + 8) 4
  let n := le bs (at_ + 60) 4
  let pad := bs.drop (at_ + 64 + n)
  match s.fw.makerHash with
  | none => .badKey
  | some h =>
    if (n ≠ 1776 ∧ n ≠ 3604) ∨ bs.length < at_ + 64 + n then .badParams
    else if pad.length > 5 ∨ pad.any (fun b => b != 0#8) then .badSignature
    else hssVerify h (slice bs at_ 60) (slice bs (at_ + 64) n) (sha256 (bs.take (32 + 48 * k)))
/-- The argument of event 0x70F for a refused signature of a signer (R437). -/
def sigArg (signer : Nat) (r : SigResult) : Nat :=
  signer + 4 * (match r with
    | .ok => 0
    | .badParams => 0
    | .badKey => 1
    | .badSignature => 2)

/-! The sections in effect (R523). -/

/-- Two sections have the same type, stage and ID. -/
def sameSection (a b : ImgSection) : Bool := a.typ == b.typ && a.stage == b.stage && a.id == b.id
/-- The sections of a partial put in the place of those of the same type, stage and ID (R523). -/
def amend (base part : List ImgSection) : List ImgSection :=
  base.filter (fun a => !part.any (sameSection a)) ++ part
/-- Order of type, stage and ID. -/
def sectionBefore (a b : ImgSection) : Bool :=
  decide (a.typ < b.typ) || (a.typ == b.typ && (decide (a.stage < b.stage) || (a.stage == b.stage && decide (a.id < b.id))))
/-- A section put in its place of the ascending order. -/
def sectionInsert : List ImgSection → ImgSection → List ImgSection
  | [], x => [x]
  | y :: ys, x => if sectionBefore x y then x :: y :: ys else y :: sectionInsert ys x
/-- The image hash over the table entries in effect (R523). -/
def imageHash (secs : List ImgSection) : List Byte := sha256 ((secs.foldl sectionInsert []).flatMap (·.entry))
/-- The section of a type, if there is one. -/
def secOf (secs : List ImgSection) (t : Nat) : Option ImgSection := secs.find? (fun x => x.typ == t)
/-- The section of a type for a stage. -/
def secFor (secs : List ImgSection) (t n : Nat) : Option ImgSection := secs.find? (fun x => x.typ == t && x.stage == n)
/-- The layouts of a set of sections. -/
def layouts (secs : List ImgSection) : List Layout := (secs.filter (fun x => x.typ == 2)).map (fun x => layoutOf x.words)
/-- The organisation word of the timing section. -/
def orgWord (secs : List ImgSection) : Nat := (secOf secs 6).elim 0 (fun x => secWord x.words 1)

/-- The count rules of R518 on a container's own sections. -/
def countsOk (full : Bool) (secs : List ImgSection) : Bool :=
  let n := fun t => (secs.filter (fun x => x.typ == t)).length
  secs.all (fun x => decide (1 ≤ x.typ) && decide (x.typ ≤ 8)) && secs.all (fun x => (secs.filter (sameSection x)).length == 1) &&
    (!full || (n 1 == 1 && (n 2 == 0 || n 6 == 1) && (layouts secs).all (fun l => secs.any (fun x => x.typ == 7 && x.id == l.mp))))

/-- Port arrangement of the house layout: split, MLD of P0, MLD of P1 (R525). -/
def portBits (secs : List ImgSection) : Bool × Bool × Bool :=
  let w := (secOf secs 1).elim 0 (fun x => secWord x.words 1)
  (bitOf w 0, bitOf w 1, bitOf w 2)

/-- The configured cap in MiB that R90 derives for an image: the cap of its power-up playbill, against the host-visible capacities of the stages it binds (DEDUCED, log entry 20). -/
def imageCapMib (secs : List ImgSection) (hostMib : Nat) : Nat :=
  let w := (secOf secs 3).elim 0 (fun x => secWord x.words 1)
  min (max (billSet ((billOf (bits w 0 3)).getD .repertory)).capMib 256) (max hostMib 256)

/-- The binding rules (R510). -/
def bindingOk (s : State) (secs : List ImgSection) : Bool :=
  let ls := layouts secs
  let h1 := orgWord secs
  let (split, mld0, mld1) := portBits secs
  let onPort := fun p => (ls.filter (fun l => l.port == p)).length
  let sum := (ls.map (fun l => layoutWeight l h1)).sum
  let disjoint := ls.all (fun a => ls.all (fun b => a.stage == b.stage || (a.dram &&& b.dram == 0 && a.flash &&& b.flash == 0)))
  let room := ls.all (fun l =>
    let host := hostUnits l h1 * 268435456
    let share := imageCapMib secs ((ls.map (fun m => hostUnits m h1)).sum * 256) * 1048576 * layoutWeight l h1 / max 1 sum
    decide (10 * layoutGood s l ≥ 12 * (host + share)))
  disjoint && room && ls.all (fun l => decide (1 ≤ ones l.dram) && decide (2 ≤ ones l.flash) && decide (1 ≤ hostUnits l h1))
    && (split || onPort 1 == 0) && (if mld0 then decide (1 ≤ onPort 0) else decide (onPort 0 ≤ 1))
    && (if mld1 && split then decide (1 ≤ onPort 1) else decide (onPort 1 ≤ 1))

/-- A register-load section gives a bound channel's DC_MAP an organisation other than H1's (R349). -/
def mapMoved (secs : List ImgSection) (y : ImgSection) : Bool :=
  (y.typ == 4 || y.typ == 5) && (loadEntries y.words).any (fun e =>
    (layouts secs).any (fun l => (List.range 4).any (fun c => bitOf l.dram c && e.1 == 0x1008 + 1024 * c
      && decide ((e.2.1.toNat ^^^ (bits (orgWord secs) 0 4 * 512)) &&& e.2.2.toNat &&& (15 * 512) ≠ 0))))
/-- What refuses a section's content: the event that its owning chapter logs, 0 for none of its own (R222, R349, R454, R525 to R528). -/
def contentFault (secs : List ImgSection) (x : ImgSection) : Option (Nat × Nat) :=
  let w := secWord x.words
  let bad := fun (ok : Bool) => if ok then none else some (0, 0)
  match x.typ with
  | 1 => bad (decide (x.words.length = 2) && w 0 == 1 + 2 * 65536 && decide (w 1 < 8))
  | 2 =>
    let l := layoutOf x.words
    bad (decide (x.words.length = 5) && w 0 == 1 + 5 * 65536 + x.stage * 2 ^ 24 && decide (w 1 < 2 ^ 35) && decide (w 2 < 2 ^ 24) && decide (w 3 < 2 ^ 32) && decide (w 4 < 2 ^ 24)
      && decide (l.spares ≤ 512) && decide (64 ≤ l.work) && decide (l.blocks * l.pages ≤ 1048575) && (l.host == 0 || l.host == hostUnits l (orgWord secs)))
  | 3 => bad (decide (x.words.length = 2) && w 0 == 1 + 2 * 65536 && decide (w 1 < 2 ^ 10) && (billOf (bits (w 1) 0 3)).isSome && bitOf (w 1) (4 + bits (w 1) 0 3))
  | 4 => bad (loadsOk x.words (fun _ => true))
  | 5 => bad (loadsOk x.words (fun i => (secFor secs 2 x.stage).elim false (fun y => loadInStage (layoutOf y.words) x.stage i)))
  | 6 =>
    match timingFault x.words with
    | some i => some (0x519, i)
    | none => if secs.any (mapMoved secs) then some (0x519, 1) else none
  | 7 => (microFault x.words).map (fun i => (0x411, i))
  | 8 => (cueFault x.words).map (fun i => (0x80C, i))
  | _ => bad false

/-- The fused version of a signer: programmed bits counted from bit 0 up to the first that is not (R590). -/
def fuseVersion (v : BitVec 64) : Nat := ((List.range 64).takeWhile (fun i => v.getLsbD i)).length

/-- The checks of a container against what it amends, the BUILD and sections of a full container: reason of R521, section-table index, and the events that its sections' chapters log. -/
def containerCheck (s : State) (base : Option (Nat × List ImgSection)) (bs : List Byte) : Nat × Nat × List (Nat × Nat) :=
  if !cHeadOk bs then (1, 0, [])
  else match cTableFault bs with
  | some i => (2, i, [])
  | none =>
    let h := cHead bs
    match cSigned s bs with
    | .ok =>
      if h.svn < fuseVersion s.fw.fuseImg ∨ h.fuseSvn > h.svn then (4, 0, [])
      else if h.partial_ ∧ base.map (·.1) ≠ some h.base then (5, 0, [])
      else
        let own := cSections bs
        if !countsOk (!h.partial_) own then (6, 0, [])
        else
          let secs := if h.partial_ then amend ((base.map (·.2)).getD []) own else own
          if !bindingOk s secs then (7, 0, [])
          else match (own.zipIdx).find? (fun e => (contentFault secs e.1).isSome) with
            | some e => (8, e.2, ((contentFault secs e.1).toList.filter (fun v => v.1 != 0)))
            | none =>
              -- a container without a timing section of its own moves a DC_MAP away from the one in effect (R349)
              match own.zipIdx.find? (fun e => mapMoved secs e.1) with
              | some e => (8, e.2, [(0x519, 1)])
              | none => (0, 0, [])
    | r => (3, 0, [(0x70F, sigArg 1 r)])

/-! Storage and selection (R522 to R524, R545, R549). -/

/-- The sectors of an image slot's container, and of its partials (R545): false slot A. -/
def imgSectors (b : Bool) : List Nat := sectorsFrom (if b then 2240 else 2112) 80
/-- First and last-plus-one sector of a slot's partials region. -/
def partRange (b : Bool) : Nat × Nat := if b then (2320, 2368) else (2192, 2240)
/-- The container a slot holds, if the slot is valid. -/
def slotContainer (st : Store) (b : Bool) : Option (List Byte) := (slotRead st 0x09 (imgSectors b)).map (fun r => r.2.flatMap wordBytes)
/-- The partials of a slot in list order: slot sequence, first sector, bytes; a superseded one is left out (R522, R549). -/
def slotPartials (st : Store) (b : Bool) : List (Nat × Nat × List Byte) :=
  let (lo, hi) := partRange b
  let found := (sectorsFrom lo (hi - lo)).filterMap (fun a =>
    let secs := sectorsFrom a (hi - a)
    (slotRead st 0x0A secs).bind (fun r =>
      if slotWord st secs (r.2.length + 2) = BitVec.allOnes 48 then some (r.1, a, r.2.flatMap wordBytes) else none))
  found.foldl (fun acc e => acc.takeWhile (fun q => decide (q.1 < e.1)) ++ [e] ++ acc.dropWhile (fun q => decide (q.1 < e.1))) []
/-- A partial taken off its list: its superseded word programmed to zero (R549). -/
def partialDrop (s : State) (b : Bool) (a : Nat) : State :=
  let secs := sectorsFrom a ((partRange b).2 - a)
  match slotRead s.store 0x0A secs with
  | some r => { s with store := progWord s.store (slotAddr secs (r.2.length + 2)) 0#48 }
  | none => s
/-- A container's words. -/
def containerWords (bs : List Byte) : List Word := bytesWords bs
/-- The slot a full container goes to: the one not in effect; with none in effect the one without a valid container, else the one of lower BUILD (R522). -/
def otherSlot (s : State) : Bool :=
  if rdb s F.IMG_STATUS_VALID then !rdb s F.IMG_STATUS_SLOT
  else match slotContainer s.store false, slotContainer s.store true with
    | none, _ => false
    | _, none => true
    | some a, some b => decide ((cHead b).build < (cHead a).build)
/-- A full container written, replacing the slot's partial list (R522). -/
def storeFull (s : State) (bs : List Byte) : Bool × State :=
  let b := otherSlot s
  let s := foldS (slotPartials s.store b) (fun s e => partialDrop s b e.2.1) s
  let seq := (slotRead s.store 0x09 (imgSectors b)).elim 1 (fun r => r.1 + 1)
  slotWriteAt s 0x09 (imgSectors b) seq (containerWords bs) none
/-- Every section of a partial stands in a later one (R522). -/
def supersededBy (old new : List Byte) : Bool := (cSections old).all (fun x => (cSections new).any (sameSection x))
/-- A partial appended to the list of the slot in effect; a ninth, or one without room, is refused (R522, R550). -/
def storePartial (s : State) (bs : List Byte) : Bool × State :=
  let b := rdb s F.IMG_STATUS_SLOT
  let ps := slotPartials s.store b
  let keep := ps.filter (fun e => !supersededBy e.2.2 bs)
  let need := fun (n : Nat) => ceilDiv (n / 6 + 3) 2045
  let (lo, hi) := partRange b
  let taken := keep.flatMap (fun e => sectorsFrom e.2.1 (need e.2.2.length))
  let k := need bs.length
  let room := (sectorsFrom lo (hi - lo)).find? (fun a => decide (a + k ≤ hi) && (sectorsFrom a k).all (fun x => !taken.contains x && !s.store.failed.contains x))
  match (if keep.length ≥ 8 then none else room) with
  | none => (false, event s 0xA0C 1 0 keep.length)
  | some a =>
    let seq := ps.foldl (fun m e => max m e.1) 0 + 1
    let s := foldS (ps.filter (fun e => !keep.contains e)) (fun s e => partialDrop s b e.2.1) s
    let s := foldS (sectorsFrom a k) eraseWhole s
    slotWriteAt s 0x0A (sectorsFrom a k) seq (containerWords bs) none
/-- A slot's full container and partials checked in list order: sections, BUILD, lowest SVN, highest FUSE_SVN, number of partials; or the reason and table index that refuse it (R523, R524). -/
def slotCheck (s : State) (bs : List Byte) (ps : List (List Byte)) : (Nat × Nat × List (Nat × Nat)) × (List ImgSection × Nat × Nat × Nat) :=
  let r := containerCheck s none bs
  let h := cHead bs
  if r.1 ≠ 0 ∨ h.partial_ then ((if r.1 = 0 then (6, 0, []) else r), ([], 0, 0, 0))
  else ps.foldl (fun acc p =>
    if acc.1.1 ≠ 0 then acc
    else
      let q := containerCheck s (some (h.build, acc.2.1)) p
      if q.1 ≠ 0 then (q, acc.2)
      else ((0, 0, []), (amend acc.2.1 (cSections p), min acc.2.2.1 (cHead p).svn, max acc.2.2.2.1 (cHead p).fuseSvn, acc.2.2.2.2 + 1)))
    ((0, 0, []), (cSections bs, h.svn, h.fuseSvn, 0))

end Sys2Proof.Machine
end

