-- ==== Sys2Proof/Machine/FwBase.lean ====
section
/-! DEFINITION. Firmware containers, slots, activation logs, the choice at boot, confirmation and fuses (R566, R574 to R581, R590, R591). -/

namespace Sys2Proof.Machine

/-- The firmware container's header (R574). -/
structure FwHead where
  svn : Nat
  fuseSvn : Nat
  length : Nat
  version : Nat
  steppings : Nat
  format : Nat
  oldest : Nat
  bodyHash : List Byte
  deriving DecidableEq, Repr

/-- The header of a container's bytes. -/
def fwHead (bs : List Byte) : FwHead := ⟨le bs 6 1, le bs 7 1, le bs 8 4, le bs 12 4, le bs 16 2, le bs 18 2, le bs 20 2, slice bs 24 32⟩
/-- A sound header (R574, R575). -/
def fwHeadOk (bs : List Byte) : Bool :=
  decide (bs.length ≥ 72) && le bs 0 4 == 0x46584657 && le bs 4 2 == 1 && decide (le bs 8 4 = bs.length) && bs.length % 6 == 0 && decide (bs.length ≤ 8392704)
    && decide (le bs 6 1 ≤ 64) && le bs 22 2 == 0 && le bs 56 16 == 0
/-- Where the signature block begins: the place at which its length field, its padding and BODY_HASH agree (R519, R574). A signature of one or two levels is looked for first; one of another length is found too, and refused by its check (R424). -/
def fwSigAt (bs : List Byte) : Option Nat :=
  ((1776 :: 3604 :: (List.range (bs.length - 135)).filter (fun n => n != 1776 && n != 3604)).flatMap (fun n => (List.range 6).map (fun p => (n, p)))).findSome? (fun q =>
    let at_ := bs.length - q.2 - 64 - q.1
    if bs.length ≥ 72 + 64 + q.1 + q.2 && le bs (at_ + 60) 4 == q.1 && (bs.drop (at_ + 64 + q.1)).all (· == 0#8)
      && decide (at_ - 72 ≤ 8388608) && sha256 (slice bs 72 (at_ - 72)) == slice bs 24 32 then some at_ else none)
/-- The checks of R575: result of R584 (0 accepted, 2 invalid, 3 security version), and the signature's outcome. -/
def fwCheck (s : State) (bs : List Byte) : Nat × SigResult :=
  let h := fwHead bs
  if !fwHeadOk bs || !bitOf h.steppings 0 then (2, .ok)
  else match fwSigAt bs with
  | none => (2, .ok)
  | some at_ =>
    match hssVerify Config.pyruaKeyHash (slice bs at_ 60) (slice bs (at_ + 64) (le bs (at_ + 60) 4)) (sha256 (bs.take 72)) with
    | .ok => if h.svn < fuseVersion s.fw.fuseFw then (3, .ok) else if h.fuseSvn > h.svn then (2, .ok) else (0, .ok)
    | r => (2, r)
/-- Event 0x70F for a firmware signature that fails (R575). -/
def fwSigEvent (s : State) (r : SigResult) : State := if r = .ok then s else event s 0x70F 2 0 (sigArg 0 r)

/-- The lanes of the enabled channels have their self-tests to run at a transition from Dark to Standby (R406). -/
def lanesDue (s : State) : State :=
  if rd s F.GLB_RESET_LAST ≠ 1 then s
  else { s with cipher := { s.cipher with laneDue := BitVec.ofNat 16 ((List.range 16).foldl (fun m c => m + b2n (rdb s (F.FL_CH_CFG_ENABLE c)) * 2 ^ c) 0) } }

/-! Slots and activation logs (R545, R576 to R578). -/

/-- The sectors of a firmware slot (R545): false A. -/
def fwSectors (b : Bool) : List Nat := sectorsFrom (if b then 1088 else 64) 1024
/-- The container a slot holds, if the slot is valid (R549, R576). -/
def fwContainer (s : State) (b : Bool) : Option (List Byte) := (slotRead s.store 0x08 (fwSectors b)).map (fun r => r.2.flatMap wordBytes)
/-- The slot still holds the container it was shipped with (R681). -/
def fwShipped (s : State) (b : Bool) : Bool := !b && s.fw.shipLog.isSome
/-- The bytes of a firmware slot's contents (R431, R576): its container; as shipped, the header and what the shipped words hold behind it (R681). -/
def fwContents (s : State) (b : Bool) : List Byte :=
  if fwShipped s b then Config.shippedHeader ++ (List.range (le Config.shippedHeader 8 4 / 6 - 12)).flatMap (fun i => wordBytes (Config.shippedWord (slotAddr (fwSectors false) (i + 13))))
  else (fwContainer s b).getD []
/-- Address of word `k` of a slot's activation log: the first word follows the valid mark (R576). -/
def logAddr (s : State) (b : Bool) (k : Nat) : Nat :=
  slotAddr (fwSectors b) ((slotRead s.store 0x08 (fwSectors b)).elim 0 (fun r => r.2.length) + 2 + k)
/-- An activation word (R576). -/
def actWord (seq : Nat) : Word := BitVec.ofNat 48 (seq % 2 ^ 32 + crc8 (leBytes 4 seq) * 2 ^ 32)
/-- The used entries of a slot's log: its place and, where its CRC passes, sequence and whether it is confirmed (R576). -/
def fwLogRaw (s : State) (b : Bool) : List (Nat × Option (Nat × Bool)) :=
  let act := fun k => (storeWord s.store (logAddr s b (2 * k))).2
  ((List.range 64).takeWhile (fun k => act k ≠ BitVec.allOnes 48)).map (fun k =>
    let q := bits (act k).toNat 0 32
    (k, if act k = actWord q then some (q, (storeWord s.store (logAddr s b (2 * k + 1))).2 == 0#48) else none))
/-- The counted entries of a slot: sequence, whether confirmed. -/
def fwLog (s : State) (b : Bool) : List (Nat × Bool) :=
  if fwShipped s b then s.fw.shipLog.getD [] else (fwLogRaw s b).filterMap (·.2)
/-- Entries of the log in use. -/
def fwLogUsed (s : State) (b : Bool) : Nat := if fwShipped s b then (s.fw.shipLog.getD []).length else (fwLogRaw s b).length
/-- The entry of highest sequence. -/
def fwTop (l : List (Nat × Bool)) : Option (Nat × Bool) := l.foldl (fun a e => match a with
  | none => some e
  | some x => if e.1 ≥ x.1 then some e else some x) none
/-- The activation sequence of a slot, 0 for none (R577). -/
def fwSeq (s : State) (b : Bool) : Nat := (fwTop (fwLog s b)).elim 0 (·.1)
/-- The header of the container in a slot. The shipped firmware accepts the handover records that it writes: its range of formats is not empty (R574, R586; DEDUCED, log entry 39). -/
def fwSlotHead (s : State) (b : Bool) : FwHead :=
  if fwShipped s b then
    (let h := fwHead Config.shippedHeader
    { h with oldest := min h.oldest h.format })
  else fwHead ((fwContainer s b).getD [])
/-- The container of a slot is accepted (R575); the shipped one is as far as its security version goes (R578). -/
def fwAccepted (s : State) (b : Bool) : Bool :=
  if fwShipped s b then decide ((fwSlotHead s b).svn ≥ fuseVersion s.fw.fuseFw)
  else (fwContainer s b).elim false (fun bs => decide ((fwCheck s bs).1 = 0))
/-- A slot's state (R577). -/
def fwSlotState (s : State) (b : Bool) : Nat :=
  if !fwAccepted s b then 0
  else match fwTop (fwLog s b) with
    | none => 1
    | some (_, c) => if c then 3 else 2
/-- FW_SLOT_A and FW_SLOT_B as the slots stand (R598). -/
def fwSlotRegs (s : State) : State :=
  let put := fun (s : State) (b : Bool) (i : Nat) =>
    setReg s i (BitVec.ofNat 48 (fwSlotState s b + (fwSlotHead s b).svn % 128 * 4 + fwSeq s b % 2 ^ 32 * 2 ^ 9 + (fwLog s b).length % 128 * 2 ^ 41))
  put (put s false 0x4401) true 0x4402
/-- An entry appended to a slot's log and read back, confirmed at once or not (R578, R580): 0 done, 9 log full, 2 not written. -/
def fwAppend (s : State) (b : Bool) (confirmed : Bool) : Nat × State :=
  let k := fwLogUsed s b
  let seq := max (fwSeq s false) (fwSeq s true) + 1
  if k ≥ 64 then (9, event s 0x71F 1 0 (b2n b))
  else if fwShipped s b then
    (0, event { s with fw := { s.fw with shipLog := s.fw.shipLog.map (· ++ [(seq, confirmed)]) } } 0x714 0 0 seq)
  else
    let st := progWord s.store (logAddr s b (2 * k)) (actWord seq)
    let st := if confirmed then progWord st (logAddr s b (2 * k + 1)) 0#48 else st
    let ok := decide ((storeWord st (logAddr s b (2 * k))).2 = actWord seq)
    (if ok then 0 else 2, whenS ok (fun s => event s 0x714 0 0 seq) { s with store := st })
/-- The newest entry of a slot confirmed (R581). -/
def fwConfirmEntry (s : State) (b : Bool) : State :=
  match fwTop (fwLog s b) with
  | none => s
  | some (q, _) =>
    if fwShipped s b then
      { s with fw := { s.fw with shipLog := s.fw.shipLog.map (fun l => l.map (fun e => if e.1 = q then (e.1, true) else e)) } }
    else match (fwLogRaw s b).find? (fun e => e.2.elim false (fun v => v.1 == q)) with
      | some (k, _) => { s with store := progWord s.store (logAddr s b (2 * k + 1)) 0#48 }
      | none => s
/-- Protection of the active slot's groups, and none of the other's (R566). -/
def fwProtect (s : State) (b : Bool) : State :=
  let a : BitVec 128 := BitVec.ofNat 128 ((2 ^ 16 - 1) * 2)
  let c : BitVec 128 := BitVec.ofNat 128 ((2 ^ 16 - 1) * 2 ^ 17)
  let p := s.store.prot &&& ~~~(a ||| c)
  { s with store := { s.store with prot := p ||| (if b then c else a) } }

/-- A security-version raise asked for (R591). -/
def fwRaise (s : State) (img : Bool) (target : Nat) : State :=
  let cur := fuseVersion (if img then s.fw.fuseImg else s.fw.fuseFw)
  if target > cur then { s with fw := { s.fw with raises := s.fw.raises.filter (fun r => r.1 != img) ++ [(img, min 64 target)] } } else s
/-- The slot of the house role's firmware confirmed (R581, R591). -/
def fwConfirm (s : State) : State :=
  let b := s.fw.roleSlotB.headD false
  let s := { s with fw := { s.fw with unconfirmed := false } }
  if (fwTop (fwLog s b)).elim true (·.2) then fwRaise s false (fwSlotHead s b).fuseSvn
  else
    let s := fwConfirmEntry s b
    let s := wr (wr s F.FW_BOOT_TRIAL_FAILS 0) F.FW_BOOT_FELL_BACK 0
    let s := fwSlotRegs (event s 0x718 0 0 (b2n b))
    fwRaise s false (fwSlotHead s b).fuseSvn
/-- Confirmation once every bound stage has left Dressing (R581). -/
def fwConfirmTry (s : State) : State :=
  if s.fw.unconfirmed ∧ ¬ anyStage s .dressing then fwConfirm s else s

/-- The slot that boot picks, with what picking does (R580); none: recovery cause 2. -/
def fwPick (s : State) : Option Bool × State :=
  let st := fun b => fwSlotState s b
  let cands := [false, true].filter (fun b => decide (st b ≥ 2))
  let cands := if cands.isEmpty then [false, true].filter (fun b => decide (st b = 1)) else cands
  match cands with
  | [] => (none, s)
  | c :: _ =>
    let pick := if cands.length = 2 then decide (fwSeq s true > fwSeq s false) else c
    if st pick = 2 ∧ rd s F.FW_BOOT_TRIAL_FAILS ≥ 2 ∧ cands.contains (!pick) then
      let s := (fwAppend s (!pick) true).2
      (some (!pick), event (wr (wr s F.FW_BOOT_TRIAL_FAILS 0) F.FW_BOOT_FELL_BACK 1) 0x712 1 0 (b2n (!pick)))
    else if st pick = 2 then (some pick, incSat s F.FW_BOOT_TRIAL_FAILS 1)
    else (some pick, s)

/-- The version registers as the fuses hold them (R538, R598). -/
def fuseRegs (s : State) : State :=
  let s := wr (wr s F.FW_FUSE_FW_FUSED (fuseVersion s.fw.fuseFw)) F.FW_FUSE_IMG_FUSED (fuseVersion s.fw.fuseImg)
  wr (wr s F.FW_FUSE_MAKER_HASH_SET (b2n s.fw.makerHash.isSome)) F.IMG_SVN_FUSED (fuseVersion s.fw.fuseImg)

end Sys2Proof.Machine
end

