-- ==== Sys2Proof/Machine/Dress.lean ====
section
/-! DEFINITION. Applying an image and dressing its stages (R524, R529, R530, R533, R534), DRAM training (R350, R352, R358 to R362), and the steps of an erase (R392, R393). -/

namespace Sys2Proof.Machine

/-! Selecting and applying an image (R523, R524, R530 steps 1 to 4). -/

/-- An accepted slot: slot, sections, BUILD, SVN in effect, highest FUSE_SVN, partials. -/
structure ImgPick where
  slot : Bool
  secs : List ImgSection
  build : Nat
  svn : Nat
  fuse : Nat
  parts : Nat
  deriving DecidableEq, Repr

/-- A slot checked: accepted, or rejected with event 0xA02 and its chapters' events (R524, R541). -/
def slotTry (s : State) (b : Bool) : Option ImgPick × State :=
  match slotContainer s.store b with
  | none => (none, s)
  | some bs =>
    let r := slotCheck s bs ((slotPartials s.store b).map (fun e => e.2.2))
    if r.1.1 = 0 then (some ⟨b, r.2.1, (cHead bs).build, r.2.2.1, r.2.2.2.1, r.2.2.2.2⟩, s)
    else
      let s := foldS r.1.2.2 (fun s e => event s e.1 2 0 e.2) s
      (none, event (wr s F.IMG_STATUS_LAST_REJECT r.1.1) 0xA02 2 0 (r.1.1 + r.1.2.1 % 16 * 16 + b2n b * 256))
/-- The slots in the order of R524: those that hold a valid container, the higher BUILD first. -/
def slotOrder (s : State) : List Bool :=
  let build := fun b => (slotContainer s.store b).map (fun bs => (cHead bs).build)
  let both := if (build false).getD 0 < (build true).getD 0 then [true, false] else [false, true]
  both.filter (fun b => (build b).isSome)
/-- The image to apply, and whether it is the fall-back. -/
def imagePick (s : State) : Option (ImgPick × Bool) × State :=
  match slotOrder s with
  | [] => (none, s)
  | b :: rest =>
    match slotTry s b with
    | (some p, s) => (some (p, false), s)
    | (none, s) =>
      match rest with
      | [] => (none, s)
      | c :: _ =>
        let (q, s) := slotTry s c
        (q.map (fun p => (p, true)), s)

/-- The protection bits of the user groups follow STORE_USER_PROT (R566). -/
def userProtFollow (s : State) : State :=
  let m : BitVec 128 := (BitVec.ofNat 128 (2 ^ 32 - 1)) <<< 64
  { s with store := { s.store with prot := (s.store.prot &&& ~~~m) ||| (BitVec.ofNat 128 (rd s F.STORE_USER_PROT_MASK)) <<< 64 } }

/-- A playbill's cap against the battery: event 0x00C with the afforded cap (R62). -/
def billAfford (s : State) : State :=
  let (cap, lim) := deviceCap s (usableOf s (rd s F.GAUGE_SOC_SOC_UAH) (rd s F.GAUGE_UNC_UNC_UAH))
  whenS (decide (cap < configuredMib s * 256) && decide (lim ≠ 0)) (fun s => event s 0x00C 1 0 (satN 32 cap)) s

/-- The playbill applied at power-up: the recorded request where the image allows it, else the image's (R63, R527). A boot after a reset of the cores is no transition from Dark and leaves the record. RESULT stands at 1 once the record has been used (DESIGN CHOICE, log entry 150). -/
def powerUpBill (s : State) (secs : List ImgSection) : State :=
  let w := (secOf secs 3).elim (0x3F * 16) (fun x => secWord x.words 1)
  let allowed := bits w 4 6
  let own : PlaybillReq := ⟨(billOf (bits w 0 3)).getD .repertory, bitOf w 3⟩
  let s := { s with modes := { s.modes with allowed := BitVec.ofNat 6 allowed } }
  let up := rd s F.GLB_RESET_LAST == 1
  let (b, s) := match (if up then s.modes.recorded else none) with
    | some r => if bitOf allowed (billCode r.bill) then (r, s) else (own, event (wr s F.MODE_PLAYBILL_RESULT 3) 0x004 1 0 3)
    | none => (own, s)
  let s := { s with modes := { s.modes with recorded := if up then none else s.modes.recorded } }
  let s := wr (wr s F.MODE_PLAYBILL_PLAYBILL (billCode b.bill)) F.MODE_PLAYBILL_COMPAT_QOS (b2n b.compat)
  event (billRates (billLoad s b) b.bill) 0x003 0 0 (billCode b.bill + 8 * b2n b.compat)

/-- The remap entries of a stage freed, its spare lines with them (R334). -/
def remapFreeStage (s : State) (n : Stage) : State :=
  let d := s.dram
  { s with dram := { d with remap := d.remap.filter (fun e => decide (e.2.stage ≠ n)), burned := d.burned.filter (fun b => b / 512 ≠ n.val) } }

/-- The patrol scrub of a channel starts at line 0, for the stage it is now bound to (R322). -/
def scrubRestart (s : State) (c : DramCh) (n : Option Stage) : State :=
  let x := chan s c
  wr (setChan s c { x with scrubFor := n, scrubUncorr := 0, scrubStart := tickOf s, subA := { x.subA with scrubOwed := false } }) (F.DC_SCRUB_STATUS_POSITION c.val) 0
/-- A channel bound to a stage; where it was not bound to it before, its scrub starts at line 0 (R322). -/
def scrubBind (s : State) (c : DramCh) (n : Stage) : State := if (chan s c).scrubFor = some n then s else scrubRestart s c (some n)
/-- Every channel of a re-dressed stage starts its scrub at line 0 (R322, R532). -/
def scrubAnew (s : State) (n : Stage) : State := foldS (stageChans s n) (fun s c => scrubRestart s c (some n)) s

/-- The registers that a stage layout section loads (R262, R303, R510, R512, R526). -/
def layoutLoad (s : State) (secs : List ImgSection) (l : Layout) : State :=
  let n := l.stage
  let h1 := orgWord secs
  let (split, mld0, mld1) := portBits secs
  let mld := if split && l.port == 1 then mld1 else mld0
  let ld := ((layouts secs).filter (fun m => m.port == l.port && decide (m.stage < n))).length
  let s := foldS ((stageFlashChs s (fin4 n)).filter (fun c => !bitOf l.flash c)) (fun s c => wr (wr (wr s (F.FL_CH_CFG_ENABLE c) 0) (F.FL_CH_STATUS_TRAINED c) 0) (F.FL_CH_STATUS_LOST c) 0) s
  let bind := l.dram + l.flash * 2 ^ 4 + l.port * 2 ^ 20 + (if mld then ld % 4 * 2 ^ 21 + 2 ^ 23 else 0) + l.mp * 2 ^ 24 + 2 ^ 26
  let raw := rawUnits l h1
  let host := hostUnits l h1
  let s := setReg s (F.STAGE_BIND_DRAM n).idx (BitVec.ofNat 48 bind)
  let s := setReg s (F.STAGE_SIZE_RAW_256MIB n).idx (BitVec.ofNat 48 (raw % 2 ^ 24 + host % 2 ^ 24 * 2 ^ 24))
  let s := setReg s (F.STAGE_BACK_SPARES n).idx (BitVec.ofNat 48 (l.spares + l.work * 2 ^ 10 + satN 16 ((raw - host) * 256) * 2 ^ 24))
  let s := wr s ⟨0x1100, 10 * n, 10⟩ l.spares
  let chs := (List.range 4).filter (bitOf l.dram)
  let s := foldS ((stageChans s (fin4 n)).filter (fun c => !chs.contains c.val)) (fun s c => setReg (mapSet (scrubRestart s c none) c 0#48) (F.DC_PHY_STATUS_TRAINED c.val).idx 0#48) s
  let s := foldS chs.zipIdx (fun s e =>
    mapSet (scrubBind s (fin4 e.1) (fin4 n)) (fin4 e.1) (BitVec.ofNat 48 (l.grain + (chs.length - 1) * 4 + e.2 * 16 + n * 64 + 256 + bits h1 0 4 * 512))) s
  let s := wr (wr s (F.FL_STAGE_GEOM_BLOCKS n) l.blocks) (F.FL_STAGE_GEOM_PAGES n) l.pages
  let s := wr (wr s (F.FL_STAGE_GEOM_LUNS n) (layoutLuns l).length) (F.LDG_CFG_SHARE n) l.share
  foldS ((List.range 16).filter (bitOf l.flash)) (fun s c => wr s (F.FL_CH_CFG_ENABLE c) 1) s

/-- A stage's flash set as it is before Dressing has read anything: what belongs to the medium stays (R533). -/
def fsetFresh (x : StageFlash) : StageFlash := { fsetInit with fmt := x.fmt, recs := x.recs, serial := x.serial }

/-- Step 4 of R530 for one stage: its layout applied, its engines at rest, Unbound or Sealed to Dressing (R48, R334, R512). -/
def bindStage (s : State) (secs : List ImgSection) (l : Layout) : State :=
  let n := fin4 l.stage
  -- the crossbar gives no stage a channel that another holds (R22, R512, R534)
  let clash := fours.any (fun m => m != n && rdb s (F.STAGE_BIND_BOUND m.val)
    && (decide (rd s (F.STAGE_BIND_DRAM m.val) &&& l.dram ≠ 0) || decide (rd s (F.STAGE_BIND_FLASH m.val) &&& l.flash ≠ 0)))
  let s := if clash then remapFreeStage s n else layoutLoad (remapFreeStage s n) secs l
  let s := setFset s n (fsetFresh (fset s n))
  let s := setFsys s n { fsysInit with ces := l.ces, lunsPer := l.luns }
  let s := setSav (setRst (setLedger s n ledgerInit) n restoreInit) n saveInit
  let s := { s with flash := { s.flash with readQ := qset s.flash.readQ n [], laneQ := qset s.flash.laneQ n [] } }
  let s := wr (wr (wr s (F.STAGE_DRESS_FORMATTED n.val) 0) (F.STAGE_DRESS_STEP n.val) 5) (F.LDG_SWEEP_STATUS_ACTIVE n.val) 0
  let s := { s with image := { s.image with
    dressStart := qset s.image.dressStart n s.now, dressFault := qset s.image.dressFault n (b2n clash), untrained := qset s.image.untrained n false } }
  stageTo (stageLock s n false) n .dressing

/-- The image in effect put into its registers (R523, R540). -/
def imageRegs (s : State) (p : ImgPick) (fallback : Bool) : State :=
  let keep := rawReg s F.IMG_STATUS_VALID.idx &&& BitVec.ofNat 48 (63 * 128)
  let s := setReg s F.IMG_STATUS_VALID.idx (keep ||| BitVec.ofNat 48 (1 + b2n p.slot * 2 + b2n fallback * 4 + min p.parts 8 * 8 + p.build % 2 ^ 32 * 2 ^ 13))
  wr s F.IMG_SVN_SVN p.svn

/-- The sections in effect replaced, with their hash (R523). -/
def imageSections (s : State) (secs : List ImgSection) : State :=
  { s with image := { s.image with sections := secs, hash := imageHash secs } }

/-- Micro-program sections taken in (R219). -/
def microLoad (s : State) (secs : List ImgSection) : State :=
  { s with flash := { s.flash with micro := qtab (fun k => ((secs.find? (fun x => x.typ == 7 && x.id == k.val)).elim [] (·.words))) } }

/-- An image that names a rehearsal rail other than 14 or 15, or one that its cue section marks PRESENT, gets none, with event 0x912 (R501). -/
def rehRailCheck (s : State) (cue : List Word) : State :=
  let k := rd s F.GAUGE_CFG_REH_RAIL
  let present := if cue.isEmpty then 0x3FFF else bits (secWord cue 1) 0 16
  let bad := rdb s F.GAUGE_CFG_REH_RAIL_VALID && ((k != 14 && k != 15) || bitOf present k)
  whenS bad (fun s => event s 0x912 1 0 k) { s with gauge := { s.gauge with railBad := bad } }

/-- The image selected and applied, up to each stage's entry to Dressing (R524, R529, R530 steps 1 to 4). -/
def imageApply (s : State) : State :=
  let s := wr s F.IMG_SVN_FUSED (fuseVersion s.fw.fuseImg)
  match imagePick s with
  | (none, s) =>
    let s := imageSections { s with cxl := { s.cxl with combined := true, mld0 := false, mld1 := false } } []
    event (billAfford (powerUpBill s [])) 0xA0F 2 0 0
  | (some (p, fb), s) =>
    let s := event (imageSections (imageRegs s p fb) p.secs) 0xA01 0 0 (b2n p.slot + min p.parts 8 * 2 + p.svn % 128 * 32)
    let s := { s with image := { s.image with fuseTarget := if p.fuse > fuseVersion s.fw.fuseImg then some p.fuse else none } }
    let (split, mld0, mld1) := portBits p.secs
    let s := { s with cxl := { s.cxl with combined := !split, mld0 := mld0, mld1 := mld1 } }
    let cue := (secOf p.secs 8).elim [] (·.words)
    let s := if s.power.run.isSome then { s with power := { s.power with cuePending := some cue } } else cueLoad s cue
    let s := microLoad { s with dram := { s.dram with timing := (secOf p.secs 6).elim [] (·.words) } } p.secs
    let s := foldS (p.secs.filter (fun x => x.typ == 4)) (fun s x => loadSection s x.words) s
    let s := userProtFollow (powerUpBill (rehRailCheck s cue) p.secs)
    let s := wr s F.GLB_LOCK_DEVICE 1
    let s := { s with image := { s.image with relayout := qall false } }
    billAfford (divideWays (foldS (layouts p.secs) (fun s l => bindStage s p.secs l) s))

/-! DRAM training (R350 to R362). -/

/-- Speed codes of the timing section's sets, highest first. -/
def timingSpeeds (s : State) : List Nat :=
  let k := bits (timingWord s 0) 24 4
  ((List.range k).filterMap (fun i => speedCode (bits (timingWord s (3 + 8 * i)) 0 13))).mergeSort (fun a b => decide (a ≥ b))

/-- A training snapshot: the slot that holds it, its keys and its settings (R359, R550). -/
structure Snapshot where
  slot : Nat
  seq : Nat
  speed : Nat
  stepping : Nat
  format : Nat
  spdHash : Nat
  timingHash : List Byte
  temp : Nat
  delays : NMap Nat
  settings : NMap Nat
  deriving DecidableEq, Repr

/-- The sectors of a training slot, 0 or 1. -/
def trainSlot (i : Nat) : List Nat := if i = 0 then slotsTrain.1 else slotsTrain.2
/-- The payload of a snapshot (R550). Format 1 of the settings is the model's own: one word for a delay, or for a setting of the devices and clock drivers with bit 23 set, its key in the low half and its value in the high half (DESIGN CHOICE, log entry 56). -/
def snapWords (q : Snapshot) : List Word :=
  BitVec.ofNat 48 (q.speed % 16 + q.stepping % 256 * 16 + q.format % 4096 * 4096)
    :: (bytesWords (leBytes 8 q.spdHash) ++ bytesWords (q.timingHash ++ List.replicate 4 0#8))
    ++ BitVec.ofNat 48 (q.temp % 256) :: (((q.delays : List (Nat × Nat)) ++ q.settings.map (fun (e : Nat × Nat) => (2 ^ 23 + e.1 % 2 ^ 23, e.2))).take 8166).map (fun (e : Nat × Nat) => BitVec.ofNat 48 (e.1 % 2 ^ 24 + e.2 % 4096 * 2 ^ 24))
/-- The snapshot that a slot's payload holds. -/
def snapOf (slot seq : Nat) (ws : List Word) : Snapshot :=
  let w := fun i => (ws.getD i 0#48).toNat
  let part := fun (set : Bool) => ((ws.drop 10).filter (fun e => bitOf e.toNat 23 == set)).foldl (fun m e => mset 0 m (bits e.toNat 0 23) (bits e.toNat 24 12)) []
  ⟨slot, seq, bits (w 0) 0 4, bits (w 0) 4 8, bits (w 0) 12 12, w 1 + w 2 % 65536 * 2 ^ 48, (((ws.drop 3).take 6).flatMap wordBytes).take 32, bits (w 9) 0 8,
    part false, part true⟩
/-- The snapshot of a slot, where the slot is valid. -/
def snapRead (s : State) (i : Nat) : Option Snapshot := (slotRead s.store 0x06 (trainSlot i)).map (fun r => snapOf i r.1 r.2)
/-- Snapshots of the training area, newest first (R359). -/
def snapshots (s : State) : List Snapshot :=
  match snapRead s 0, snapRead s 1 with
  | some a, some b => if a.seq ≥ b.seq then [a, b] else [b, a]
  | some a, none => [a]
  | none, some b => [b]
  | none, none => []
/-- SHA-256 of the timing section in use. -/
def timingHash (s : State) : List Byte := sha256 (s.dram.timing.flatMap wordBytes)
/-- The keys of a snapshot match (R359, R360). -/
def snapKeys (s : State) (t : TrainIn) (v : Nat) (q : Snapshot) : Bool :=
  q.format == 1 && q.speed == v && q.spdHash == t.spdHash.toNat && q.stepping == rd s F.GLB_ID_STEPPING && q.timingHash == timingHash s
/-- Its temperature is close enough. -/
def snapTemp (s : State) (t : TrainIn) (q : Snapshot) : Bool :=
  decide (max q.temp t.temp - min q.temp t.temp ≤ rd s F.DC_PHY_GLOBAL_SNAP_TEMP_C)

/-- The delays and the device and clock-driver settings of some channels replaced by those of a set; each setting is programmed (R346, R355, R359). -/
def delaysTake (s : State) (chs : List DramCh) (m st : List (Nat × Nat)) : State :=
  let mine := fun (k : Nat) => chs.any (fun c => decide (delayKey c.val 0 0 0 0 ≤ k) && decide (k < delayKey (c.val + 1) 0 0 0 0))
  let ours := fun (k : Nat) => chs.any (fun c => k / 4096 == c.val)
  let put := fun (q : NMap Nat) (e : Nat × Nat) => mset 0 q e.1 (min e.2 4095)
  let mySet := st.filter (fun e => ours e.1)
  let s := { s with dram := { s.dram with
    delays := (m.filter (fun e => mine e.1)).foldl put (s.dram.delays.filter (fun e => !mine e.1))
    staged := s.dram.staged.filter (fun e => !mine e.1)
    settings := mySet.foldl put (s.dram.settings.filter (fun e => !ours e.1)) } }
  foldS mySet (fun s e => emit s (.dramSet (e.1 / 4096) (e.1 % 4096) (min e.2 4095))) s

/-- A snapshot written into the slot that does not hold the one just rejected or used, the newest where there is none, its valid mark once the writing has taken its time; a slot with a failed sector is skipped (R361, R570). -/
def snapWrite (s : State) (t : TrainIn) (v : Nat) (old : Option Nat) : State :=
  let top := (snapshots s).head?
  let keep := old.getD (top.elim 1 (·.slot))
  let failed := fun (i : Nat) => (trainSlot i).any (fun x => s.store.failed.contains x)
  let slot := if failed (1 - keep) then keep else 1 - keep
  let q : Snapshot := ⟨slot, top.elim 1 (fun x => x.seq + 1), v, rd s F.GLB_ID_STEPPING, 1, t.spdHash.toNat, timingHash s, t.temp, s.dram.delays, s.dram.settings⟩
  (slotWriteAt s 0x06 (trainSlot slot) q.seq (snapWords q) (some (slot, none))).2

/-- The blast radius of directed refresh management: the smallest that the devices support of at least RADIUS, 0 for none (R352). -/
def blastRadius (s : State) (c : DramCh) : Nat :=
  let mask := bits (timingWord s 2) 33 4
  ((List.range 4).find? (fun i => bitOf mask i && decide (i + 1 ≥ rhRadius s c))).elim 0 (· + 1)
/-- Channels marked trained; the channel starts with nothing queued and its refresh intervals begin; the ranks' temperature range stands as it was read last (R282, R352, R353, R368). -/
def chanTrained (s : State) (c : DramCh) (fromSnap : Bool) : State :=
  let s := setReg s (F.DC_PHY_STATUS_TRAINED c.val).idx (BitVec.ofNat 48 (1 + 2 * b2n fromSnap + 4 * rd s (F.DC_PHY_STATUS_HIGH_TEMP c.val)))
  let radius := blastRadius s c
  let old := chan s c
  let rank := fun (k : Rank) => { subInit.rank0 with refAt := s.now, lastCmd := s.now, highTemp := k.highTemp, normalReads := k.normalReads }
  let sub := fun (x : SubCh) => { subInit with rank0 := rank x.rank0, rank1 := rank x.rank1, idleSince := s.now }
  let s := setReg (setReg (setReg s (F.DC_PANIC_COUNT_PANICS c.val).idx 0#48) (F.DC_PROMOTE_COUNT_COUNT c.val).idx 0#48) (F.DC_SR_COUNT_ENTRIES c.val).idx 0#48
  let s := setReg (wr s (F.DC_REF_STATUS_FORCED c.val) 0) (F.DC_ECC_COUNT_CORRECTED c.val).idx 0#48
  let s := setChan s c { chanInit with
    subA := sub old.subA, subB := sub old.subB, window := s.now, scrubFor := old.scrubFor, scrubUncorr := old.scrubUncorr, scrubStart := old.scrubStart
    captures := old.captures, captureLost := old.captureLost, drfmOff := radius == 0, blast := radius }
  if radius = 0 then event s 0x51A 1 0 (rd s (F.DC_RH_CFG_RADIUS c.val)) else emit s (.drfmRadius c.val radius)

/-- Stages whose DRAM did not train. -/
def markUntrained (s : State) (cs : List DramCh) : State :=
  foldS (cs.filterMap (chanStage s)) (fun s n => { s with image := { s.image with untrained := qset s.image.untrained n true } }) s

/-- The step of R358 at which full training of a channel fails at a speed, if one does. -/
def failStep (t : TrainIn) (v : Nat) (c : DramCh) : Option Nat :=
  (t.fails.filter (fun e => e.1 == v && e.2.1 == c)).foldl (fun a e => some (a.elim (min 7 (max 1 e.2.2)) (min (min 7 (max 1 e.2.2))))) none
/-- The channel whose step of full training fails first, with that step; the channels run their steps in parallel (R358). -/
def firstFail (t : TrainIn) (v : Nat) (chs : List DramCh) : Option (DramCh × Nat) :=
  chs.foldl (fun a c => match failStep t v c, a with
    | some k, some (d, j) => if k < j then some (c, k) else some (d, j)
    | some k, none => some (c, k)
    | none, a => a) none
/-- The steps of full training that run at a speed: all seven, or up to the one that fails (R358). -/
def trainSteps (s : State) (t : TrainIn) (v : Nat) (chs : List DramCh) : State :=
  let last := (firstFail t v chs).elim 7 (·.2)
  foldS (List.range last) (fun s i => foldS chs (fun s c => emit s (.trainStep c.val (i + 1) v)) s) s
/-- What full training has found on its channels takes effect, and is kept as a snapshot; event 0x510 (R358, R361). -/
def trainPassed (s : State) (t : TrainIn) (v : Nat) (chs : List DramCh) (old : Option Nat) : State :=
  let s := foldS chs (fun s c => chanTrained s c false) (delaysTake s chs t.delays t.settings)
  event (wr (snapWrite s t v old) F.DC_PHY_GLOBAL_FORCE_TRAIN 0) 0x510 0 0 (v + satN 16 t.ms * 16)

/-- Full training at the speeds of a list in turn (R358). -/
def fullTrain (t : TrainIn) (chs : List DramCh) (old : Option Nat) : List Nat → State → State
  | [], s => s
  | v :: rest, s =>
    let s := trainSteps (wr s F.DC_PHY_GLOBAL_SPEED_ACTIVE v) t v chs
    match firstFail t v chs with
    | none => trainPassed s t v chs old
    | some (c, _) =>
      let s := event s 0x512 1 0 (c.val + v * 4)
      if rest.isEmpty then
        let bad := chs.filter (fun c => (failStep t v c).isSome)
        let good := chs.filter (fun d => !bad.contains d)
        let s := foldS good (fun s d => chanTrained s d false) (delaysTake s good t.delays t.settings)
        markUntrained (foldS bad (fun s d => event s 0x513 2 0 d.val) s) bad
      else fullTrain t chs old rest s

/-- What verification from a snapshot comes to. -/
inductive SnapEnd where
  | verified
  /-- no snapshot serves: the slot rejected, if one was -/
  | rejected (slot : Option Nat)
  deriving DecidableEq, Repr
/-- The verification runs of a channel at the loaded delays and at VERIFY_TAPS below and above them (R360). -/
def verifyRuns (s : State) (c : DramCh) : State :=
  let v := rd s F.DC_PHY_GLOBAL_VERIFY_TAPS
  foldS [0, -(v : Int), (v : Int)] (fun s k => emit s (.verify c.val k)) s
/-- Some lane of a channel saw an error at one of the three points (R360). -/
def verifyFails (t : TrainIn) (c : DramCh) : Bool := t.unverified.any (fun e => e.1 == c && decide (e.2.2 ≠ 0#40))
/-- Verification from a snapshot, or the reason why there is none (R360): 0 none valid, 1 keys, 2 temperature, 3 margin with its channel. The slot is loaded before it is verified. -/
def snapTry (s : State) (t : TrainIn) (chs : List DramCh) (v : Nat) : SnapEnd × State :=
  if rdb s F.DC_PHY_GLOBAL_FORCE_TRAIN then (.rejected none, s)
  else
    let all := snapshots s
    let keyed := all.filter (snapKeys s t v)
    match keyed.find? (snapTemp s t) with
    | none => (.rejected ((keyed.head?.or all.head?).map (·.slot)), event s 0x515 1 0 (if all.isEmpty then 0 else if keyed.isEmpty then 1 else 2))
    | some q =>
      let s := foldS chs verifyRuns (delaysTake (wr s F.DC_PHY_GLOBAL_SPEED_ACTIVE v) chs q.delays q.settings)
      match chs.find? (verifyFails t) with
      | some c => (.rejected (some q.slot), event s 0x515 1 0 (3 + c.val * 4))
      | none => (.verified, event (foldS chs (fun s c => chanTrained s c true) s) 0x514 0 0 v)

/-- Training at a transition from Dark: the playbill's speed or the highest set below it, snapshot or full training (R350, R358, R360); a snapshot whose writing was cut off is reported (R361). -/
def trainBoot (s : State) (t : TrainIn) : State :=
  let s := cutsReport s 0x06 0x516
  let chs := fours.filter (fun c => (chanStage s c).isSome)
  let want := (billSet s.modes.playbill).speed
  if chs.isEmpty then s
  else match (timingSpeeds s).filter (fun v => decide (v ≤ want)) with
  | [] => markUntrained (event s 0x513 2 0 0xF) chs
  | v :: rest =>
    let s := whenS (decide (v ≠ want)) (fun s => event s 0x511 1 0 (want + v * 16)) s
    match snapTry s t chs v with
    | (.verified, s) => s
    | (.rejected old, s) => fullTrain t chs old (v :: rest) s

/-- Training of one stage's channels at the speed in use (R361, R362). -/
def trainStage (s : State) (n : Stage) (t : TrainIn) : State :=
  let s := cutsReport s 0x06 0x516
  let chs := stageChans s n
  let v := rd s F.DC_PHY_GLOBAL_SPEED_ACTIVE
  match snapTry s t chs v with
  | (.verified, s) => s
  | (.rejected old, s) =>
    let s := trainSteps s t v chs
    match firstFail t v chs with
    | some (c, _) => markUntrained (event s 0x512 1 n.val (c.val + v * 4)) chs
    | none => trainPassed s t v chs old

/-! The flash set at Dressing (R244, R533). -/

/-- Pages in use of a block: the first page that nothing follows. -/
def blockUsed (s : State) (n : Stage) (lun b : Nat) : Nat :=
  ((blockPages s n lun b).map (fun p => p - b * pagesPer s n + 1)).foldl max 0
/-- What the house record says of the system blocks, and where their next pages are. -/
def houseTake (s : State) (n : Stage) (h : HouseRec) (a b : Nat) : State :=
  let l0 := houseLun s n 0
  let l1 := houseLun s n 1
  setFsys s n { fsys s n with
    update := h.update, blockA := h.sealA, blockB := h.sealB, houseA := a, houseB := b
    housePos0 := blockUsed s n l0 a, housePos1 := blockUsed s n l1 b, posA := blockUsed s n l0 h.sealA, posB := blockUsed s n l1 h.sealB }

/-- Neither copy of either seal log can be read: something was programmed and nothing of it verifies (R174, R533). -/
def logsDead (s : State) (n : Stage) (a b : List SealRec) : Bool :=
  let y := fsys s n
  a.isEmpty && b.isEmpty && (!(blockPages s n (houseLun s n 0) y.blockA).isEmpty || !(blockPages s n (houseLun s n 1) y.blockB).isEmpty)

/-- A block's first page, where one is programmed, is read; it is later than a wear table of that generation and sequence (R244). -/
def blockLater (s : State) (n : Stage) (lun b gen seq : Nat) : Bool × State :=
  let page := b * pagesPer s n
  if (mget pageInit s.flash.pages (pageKey lun page)).slots.isEmpty then (false, s)
  else
    let (r, s) := recRead s n (pageEntry lun page)
    (r.elim false (fun q => decide (hGen q.1 > gen) || (hGen q.1 == gen && decide (hSeq q.1 > seq))), s)
/-- One block as its wear-table entry gives it, and worn where it has passed a limit; a block known to be bad or retired stays so, and one that was a system block under an earlier layout is as any other (R241, R244, R251, R253). -/
def wearTake (s : State) (n : Stage) (gen seq : Nat) (e : (Nat × Nat) × List Byte) : State :=
  let (lun, b) := e.1
  let v := leNat e.2
  let (later, s) := blockLater s n lun b gen seq
  let k := blockAt s lun b
  let st := if k.state = 2 ∨ k.state = 3 then k.state else if bits v 24 3 = 4 then 0 else bits v 24 3
  wornCheck (setBlock s lun b { k with erases := bits v 0 24 + b2n later, state := st, iterSum := bits v 32 8, iterCount := 8, lastProg := bits v 40 8 }) n lun b
/-- The index codewords of a table, whose first the sealed record names: each further one carries the next part number in the same generation, with the least greater sequence (R234, R243; DESIGN CHOICE, log entry 131). -/
def tableIndexes (s : State) (n : Stage) (first count : Nat) (head : List Byte) : List Nat × State :=
  if count ≤ 1 then ([first], s)
  else
    let (all, s) := recReads s n ((List.range (blocksPer s n)).flatMap (fun b => (bandWords s n b).map (·.1)))
    let all := all.filter (fun q => hKind q.2.1 == 11 && hGen q.2.1 == hGen head)
    (((List.range (count - 1)).foldl (fun (acc : List Nat × Nat) i =>
      let next := (all.filter (fun q => hNumber q.2.1 == i + 1 && decide (hSeq q.2.1 > acc.2))).foldl (fun (m : Option (Nat × (List Byte × List Byte))) q =>
        match m with
        | none => some q
        | some p => if hSeq q.2.1 < hSeq p.2.1 then some q else some p) none
      match next with
      | some q => (acc.1 ++ [q.1], hSeq q.2.1)
      | none => (acc.1 ++ [noCopy], acc.2)) ([first], hSeq head)).1, s)
/-- One entry of the bad-block table (R241, R244): a factory mark, a worn block retired, or a bad one. -/
def badTake (s : State) (e : List Byte) : State :=
  let v := leNat e
  let (lun, b, cause) := (bits v 0 8, bits v 8 16, bits v 24 8)
  if cause = 0 then { s with flash := { s.flash with factory := insertNat s.flash.factory (blockKey lun b) } }
  else setBlock s lun b { blockAt s lun b with state := if cause = 3 then 3 else 2, cause := cause }
/-- The tables that the newest sealed record names loaded (R244). A wear table that cannot be read is replaced by the mean of the counts known of the stage's good blocks, event 0x412 with the table's generation (DESIGN CHOICE, log entry 131). -/
def tablesLoad (s : State) (n : Stage) (r : SealRec) : State :=
  let bs := setBlocks s n
  let parts := ceilDiv (ceilDiv (8 * bs.length) 4096) 1023
  let (first, s) := if r.wearTable = noCopy then (none, s) else recRead s n r.wearTable
  let head := first.map (·.1)
  let (wear, s) := match head with
    | none => (none, s)
    | some h =>
      let (idx, s) := tableIndexes s n r.wearTable parts h
      recordRead_ s n idx
  let s := match wear with
    | some p => foldS (bs.zip (unpackRecord 8 p)) (fun s e => wearTake s n (head.elim r.gen hGen) (head.elim 0 hSeq) e) s
    | none => if r.wearTable = noCopy then s else
      let good := bs.filter (fun e => blockUsable s n e.1 e.2)
      let mean := (good.map (fun e => (blockAt s e.1 e.2).erases)).sum / max 1 good.length
      event (foldS good (fun s e => setBlock s e.1 e.2 { blockAt s e.1 e.2 with erases := mean }) s) 0x412 1 n.val (head.elim r.gen hGen)
  let (bad, s) := if r.badTable = noCopy then (none, s) else recordRead_ s n [r.badTable]
  foldS (unpackRecord 4 (bad.getD [])) badTake s

/-- The place and the number of the writing of a table or checkpoint of the newest sealed record. -/
def sealedRefs (s : State) (n : Stage) (r : SealRec) : State :=
  let (done_, s) := if r.ckpt = noCopy then (none, s) else recRead s n r.ckpt
  let x := fset s n
  let serial := fun (e : Nat) => (x.recs.find? (fun q => q.entry == e)).elim 0 (·.serial)
  let ck := if r.ckpt = noCopy then none else
    some (⟨r.ckpt, r.ckptGen, (done_.elim r.ckptGen (fun q => hGen q.1)), serial r.ckpt⟩ : CkptRef)
  let bt : TableRef := ⟨r.badTable, serial r.badTable⟩
  let wt : TableRef := ⟨r.wearTable, serial r.wearTable⟩
  setFset s n { x with ckptDone := ck, ckptSealed := ck, badTable := bt, sealedBad := bt, wearTable := wt, sealedWear := wt }

/-- The void records that the recorded Dirty Shutdown Count has not counted are counted (R385). -/
def dscRecover (s : State) (n : Stage) (a b : List SealRec) : State :=
  let gens := (((a ++ b).filter (fun r => r.sub == 3)).map (·.gen)).foldl insertNat []
  let new := gens.filter (fun g => (dscGen s n).elim true (fun c => decide (g > c)))
  if new.isEmpty then s else event (dscAdd s n new.length (new.foldl max 0)) 0x611 2 n.val new.length

/-- The set as nothing has written it since this formatting: maps, records and logs empty, generation counter 1. -/
def setBlank (s : State) (n : Stage) : State :=
  let x := fset s n
  let y := fsys s n
  let s := setFset s n { fsetInit with fmt := (fours.map (fun m => (fset s m).fmt)).foldl max 0 + 1, serial := x.serial }
  let s := setFsys s n { fsysInit with ces := y.ces, lunsPer := y.lunsPer, update := y.update, houseBytes := y.houseBytes }
  let s := wr (wr s (F.SAVE_GEN_SEALED_GEN n.val) 0) (F.SAVE_GEN_VALID n.val) 0
  let s := wr (wr s (F.SAVE_OPEN_OPEN_GEN n.val) 1) (F.SAVE_OPEN_RECORDED n.val) 0
  dscWrite s n (dscCount s n) none (dscShutdown s n)

/-- The system blocks of both house LUNs. -/
def sysBlocks (s : State) (n : Stage) : List (Nat × Nat) :=
  [houseLun s n 0, houseLun s n 1].flatMap (fun l => (List.range 8).map (fun b => (l, b)))

/-- Formatting (R533): a new media key, factory marks, system blocks erased, house record, generation counter 1. False where no key could be drawn. -/
def formatSet (s : State) (n : Stage) (marks : List Nat) (other : Bool) : Bool × State :=
  let s := whenS (keyStored s n) (fun s => cryptoErase s n) s
  let (ok, s) := keyGenerate s n
  if ok = false then (false, s)
  else
    let luns := stageLuns s n
    let mine := marks.filter (fun k => luns.contains (k / 65536))
    let s := { s with flash := { s.flash with factory := mine.foldl insertNat (s.flash.factory.filter (fun k => !luns.contains (k / 65536))) } }
    let s := setBlank s n
    let s := foldS (sysBlocks s n) (fun s e => eraseNow s n e.1 e.2) s
    let s := sysFresh (setFset s n { fset s n with badDue := true, wearDue := true }) n
    let s := wr (houseRewrite s n) (F.STAGE_DRESS_FORMATTED n.val) 1
    (true, event s 0xA0A 0 n.val (b2n other))

/-- Steps 2 to 5 of R392 on a stage in Dressing; the house record is written once the new key is stored (R419). False where no key could be drawn. -/
def eraseSteps (s : State) (n : Stage) (sanitize : Bool) : Bool × State :=
  let s := cryptoErase s n
  let y := fsys s n
  let bs := if sanitize then setBlocks s n else [(houseLun s n 0, y.blockA), (houseLun s n 1, y.blockB)]
  let s := setBlank s n
  let s := foldS bs (fun s e => eraseNow s n e.1 e.2) s
  let s := setFsys s n { fsys s n with
    houseA := if sanitize then 0 else y.houseA, houseB := if sanitize then 0 else y.houseB
    housePos0 := blockUsed s n (houseLun s n 0) (if sanitize then 0 else y.houseA), housePos1 := blockUsed s n (houseLun s n 1) (if sanitize then 0 else y.houseB), blockA := if sanitize then 1 else y.blockA
    blockB := if sanitize then 1 else y.blockB, houseBytes := y.houseBytes }
  let (ok, s) := keyGenerate s n
  if ok = false then (false, s)
  else
    let s := houseRewrite (sysFresh (setFset s n { fset s n with badDue := true, wearDue := true }) n) n
    let d := s.dram
    (true, { s with dram := { d with lines := d.lines.filter (fun e => decide (e.1 / 2 ^ 36 ≠ n.val)), fill := qset d.fill n .zero } })

/-! The end of a Dressing (R48, R530 steps 7 and 8, R534). -/

/-- A Dressing's duration in units of 10 ms, saturated at 15 bits. -/
def dressTime (s : State) (n : Stage) : Nat := satN 15 ((s.now - qget s.image.dressStart n) / (10000 * unitsPerUs))
/-- The end of what STAGE_DRESS.STEP shows, and of a re-dress. -/
def requestOver (s : State) (n : Stage) : State :=
  let s := wr s (F.STAGE_DRESS_STEP n.val) 0
  match s.image.request with
  | some r => if r.stage = n then wr { s with image := { s.image with request := none } } F.STAGE_CTRL_BUSY 0 else s
  | none => s
/-- What every end of a Dressing does: duration, step, and the end of a re-dress. -/
def dressOver (s : State) (n : Stage) : State := requestOver (wr s (F.STAGE_DRESS_TIME_10MS n.val) (dressTime s n)) n
/-- A failed Dressing (R48, R534). -/
def dressFail (s : State) (n : Stage) (reason : Nat) : State :=
  let s := event (wr (dressOver s n) (F.STAGE_DRESS_REASON n.val) reason) 0xA07 2 n.val reason
  fwConfirmTry (dressStop (setRst s n { rst s n with goLive := none }) n)

/-- The backstage cleared and the lines above the host-visible capacity zero; poison list and heat start empty (R389, R530). -/
def backstageClear (s : State) (n : Stage) (zeroed : Bool) : State :=
  let d := s.dram
  let e := d.epoch + 1
  let d := if zeroed then d else { d with
    lines := d.lines.filter (fun q => decide (q.1 / 2 ^ 36 ≠ n.val)), fill := qset d.fill n (.above e (hostLines s n)), epoch := e }
  { s with
    dram := d, heat := qset s.heat n ⟨[], [], 0, 0, 0⟩
    cxl := { s.cxl with poison := qset s.cxl.poison n [], poisonOver := qset s.cxl.poisonOver n none } }

/-- The stage register loads, then the stage lock (R529, R652). -/
def stageLoads (s : State) (n : Stage) : State :=
  stageLock (foldS (s.image.sections.filter (fun x => x.typ == 5 && x.stage == n.val)) (fun s x => loadSection s x.words) s) n true

/-- Step 7 done: the stage becomes Sealed and its restore starts, or its open record begins (R48, R145, R530). -/
def dressEnd (s : State) (n : Stage) (isSealed zeroed : Bool) : State :=
  let s := stageRates (blocksFollow (stageLoads (backstageClear s n zeroed) n) n) n
  let s := wr s (F.STAGE_DRESS_REASON n.val) 0
  if isSealed then
    let s := event (stageTo (dressOver s n) n .sealed) 0xA06 0 n.val (4 + 8 * dressTime s n)
    let s := fwConfirmTry s
    if rdb s (F.RESTORE_CFG_MANUAL_START n.val) || stageBlocked s n then s else restoreStart s n
  else openRecord s n (openGen s n) 1

/-- A kept set (R156, R244, R385, R533): its logs are read, tables loaded, a dead generation voided, void records counted, the house record rewritten. -/
def keepSet (s : State) (n : Stage) (h : HouseRec) (l : Layout) : State :=
  let ((a, b), s) := logsRead s n
  let s := genLoad s n a b
  let dead := logsDead s n a b
  let rs := sealedRecs a b
  if h.frames > hostFrames s n ∧ !rs.isEmpty ∧ !l.shrinkOk then dressFail s n 7
  else
    let s := match rs with
      | r :: _ => tablesLoad (sealedRefs s n r) n r
      | [] => s
    let s := match deadGen a b with
      | some d => voidStart s n d
      | none => s
    let s := houseRewrite (dscRecover s n a b) n
    let s := setFset s n { fset s n with badDue := true, wearDue := true }
    dressEnd s n (!rs.isEmpty || dead) false

/-- A Dressing completes after training (R393, R419, R420, R530, R533, R534): `marks` are the factory bad-block marks that formatting reads. -/
def dressComplete (s : State) (n : Stage) (marks : List Nat) : State :=
  if stageSt s n ≠ .dressing ∨ (rst s n).goLive.isSome then s
  else
    let railBad := bitOf s.power.blocked pllRail || (List.range 16).any (fun r => bitOf s.power.blocked r && railStage s r n)
    let trained := (stageFlashChs s n).filter (fun c => rdb s (F.FL_CH_STATUS_TRAINED c) && !chLost s c)
    let lane := (stageFlashChs s n).any (bitOf (rd s F.CIPH_STATUS_LANE_FAILED))
    let why := if qget s.image.dressFault n ≠ 0 then qget s.image.dressFault n else if railBad then 8 else if qget s.image.untrained n then 2
      else if trained.length < 2 ∨ lane = true then 3 else 0
    if why ≠ 0 then dressFail s n why
    else match secFor s.image.sections 2 n.val with
    | none => dressFail s n 6
    | some sec =>
      let l := layoutOf sec.words
      let s := setFsys s n { fsys s n with houseBytes := sha256 (sec.words.flatMap wordBytes) }
      let intent := intentOf s n
      if intent ≠ 0 then
        let (hs, s) := houseReads (event s 0x60D 1 n.val (intent - 1)) n
        let s := match houseNewest hs with
          | some h => houseTake s n h (houseAt hs 0) (houseAt hs 1)
          | none => s
        let (ok, s) := eraseSteps s n (intent = 2)
        let s := { s with cxl := { s.cxl with erase := some ⟨n, intent = 2, 6⟩ } }
        if ok then dressEnd (intentWrite s n 0).2 n false true else dressFail { s with cxl := { s.cxl with erase := none } } n 5
      else
        let (keyOk, s) := if keyStored s n then keyLoad s n else (true, s)
        let refit := qget s.image.relayout n && l.eraseOk
        let format := fun (s : State) (other : Bool) =>
          let (ok, s) := formatSet s n marks other
          if ok then dressEnd s n false false else dressFail s n 5
        if keyOk = false then (if refit then format s true else dressFail s n 4)
        else
        let (hs, s) := houseReads s n
        match houseNewest hs with
        | none => format s false
        | some h =>
          if h.stage = n.val ∧ h.channels = l.flash ∧ h.luns = (stageLuns s n).length ∧ h.pages = l.pages ∧ h.blocks = l.blocks then
            let (ok, s) := if keyStored s n then (true, s) else keyGenerate s n
            if ok then keepSet (houseTake s n h (houseAt hs 0) (houseAt hs 1)) n h l else dressFail s n 5
          else if l.eraseOk then format s true
          else dressFail (event s 0xA0E 2 n.val h.stage) n 6

end Sys2Proof.Machine
end

