-- ==== Sys2Proof/Machine/StageOps.lean ====
section
/-! DEFINITION. Re-dressing and unbinding a stage (R531, R532, R535), the stage seal that precedes them (R50), the Secure Erase and Sanitize of a stage (R392), and staged containers (R531, R540). -/

namespace Sys2Proof.Machine

/-! Staged containers (R521, R540, R541). -/

/-- Registers that show the staged container. -/
def stagedRegs (s : State) : State :=
  let ok := (s.image.staged.bind (·.result)) == some 0
  let s := wr (wr s F.IMG_STATUS_STAGED (b2n s.image.staged.isSome)) F.IMG_STATUS_STAGED_OK (b2n ok)
  wr s F.IMG_SVN_STAGED_SVN (s.image.staged.elim 0 (fun g => (cHead g.bytes).svn))
/-- The staged container discarded with event 0xA04: 0 abort, 1 replaced, 2 lost in Dark. -/
def stagedDrop (s : State) (why : Nat) : State :=
  match s.image.staged with
  | none => s
  | some _ => stagedRegs (event { s with image := { s.image with staged := none } } 0xA04 1 0 why)
/-- The staged container taken into use: nothing is staged any more. -/
def stagedTaken (s : State) : State := stagedRegs { s with image := { s.image with staged := none } }

/-- A rejected container: reason and section-table index in their registers and event 0xA02 (R521). -/
def containerReject (s : State) (reason idx : Nat) (path : Nat) : State :=
  let s := wr s F.IMG_STATUS_LAST_REJECT reason
  let s := if path = 0 then wr s F.IMG_LOAD_CTRL_RESULT reason else s
  event s 0xA02 2 0 (reason + idx % 16 * 16)

/-- What an accepted container is checked against: the full container in effect. -/
def imageBase (s : State) : Option (Nat × List ImgSection) :=
  if rdb s F.IMG_STATUS_VALID then some (rd s F.IMG_STATUS_BUILD, s.image.sections) else none

/-- A partial that a re-dress can take: one stage's layout and loads, and micro-programs that no other bound stage names (R531). -/
def onlyStage (s : State) (n : Stage) (bs : List Byte) : Bool :=
  (cSections bs).all (fun x => ((x.typ == 2 || x.typ == 5) && x.stage == n.val) ||
    (x.typ == 7 && fours.all (fun m => m == n || !rdb s (F.STAGE_BIND_BOUND m.val) || rd s (F.STAGE_BIND_MP_ID m.val) != x.id)))

/-- The partial's sections in effect (R522, R523). -/
def partialTake (s : State) (bs : List Byte) : State :=
  let secs := amend s.image.sections (cSections bs)
  let s := microLoad (imageSections s secs) secs
  let s := wr s F.IMG_STATUS_PARTIALS (slotPartials s.store (rdb s F.IMG_STATUS_SLOT)).length
  wr s F.IMG_SVN_SVN (min (rd s F.IMG_SVN_SVN) (cHead bs).svn)

/-- The checks of a staged container end (R521, R522): a rejected one is discarded; a full one, or a partial that no re-dress can take, is stored and waits for the next power-up; another partial stays staged. -/
def containerDone (s : State) : State :=
  match s.image.staged with
  | none => s
  | some g =>
    if g.result.isSome then s
    else
      let (reason, idx, evs) := containerCheck s (imageBase s) g.bytes
      let s := alert s 7
      let s := if g.path = 0 then wr (wr s F.IMG_LOAD_CTRL_BUSY 0) F.IMG_LOAD_CTRL_RESULT reason else s
      if reason ≠ 0 then
        let s := foldS evs (fun s e => event s e.1 2 0 e.2) s
        containerReject (stagedTaken s) reason idx g.path
      else
        let h := cHead g.bytes
        let s := event { s with image := { s.image with staged := some { g with result := some 0 } } } 0xA03 0 0 (b2n h.partial_ + h.svn % 128 * 2)
        let s := wr (stagedRegs s) F.IMG_STATUS_LAST_REJECT 0
        let s := whenS s.modes.recovery (fun s => event s 0x71C 0 0 1) s
        let store := !h.partial_ || !fours.any (fun n => onlyStage s n g.bytes)
        if store then
          let (ok, s) := if h.partial_ then storePartial s g.bytes else storeFull s g.bytes
          let s := stagedTaken s
          if ok then s else containerReject s 9 0 g.path
        else s

/-! The stage seal (R50, R532 steps 2 and 3). -/

/-- The stage seal of a Live stage begins: the gate closes for that stage only. -/
def stageSeal (s : State) (n : Stage) : State :=
  let due := ckptIsDue s n
  let s := drainBegin (gateStage s n) n
  let s := setSav s n ⟨.drain, true, 0, 0, 0, [], s.now, s.now, s.now, s.now, 0, .none, due⟩
  let s := emit { s with cxl := { s.cxl with noWrite := qset s.cxl.noWrite n true } } (.credits n.val true)
  saveStatus s
/-- A stage seal ends at its commit point: held writes are discarded and later ones served as R378 gives. -/
def stageSealed (s : State) (n : Stage) : State :=
  let s := setLedger s n { led s n with afterGate := [], gated := false }
  let s := gateCredits s n
  setSav s n { sav s n with phase := .none, alone := false }

/-! Unbinding (R511, R532). -/

/-- A stage's resources released: no channel is bound to it (R511, R512). -/
def unbindNow (s : State) (n : Stage) : State :=
  let s := foldS (stageChans s n) (fun s c => setReg (mapSet (scrubRestart s c none) c 0#48) (F.DC_PHY_STATUS_TRAINED c.val).idx 0#48) s
  let s := foldS (stageFlashChs s n) (fun s c => wr (wr (wr s (F.FL_CH_CFG_ENABLE c) 0) (F.FL_CH_STATUS_TRAINED c) 0) (F.FL_CH_STATUS_LOST c) 0) s
  let s := setReg (setReg (setReg s (F.STAGE_BIND_DRAM n.val).idx 0#48) (F.STAGE_SIZE_RAW_256MIB n.val).idx 0#48) (F.STAGE_BACK_SPARES n.val).idx 0#48
  let s := stageRates (setFset (setRst (remapFreeStage s n) n restoreInit) n (fsetFresh (fset s n))) n
  let s := event (stageLock (stageTo s n .unbound) n false) 0xA08 0 n.val 0
  follow (divideWays (requestOver s n)) 0x04

/-! Secure Erase and Sanitize (R392). -/

/-- An erase ended: the background command is over (R398). -/
def eraseOver (s : State) : State := { s with cxl := { s.cxl with erase := none, background := none } }
/-- The steps of an erase on a stage that is not Live: intent, keys, blocks, DRAM; the stage is Dressing meanwhile and its open record follows (R392, R48). -/
def eraseRun (s : State) (n : Stage) (sanitize : Bool) : State :=
  let s := (intentWrite s n (if sanitize then 2 else 1)).2
  let s := { s with
    cxl := { s.cxl with erase := some ⟨n, sanitize, 6⟩ }
    image := { s.image with dressStart := qset s.image.dressStart n s.now, dressFault := qset s.image.dressFault n 0 } }
  let s := remapFreeStage (stageTo (setRst s n restoreInit) n .dressing) n
  let s := { s with flash := { s.flash with readQ := qset s.flash.readQ n [], laneQ := qset s.flash.laneQ n [] } }
  let (ok, s) := eraseSteps (follow s 0x04) n sanitize
  if ok then dressEnd (intentWrite s n 0).2 n false true else dressFail (eraseOver s) n 5

/-! Re-dressing (R531, R532). -/

/-- What follows a stage's seal: an unbind ends, a re-dress waits for its section to be stored, an erase runs. -/
def afterSeal (s : State) (n : Stage) : State :=
  let s := match s.cxl.erase with
    | some e => if e.stage = n ∧ e.step = 0 then eraseRun s n e.sanitize else s
    | none => s
  match s.image.request with
  | some r => if r.stage ≠ n then s else if r.unbind then unbindNow s n else wr s (F.STAGE_DRESS_STEP n.val) 4
  | none => s

/-- The layout a re-dress would give the stage: the staged container's, else the one in effect. -/
def newLayout (s : State) (n : Stage) : Option Layout :=
  let secs := s.image.staged.elim s.image.sections (fun g => amend s.image.sections (cSections g.bytes))
  (secFor secs 2 n.val).map (fun x => layoutOf x.words)

/-- Which rule of R531 refuses a request: 0 accepted, 1 busy, 2 invalid, 3 deferred for a port change, 4 deferred for an LD-ID change. -/
def redressRefusal (s : State) (n : Stage) (unbind : Bool) : Nat :=
  let busy := s.modes.mode = .save || s.modes.mode = .hold || s.modes.mode = .dark || s.modes.recovery || s.image.request.isSome || s.cxl.background.isSome
  if busy || stageSt s n == .restoring || stageSt s n == .dressing then 1
  else if unbind then 0
  else match s.image.staged, newLayout s n with
  | some g, some l =>
    let bound := rdb s (F.STAGE_BIND_BOUND n.val)
    let others := fours.filter (fun m => m != n && rdb s (F.STAGE_BIND_BOUND m.val))
    let claims := others.any (fun m => decide (rd s (F.STAGE_BIND_DRAM m.val) &&& l.dram ≠ 0) || decide (rd s (F.STAGE_BIND_FLASH m.val) &&& l.flash ≠ 0))
    let mld := if !s.cxl.combined && l.port == 1 then s.cxl.mld1 else s.cxl.mld0
    if g.result ≠ some 0 ∨ !(cHead g.bytes).partial_ ∨ !onlyStage s n g.bytes ∨ claims = true then 2
    else if bound ∧ rd s (F.STAGE_BIND_PORT n.val) ≠ l.port then 3
    else if !bound ∧ mld = true ∧ others.any (fun m => decide (m.val > n.val) && rd s (F.STAGE_BIND_PORT m.val) == l.port) then 4
    else 0
  | _, _ => 2

/-- A request of C00Ah or STAGE_CTRL: its result (0 accepted, 1 busy, 2 invalid, 3 deferred) and what it does (R531, R532). -/
def redressRequest (s : State) (n : Stage) (unbind : Bool) : Nat × State :=
  match redressRefusal s n unbind with
  | 0 =>
    let l := newLayout s n
    let refit := l.elim false (fun l => decide (rd s (F.STAGE_BIND_FLASH n.val) ≠ l.flash) || decide (rd s (F.FL_STAGE_GEOM_BLOCKS n.val) ≠ l.blocks)
      || decide (rd s (F.FL_STAGE_GEOM_PAGES n.val) ≠ l.pages) || decide (rd s (F.FL_STAGE_GEOM_LUNS n.val) ≠ (layoutLuns l).length))
    let s := { s with image := { s.image with request := some ⟨n, unbind⟩, relayout := qset s.image.relayout n refit, dressStart := qset s.image.dressStart n s.now } }
    let s := event (wr (wr s F.STAGE_CTRL_BUSY 1) (F.STAGE_DRESS_STEP n.val) 1) 0xA05 0 n.val (b2n unbind)
    (0, if stageSt s n = .live then wr (stageSeal s n) (F.STAGE_DRESS_STEP n.val) 2 else afterSeal s n)
  | 1 => (1, s)
  | 2 =>
    let bad := s.image.staged.elim false (fun g => g.result == some 0)
    (2, whenS bad (fun s => containerReject s 7 0 1) s)
  | k =>
    let (ok, s) := s.image.staged.elim (false, s) (fun g => storePartial s g.bytes)
    let s := stagedTaken s
    if ok then (3, event s 0xA0D 0 n.val (k - 3)) else (2, containerReject s 9 0 1)

/-- STAGE_CTRL.GO (R531, R539). -/
def stageCtrlGo (s : State) (n : Stage) (unbind : Bool) : State :=
  let (r, s) := redressRequest s n unbind
  wr s F.STAGE_CTRL_RESULT r

/-- Step 4 of R532: the section stored, valid mark last, and the stage enters Dressing; `t` is what its training finds. -/
def redressCommit (s : State) (t : TrainIn) : State :=
  match s.image.request, s.image.staged with
  | some r, some g =>
    let n := r.stage
    let st := stageSt s n
    if r.unbind ∨ s.saveDev.gate ∨ (st ≠ .sealed ∧ st ≠ .unbound) ∨ s.modes.mode = .save ∨ s.modes.mode = .hold ∨ s.modes.mode = .dark then s
    else
      let (ok, s) := storePartial s g.bytes
      let s := stagedTaken s
      if ok = false then requestOver (containerReject s 9 0 1) n
      else
        let s := partialTake s g.bytes
        match secFor s.image.sections 2 n.val with
        | none => requestOver s n
        | some x =>
          let start := qget s.image.dressStart n
          let s := divideWays (scrubAnew (bindStage s s.image.sections (layoutOf x.words)) n)
          let s := { s with image := { s.image with dressStart := qset s.image.dressStart n start } }
          trainStage s n t
  | _, _ => s

end Sys2Proof.Machine
end

