-- ==== Sys2Proof/Machine/FlashDone.lean ====
section
/-! DEFINITION. How flash commands end: program, read and erase status (R182, R224, R225, R230, R231, R252, R683), the lanes (R402 to R407), and what the passing of a codeword completes (R140, R142, R143, R145, R156, R160, R239, R246). -/

namespace Sys2Proof.Machine

/-! What a stage's seal records complete (R142, R143, R145, R156). -/

/-- A stage seal outside a device save that is torn: the stage becomes Sealed with its previous generation (R49, R154), its ledger as the tear left it (R74), and what waited for the seal goes on. -/
def aloneTorn (s : State) (n : Stage) (reason : Nat) : State :=
  let torn := s.saveDev.anyTorn
  let s := tearStage s n reason
  let s := { s with saveDev := { s.saveDev with anyTorn := torn } }
  let s := wr (stageTo s n .sealed) (F.RESTORE_STATUS_MEM_ACTIVE n.val) 0
  afterSeal (follow (stageSealed s n) 0x04) n
/-- The save of a stage is torn, in a device save or in a stage seal of its own. -/
def tearAny (s : State) (n : Stage) (reason : Nat) : State :=
  if s.saveDev.gate then tearSaving s n reason
  else if (sav s n).alone ∧ !saveEnded (sav s n).phase then aloneTorn s n reason else s

/-- A stage handed to Dressing with the layout in effect (R145, R46). -/
def handDressing (s : State) (n : Stage) : State :=
  let s := interDone s n
  match secFor s.image.sections 2 n.val with
  | some x => divideWays (scrubAnew (bindStage s s.image.sections (layoutOf x.words)) n)
  | none => s

/-- A stage has both copies of its open record: Live, and the end of its Dressing, intermission or erase (R145, R186). -/
def liveHook (s : State) (n : Stage) : State :=
  let why := (rst s n).goLive.getD 0
  let s := goLiveNow s n why
  let s := if why = 1 then fwConfirmTry (event (dressOver s n) 0xA06 0 n.val (2 + 8 * dressTime s n)) else if why = 2 then interDone s n else s
  let s := match s.cxl.erase with
    | some e => if e.stage = n ∧ e.step = 6 then event (eraseOver s) 0x60C 0 n.val (b2n e.sanitize) else s
    | none => s
  let s := tablesStart s n
  if s.saveDev.gate then flushTry s n else s

/-- Both copies of a seal-log record have passed (R142, R145, R156). -/
def sealDone (s : State) (n : Stage) (j : SealJob) : State :=
  match j.sub with
  | 1 =>
    let s := commitStage s n j.gen
    if s.saveDev.gate then s else afterSeal (follow (stageSealed s n) 0x04) n
  | 2 => liveHook s n
  | _ => voidDone s n j.gen

/-- A copy of a seal-log record that cannot be placed (R143, R145). -/
def sealLost (s : State) (n : Stage) (j : SealJob) : State :=
  let drop := fun (s : State) =>
    setFset (setFsys s n { fsys s n with seals := (fsys s n).seals.filter (fun q => !(q.sub == j.sub && q.gen == j.gen)) }) n
      { fset s n with sysQ := (fset s n).sysQ.filter (fun q => !(hSeq q.placed.cw.header == j.sub && hGen q.placed.cw.header == j.gen)) }
  match j.sub with
  | 1 => tearAny s n 5
  | 2 =>
    if s.saveDev.gate && qget s.saveDev.saving n then tearSaving s n 5
    else
      let why := (rst s n).goLive.getD 0
      let s := drop (setRst s n { rst s n with goLive := none })
      if why = 0 then restoreStop s n
      else if why = 1 then dressFail (if (s.cxl.erase.elim false (fun e => e.stage == n)) then eraseOver s else s) n 3
      else handDressing s n
  | _ => drop s

/-- One copy of a seal-log record has ended on its page (R142, R143). -/
def sealCopyEnd (s : State) (n : Stage) (ch copy : Nat) (h : List Byte) (pass : Bool) : State :=
  let is := fun (q : SealJob) => q.sub == hSeq h && q.gen == hGen h
  match (fsys s n).seals.find? is with
  | none => s
  | some j =>
    let put := fun (s : State) (q : SealJob) => setFsys s n { fsys s n with seals := (fsys s n).seals.map (fun x => if is x then q else x) }
    if pass then
      let j := if copy = 0 then { j with pass0 := true } else { j with pass1 := true }
      if j.pass0 && j.pass1 then sealDone (setFsys s n { fsys s n with seals := (fsys s n).seals.filter (fun x => !is x) }) n j else put s j
    else
      let tries := if copy = 0 then j.tries0 else j.tries1
      let s := event s 0x209 1 n.val (ch + tries % 16 * 16)
      if tries ≥ sealAttempts s then sealLost s n j
      else
        let j := if copy = 0 then { j with tries0 := tries + 1 } else { j with tries1 := tries + 1 }
        let s := setFsys (put s j) n (setMove (fsys (put s j) n) copy true)
        if sealPlace s n copy then sealProg s n copy j else sealLost s n j

/-! Codewords that have passed (R74, R84, R137, R140, R239, R246). -/

/-- A frame's newest copy: map entry, and its mark in the map delta (R140, R232). Trickle counts toward the next checkpoint (R239). -/
def copyNow (s : State) (n : Stage) (f e seq : Nat) : State :=
  let x := fset s n
  setFset s n { x with fmap := mset noCopy x.fmap f e, delta := mput x.delta f seq, openFrames := insertNat x.openFrames f }

/-- A flush codeword has passed: its frame is clean, and completions withheld for it are returned; one written poisoned is counted (R84, R98, R100, R137, R169). -/
def flushPassed (s : State) (n : Stage) (f e seq : Nat) (bad : Bool) : State :=
  if (sav s n).phase = .torn then s
  else
    let s := copyNow (ledRefresh (wtRelease (setFrame s n f 0) n f) n) n f e seq
    let s := whenS s.saveDev.gate (fun s => incSat s F.SAVE_FLUSH_FRAMES 1) (pmonHit s 2 0 n.val 1)
    let s := whenS (bad && s.saveDev.gate) (fun s => incSat s F.SAVE_FLUSH_POISONED 1) s
    let s := setSav s n { sav s n with flushed := (sav s n).flushed + 1, outstanding := (sav s n).outstanding - 1 }
    if (sav s n).outstanding = 0 ∧ (sav s n).phase = .flush then flushEnd s n else s

/-- A record codeword has passed: its entry, and what its record's end begins (R140, R234, R239, R243). -/
def recPassed (s : State) (n : Stage) (owner part kind gen e : Nat) : State :=
  if (sav s n).phase = .torn then s
  else if owner = 3 then
    let s := recLive s n 3 gen ((fset s n).ckpt.elim 0 (·.serial)) e
    let s := ckptFeed (ckptPassed s n kind part gen e) n
    if (sav s n).phase = .checkpoint ∧ (fset s n).ckpt.isNone then indexStart s n else s
  else match writerOf s n owner with
  | none => s
  | some w =>
    let w := { w with entries := mput w.entries part e, outstanding := w.outstanding - 1 }
    let s := recLive (putWriter s n w) n (if owner = 9 ∨ owner = 10 then owner else kind) gen w.serial e
    if w.outstanding ≠ 0 then s
    else if owner = 5 then
      ckptAtSave (dropWriter (setFset s n { fset s n with genParts := (fset s n).genParts ++ w.entries.map (·.2) }) n 5) n
    else if owner = 11 then trySeal s n
    else trySeal (tablesStart (tableDone s n w) n) n

/-- A relocated copy has passed: the map follows where it still names the source (R246). -/
def relocPassed (s : State) (n : Stage) (f src gen e : Nat) : State :=
  let s := setFsys s n { fsys s n with moving := (fsys s n).moving.filter (· ≠ src) }
  let x := fset s n
  if (led s n).gated ∨ mget noCopy x.fmap f ≠ src then s
  else
    let x := { x with fmap := mset noCopy x.fmap f e }
    let band := entryPage src / max 1 (pagesPer s n)
    let x := { x with relocBands := insertNat x.relocBands band }
    let x := if gen = openGen s n then x else { x with relocs := x.relocs ++ [(f, src, e)] }
    mapUpdate (pmonHit (setFset s n x) 5 8 (lunCh (entryLun e)) 1) n f

/-- A codeword of a page that has passed. -/
def codewordPassed (s : State) (n : Stage) (lun page slot : Nat) (p : Placed) : State :=
  let h := p.cw.header
  let e := mkEntry lun page slot (hGen h) (hSeq h)
  match p.job.use with
  | .trickle f =>
    let (ok, s) := trickleReport s n f true
    if ok then
      let s := copyNow s n f e (hSeq h)
      setFset s n { fset s n with ckptFrames := (fset s n).ckptFrames + 1 }
    else s
  | .flush f => flushPassed s n f e (hSeq h) (bitOf (hFlags h) 0)
  | .record owner part => recPassed s n owner part p.job.kind (hGen h) e
  | .relocate f src => relocPassed s n f src (hGen h) e
  | .sealCopy c => sealCopyEnd s n (lunCh lun) c h true
  | .house c => if c = 0 then houseProg s n 1 else s

/-! Codewords whose program has failed (R75, R160, R143, R252). -/

/-- A job put at the head of the queue. -/
def requeue (s : State) (n : Stage) (j : Job) : State := setFset s n { fset s n with jobs := j :: (fset s n).jobs }
/-- A codeword whose every retry has failed: a tear in a save, a table owed again or a stream abandoned outside one (R154, R160). -/
def retriesOut (s : State) (n : Stage) (j : Job) : State :=
  if (qget s.saveDev.saving n || (sav s n).alone) && !saveEnded (sav s n).phase then tearAny s n 7
  else match j.use with
  | .record 3 _ => ckptAbandon s n
  | .record 9 _ => dropWriter (setFset s n { fset s n with badDue := true, jobs := (fset s n).jobs.filter (fun q => match q.use with | .record 9 _ => false | _ => true) }) n 9
  | .record 10 _ => dropWriter (setFset s n { fset s n with wearDue := true, jobs := (fset s n).jobs.filter (fun q => match q.use with | .record 10 _ => false | _ => true) }) n 10
  | _ => s
/-- A codeword of a page that has failed: `retry` is false for one that is only placed again; trickle is dropped behind a closed gate (R161). -/
def codewordFailed (s : State) (n : Stage) (lun : Nat) (p : Placed) (retry : Bool) : State :=
  match p.job.use with
  | .trickle f => if retry then (trickleReport s n f false).2 else if (led s n).gated then s else requeue s n p.job
  | .relocate _ src => setFsys s n { fsys s n with moving := (fsys s n).moving.filter (· ≠ src) }
  | .sealCopy c => sealCopyEnd s n (lunCh lun) c p.cw.header false
  | .house c => if houseUsable s n c then houseProg s n c else s
  | _ =>
    if (sav s n).phase = .torn then s
    else if !retry then requeue s n p.job
    else if p.job.tries ≥ rd s F.SAVE_CFG_PROG_RETRIES then retriesOut s n p.job
    else requeue (event s 0x207 1 n.val (lunCh lun + lun * 16)) n { p.job with tries := p.job.tries + 1, avoid := some lun }

/-- The pages of a block that wait to be programmed given up: their codewords are placed again. -/
def blockPagesBack (s : State) (n : Stage) (out : OpenPage → Bool) : State :=
  let x := fset s n
  let gone := x.pages.filter out
  let s := setFset s n { x with pages := x.pages.filter (fun p => !out p) }
  foldS ((gone.flatMap (·.slots)).reverse) (fun s p => codewordFailed s n 0 p false) s

/-- A page program has failed (R252). -/
def programFail (s : State) (n : Stage) (o : FlashOp) (slots : List Placed) (sys : Bool) : State :=
  let b := o.page / max 1 (pagesPer s n)
  let s := incSat s (F.FL_CH_CMD_PROG_FAILS (lunCh o.lun)) 1
  let s := spaceFollow (blocksFollow (markBad s n o.lun b 1) n) n false
  let s := if sys && houseBlock (fsys s n) (houseCopy s n o.lun) == b then houseMove s n (houseCopy s n o.lun) else s
  let s := foldS slots.reverse (fun s p => codewordFailed s n o.lun p true) s
  let s := if sys then s else blockPagesBack s n (fun p => p.lun == o.lun && p.page / max 1 (pagesPer s n) == b)
  tablesStart s n

/-- The program-path injection that a page takes in its first codeword (R231): its uncorrectable slots, and the bits flipped. -/
def injectProg (s : State) (n : Stage) (ch : Nat) : (List Nat × NMap Nat) × State :=
  if rdb s F.FL_INJECT_ARM ∧ !rdb s F.FL_INJECT_ON_READ ∧ rd s F.FL_INJECT_CHANNEL = ch ∧ stageSt s n = .dressing then
    (if rdb s F.FL_INJECT_UNCORRECTABLE then ([0], []) else ([], mset 0 [] 0 (rd s F.FL_INJECT_BITS)), wr s F.FL_INJECT_ARM 0)
  else (([], []), s)

/-- A page program has passed: `pct` is its time in percent of t_prog (R216, R251). -/
def programPass (s : State) (n : Stage) (o : FlashOp) (slots : List Placed) (pct : Nat) : State :=
  let b := o.page / max 1 (pagesPer s n)
  let (inj, s) := injectProg s n (lunCh o.lun)
  let s := storePage s o.lun o.page (slots.map (·.cw)) inj.1 inj.2
  let k := blockAt s o.lun b
  let slow := if pct > rd s F.FL_CFG_PROG_WORN_PCT then k.slow + 1 else 0
  let s := setBlock s o.lun b { k with slow := slow, lastProg := satN 8 pct }
  let s := if slow ≥ 3 then wornCheck s n o.lun b else s
  let s := foldS slots.zipIdx (fun s e => codewordPassed s n o.lun o.page e.2 e.1) s
  strikeFollow (spaceFollow s n false) n

/-! Reads (R230, R182). -/

/-- A read that did not decode at its step: the next step, or uncorrectable (R230). -/
def readLadder (s : State) (n : Stage) (ch : Nat) (r : ReadReq) : State :=
  match nextStep s n r.step with
  | some k =>
    let soft := softStep s n k
    let s := whenS (r.step == 1 && !soft) (fun s => retryReached s ch) s
    let s := whenS soft (fun s => softReached s n r.entry) s
    { s with flash := { s.flash with readQ := qset s.flash.readQ n ({ r with step := k } :: qget s.flash.readQ n) } }
  | none =>
    let s := incSat s (F.FL_CH_DECODE_UNCORRECTABLE ch) 1
    match r.use with
    | .strike _ => setVictim (setFsys s n { fsys s n with moving := (fsys s n).moving.filter (· ≠ r.entry) }) n none
    | _ => readLost s n r

/-- A read that has returned: decoded, or not; `iters` are the decoder's iterations, of which the block's mean takes those of hard decodes (R230, R231, R251). An injection stays with its codeword through the steps of the ladder. -/
def readReturn (s : State) (n : Stage) (ch : Nat) (r : ReadReq) (ok : Bool) (iters : Nat) : State :=
  let soft := softStep s n r.step
  let (flips, s) := injectRead s ch
  let r := { r with inject := max r.inject flips }
  match (if ok && decide (r.inject + entryFlips s r.entry ≤ decodeLimit soft) then entryCw s r.entry else none) with
  | none => readLadder s n ch r
  | some cw =>
    let s := match r.use, soft with
      | .strike _, false =>
        let b := entryPage r.entry / max 1 (pagesPer s n)
        let k := blockAt s (entryLun r.entry) b
        wornCheck (setBlock s (entryLun r.entry) b { k with iterSum := k.iterSum + iters, iterCount := k.iterCount + 1 }) n (entryLun r.entry) b
      | _, _ => s
    { s with flash := { s.flash with laneQ := qset s.flash.laneQ n (qget s.flash.laneQ n ++ [(r, some cw)]) } }

/-! Commands that end badly (R160, R223, R225). -/

/-- A channel that stops responding, its LUN reset itself abandoned: it is lost, and what was on it goes elsewhere or fails (R160, R225). -/
def channelStops (s : State) (n : Stage) (ch : Nat) : State :=
  let s := event (wr (wr s (F.FL_CH_STATUS_TRAINED ch) 0) (F.FL_CH_STATUS_LOST ch) 1) 0x403 2 n.val ch
  let s := whenS (s.saveDev.gate && qget s.saveDev.saving n) (fun s => event s 0x20A 2 n.val ch) s
  let ops := (fch s ch).ops
  let s := stageRates (setFch s ch { fch s ch with ops := [], runs := [] }) n
  let s := blockPagesBack s n (fun p => lunCh p.lun == ch)
  let s := foldS ops (fun s o => match o.act with
    | .program slots _ => foldS slots.reverse (fun s p => codewordFailed s n o.lun p (isTrickle p.job)) s
    | .read r _ => readLost s n r
    | .erase _ => s
    | .reset _ redo => redo.elim s (fun r => readLost s n r)) s
  let sq := (fset s n).sysQ.filter (fun q => lunCh q.lun == ch)
  let s := setFset s n { fset s n with sysQ := (fset s n).sysQ.filter (fun q => lunCh q.lun != ch) }
  let s := foldS sq (fun s q => match q.placed.job.use with
    | .sealCopy c => sealCopyEnd s n ch c q.placed.cw.header false
    | _ => s) s
  if (stageFlashChs s n).all (chLost s) then tearAny s n 7 else s

/-- A trickle or a relocation: its abandoned program is no program failure (R75, R225). -/
def isMove (u : ProgUse) : Bool := match u with
  | .trickle _ => true
  | .relocate .. => true
  | _ => false
/-- A command that ended in failure or was abandoned (R223, R225, R252). -/
def commandFails (s : State) (n : Stage) (ch : Nat) (o : FlashOp) (abandoned : Bool) : State :=
  match o.act with
  | .program slots sys =>
    if abandoned && slots.all (fun p => isMove p.job.use) then foldS slots.reverse (fun s p => codewordFailed s n o.lun p true) s
    else programFail s n o slots sys
  | .read r _ => if abandoned then s else readLadder s n ch r
  | .erase b => eraseEnd s n o.lun b false (if abandoned then 4 else 2)
  | .reset .. => channelStops s n ch

/-- A command without completion is abandoned: its LUN is reset (R225). -/
def commandAbandon (s : State) (ch tag : Nat) : State :=
  match (fch s ch).ops.find? (fun o => o.tag == tag) with
  | none => s
  | some o =>
    let s := { s with now := max s.now (o.issued + cmdTimeout s ch) }
    let n := (flashStage s ch).getD 0
    let s := event (incSat s (F.FL_CH_CMD_TIMEOUTS ch) 1) 0x404 1 n.val (ch + tag % 64 * 16 + o.epoch % 4 * 1024)
    let s := flashDrop s ch tag
    let s := match o.act with
      | .reset .. => s
      | _ => resetLun s n ch o
    commandFails s n ch o true

/-- A page program's status (R224, R683). -/
def programStatus (s : State) (ch tag epoch : Nat) (pass : Bool) (pct : Nat) : State :=
  match flashOp s ch tag epoch with
  | some o => match o.act with
    | .program slots sys =>
      let n := (flashStage s ch).getD 0
      let s := flashDrop s ch tag
      if pass then programPass s n o slots pct else programFail s n o slots sys
    | _ => s
  | none => pmonHit (flashStale s ch tag epoch) 5 7 ch 1

/-- A page read's completion. -/
def readStatus (s : State) (ch tag epoch : Nat) (ok : Bool) (iters : Nat) : State :=
  match flashOp s ch tag epoch with
  | some o => match o.act with
    | .read r _ => readReturn (flashDrop s ch tag) ((flashStage s ch).getD 0) ch r ok iters
    | _ => s
  | none => pmonHit (flashStale s ch tag epoch) 5 7 ch 1

/-- A block erase's status (R252). -/
def eraseStatus (s : State) (ch tag epoch : Nat) (pass : Bool) : State :=
  match flashOp s ch tag epoch with
  | some o => match o.act with
    | .erase b => eraseEnd (flashDrop s ch tag) ((flashStage s ch).getD 0) o.lun b pass 2
    | _ => s
  | none => pmonHit (flashStale s ch tag epoch) 5 7 ch 1

/-- A page program issued on a LUN; a seal copy that no block can take is lost at its turn (R143). -/
def programTurn (s : State) (n : Stage) (lun : Nat) : State :=
  match (fset s n).sysQ.find? (fun q => q.lun == lun && (sysPlace s n q).isNone) with
  | some q =>
    let h := q.placed.cw.header
    let s := setFset s n { fset s n with sysQ := (fset s n).sysQ.erase q }
    match q.placed.job.use, (fsys s n).seals.find? (fun j => j.sub == hSeq h && j.gen == hGen h) with
    | .sealCopy _, some j => sealLost s n j
    | _, _ => s
  | none => programIssue s n lun

/-! Cipher lanes (R182, R402 to R407). -/

/-- A codeword queued for a lane taken: the first of a channel that the test picks. -/
def laneTake (s : State) (n : Stage) (ch : Nat) (strike : Bool) : Option (ReadReq × Codeword) × State :=
  let is := fun (e : ReadReq × Option Codeword) => lunCh (entryLun e.1.entry) == ch && (match e.1.use with
    | .strike _ => strike
    | _ => !strike)
  match (qget s.flash.laneQ n).find? is with
  | some (r, some cw) => (some (r, cw), { s with flash := { s.flash with laneQ := qset s.flash.laneQ n ((qget s.flash.laneQ n).erase (r, some cw)) } })
  | _ => (none, s)

/-- A frame's codeword past its lane: accepted, or the frame is poisoned (R182). -/
def frameArrived (s : State) (n : Stage) (r : ReadReq) (f : Nat) (touch : Bool) (cw : Codeword) (p : Option (List Byte)) : State :=
  let h := cw.header
  match p with
  | none => framePoison s n f touch 0x305 1
  | some bs =>
    let page := entryPage r.entry
    let fits := hOk h && hKind h == 0 && hNumber h == f && hStage h == n.val && mkEntry (entryLun r.entry) page (entrySlot r.entry) (hGen h) (hSeq h) == r.entry
    if !fits then framePoison s n f touch 0x30E 1
    else if bitOf (hFlags h) 0 then framePoison s n f touch 0x307 0
    else
      let s := pmonHit s 2 (if touch then 2 else 1) n.val 1
      frameWrite s n f touch (some bs)

/-- The Decrypt operation of a lane on the codeword next for it (R403). A header scan keeps the header of a frame copy whose tag fails, since no older copy may stand in for it (R173, R183); the data of a background read that a gate instant met is discarded (R161). -/
def laneDecrypt (s : State) (ch : Nat) : State :=
  match flashStage s ch with
  | none => s
  | some n =>
    match laneTake s n ch false with
    | (none, s) => s
    | (some (r, cw), s) =>
      let (p, s) := laneCheck (pmonHit s 6 1 ch 1) n ch cw
      match r.use with
      | .record =>
        let own := hOk cw.header && hStage cw.header == n.val
        recordRead s n r.entry (if !own then none else match p with
          | some bs => some (cw.header, bs)
          | none => if (rst s n).phase = .scan then some (cw.header, []) else none)
      | .background f => if copying s n && (rst s n).reading.contains f then frameArrived s n r f ((rst s n).touchQ.any (fun t => t.frame == f)) cw p else s
      | .touch f => frameArrived s n r f true cw p
      | .strike _ => s

/-- The lane of the channel where a payload is to be placed: the cursor of the open band stands there. -/
def cursorLane (s : State) (n : Stage) (j : Job) : Option Nat := (placeAt (bandReady s n j.avoid) n j.avoid).map (fun p => lunCh p.1)
/-- A job is a relocated codeword. -/
def isRelay (j : Job) : Bool := match j.body with
  | .relay _ => true
  | _ => false
/-- A payload that nothing can take: no erased block is left, or no channel (R160). -/
def noRoom (s : State) (n : Stage) (j : Job) : State :=
  if isTrickle j then s
  else match j.use with
  | .relocate _ src => setFsys (setFset s n { fset s n with jobs := (fset s n).jobs.drop 1 }) n { fsys s n with moving := (fsys s n).moving.filter (· ≠ src) }
  | _ => tearAny s n (if (stageFlashChs s n).all (chLost s) then 7 else 4)

/-- The Encrypt operation of a lane on the payload at the head of its stage's queue, where the cursor stands at the lane's channel (R402, R106). -/
def laneEncrypt (s : State) (ch : Nat) : State :=
  match flashStage s ch with
  | none => s
  | some n =>
    match (fset s n).jobs with
    | [] => s
    | j :: rest =>
      if isRelay j then s
      else match cursorLane s n j with
      | none => noRoom s n j
      | some c =>
        if c ≠ ch then s
        else
          let part := match j.body with
            | .mapPart k => some (k, mapPart s n k)
            | _ => none
          let s := setFset s n { fset s n with
            jobs := rest, ckpt := (fset s n).ckpt.map (fun k => { k with taken := part.elim k.taken (fun p => mput k.taken p.1 p.2) }) }
          ckptFeed (placeJob (pmonHit s 6 0 ch 1) n j) n

/-- The Relay operation of a lane: a relocated codeword at the head of the queue enters the open band through its lane; else a copy read by strike leaves its source lane (R246, R404). -/
def laneRelay (s : State) (ch : Nat) : State :=
  match flashStage s ch with
  | none => s
  | some n =>
    let mismatch := fun (s : State) (cw : Codeword) =>
      let (p, s) := laneCheck (pmonHit s 6 2 ch 1) n ch cw
      if p.isNone then event s 0x704 1 n.val (ch + hNumber cw.header % 2 ^ 28 * 16) else s
    match (fset s n).jobs with
    | ⟨.relocate f src, kd, nr, fl, .relay cw, tr, av⟩ :: rest =>
      match cursorLane s n ⟨.relocate f src, kd, nr, fl, .relay cw, tr, av⟩ with
      | none => noRoom s n ⟨.relocate f src, kd, nr, fl, .relay cw, tr, av⟩
      | some c =>
        if c ≠ ch then s
        else placeJob (mismatch (setFset s n { fset s n with jobs := rest }) cw) n ⟨.relocate f src, kd, nr, fl, .relay cw, tr, av⟩
    | _ =>
      match laneTake s n ch true with
      | (none, s) => s
      | (some (r, cw), s) =>
        let f := hNumber cw.header
        let s := mismatch s cw
        if (led s n).gated ∨ mget noCopy (fset s n).fmap f ≠ r.entry then setFsys s n { fsys s n with moving := (fsys s n).moving.filter (· ≠ r.entry) }
        else addJob s n ⟨.relocate f r.entry, hKind cw.header, f, hFlags cw.header, .relay cw, 0, none⟩

end Sys2Proof.Machine
end

