-- ==== Sys2Proof/Machine/PowerOps.lean ====
section
/-! DEFINITION. Power supervision, save triggers, the cue programs' runs, power-up series, post-seal decision, Hold, intermission, buttons and resets (chapters 02, 04 and 12). -/

namespace Sys2Proof.Machine

/-! Save triggers (R42, R128). -/

/-- The post-seal action of a cause by SAVE_ACTION; 2 and 3 are taken as 0 (R128, R147). Main-input failure holds; the fixed ones power down. -/
def actionOf (s : State) (cause : Nat) : Nat :=
  if cause = 8 then 1
  else if cause = 0x0A ∨ cause = 0x0D ∨ cause = 0x0E then 0
  else
    let v := bits (rawReg s 0x0C01).toNat (2 * (cause - 8)) 2
    if v = 1 then 1 else 0
/-- A handover series ends early (R589, R584). -/
def seriesEnd (s : State) (result : Nat) : State :=
  match s.fw.series with
  | none => s
  | some x =>
    let s := { s with fw := { s.fw with series := none } }
    let s := wr (wr s F.FW_CTRL_BUSY 0) F.FW_CTRL_RESULT result
    let s := wr (wr s F.FW_HANDOVER_STEP 0) F.FW_HANDOVER_ROLES_LEFT 0
    event s 0x716 1 0 (result + 16 * x.roles.headD 0)
/-- An apply request accepted on the gate instant's own clock edge: the gate instant is taken first and the request is refused (R63, R64). -/
def applyUndo (s : State) : State :=
  match s.modes.applyMark with
  | some m =>
    if m.edge = edgeOf s.now ∧ s.modes.applying.isSome = true then
      event (wr { s with modes := { s.modes with applying := m.applying, recorded := m.recorded, applyMark := none } } F.MODE_PLAYBILL_RESULT 2) 0x004 1 0 2
    else s
  | none => s
/-- A gate instant: Dressings stop with reason 9, a handover outside its quiesce is cancelled, then the gate closes (R129, R161, R534, R589). -/
def gateTake (s : State) (cause action : Nat) : State :=
  let committing := fun (n : Stage) => (rst s n).goLive.isSome && (fsys s n).seals.any (fun j => j.sub == 2)
  let dressing := fours.filter (fun n => stageSt s n == .dressing && !committing n)
  let s := foldS dressing (fun s n => dressFail s n 9) (applyUndo s)
  let s := match s.fw.series with
    | some x => if x.step = 4 then { s with fw := { s.fw with series := some { x with last := true } } } else seriesEnd s 8
    | none => s
  let s := { s with power := { s.power with failedInSave := cause == 8 } }
  gateInstant s cause action
/-- A second save trigger registered on the gate instant's own clock edge with a lower cause (R58). -/
def edgeShared (s : State) (cause : Nat) : Bool :=
  s.modes.mode = .save && s.saveDev.gate && edgeOf s.now == edgeOf s.saveDev.gateTime && decide (cause < s.saveDev.cause)
/-- A save trigger registered: a gate instant in Service and Restore, only event 0x00B elsewhere, and while the cores are in reset or POWER_DOWN runs (R42, R44, R45). Of two triggers on one edge the lower cause is recorded, in the records of the gate instant too, and its action taken, and the other is logged (R58). -/
def saveTrigger (s : State) (cause action : Nat) : State :=
  if serving s && !s.modes.recovery && !s.modes.mrReset && !downRuns s then gateTake s cause action
  else if edgeShared s cause then
    let old := s.saveDev.cause
    let s := { s with saveDev := { s.saveDev with cause := cause, action := action }, power := { s.power with failedInSave := s.power.failedInSave || cause == 8 } }
    let s := recAmend (recAmend s 0x001 (fun a => a % 64 + 64 * cause)) 0x201 (fun a => a / 64 * 64 + cause)
    ignored (saveStatus (wr (wr s F.MODE_LAST_CAUSE cause) F.SAVE_STATUS_CAUSE cause)) old
  else ignored s cause
/-- A rail or PLL failure registered on the gate instant's own clock edge is a second trigger there (R58, R446). -/
def triggerShared (s : State) (cause : Nat) : State :=
  whenS (s.saveDev.gate && edgeOf s.now == edgeOf s.saveDev.gateTime) (fun s => saveTrigger s cause 0) s

/-! Checkpoint streams given up (R141, R161). -/

/-- The stages that keep a checkpoint stream abandon it on power-down, with event 0x20F (R141, R161). -/
def ckptsAbandon (s : State) : State :=
  foldS fours ckptGiveUp s

/-! Link quiesce and SIGNAL 0 (R133, R136, R161, R199, R456). -/

/-- Every port that is in L0 goes down (R375); the combined port is 2 in the event (R400). -/
def portsDown (s : State) : State :=
  let down := fun (s : State) (k : Nat) (p : CxlPort) => if p.inL0 then event s 0x602 1 0 k else s
  let s := down (down s (if s.cxl.combined then 2 else 0) s.cxl.p0) 1 s.cxl.p1
  { s with cxl := { s.cxl with p0 := { s.cxl.p0 with inL0 := false }, p1 := { s.cxl.p1 with inL0 := false } } }
/-- The opcodes of the mailbox commands in progress: the background command, a Set LSA before its valid mark, Inject and Clear Poison before their writes complete, calls to the script store (R397). -/
def boxOpcodes (s : State) : List Nat :=
  let host := fun (w : StoreCaller) => match w with
    | .host p _ => decide (p < 2)
    | _ => false
  let owner := fun (o : WriteDone) => match o with
    | .mailbox _ _ op => [op]
    | _ => []
  (s.cxl.background.map (·.opcode)).toList ++ (s.store.writing.filter (·.who.isSome)).map (fun _ => 0x4103)
    ++ fours.flatMap (fun n =>
      let l := led s n
      (l.tap ++ l.held ++ (rst s n).bitWaitW ++ l.stallW ++ l.afterGate).flatMap (fun w => owner w.owner) ++ l.withheld.flatMap (fun e => owner e.2))
    ++ (s.store.prog.filter (fun p => host p.who)).toList.map (fun _ => 0xC00D) ++ (s.store.calls.filter (fun c => host (callWho c))).map (fun _ => 0xC00D)
/-- No mailbox waits any more for what the script store does; a call that it has not begun is gone (R397). -/
def storeForsaken (st : Store) : Store :=
  let lost := fun (w : StoreCaller) => match w with
    | .host _ ld => .host 2 ld
    | w => w
  { st with
    writing := st.writing.map (fun e => { e with who := none })
    prog := st.prog.map (fun p => { p with who := lost p.who })
    erase := st.erase.map (fun e => { e with who := lost e.who })
    calls := st.calls.filter (fun c => match callWho c with
      | .host .. => false
      | _ => true) }
/-- Link quiesce: ports leave L0, what the host still waited for is gone; each mailbox command in progress ends without completion, with event 0x60F (R51, R133, R161, R397). -/
def linkQuiesce (s : State) : State :=
  let s := slotsFollow s
  let s := foldS (boxOpcodes s) (fun s op => event s 0x60F 1 0 op) (portsDown s)
  let s := { s with
    store := storeForsaken s.store
    cxl := { s.cxl with background := none, scan := none, erase := none }
    saveDev := { s.saveDev with linkDown := true } }
  foldS (savingStages s) (fun s n => setLedger s n { led s n with afterGate := [] }) (portLoses (portLoses s 0) 1)
/-- SIGNAL 0: the link rails are marked off, the link is quiesced and the flush may start (R51, R136, R453, R456). -/
def signal0 (s : State) : State :=
  if s.saveDev.railsOff then s
  else
    let s := { s with saveDev := { s.saveDev with railsOff := true } }
    saveStatus (foldS (savingStages s) (fun s n => flushTry s n) (linkQuiesce s))

/-! Resets of the cores and entry to Dark (R43, R44, R462, R649). -/

/-- What the cores, the fabric and the engines hold is lost: calls, keys, queues, caches, received containers. -/
def clearEngines (s : State) : State :=
  let s := { s with
    cipher := { s.cipher with
      keys := [], slots := [], calls := [], quarantine := [], saved := [], coreMem := [], drbgFailed := false, bootNonce := none, laneTest := none, leafBlock := none }
    store := { s.store with erase := none, prog := none, calls := [], pwdOpen := false }
    flash := { s.flash with
      chans := [], micro := ⟨[], [], [], []⟩, sets := qmap fsetFresh s.flash.sets, sys := qall fsysInit, readQ := qall [], laneQ := qall [] }
    ledger := qall ledgerInit, saves := qall saveInit, restore := qall restoreInit, heat := qall ⟨[], [], 0, 0, 0⟩ }
  let d := s.dram
  { s with
    dram := { d with ch := qmap (fun x => { chanInit with scrubUncorr := x.scrubUncorr, scrubStart := x.scrubStart, scrubFor := x.scrubFor }) d.ch, maps := qall 0#48, staged := [], i3cBusy := false, timing := [] }
    saveDev := State.reset.saveDev
    cxl := State.reset.cxl
    image := { State.reset.image with hash := List.replicate 32 0#8, fuseTarget := s.image.fuseTarget }
    fw := { s.fw with load := none, roleCore := State.reset.fw.roleCore, roleSlotB := State.reset.fw.roleSlotB, series := none, unconfirmed := false, nonce := [], raises := [] }
    modes := { s.modes with intermission := false, interWait := qall false, recovery := false, recoveryPin := false, applying := none, mrLatched := false, mrReset := false }
    power := { s.power with failedInSave := false, afterAbort := [], hot := 0 }
    pack := { s.pack with woken := 0#56, peakSince := tickOf s } }

/-- A core reset: main registers at reset, every stage that was Live or Restoring Sealed, the house core boots again; `last` is GLB_RESET.LAST (R44, R649, R658). -/
def coreReset (s : State) (last : Nat) : State :=
  let next := fun (n : Stage) => match stageSt s n with
    | .live => StageState.sealed
    | .restoring => .sealed
    | .dressing => if holdsSealed s n then .sealed else .unbound
    | t => t
  let ends := qtab next
  let s := foldS fours (fun s n => stageTo s n (qget ends n)) s
  let drbg := s.cipher.drbgFailed
  let s := clearEngines (dropMain (rehEnd (portsDown s) 6))
  let s := { s with cipher := { s.cipher with drbgFailed := drbg } }
  let s := incSat (wr s F.GLB_RESET_LAST last) F.GLB_RESET_CORE_RESETS 1
  let s := wr s F.PWR_BTN_MR_LATCHED 0
  modeTo { s with modes := { s.modes with booting := true } } .standby 0x16

/-- SAVE_LAST and SAVE_TEAR for stages torn with no save running (R167). -/
def saveLastTorn (s : State) (cause mask reason : Nat) : State :=
  let s := wr (wr (wr s F.SAVE_LAST_CAUSE cause) F.SAVE_LAST_OUTCOME 5) F.SAVE_LAST_SEALED 0
  alert (wr (wr (wr s F.SAVE_LAST_TORN mask) F.SAVE_LAST_TORN_REASON reason) F.SAVE_LAST_DURATION 0) 1
/-- Every Live and Restoring stage torn outside a save (R44, R154). For MR_N the Dirty Shutdown Count of each rises: a Live stage's with the void record of its open generation, a Restoring one's, which has none, at once (R44, R385; DEDUCED, log entry 120). -/
def tearServing (s : State) (cause reason : Nat) : State :=
  let ns := fours.filter (fun n => stageSt s n == .live || stageSt s n == .restoring)
  let s := foldS ns (fun s n => tearStage s n reason) s
  let s := foldS (ns.filter (fun n => stageSt s n == .restoring && cause == 0x16 && (rst s n).goLive.isNone))
    (fun s n => cxlRecord (dscWrite s n (dscCount s n + 1) (dscGen s n) (dscShutdown s n)) n 1 (.memoryModule 3 (dscCount s n + 1))) s
  let mask := mask4 (fun n => ns.contains n)
  let s := saveLastTorn s cause mask reason
  event s (if cause = 0x16 then 0x008 else 0x009) 2 0 mask

/-- The device becomes Dark: main registers, delays, caches and DRAM contents are lost, the stages read Sealed or Unbound (R43, R356, R389, R462, R502). -/
def darkState (s : State) : State :=
  let ends := qtab (fun n => if holdsSealed s n then StageState.sealed else .unbound)
  let s := foldS fours (fun s n => if stageSt s n = .unbound then s else stageTo s n (qget ends n)) s
  let s := stagedDrop (rehEnd (portsDown s) 6) 2
  let s := clearEngines (dropMain s)
  let s := slotsCut { s with store := { s.store with refusals := 0 } }
  let e := s.dram.epoch + 1
  let d := { s.dram with lines := [], fill := qall (.powerUp e), epoch := e, delays := [], settings := [] }
  let s := wr (wr { s with dram := d, link := State.reset.link } F.PWR_THERM_TRIPPED 0) F.PWR_BTN_MR_LATCHED 0
  { s with modes := { s.modes with powerUp := none, booting := false } }

/-! Power-up (R41, R442, R448, R449, R459). -/

/-- A POWER_UP attempt starts (R455, R459). -/
def startUp (s : State) : State :=
  let s := cueBegin s 0
  if s.power.run.elim false (fun r => r.source == 2) then cueWait (setEn s 0x3FFF) (.builtIn (tickOf s + pgTimeout s)) else s
/-- A power-up request: a fresh series in Dark with supply good; otherwise no effect (R41, R455). -/
def powerUpRequest (s : State) (cause : Nat) : State :=
  if s.modes.mode = .dark ∧ rdb s F.PWR_VIN_STATUS_SUPPLY_GOOD = true ∧ s.modes.powerUp = none ∧ s.power.run = none then
    startUp (wr { s with modes := { s.modes with powerUp := some ⟨cause, 0, none⟩ } } F.PWR_RETRY_ATTEMPT 0)
  else s
/-- Entry to Dark with its cause; main input that had failed and is good again starts a power-up (R41, R149, R442). -/
def enterDark (s : State) (cause : Nat) : State :=
  let again := rdb s F.PWR_VIN_STATUS_SUPPLY_GOOD && (s.power.failedInSave || (s.power.absent && rdb s F.PWR_VIN_CFG_AUTO_ON))
  let s := darkState (modeTo s .dark cause)
  if again then powerUpRequest s 0 else s
/-- POWER_UP has completed: Dark to Standby, every stage Unbound with no record, the remap table cleared; the house core boots (R41, R43, R334, R658). -/
def powerUpDone (s : State) : State :=
  let cause := s.modes.powerUp.elim 0 (·.cause)
  let s := { s with
    modes := { s.modes with powerUp := none, stages := qall .unbound, booting := true }
    dram := { s.dram with remap := [], burned := [] }
    power := { s.power with absent := false, blocked := 0 } }
  let s := wr (modeTo s .standby cause) F.GLB_RESET_LAST 1
  { s with
    fw := { s.fw with wdogTick := tickOf s }
    pack := { s.pack with peakSince := tickOf s, unlocked := 0#5 }
    link := { s.link with heardTick := tickOf s, restartSent := false } }

/-- The end of POWER_DOWN: a failed attempt's backoff or the series' end, else Dark (R41, R459, R460). -/
def powerDownDone (s : State) : State :=
  match s.modes.powerUp with
  | none =>
    if s.modes.mode = .dark then (if s.power.absent && rdb s F.PWR_VIN_CFG_AUTO_ON then powerUpRequest s 0 else s)
    else enterDark s s.power.downCause
  | some u =>
    if u.tries ≥ rd s F.PWR_RETRY_RETRIES then
      let s := event s 0x804 2 0 (u.tries + 1)
      modeAgain { s with modes := { s.modes with powerUp := none } } 0x17
    else
      let k := u.tries + 1
      let len := max 1 (rd s F.PWR_RETRY_BACKOFF) * 2 ^ (k - 1)
      let s := { s with modes := { s.modes with powerUp := some { u with tries := k, backoffEnd := some (tickOf s + len) } } }
      event (wr s F.PWR_RETRY_ATTEMPT k) 0x803 1 0 (k + 16 * len)

/-- POWER_DOWN commits: what runs ends, nothing waits any more (R149, R447, R455). -/
def startDown (s : State) (cause : Nat) : State :=
  if downRuns s then s
  else
    let s := cueClear s 2
    let s := { s with power := { s.power with queued := [], resumeRetry := none, downCause := cause } }
    let s := saveStatus (cueBegin s 1)
    if s.power.run.elim false (fun r => r.source == 2) then powerDownDone (cueClear (railsDown s 65535) 0) else s

/-! Save rails, hold rails and the resume run (R455 to R457). -/

/-- An intermission's stages after the resume run: those marked for Dressing or erase are handed on, those that wait under R202 wait, the others go on (R201). -/
def interSteps (s : State) : State :=
  foldS (fours.filter (fun n => qget s.modes.interWait n)) (fun s n =>
    let asked := s.image.request.elim false (fun r => r.stage == n) || s.cxl.erase.elim false (fun e => e.stage == n && e.step == 0)
    if asked then afterSeal (interDone s n) n
    else if rdb s (F.RESTORE_CFG_MANUAL_RESUME n.val) then wr (setRst s n { rst s n with waitResume := true }) (F.RESTORE_STATUS_WAIT_RESUME n.val) 1
    else interResume s n) s

/-- A rail's failure in the part of the table that Service and Restore use (R446, R158, R375); the number `pllRail` stands for a core PLL (R672). -/
def railServing (s : State) (r : Nat) : State :=
  if r = pllRail ∨ railCritical s r then
    let s := gateTake s 0x0E 0
    foldS fours (fun s n => if r = pllRail ∨ railStage s r n then tearSaving s n 1 else s) s
  else if bitOf (linkMask s) r then
    let hit := fun (k : Nat) => fours.any (fun n => railStage s r n && rd s (F.STAGE_BIND_PORT n.val) == k)
    let drop := fun (s : State) (k : Nat) =>
      if (portOf s k).inL0 ∧ (hit k ∨ s.cxl.combined) then linkLose s k else s
    drop (drop s 0) 1
  else s

/-- MR_N took effect on entry to Service or Standby (R462): a reset without save. -/
def mrTake (s : State) : State :=
  let s := { s with modes := { s.modes with mrLatched := false } }
  let s := wr s F.PWR_BTN_MR_LATCHED 0
  let s := if serving s then tearServing s 0x16 3 else s
  if rdb s F.PWR_BTN_MR_LOW then { (rehEnd (portsDown s) 6) with modes := { s.modes with mrReset := true } } else coreReset s 2
/-- A latched assertion acts once the mode has ended. -/
def mrFollow (s : State) : State :=
  if s.modes.mrLatched && (serving s || s.modes.mode = .standby) then mrTake s else s

/-- The resume run has ended: an abort reopens the gate and handles the rails that failed meanwhile; an intermission goes on (R153, R201, R457). A stage seal that the save had taken over begins anew after an abort, since what asked for it still waits (DESIGN CHOICE, log entry 129). -/
def resumeDone (s : State) : State :=
  let s := { s with power := { s.power with resumeTries := 0, resumeRetry := none } }
  if s.saveDev.abort = 2 then
    let rs := s.power.afterAbort
    let alone := (savingStages s).filter (fun n => (sav s n).alone)
    let s := gateReopen { s with power := { s.power with afterAbort := [] } }
    let s := foldS fours (fun s n => restoreGo s n) s
    let s := foldS alone (fun s n => if stageSt s n = .live then stageSeal s n else s) s
    mrFollow (foldS rs (fun s r => if serving s then railServing s r else s) s)
  else interSteps s
/-- The resume run starts (R449, R457). -/
def startResume (s : State) : State :=
  match s.power.run with
  | some r => if r.prog = 1 then s else { s with power := { s.power with queued := s.power.queued ++ [4] } }
  | none =>
    let s := cueBegin { s with power := { s.power with resumeTries := s.power.resumeTries + 1 } } 4
    if s.power.run.elim false (fun r => r.source == 2) then resumeDone (cueClear s 0) else s
/-- A resume run failed: once more after BACKOFF; a second failure leaves the link rails off (R457). -/
def resumeFailed (s : State) : State :=
  if s.power.resumeTries < 2 then { s with power := { s.power with resumeRetry := some (tickOf s + max 1 (rd s F.PWR_RETRY_BACKOFF)) } }
  else
    let m := linkMask s
    let s := wr (railsDown s m) F.PWR_RAIL_FAULT_FAULTED (rd s F.PWR_RAIL_FAULT_FAULTED ||| m)
    resumeDone (event s 0x80D 2 0 m)
/-- HOLD_RAILS starts, or waits for SAVE_RAILS (R455). -/
def startHold (s : State) : State :=
  match s.power.run with
  | some r => if r.prog = 1 then s else { s with power := { s.power with queued := s.power.queued ++ [3] } }
  | none =>
    let s := cueBegin s 3
    if s.power.run.elim false (fun r => r.source == 2) then cueClear s 0 else s
/-- The next program that waited starts (R455). -/
def nextQueued (s : State) : State :=
  match s.power.queued with
  | [] => s
  | p :: ps =>
    let s := { s with power := { s.power with queued := ps } }
    if p = 3 then startHold s else startResume s
/-- SAVE_RAILS starts at step 3 of R136; a running resume run ends (R449, R455, R456). -/
def startSaveRails (s : State) : State :=
  if downRuns s then s
  else
    let s := cueClear s 2
    let s := cueBegin { s with power := { s.power with queued := [], resumeRetry := none, resumeTries := 0 } } 2
    match s.power.run with
    | some r =>
      if r.source = 2 then nextQueued (signal0 (cueClear s 0))
      else if r.source = 1 ∧ rd s F.PWR_RAIL_STATUS_EN &&& linkMask s = 0 then signal0 s
      else s
    | none => s

/-! The end of a run (R452 to R459). -/

/-- A run ends with pass. -/
def runPass (s : State) : State :=
  match s.power.run with
  | none => s
  | some r =>
    let s := cueClear s 0
    match r.prog with
    | 0 => powerUpDone s
    | 1 => powerDownDone s
    | 2 => nextQueued (signal0 s)
    | 3 => nextQueued s
    | _ => resumeDone s
/-- A run fails, with the lowest rail concerned and the kind (R459, R482). -/
def runFail (s : State) (rail kind : Nat) : State :=
  match s.power.run with
  | none => s
  | some r =>
    let s := cueClear (cueFailed s rail kind) 1
    match r.prog with
    | 0 => startDown s 0
    | 1 => powerDownDone s
    | 2 => nextQueued (signal0 s)
    | 3 => nextQueued s
    | _ => resumeFailed s

/-- The lowest rail of a mask. -/
def lowRail (m : Nat) : Nat := (railsOf m).headD 0
/-- A run goes on after a wait: the next word, or the next pass, whose loop may be over (R453, R458). -/
def waitOver (s : State) : State :=
  match s.power.run with
  | none => s
  | some r =>
    if r.source = 0 then cuePc s (r.pc + 1)
    else
      let s := cueWait s .none
      if depLeft s r.prog = 0 then runPass s else s
/-- A waiting run looks at its rails: good ones enter the watch, and the wait ends when all are (R443, R453); a change at the wait's end tick or later is not of its window (R7). -/
def cueSettle (s : State) : State :=
  match s.power.run with
  | none => s
  | some r =>
    match r.wait with
    | .good m k =>
      if k ≤ tickOf s then s
      else
      let now := (railsOf m).filter (railGood s)
      let s := railsFound s ((now.filter (fun q => !bitOf r.failed q)).foldl (fun a q => a + 2 ^ q) 0) (r.prog == 0)
      if now.length = (railsOf m).length then waitOver s else s
    | .off m k => if (railsOf m).all (railOff s) ∧ tickOf s < k then waitOver s else s
    | _ => s

/-! The end of a wait (R7, R453). -/

/-- What the run waits for. -/
def runWait (s : State) : Option CueWait := s.power.run.map (fun r => r.wait)
/-- A WAIT_GOOD times out: the run fails with kind 0, naming the lowest rail that is not good. -/
def waitGoodTimeout (s : State) : State :=
  match runWait s with
  | some (.good m k) => runFail (untilTick s k) (((railsOf m).filter (fun r => !railGood s r)).headD 0) 0
  | _ => s
/-- A WAIT_OFF times out: the rails still high are marked, event 0x807, and the run goes on (R159). -/
def waitOffTimeout (s : State) : State :=
  match runWait s with
  | some (.off m k) =>
    let s := untilTick s k
    let stuck := ((railsOf m).filter (fun r => !railOff s r)).foldl (fun a r => a + 2 ^ r) 0
    let s := wr s F.PWR_RAIL_FAULT_STUCK (rd s F.PWR_RAIL_FAULT_STUCK ||| stuck)
    waitOver (event s 0x807 1 0 stuck)
  | _ => s
/-- The window of the run's WAIT_GOOD or WAIT_OFF is over at the present tick (R7). -/
def waitEnded (s : State) : Bool :=
  match runWait s with
  | some (.good _ k) => decide (k ≤ tickOf s)
  | some (.off _ k) => decide (k ≤ tickOf s)
  | _ => false
/-- A wait whose window has ended is over before anything later (R7). -/
def waitCatch (s : State) : State :=
  if waitEnded s then
    match runWait s with
    | some (.good _ _) => waitGoodTimeout s
    | _ => waitOffTimeout s
  else s

/-! Rails (R443 to R446, R151, R157, R158). -/

/-- A watched rail fails (R446). -/
def railFail (s : State) (r : Nat) : State :=
  let crit := railCritical s r
  let s := wr s F.PWR_RAIL_FAULT_FAULTED (rd s F.PWR_RAIL_FAULT_FAULTED ||| 2 ^ r)
  let s := wr (wr s F.PWR_RAIL_FAULT_LAST_RAIL r) F.PWR_RAIL_STATUS_WATCHED (rd s F.PWR_RAIL_STATUS_WATCHED &&& (65535 - 2 ^ r))
  let s := event s 0x806 2 0 (r + 16 * modeCode s.modes.mode + 128 * b2n crit)
  let s := { s with power := { s.power with run := s.power.run.map (fun q => { q with failed := q.failed ||| 2 ^ r }) } }
  let s := whenS (crit && decide (s.modes.mode ≠ .dark)) (fun s => { s with power := { s.power with blocked := s.power.blocked ||| 2 ^ r } }) s
  if downRuns s then s
  else match s.modes.mode with
  | .dark => if crit ∧ s.power.run.elim false (fun q => q.prog == 0) then runFail s r 1 else s
  | .standby => if crit then foldS (fours.filter (fun n => railStage s r n && stageSt s n == .dressing)) (fun s n => dressFail s n 8) s else s
  | .service => railServing s r
  | .restore => railServing s r
  | .save =>
    if s.saveDev.abort = 2 then { s with power := { s.power with afterAbort := s.power.afterAbort ++ [r] } }
    else if crit then foldS fours (fun s n => if railStage s r n then tearSaving s n 1 else s) (triggerShared s 0x0E) else s
  | .hold => if bitOf (holdMask s) r then startDown (ckptsAbandon (event s 0x20B 1 0 r)) 0x18 else s
/-- RAIL_PG of a rail rises; a wait that has ended ends first (R7). -/
def pgRise (s : State) (r : Nat) : State :=
  let s := waitCatch s
  cueSettle (wr s F.PWR_RAIL_STATUS_PG (rd s F.PWR_RAIL_STATUS_PG ||| 2 ^ r))
/-- RAIL_PG of a rail falls; a watched rail fails by it (R443). -/
def pgFall (s : State) (r : Nat) : State :=
  let s := waitCatch s
  let watched := bitOf (rd s F.PWR_RAIL_STATUS_WATCHED) r
  let s := wr s F.PWR_RAIL_STATUS_PG (rd s F.PWR_RAIL_STATUS_PG &&& (65535 - 2 ^ r))
  cueSettle (if watched then railFail s r else s)
/-- A monitor channel updates with its averaged code (R444). -/
def vmonUpdate (s : State) (c code : Nat) : State :=
  let s := waitCatch s
  let mv := satN 16 (code * rd s (F.PWR_VMON_CFG_SCALE c) / 2048)
  let s := wr (wr s (F.PWR_VMON_DATA_RAW c) code) (F.PWR_VMON_DATA_MV c) mv
  let lo := decide (rd s (F.PWR_VMON_CFG_LOW_MV c) ≠ 0) && decide (mv < rd s (F.PWR_VMON_CFG_LOW_MV c))
  let hi := decide (rd s (F.PWR_VMON_CFG_HIGH_MV c) ≠ 0) && decide (mv > rd s (F.PWR_VMON_CFG_HIGH_MV c))
  let kLo := if lo then min 3 (mget 0 s.power.vmonLow c + 1) else 0
  let kHi := if hi then min 3 (mget 0 s.power.vmonHigh c + 1) else 0
  let newLo := kLo == 3 && !rdb s (F.PWR_VMON_DATA_LOW c)
  let newHi := kHi == 3 && !rdb s (F.PWR_VMON_DATA_HIGH c)
  let s := { s with power := { s.power with vmonLow := mset 0 s.power.vmonLow c kLo, vmonHigh := mset 0 s.power.vmonHigh c kHi } }
  let s := wr (wr s (F.PWR_VMON_DATA_LOW c) (b2n (kLo == 3))) (F.PWR_VMON_DATA_HIGH c) (b2n (kHi == 3))
  let s := if newLo || newHi then
      let s := event s 0x808 1 0 (c + 8 * b2n newHi + 16 * mv)
      foldS ((List.range 16).filter (fun r => railMon s r == some c && bitOf (rd s F.PWR_RAIL_STATUS_WATCHED) r)) railFail s
    else s
  cueSettle s
/-- A thermal sample: JUNCTION_C, the trip after four hot samples, its end (R445). -/
def thermalSample (s : State) (temp : Nat) : State :=
  if s.modes.mode = .dark then s
  else
    let s := wr s F.PWR_THERM_JUNCTION_C temp
    let hot := if temp ≥ rd s F.PWR_THERM_TRIP_C then min 4 (s.power.hot + 1) else 0
    let s := { s with power := { s.power with hot := hot } }
    if hot = 4 ∧ rdb s F.PWR_THERM_TRIPPED = false then
      let s := event (incSat (wr s F.PWR_THERM_TRIPPED 1) F.PWR_THERM_TRIPS 1) 0x80B 1 0 temp
      if serving s || s.modes.mode = .save || s.modes.mode = .hold then saveTrigger s 0x0D 0 else s
    else if temp < rd s F.PWR_THERM_TRIP_C - rd s F.PWR_THERM_HYST_C then wr s F.PWR_THERM_TRIPPED 0
    else s

/-! The main input (R439 to R442). -/

/-- DEGLITCH_US and DEBOUNCE as taken (R480). -/
def deglitchUs (s : State) : Nat := min 20 (max 1 (rd s F.PWR_VIN_CFG_DEGLITCH_US))
def debounceTicks (s : State) : Nat := max 1 (rd s F.PWR_VIN_CFG_DEBOUNCE)
/-- The deglitched failure (R440, R460); in a save a checkpoint that is being written is abandoned and the seal follows (R141). -/
def inputFailed (s : State) : State :=
  let s := { s with power := { s.power with deglitch := none, debounce := none, failed := true, absent := true } }
  let s := wr (incSat s F.PWR_VIN_STATUS_FAILS 1) F.PWR_VIN_STATUS_SUPPLY_GOOD 0
  let s := event s 0x809 0 0 (modeCode s.modes.mode)
  match s.modes.mode with
  | .service => saveTrigger s 8 1
  | .restore => saveTrigger s 8 1
  | .standby => startDown (ckptsAbandon (rehEnd s 3)) 0x12
  | .dark =>
    let s := ignored s 8
    let up := s.power.run.elim false (fun r => r.prog == 0)
    let s := { s with modes := { s.modes with powerUp := none } }
    if up then startDown s 0 else s
  | .save =>
    let s := saveTrigger { s with power := { s.power with failedInSave := true } } 8 1
    foldS (savingStages s) (fun s n => if (sav s n).phase = .checkpoint then indexStart (ckptGiveUp s n) n else s) s
  | .hold => ignored { s with power := { s.power with failedInSave := true } } 8

/-! The end of a save, Hold and intermission (R148 to R153, R201). -/

/-- The device leaves Save for Hold or Standby: the records of the save, and what the resume needs. -/
def saveOver (s : State) (outcome : Nat) : State :=
  let s := saveLast s outcome
  let saving := s.saveDev.saving
  let left := s.saveDev.restoring
  let s := foldS (savingStages s) (fun s n =>
    let s := setRst s n { rst s n with kept := qget left n }
    let s := setLedger s n { led s n with afterGate := [] }
    setSav s n { sav s n with phase := .none, alone := false }) s
  let wait := qtab (fun n => qget saving n || (s.modes.intermission && qget s.modes.interWait n))
  let s := { s with
    modes := { s.modes with interWait := wait }
    saveDev := { s.saveDev with gate := false, saving := qall false, restoring := qall false } }
  saveStatus (wr s F.SAVE_STATUS_CAUSE 0)
/-- Intermission is decided (R46, R150, R201). -/
def intermission (s : State) : State :=
  let gen := (fours.filter (fun n => qget s.modes.interWait n && !(rst s n).kept)).head?.elim 0 (fun n => sealedGen s n)
  let s := { s with modes := { s.modes with intermission := true }, power := { s.power with failedInSave := false } }
  let s := event (modeTo s .standby 0x10) 0x005 0 0 (gen % 2 ^ 32)
  let s := foldS (fours.filter (fun n => qget s.modes.interWait n)) gateCredits s
  startResume (mrFollow (chgFollow (interFollow s)))
/-- Entry to Hold: the deadline is latched, HOLD_RAILS runs (R68, R151). -/
def holdEnter (s : State) : State :=
  let s := modeTo (saveOver s 1) .hold 0x11
  let s := { s with modes := { s.modes with holdLen := rd s F.MODE_HOLD_HOLD_DEADLINE, holdEntry := tickOf s } }
  chgFollow (startHold s)
/-- Every saving stage has ended its save. -/
def savesEnded (s : State) : Bool :=
  s.modes.mode = .save && s.saveDev.gate && s.saveDev.drained && s.saveDev.abort == 0 && !downRuns s && (savingStages s).all (fun n => saveEnded (sav s n).phase)
/-- Stages left Sealed by R146 end the save Sealed, their restore kept where it stands, with event 0x20C (R48, R146, R171). -/
def leftEnd (s : State) : State :=
  foldS ((savingStages s).filter (fun n => (sav s n).phase == .leftSealed && stageSt s n == .restoring)) (fun s n => stageTo (event s 0x20C 0 n.val (sealedGen s n)) n .sealed) s
/-- Every request queued on the subchannels of a saving stage has been issued (R294). -/
def requestsOut (s : State) : Bool :=
  (savingStages s).all (fun n => (stageChans s n).all (fun c => [subch s c false, subch s c true].all (fun x => x.rq.isEmpty && x.wq.isEmpty)))
/-- The post-seal decision (R148, R294, R449). -/
def postSeal (s : State) : State :=
  if savesEnded s = false ∨ requestsOut s = false then s
  else
    let ns := savingStages s
    let s := leftEnd (foldS ns stageSelfRefresh s)
    let hold := s.saveDev.action == 1
    if s.saveDev.anyTorn then startDown (ckptsAbandon (saveLast s 5)) 0x12
    else if hold && rdb s F.PWR_VIN_STATUS_SUPPLY_GOOD then intermission (saveOver s 3)
    else if hold && decide (rd s F.MODE_HOLD_HOLD_DEADLINE ≠ 0) && tableValid s then holdEnter s
    else startDown (ckptsAbandon (saveLast s 2)) 0x12

/-- The hold deadline's tick, while the device is in Hold with no POWER_DOWN committed. -/
def holdTick (s : State) : Option Nat := if s.modes.mode = .hold ∧ downRuns s = false then some (s.modes.holdEntry + s.modes.holdLen) else none
/-- The hold deadline (R56). -/
def holdDeadline (s : State) : State :=
  match holdTick s with
  | none => s
  | some k => startDown (ckptsAbandon (event (untilTick s k) 0x006 0 0 0)) 0x13
/-- A hold deadline that is over comes before anything later (R7, R56). -/
def holdOver (s : State) : State := if (holdTick s).elim false (fun d => decide (d ≤ tickOf s)) then holdDeadline s else s
/-- The battery exhausted flag stands in Hold (R57, R151): supply good of the same tick wins. -/
def holdExhausted (s : State) : State :=
  let s := holdOver s
  if holdTick s = none ∨ s.power.debounce.elim false (fun k => decide (k ≤ tickOf s)) = true then s
  else startDown (ckptsAbandon (event s 0x007 1 0 (satN 32 (tickOf s - s.modes.holdEntry)))) 0x14

/-- Supply good is observed (R56, R57, R152, R442). -/
def supplyGood (s : State) : State :=
  let s := { s with power := { s.power with debounce := none } }
  let s := event (wr s F.PWR_VIN_STATUS_SUPPLY_GOOD 1) 0x80A 0 0 (modeCode s.modes.mode)
  let s := whenS (decide (s.modes.mode ≠ .dark) && !downRuns s) (fun s => { s with power := { s.power with absent := false } }) s
  match s.modes.mode with
  | .dark => if s.power.absent && rdb s F.PWR_VIN_CFG_AUTO_ON then powerUpRequest s 0 else s
  | .save => if abortWindow s then abortStart s else s
  | .hold => if holdTick s = none then s else intermission s
  | _ => s
/-- The supply debounce window ends (R441); a hold deadline not later than its end comes first (R56). -/
def supplyWindow (s : State) : State :=
  match s.power.debounce with
  | none => s
  | some k =>
    let s := if (holdTick s).elim false (fun d => decide (d ≤ k)) then holdDeadline s else s
    supplyGood (untilTick s k)
/-- The supply debounce window is over at the present tick (R7, R441). -/
def debounceOver (s : State) : Bool := s.power.debounce.elim false (fun k => decide (k ≤ tickOf s))
/-- The deglitch time is over. -/
def deglitchDue (s : State) : Bool := s.power.deglitch.elim false (fun d => decide (d ≤ s.now))
/-- The pin falls below FAIL_MV (R439, R441); a debounce window that has ended gives supply good first (R7). -/
def vinFall (s : State) : State :=
  let s := if debounceOver s then supplyWindow s else s
  let s := wr (wr s F.PWR_VIN_STATUS_ABOVE_GOOD 0) F.PWR_VIN_STATUS_BELOW_FAIL 1
  let d := if s.power.failed then none else some (s.power.deglitch.getD (s.now + deglitchUs s * unitsPerUs))
  { s with power := { s.power with debounce := none, deglitch := d } }
/-- The pin rises above GOOD_MV (R439, R441); a deglitch that has run out gives the failure first. -/
def vinRise (s : State) : State :=
  let s := if deglitchDue s then inputFailed s else s
  let s := wr (wr s F.PWR_VIN_STATUS_ABOVE_GOOD 1) F.PWR_VIN_STATUS_BELOW_FAIL 0
  let d := if rdb s F.PWR_VIN_STATUS_SUPPLY_GOOD then none else some (s.power.debounce.getD (tickOf s + debounceTicks s))
  { s with power := { s.power with deglitch := none, failed := false, debounce := d } }
/-- The programs issued before an abort have all ended (R153). -/
def abortDrained (s : State) : State :=
  if s.saveDev.abort ≠ 1 ∨ programsOut s = true then s
  else if s.saveDev.anyTorn then
    let s := abortWithdraw s
    let s := foldS (savingStages s) (fun s n => trySeal (flushTry s n) n) s
    if s.saveDev.drained && !s.saveDev.railsOff && s.power.run.elim true (fun r => r.prog != 2) then startSaveRails s else s
  else
    let s := foldS (savingStages s) abortLedger s
    startResume (saveStatus { s with saveDev := { s.saveDev with abort := 2 } })

/-! Drain (R132, R135, R136). -/

/-- The writes received before the gate have passed the tap: SAVE_RAILS starts for a device save, unless an abort is under way, and a stage seal of its own goes on (R50, R136, R153). -/
def drainEnd (s : State) : State :=
  let ns := fours.filter (fun n => (sav s n).phase == .drain && drainDone s n)
  let s := foldS ns drainStage s
  if s.saveDev.gate ∧ s.saveDev.drained = false ∧ fours.any (fun n => (sav s n).phase == .drain) = true then s
  else if s.saveDev.gate ∧ s.saveDev.drained = false then
    let s := saveStatus { s with saveDev := { s.saveDev with drained := true } }
    if s.saveDev.abort = 0 then startSaveRails s else s
  else foldS ns flushTry s

/-! Buttons and resets (R44, R55, R461, R462, R582). -/

/-- The long-press action (R44). -/
def longPress (s : State) : State :=
  if downRuns s then s
  else match s.modes.mode with
  | .dark => s
  | .standby => startDown (ckptsAbandon (event s 0x009 2 0 0)) 0x15
  | .service => startDown (ckptsAbandon (tearServing s 0x15 2)) 0x15
  | .restore => startDown (ckptsAbandon (tearServing s 0x15 2)) 0x15
  | .save =>
    let s := leftEnd (foldS (savingStages s) (fun s n => tearSaving s n 2) s)
    let mask := rd s F.SAVE_STATUS_TORN
    let s := saveLast s (if s.saveDev.anyTorn then 5 else 2)
    startDown (ckptsAbandon (event s 0x009 2 0 mask)) 0x15
  | .hold => startDown (ckptsAbandon (event s 0x009 2 0 0)) 0x15
/-- The short-press action (R44). -/
def shortPress (s : State) : State :=
  if s.modes.mode = .dark then powerUpRequest s 1 else saveTrigger s 0x0C (actionOf s 0x0C)
/-- The end tick of the long-press window (R55, R461). -/
def pressEnd (s : State) : Option Nat := s.power.press.map (fun t => t + rd s F.PWR_BTN_LONG)
/-- The long-press window ends. -/
def pressLong (s : State) : State :=
  match pressEnd s with
  | none => s
  | some k => longPress (untilTick { s with power := { s.power with press := none } } k)
/-- MR_N asserted (R44, R462). -/
def mrAssert (s : State) : State :=
  let m := s.modes.mode
  let latch := m = .save || m = .hold
  let s := event (wr s F.PWR_BTN_MR_LOW 1) 0x80E 0 0 (modeCode m + 8 * b2n latch)
  if m = .dark then s
  else if latch then ignored (wr { s with modes := { s.modes with mrLatched := true } } F.PWR_BTN_MR_LATCHED 1) 0x16
  else mrTake s
/-- MR_N released: the reset of the cores ends (R462). -/
def mrRelease (s : State) : State :=
  let s := wr s F.PWR_BTN_MR_LOW 0
  if s.modes.mrReset then
    let s := coreReset s 2
    if s.power.failed then startDown s 0x12 else s
  else s
/-- The watchdog expires: an MR_N assertion and release outside Dark, Save and Hold (R582). -/
def wdogExpire (s : State) : State :=
  let s := event s 0x71B 2 0 (modeCode s.modes.mode)
  let s := { s with fw := { s.fw with wdogTick := tickOf s } }
  if s.modes.mode = .dark ∨ s.modes.mode = .save ∨ s.modes.mode = .hold then s
  else
    let s := incSat s F.FW_BOOT_WDOG_EXPIRIES 1
    coreReset (if serving s then tearServing s 0x16 3 else s) 3

end Sys2Proof.Machine
end

