-- ==== Sys2Proof/Machine/CueOps.lean ====
section
/-! DEFINITION. The cue instructions and the passes of the dependency table (R453, R457 to R459). -/

namespace Sys2Proof.Machine

/-- An instruction that no program may hold: an opcode outside R453, a reserved condition, or a run past its program's end. -/
def cueIllegal (s : State) : Bool :=
  match s.power.run with
  | some r =>
    r.source == 0 && r.wait == .none &&
      (match cueInstr s with
       | none => true
       | some w => !([1, 2, 3, 4, 5, 6, 7, 11].contains (w / 2 ^ 42)) || (w / 2 ^ 42 == 7 && decide (w % 16 > 1)))
  | none => false
/-- A cue instruction executes where the run stands at one of that opcode; an illegal instruction fails the run with kind 4 (R459). -/
def cueDo (s : State) (op : Nat) (f : State → CueRun → Nat → State) : State :=
  if cueIllegal s then runFail s 0 4
  else match cueAt s op with
  | some (r, w) => f s r w
  | none => s

/-- ENABLE. -/
def cueEnable (s : State) : State := cueDo s 1 (fun s r w => cuePc (railsOn s (cueMask s r (w % 65536))) (r.pc + 1))
/-- DISABLE. -/
def cueDisable (s : State) : State := cueDo s 2 (fun s r w => cuePc (railsDown s (w % 65536)) (r.pc + 1))
/-- WAIT_GOOD. -/
def cueWaitGood (s : State) : State :=
  cueDo s 3 (fun s r w =>
    let t := bits w 16 16
    cueSettle (cueWait s (.good (cueMask s r (w % 65536)) (tickOf s + if t = 0 then pgTimeout s else t))))
/-- WAIT_OFF. -/
def cueWaitOff (s : State) : State :=
  cueDo s 4 (fun s _ w =>
    let t := bits w 16 16
    cueSettle (cueWait s (.off (w % 65536) (tickOf s + if t = 0 then dischargeTicks s else t))))
/-- DELAY. -/
def cueDelay (s : State) : State := cueDo s 5 (fun s _ w => cueWait s (.delay (s.now + w % 2 ^ 24 * unitsPerUs)))
/-- SIGNAL: 0 lets the flush start; a reserved value does nothing. -/
def cueSignal (s : State) : State :=
  cueDo s 6 (fun s r w => cuePc (if w % 16 = 0 ∧ r.prog = 2 then signal0 s else s) (r.pc + 1))
/-- SKIP_IF: condition 0 battery present, 1 supply good. -/
def cueSkipIf (s : State) : State :=
  cueDo s 7 (fun s r w =>
    let holds := if w % 16 = 0 then rdb s F.GAUGE_STATUS_PRESENT else rdb s F.PWR_VIN_STATUS_SUPPLY_GOOD
    cuePc s (r.pc + if holds then 2 else 1))
/-- END. -/
def cueEnd (s : State) : State := cueDo s 11 (fun s _ w => if w % 2 = 1 then runPass s else runFail s 0 3)

/-- A DELAY ends. -/
def delayOver (s : State) : State :=
  match runWait s with
  | some (.delay t) => waitOver (until_ s t)
  | _ => s
/-- The built-in POWER_UP's wait ends (R449). -/
def builtInOver (s : State) : State :=
  match runWait s with
  | some (.builtIn k) => runPass (untilTick s k)
  | _ => s

/-- One pass of a sequence of the dependency table (R456, R458). -/
def depStep (s : State) : State :=
  match s.power.run with
  | some r =>
    if r.source ≠ 1 ∨ r.wait ≠ .none then s
    else
      let left := depLeft s r.prog
      let m := depPass s r.prog
      if left = 0 then runPass s
      else if depUp r.prog then
        if m = 0 then runFail s (lowRail left) 2
        else cueSettle (cueWait (railsOn s m) (.good m (tickOf s + pgTimeout s)))
      else if m = 0 then runPass s
      else
        let s := railsDown s m
        let s := if r.prog = 2 ∧ rd s F.PWR_RAIL_STATUS_EN &&& linkMask s = 0 then signal0 s else s
        cueSettle (cueWait s (.off m (tickOf s + dischargeTicks s)))
  | none => s

/-- A power-up retry's backoff window ends (R459). -/
def backoffOver (s : State) : State :=
  match s.modes.powerUp with
  | some u =>
    match u.backoffEnd with
    | some k => startUp (untilTick { s with modes := { s.modes with powerUp := some { u with backoffEnd := none } } } k)
    | none => s
  | none => s
/-- A failed resume run's BACKOFF ends (R457). -/
def resumeAgain (s : State) : State :=
  match s.power.resumeRetry with
  | some k => startResume (untilTick { s with power := { s.power with resumeRetry := none } } k)
  | none => s

end Sys2Proof.Machine
end

