-- ==== Sys2Proof/Machine/StoreExec.lean ====
section
/-! DEFINITION. The ROM service routines of the script store: READ, PROGRAM, ERASE, STATUS and PROTECT, their queue, and the suspension of an erase (R551 to R569). -/

namespace Sys2Proof.Machine

/-- Four bytes, least significant first. -/
def word32 (n : Nat) : List Byte := [BitVec.ofNat 8 n, BitVec.ofNat 8 (n / 256), BitVec.ofNat 8 (n / 65536), BitVec.ofNat 8 (n / 2 ^ 24)]
/-- A routine answers its caller; C00Dh carries results 0 to 4, a PROGRAM's 5 as 1, and a read's data with STATUS 0 (R399, R552). -/
def storeReply (s : State) (who : StoreCaller) (code count erases : Nat) (ws : List (Word × Nat)) : State :=
  match who with
  | .host port ld =>
    let status := if code = 5 then 1 else code
    if port ≥ 2 then s else emit s (.mailbox port ld 0 ([BitVec.ofNat 8 status, 0#8, BitVec.ofNat 8 count, BitVec.ofNat 8 (count / 256)] ++ word32 erases ++
      ws.flatMap (fun w => (List.range 6).map (fun i => w.1.extractLsb' (8 * i) 8))))
  | _ => emit s (.storeData code ws)
/-- The background command of the host's C00Dh erase ends with the erase (R398). -/
def storeBgEnd (s : State) (who : StoreCaller) : State :=
  match who with
  | .host .. => { s with cxl := { s.cxl with background := none } }
  | _ => s

/-! Reading (R543, R546, R551, R562). -/

/-- The words of a read with their outcomes; corrected and uncorrectable ones are counted and logged. -/
def storeReadWords (s : State) (addr n : Nat) : List (Word × Nat) × State :=
  (List.range n).foldl (fun p i =>
    let (o, w) := storeWord p.2.store (addr + i)
    let s := if o = 1 then event (incSat p.2 F.STORE_ECC_COUNT_CORRECTED 1) 0xB03 0 0 (addr + i)
      else if o = 2 then event (incSat p.2 F.STORE_ECC_COUNT_UNCORRECTABLE 1) 0xB04 1 0 (addr + i) else p.2
    (p.1 ++ [(w, o)], s)) ([], s)
/-- Every sector of a run of words lies in an area that the test permits; a reserved one gives result 3, one not permitted 4 (R546, R551). -/
def storeAccess (addr n : Nat) (ok : StoreArea → Bool) : Nat :=
  let secs := (List.range (sectorOf (addr + n - 1) + 1 - sectorOf addr)).map (fun i => sectorOf addr + i)
  if secs.any (fun x => decide (x ≥ 8192) || (areaOf x).isNone) then 3
  else if secs.any (fun x => (areaOf x).elim false (fun a => !ok a)) then 4 else 0
/-- A sector is under erase. -/
def underErase (s : State) (sec : Nat) : Bool := s.store.erase.elim false (fun e => e.sector == sec)

/-- READ. -/
def storeRead (s : State) (who : StoreCaller) (addr n : Nat) : State :=
  let access := storeAccess addr n (fun a => mayRead a who)
  if n = 0 ∨ n > 2048 ∨ access = 3 then storeReply s who 3 0 0 []
  else if access = 4 then storeReply s who 4 0 0 []
  else
    let s := eraseSuspend s
    if (List.range n).any (fun i => underErase s (sectorOf (addr + i))) then storeReply s who 6 0 0 []
    else
      let (ws, s) := storeReadWords (pmonHit s 6 6 16 1) addr n
      storeReply s who 0 n 0 ws

/-! Programming (R553 to R556). -/

/-- The check of one word: 0 it passes, else the failing result (R554, R555). -/
def progCheck (s : State) (a : Nat) (w : Word) : Nat :=
  let sec := sectorOf a
  if s.store.failed.contains sec then 2
  else if underErase s sec then 6
  else if isProtected s.store sec then 4
  else if (storeWord s.store a).1 = 2 then 5
  else if eraseRequired s.store a w then 1 else 0
/-- PROGRAM: every word is checked first; then the lines begin, one die operation each. -/
def storeProgram (s : State) (who : StoreCaller) (addr : Nat) (ws : List Word) : State :=
  let n := ws.length
  let access := storeAccess addr n (fun a => mayWrite a who)
  if n = 0 ∨ n > 2729 ∨ access = 3 then storeReply s who 3 0 0 []
  else if access = 4 then storeReply (event s 0xB09 1 0 (sectorOf addr)) who 4 0 0 []
  else
    match (ws.zipIdx.find? (fun e => progCheck s (addr + e.2) e.1 != 0)) with
    | some e =>
      let r := progCheck s (addr + e.2) e.1
      let s := if r = 1 then event s 0xB08 1 0 (addr + e.2) else if r = 4 then event s 0xB09 1 0 (sectorOf (addr + e.2)) else s
      storeReply s who r 0 0 []
    | none =>
      let s := pmonHit (eraseSuspend s) 6 7 16 1
      { s with store := { s.store with prog := some ⟨who, addr, ws, n⟩ } }

/-! Erasing (R558, R559, R562, R563). -/

/-- Sectors that the ERASE routine refuses in every mode. -/
def noErase (sec : Nat) : Bool := (decide (2368 ≤ sec) && decide (sec ≤ 2383)) || sec == 8128
/-- ERASE begins: the count is found, the intent is programmed, the pulses start. -/
def storeErase (s : State) (who : StoreCaller) (sec : Nat) : State :=
  let end_ := fun (s : State) (r : Nat) => storeBgEnd (storeReply s who r 0 ((eraseInfo s.store sec).elim 0 (·.1)) []) who
  match areaOf sec with
  | none => end_ s 3
  | some a =>
    if !mayWrite a who || noErase sec || isProtected s.store sec then end_ (event s 0xB09 1 0 sec) 4
    else if s.store.failed.contains sec then end_ s 2
    else
      let c := eraseCountOf s.store sec + 1
      let s := dirAppend s sec 0 c
      let s := setReg s F.STORE_ERASE_STATUS_PULSES.idx 0#48
      { s with store := { s.store with erase := some ⟨who, sec, c, 0, false, false, s.now, 0⟩ } }
/-- The calls that wait are taken in order while the die is free for them (R551). -/
def callsGo : Nat → State → State
  | 0, s => s
  | k + 1, s =>
    if s.store.prog.isSome then s
    else
      match s.store.calls with
      | [] => s
      | c :: cs =>
        let t := { s with store := { s.store with calls := cs } }
        match c with
        | .read who a n => callsGo k (storeRead t who a n)
        | .program who a ws => callsGo k (storeProgram t who a ws)
        | .erase who sec => if s.store.erase.isSome then s else callsGo k (storeErase t who sec)
/-- A call arrives: behind those waiting, the house role's ahead of the others (R551). -/
def storeCall (s : State) (c : StoreCall) : State :=
  let cs := s.store.calls
  let first := cs.takeWhile (fun q => callWho q == .house)
  let qs := if callWho c = .house then first ++ [c] ++ cs.drop first.length else cs ++ [c]
  callsGo (qs.length + 1) { s with store := { s.store with calls := qs } }

/-- A line of a program has been programmed; the last one ends the call (R553). -/
def progLine (s : State) : State :=
  match s.store.prog with
  | none => s
  | some p =>
    let k := min p.words.length (64 - p.addr % 64)
    let st := progWords (unship s.store (sectorOf p.addr)) p.addr (p.words.take k)
    let rest := p.words.drop k
    if rest.isEmpty then
      let s := storeReply { s with store := { st with prog := none } } p.who 0 p.total 0 []
      callsGo (s.store.calls.length + 1) s
    else { s with store := { st with prog := some { p with addr := p.addr + k, words := rest } } }

/-- The cells of a sector whose erase failed: what 600 pulses left in them is a free value. -/
def sectorOpen (s : State) (sec : Nat) : State :=
  let st := unship s.store sec
  let k := s.freeIdx
  let nor := (List.range 2048).foldl (fun m i => mset cellsErased m (2048 * sec + i) (BitVec.ofNat 56 (Config.freeNat (k + i)))) st.nor
  { s with store := { st with nor := nor }, freeIdx := k + 2048 }
/-- A whole erase pulse with its verify: pass ends the erase, the 600th failure marks the sector failed (R558). -/
def erasePulse (s : State) (verify : Bool) : State :=
  match s.store.erase with
  | none => s
  | some e =>
    if e.suspended then s
    else
      let s := pmonHit (until_ s (e.pulseStart + 1000 * unitsPerUs)) 6 8 16 1
      let e := { e with pulses := e.pulses + 1, used := e.used + 1000 * unitsPerUs, pulseStart := s.now }
      let s := eraseCount s e
      if verify then
        let s := eraseFinish { s with store := { s.store with erase := none } } e.sector e.count e.pulses
        let s := storeBgEnd (storeReply s e.who 0 0 e.count []) e.who
        callsGo (s.store.calls.length + 1) s
      else if e.pulses ≥ 600 then
        let s := sectorOpen (dirAppend { s with store := { s.store with erase := none } } e.sector 2 e.count) e.sector
        let s := event s 0xB07 2 0 (e.sector + 2 ^ 13 * satN 19 e.count)
        let s := storeBgEnd (storeReply s e.who 2 0 e.count []) e.who
        callsGo (s.store.calls.length + 1) s
      else s
/-- A suspended erase resumes with a new pulse once no call waits that would suspend it (R562). -/
def eraseResume (s : State) : State :=
  match s.store.erase with
  | some e =>
    let waits := s.store.calls.any (fun c => match c with
      | .erase .. => false
      | _ => true)
    if e.suspended && s.store.prog.isNone && !waits then
      { s with store := { s.store with erase := some { e with suspended := false, pulseStart := s.now } } }
    else s
  | none => s

/-! STATUS, PROTECT (R551, R564, R565). -/

/-- The value of STORE_SECTOR_STATUS for a sector (R572). -/
def sectorStatus (st : Store) (sec : Nat) : Nat :=
  let (n, p) := (if st.failed.contains sec then none else eraseInfo st sec).getD (eraseCountOf st sec, 0)
  let state := if st.failed.contains sec then 2 else if st.intents.any (fun e => e.1 == sec) then 1 else 0
  let headed := ((areaOf sec).bind (·.tag)).isSome && headerValid st sec
  satN 24 n + 2 ^ 24 * satN 12 p + 2 ^ 36 * state + 2 ^ 38 * b2n (isProtected st sec) + 2 ^ 39 * b2n headed
    + 2 ^ 40 * (if headed then ((areaOf sec).bind (·.tag)).getD 0 else 0)
/-- STATUS: a sector's erase record, state and protection. -/
def storeStatus (s : State) (who : StoreCaller) (sec : Nat) : State :=
  match areaOf sec with
  | none => storeReply s who 3 0 0 []
  | some a =>
    if !mayRead a who then storeReply s who 4 0 0 []
    else
      let v := sectorStatus s.store sec
      match who with
      | .host .. => storeReply s who (if s.store.failed.contains sec then 2 else if isProtected s.store sec then 4 else 0) 0 (v % 2 ^ 24) []
      | _ => storeReply s who 0 0 0 [(BitVec.ofNat 48 v, 0)]
/-- PROTECT, by the house role: the password is presented; four refusals lock it out until Dark (R565). -/
def storeProtect (s : State) (group : Nat) (on pwdOk : Bool) : State :=
  if group ≥ 128 then storeReply s .house 3 0 0 []
  else if s.store.refusals ≥ 4 then storeReply (event s 0xB0A 2 0 s.store.refusals) .house 7 0 0 []
  else if !pwdOk then
    let s := until_ { s with store := { s.store with refusals := s.store.refusals + 1 } } (s.now + 100 * unitsPerUs)
    storeReply (event s 0xB0A 2 0 s.store.refusals) .house 7 0 0 []
  else
    let bit := 1#128 <<< group
    let p := s.store.prot
    storeReply { s with store := { s.store with prot := if on then p ||| bit else p &&& ~~~bit } } .house 0 0 0 []
/-- Cells of the die that no longer read as they were programmed: each word address with a cell (R543). -/
def storeDecay (s : State) (cells : List (Nat × Nat)) : State :=
  foldS cells (fun s e =>
    let st := unship s.store (sectorOf e.1)
    let c := storeCells st e.1
    { s with store := { st with nor := mset cellsErased st.nor e.1 (c ^^^ (1#56 <<< (e.2 % 56))) } }) s

end Sys2Proof.Machine
end

