-- ==== Sys2Proof/Machine/Views.lean ====
section
/-! DEFINITION. What a register reads as: the register file, with the read-only fields that report other state computed from that state; and the side effects of a read (R648). -/

namespace Sys2Proof.Machine

/-! Power and clock domains (R51, R671 to R675). -/

/-- The mode keeps the main domain on. -/
def mainOn (s : State) : Bool := !mainOff s
/-- The save has turned its link rails off, or a failure has (R449). -/
def linkCut (s : State) : Bool := s.modes.mode = .save && (s.saveDev.railsOff || s.saveDev.linkDown)
/-- A stage is bound. -/
def bound (s : State) (n : Stage) : Bool := rdb s (F.STAGE_BIND_BOUND n.val)
/-- The role a core holds: 0 house, 1 to 4 a stage, 5 understudy (R585). -/
def coreRole (s : State) (c : Nat) : Nat := s.fw.roleCore.findIdx (· == c)
/-- A core: 0 off, 1 on, 2 in retention (R51). -/
def coreMode (s : State) (c : Nat) : Nat :=
  let r := coreRole s c
  let m := s.modes.mode
  if r = 0 then (if m = .dark then 0 else if m = .hold then 2 else 1)
  else if r ≤ 4 then
    (if mainOff s then 0 else if m = .save then b2n (qget s.saveDev.saving (fin4 (r - 1))) else b2n (bound s (fin4 (r - 1))))
  else if s.fw.series.isSome then 1 else if mainOff s || m = .save then 0 else 2
/-- A save phase in which the stage's ledger is still read (R51, R140). -/
def ledgerPhase : SavePhase → Bool
  | .drain | .waitRails | .touch | .flush | .metadata _ => true
  | _ => false
/-- The ledger engine has something to serve. -/
def ledgerOn (s : State) : Bool :=
  match s.modes.mode with
  | .service => true
  | .save => fours.any (fun n => qget s.saveDev.saving n && ledgerPhase (sav s n).phase)
  | .restore => anyStage s .live
  | _ => false
/-- A channel's ranks are all in self-refresh by the post-seal step of a save, and wait there for R201 or R202: its clock and PHY have stopped; idle self-refresh leaves them running (R288). -/
def chanAsleep (s : State) (c : DramCh) : Bool :=
  [false, true].all (fun b => match (subch s c b).sr with | .committed _ idle => !idle | _ => false)
/-- A DRAM channel's scheduler and PHY are powered (R51, R288). -/
def dramOn (s : State) (c : DramCh) : Bool := mainOn s && (chanStage s c).isSome && !chanAsleep s c
/-- A switched power domain is on (R673). -/
def domainOn (s : State) (k : Nat) : Bool :=
  s.pack.woken.getLsbD k ||
  if k = 0 then s.modes.mode ≠ .dark
  else if k = 1 ∨ k = 47 then mainOn s
  else if k < 8 then coreMode s (k - 2) == 1
  else if k = 8 ∨ k = 53 then ledgerOn s
  else if k = 9 then mainOn s && (s.modes.mode ≠ .standby || anyStage s .dressing)
  else if k = 10 ∨ k = 55 then mainOn s
  else if k < 15 then mainOn s && !linkCut s
  else if k < 19 then dramOn s (fin4 (k - 15))
  else if k < 27 then dramOn s (fin4 ((k - 19) / 2))
  else if k < 43 then mainOn s && (flashStage s (k - 27)).isSome
  else if k = 43 ∨ k = 44 ∨ k = 46 then mainOn s
  else if k = 45 then s.modes.mode ≠ .dark && rdb s F.LINK_CFG_ENABLE
  else if k = 48 then s.modes.mode ≠ .dark
  else if k = 49 then (s.modes.mode ≠ .dark && !s.modes.booting) || !s.fw.raises.isEmpty
  else if k = 50 then (s.modes.mode ≠ .dark && !s.modes.booting) || !s.fw.raises.isEmpty
  else if k = 51 then s.fw.series.isSome
  else if k = 52 then mainOn s && fours.any (fun n => stageSt s n = .restoring || (rst s n).pending)
  else if k = 54 then rdb s F.FW_DEBUG_OPEN
  else false
/-- A clock domain runs (R671): its power domain is on; a core in retention has no clock. -/
def clockOn (s : State) (k : Nat) : Bool :=
  if k < 2 then true
  else if k = 2 then domainOn s 1
  else if k < 9 then domainOn s (k - 1)
  else if k = 9 then domainOn s 43
  else if k < 26 then domainOn s (k + 17)
  else if k < 42 then domainOn s (k + 1)
  else if k < 50 then domainOn s (k - 23)
  else if k < 52 then domainOn s (k - 37)
  else if k < 54 then domainOn s (k - 41)
  else if k = 54 then mainOn s && !(s.modes.mode = .standby && rdb s F.SB_STATUS_CLOCK_STOPPED)
  else if k = 55 then domainOn s 45
  else if k = 56 then domainOn s 46
  else if k = 57 then domainOn s 44
  else if k = 58 then s.modes.mode ≠ .dark || rdb s F.GAUGE_STATUS_PRESENT
  else if k = 59 then domainOn s 48
  else if k = 60 then domainOn s 50
  else if k = 61 then domainOn s 49
  else if k = 62 then domainOn s 54
  else domainOn s 48
/-- The numbers of a range for which a test holds, as a mask from bit 0. -/
def rangeMask (lo n : Nat) (f : Nat → Bool) : Nat := (List.range n).foldl (fun m i => m + b2n (f (lo + i)) * 2 ^ i) 0
/-- A PLL is locked: 0 data path, 1 DRAM, 2 flash, 3 and 4 the CXL PHYs (R672). -/
def pllLocked (s : State) (k : Nat) : Bool :=
  mainOn s && !s.pack.unlocked.getLsbD k && (k < 3 || domainOn s (k + 10))

/-! The views, one for each register that reports other state. -/

/-- MODE_STATUS (R66). -/
def modeStatusView (s : State) : Word :=
  let m := s.modes
  BitVec.ofNat 48 (modeCode m.mode + 8 * b2n m.recovery + 16 * b2n m.intermission
    + (stageCode m.stages.a0 + 8 * stageCode m.stages.a1 + 64 * stageCode m.stages.a2 + 512 * stageCode m.stages.a3) * 2 ^ 6
    + mask4 (fun n => stageSt s n = .live && (rst s n).pending) * 2 ^ 18 + billCode m.playbill * 2 ^ 22 + b2n m.compat * 2 ^ 25
    + b2n m.recorded.isSome * 2 ^ 26)
/-- The ranks of a channel for which a test of subchannel and rank holds, in the order of R304. -/
def rankMask (s : State) (c : DramCh) (f : SubCh → Rank → Bool) : Nat :=
  let a := subch s c false
  let b := subch s c true
  b2n (f a a.rank0) + 2 * b2n (f a a.rank1) + 4 * b2n (f b b.rank0) + 8 * b2n (f b b.rank1)
/-- The subchannel is in self-refresh. -/
def inSr (x : SubCh) : Bool := match x.sr with | .committed .. => true | _ => false
/-- The ranks of a channel in self-refresh; a rank that is not there reads 0 (R304). -/
def srMask (s : State) (c : DramCh) : Nat :=
  let ranks := if mapRd s (F.DC_MAP_RANKS c.val) = 1 then 3 else 1
  ranks * (b2n (inSr (subch s c false)) + 4 * b2n (inSr (subch s c true)))
/-- DC_PANIC_COUNT.PANIC_US: the time in panic, the present one included (R305). -/
def panicUs (s : State) (c : DramCh) : Nat :=
  let x := chan s c
  satN 24 ((x.panicTime + (if x.panic0 || x.panic1 then s.now - x.panicSince else 0)) / unitsPerUs)
/-- DC_SCHED_STATUS (R304). -/
def schedView (s : State) (c : DramCh) : Word :=
  let x := chan s c
  BitVec.ofNat 48 (b2n x.panic0 + 2 * b2n x.panic1 + 4 * b2n x.subA.drain + 8 * b2n x.subB.drain + 16 * rankMask s c (fun _ r => r.powerDown)
    + 256 * srMask s c + 4096 * b2n (x.subA.sr == .entering) + 8192 * b2n (x.subB.sr == .entering)
    + 2 ^ 14 * satN 7 x.subA.rq.length + 2 ^ 21 * satN 7 x.subA.wq.length + 2 ^ 28 * satN 7 x.subB.rq.length + 2 ^ 35 * satN 7 x.subB.wq.length)
/-- DC_REF_STATUS.OWED (R305). -/
def owedView (s : State) (c : DramCh) : Nat :=
  let a := subch s c false
  let b := subch s c true
  twos 4 a.rank0.owed + 16 * twos 4 a.rank1.owed + 256 * twos 4 b.rank0.owed + 4096 * twos 4 b.rank1.owed
/-- DC_ERR_CAPTURE: the oldest record (R340). -/
def captureView (s : State) (c : DramCh) : Word := (captureTake s c).1
/-- DC_REMAP_ENTRYk: an entry whose parity fails or whose spare line is not there reads as invalid (R333, R344). -/
def remapView (s : State) (k : Nat) : Word :=
  let e := remapAt s k
  let bad := e.state != 0 && (!e.parityOk || decide (e.spare ≥ spareCount s e.stage))
  BitVec.ofNat 48 (e.line % 2 ^ 35 + e.stage.val * 2 ^ 35 + e.spare % 256 * 2 ^ 37 + (if bad then 3 else e.state % 4) * 2 ^ 45 + e.spare / 256 % 2 * 2 ^ 47)
/-- DC_REMAP_STATUS (R344). -/
def remapStatus (s : State) : Word :=
  let k := s.dram.remap.length
  BitVec.ofNat 48 (k % 128 + 128 * b2n (decide (k ≥ 64)))
/-- CIPH_STATUS (R434). -/
def ciphView (s : State) : Word :=
  BitVec.ofNat 48 (rd s F.CIPH_STATUS_LANE_FAILED + 2 ^ 16 * b2n (keyAt s 0).isSome + 2 ^ 17 * b2n (!s.cipher.drbgFailed)
    + 2 ^ 18 * satN 7 ((s.cipher.slots.filter (fun e => e.2.ctx.isSome)).length) + 2 ^ 25 * mask4 (fun n => (keyAt s (1 + n.val)).isSome))
/-- The leaf that the next Attest would use (R428, R435). -/
def leafView (s : State) : Nat :=
  match s.cipher.leafBlock with
  | some b => if s.cipher.leafNext / 1024 = b then s.cipher.leafNext else 1024 * attestLowest s 0
  | none => 1024 * attestLowest s 0
/-- CIPH_ATTEST (R435). -/
def attestView (s : State) : Word :=
  let q := leafView s
  let ready := !s.cipher.exhausted && q < 33554432 && (q / 32768 == s.cipher.treeNow || s.cipher.treeReady)
  BitVec.ofNat 48 (q % 2 ^ 25 + 2 ^ 25 * s.cipher.blocksUsed + 2 ^ 41 * b2n ready + 2 ^ 42 * b2n s.cipher.treeReady + 2 ^ 43 * b2n s.cipher.exhausted)
/-- CIPH_KEY_Sn (R436). -/
def keyView (s : State) (n : Stage) : Word :=
  let epoch := (slotPayload s.store 0x05 (slotsKey n).1 (slotsKey n).2).elim 0 (fun ws => (parseKeySlot ws).1)
  BitVec.ofNat 48 (epoch % 65536 + 2 ^ 16 * b2n (keyStored s n) + 2 ^ 17 * b2n (keyAt s (1 + n.val)).isSome + 2 ^ 18 * rd s (F.CIPH_KEY_UNREADABLE n.val))
/-- CIPH_CERT_DATA: word WORD of the certificate area (R432, R435); a word behind the sector is a free value, the spec gives none. -/
def certView (s : State) : Word :=
  let k := rd s F.CIPH_CERT_SEL_WORD
  if k < 2048 then (storeWord s.store (8128 * 2048 + k)).2 else Config.shippedWord (8128 * 2048 + k)
/-- STORE_STATUS (R572). -/
def storeView (s : State) : Word :=
  let t := s.store
  let (op, sec) := match t.prog, t.erase with
    | some p, _ => (1, sectorOf p.addr)
    | none, some e => (if e.suspended then 3 else 2, e.sector)
    | none, none => (0, 0)
  BitVec.ofNat 48 (op + 4 * sec + 2 ^ 15 * b2n t.dirB + 2 ^ 16 * b2n t.pwdOpen + 2 ^ 17 * b2n (decide (t.refusals ≥ 4)) + 2 ^ 18 * satN 14 t.failed.length)
/-- STORE_DIR (R572). -/
def dirView (s : State) : Word := BitVec.ofNat 48 (s.store.dirSeq % 2 ^ 32 + s.store.dirUsed % 2048 * 2 ^ 32)
/-- PBOOK_STATUS (R643). -/
def pbookView (s : State) : Word :=
  (rawReg s 0x3C01 &&& ~~~(BitVec.ofNat 48 (511 * 2 ^ 32))) ||| BitVec.ofNat 48 (satN 9 (ringRecs s.pbook).length * 2 ^ 32)
/-- PBOOK_STORE (R643). -/
def pbookStoreView (s : State) : Word :=
  BitVec.ofNat 48 (s.pbook.lastCopied % 2 ^ 32 + satN 14 (areaRecs s.store).length * 2 ^ 32 + b2n s.pbook.unusable * 2 ^ 46)
/-- IMG_HASH_DATA (R540). -/
def hashView (s : State) : Word := bytesWord (((s.image.hash.drop (6 * rd s F.IMG_HASH_SEL_WORD)).take 6) ++ List.replicate 6 0#8)
/-- Roles run different firmware: the house role's and those of bound stages (R586, R588). -/
def rolesMixed (s : State) : Bool :=
  fours.any (fun n => bound s n && s.fw.roleSlotB.getD (n.val + 1) false != s.fw.roleSlotB.headD false)
/-- FW_STATUS (R598). -/
def fwView (s : State) : Word :=
  let b := s.fw.roleSlotB.headD false
  let h := fwSlotHead s b
  BitVec.ofNat 48 (b2n b + 2 * b2n (rolesMixed s) + 4 * rd s F.FW_STATUS_RECOVERY_CAUSE + 16 * rd s F.FW_DEBUG_OPEN
    + (if s.modes.recovery then 0 else 32 * (h.svn % 128) + 4096 * (h.version % 2 ^ 32)))
/-- CPD_PLL (R680). -/
def pllView (s : State) : Word := BitVec.ofNat 48 (rangeMask 0 5 (pllLocked s) + 32 * rd s F.CPD_PLL_UNLOCKS)
/-- Alert sources that drive ALERT_N and in-band requests (R615). -/
def alertBits (s : State) : Nat := rd s F.SB_ALERT_STATUS_SOURCES &&& rd s F.SB_ALERT_MASK_MASK
/-- An in-band request waits to be accepted: outside Dark and Hold, a source that was not set when the last request was accepted (R616 to R618). -/
def ibrPending (s : State) : Bool :=
  mainOn s && rdb s F.SB_CFG_IBR_EN && !rdb s F.SB_IBR_DISABLED && decide (alertBits s &&& (255 ^^^ s.side.accepted) ≠ 0)
/-- The highest power estimate of `n` ticks from one on (R680). -/
def powerPeak (first n : Nat) : Nat := (List.range n).foldl (fun m i => max m (Config.powerEstimate (first + i))) 0
/-- A register with one field replaced by a computed value. -/
def fieldView (s : State) (f : Fld) (v : Nat) : Word := withFld (rawReg s f.idx) f v

/-- What a register reads as, before the read's side effect (R648). -/
def regView (s : State) (i : Nat) : Word :=
  if i < 0x1000 then
    (if i = 2 then BitVec.extractLsb' 0 48 Config.serial
    else if i = 3 then BitVec.extractLsb' 48 48 Config.serial
    else if i = 4 then BitVec.setWidth 48 (BitVec.extractLsb' 96 32 Config.serial)
    else if i = 5 then BitVec.ofNat 48 (tick40 s)
    else if i = 0x400 then modeStatusView s
    else if i = 0xC02 then fieldView s F.SAVE_STATUS_SUPPLY_GOOD (rd s F.PWR_VIN_STATUS_SUPPLY_GOOD)
    else rawReg s i)
  else if i < 0x2000 then
    (let c := fin4 ((i - 0x1000) / 1024)
    let o := i % 1024
    if o = 0x09 then schedView s c
    else if o = 0x0A then fieldView s (F.DC_REF_STATUS_OWED c.val) (owedView s c)
    else if o = 0x0B then fieldView s (F.DC_PANIC_COUNT_PANIC_US c.val) (panicUs s c)
    else if o = 0x42 then captureView s c
    else if o = 0x81 then delayView s c
    else if i = 0x1101 then remapStatus s
    else if 0x1110 ≤ i ∧ i < 0x1150 then remapView s (i - 0x1110)
    else rawReg s i)
  else if i < 0x3000 then
    (if i = 0x2801 then ciphView s
    else if i = 0x2804 then attestView s
    else if i = 0x2806 then certView s
    else if 0x2808 ≤ i ∧ i < 0x280C then keyView s (fin4 (i - 0x2808))
    else if i = 0x2C01 then storeView s
    else if i = 0x2C05 then BitVec.ofNat 48 (sectorStatus s.store (rd s F.STORE_SECTOR_SEL_SECTOR))
    else if i = 0x2C07 then dirView s
    else rawReg s i)
  else if i < 0x4000 then
    (if i = 0x3024 then cueWord s (rd s F.CUE_MEM_SEL_WORD)
    else if i = 0x3801 then withFld (fieldView s F.SB_STATUS_IBR_PENDING (b2n (ibrPending s))) F.SB_STATUS_CLOCK_STOPPED
        (b2n (mainOff s || (s.modes.mode = .standby && rdb s F.SB_STATUS_CLOCK_STOPPED)))
    else if i = 0x3882 then fieldView s F.LINK_STATUS_RESERVED_IDS (satN 9 s.link.tx.length)
    else if i = 0x3C01 then pbookView s
    else if i = 0x3C02 then fieldView s (F.PBOOK_CURSOR_EMPTY 0) (b2n (cursorEmpty s 0))
    else if i = 0x3C06 then fieldView s (F.PBOOK_CURSOR_EMPTY 1) (b2n (cursorEmpty s 1))
    else if 0x3C03 ≤ i ∧ i < 0x3C06 then windowWord s 0 (i - 0x3C03)
    else if 0x3C07 ≤ i ∧ i < 0x3C0A then windowWord s 1 (i - 0x3C07)
    else if i = 0x3C0A then fieldView s F.PBOOK_CLEAR_AREA_PENDING (b2n s.pbook.clearPending.isSome)
    else if i = 0x3C0B then pbookStoreView s
    else rawReg s i)
  else
    (if 0x4010 ≤ i ∧ i < 0x4050 ∧ i % 16 = 0 then
      (let n := fin4 ((i - 0x4010) / 16)
      fieldView s (F.STAGE_BIND_MLD n.val) (b2n (bound s n && (if rd s (F.STAGE_BIND_PORT n.val) = 0 then s.cxl.mld0 else s.cxl.mld1))))
    else if i = 0x4083 then hashView s
    else if i = 0x4400 then fwView s
    else if i = 0x4405 then withFld (withFld (rawReg s i) F.FW_HANDOVER_ROLE (s.fw.series.elim 0 (fun x => x.roles.headD 0)))
      F.FW_HANDOVER_UNDERSTUDY_CORE (s.fw.roleCore.getD 5 5)
    else if i = 0x4802 then BitVec.ofNat 48 (rangeMask 0 48 (clockOn s))
    else if i = 0x4803 then BitVec.ofNat 48 (rangeMask 48 16 (clockOn s))
    else if i = 0x4804 then BitVec.ofNat 48 (rangeMask 0 48 (domainOn s))
    else if i = 0x4805 then BitVec.ofNat 48 (rangeMask 48 8 (domainOn s) + 256 * rangeMask 0 6 (fun c => coreMode s c == 2))
    else if i = 0x4806 then pllView s
    else if i = 0x4807 then withFld (fieldView s F.CPD_POWER_MW (Config.powerEstimate (tickOf s))) F.CPD_POWER_PEAK_MW
        (powerPeak (s.pack.peakSince + 1) (tickOf s - s.pack.peakSince))
    else rawReg s i)

/-- The side effect of a read (R648). -/
def readEffect (s : State) (i : Nat) : State :=
  if i = 0x3C05 then cursorAdvance s 0
  else if i = 0x3C09 then cursorAdvance s 1
  else if 0x1000 ≤ i ∧ i < 0x2000 ∧ i % 1024 = 0x42 then (captureTake s (fin4 ((i - 0x1000) / 1024))).2
  else if 0x1000 ≤ i ∧ i < 0x2000 ∧ i % 1024 = 0x81 then delayAdvance s (fin4 ((i - 0x1000) / 1024))
  else if i = 0x2806 then incWrap s F.CIPH_CERT_SEL_WORD 1
  else if i = 0x3024 then incWrap s F.CUE_MEM_SEL_WORD 1
  else if i = 0x4083 then incWrap s F.IMG_HASH_SEL_WORD 1
  else s
/-- A register read with its side effect (R648); an index that does not exist reads zero (R646). -/
def regRead (s : State) (i : Nat) : Word × State := if regExists i then (regView s i, readEffect s i) else (0#48, s)
/-- A main-domain register that the sideband does not serve in Dark and Hold: one without an RS field (R608). -/
def notServed (s : State) (i : Nat) : Bool := mainOff s && regDomain i = .main && !hasRs i
/-- What the sideband and READ_REG read: in Dark and Hold a main-domain register shows its RS fields alone; a register that is not served, does not exist, or lies on the local bus reads zero (R367, R608, R609). -/
def sideRead (s : State) (i : Nat) : Word × State :=
  if !regExists i || isI3c i || notServed s i then (0#48, s)
  else if mainOff s && regDomain i = .main then (rawReg s i &&& accessMask i (· == .rs), s)
  else regRead s i

end Sys2Proof.Machine
end

