-- ==== Sys2Proof/Machine/Link.lean ====
section
/-! DEFINITION. The Mbaham link: frames, identifiers and repeats, a follower's messages and the stage manager's duties (R463 to R478). -/

namespace Sys2Proof.Machine

/-! Frames and identifiers (R464 to R468). -/

/-- The link controller works: enabled, and powered outside Dark (R51, R673). -/
def linkOn (s : State) : Bool := rdb s F.LINK_CFG_ENABLE && s.modes.mode ≠ .dark
/-- The stage manager may start exchanges: not in Hold, where the controller only receives and acknowledges (R51), and not in a conflict (R477). -/
def linkLeads (s : State) : Bool :=
  linkOn s && rdb s F.LINK_CFG_LEAD && s.modes.mode ≠ .hold && !rdb s F.LINK_STATUS_LEAD_CONFLICT
/-- The node's own address. -/
def ownNode (s : State) : Nat := rd s F.SB_STATUS_NODE
/-- The link timeout as taken (R483). -/
def linkTicks (s : State) : Nat := max 33 (rd s F.LINK_CFG_TIMEOUT)
/-- The bytes of a frame (R464). -/
def frameBytes (dest : Nat) (bcast : Bool) (src : Nat) (lead : Bool) (type id flags : Nat) (payload : List Byte) : List Byte :=
  let b := leBytes 2 (dest % 512 + 512 * b2n bcast) ++ leBytes 2 (src % 512 + 512 * b2n lead) ++ leBytes 1 type ++ leBytes 1 id ++ leBytes 1 flags
    ++ leBytes 1 payload.length ++ payload
  0xA7#8 :: b ++ leBytes 2 (crc16 b)
/-- A frame sent or taken is counted on the house core (R641). -/
def frameCount (s : State) : State := pmonHit s 7 3 (s.fw.roleCore.headD 0) 1
/-- A response of a follower: TYPE and payload, with the ID and epoch of the frame it answers (R465). -/
def linkReply (s : State) (h : LinkHdr) (r : Nat × List Byte) : State :=
  frameCount (emit s (.linkFrame (frameBytes h.src false (ownNode s) false r.1 h.id (h.epoch + 16) r.2)))

/-- The next identifier that is not reserved, with its epoch and what the counters then hold (R466). -/
def nextId (tx : List LinkTx) : Nat → Nat → Nat → Option (Nat × Nat × Nat × Nat)
  | 0, _, _ => none
  | fuel + 1, id, ep =>
    let id' := (id + 1) % 256
    let ep' := if id = 255 then (ep + 1) % 16 else ep
    if tx.any (fun t => t.id == id) then nextId tx fuel id' ep' else some (id, ep, id', ep')
/-- The frame of a reserved command sent. -/
def txFrame (s : State) (t : LinkTx) : State :=
  frameCount (emit s (.linkFrame (frameBytes t.dest t.bcast (ownNode s) true t.type t.id (t.epoch + t.flags) t.payload)))
/-- A command frame sent for the first time: its ID is reserved (R466). False where every ID is reserved. -/
def linkSend1 (s : State) (dest : Nat) (bcast : Bool) (type : Nat) (payload : List Byte) (flags : Nat) (software : Bool) : Bool × State :=
  match nextId s.link.tx 256 (rd s F.LINK_STATUS_NEXT_ID) (rd s F.LINK_STATUS_EPOCH) with
  | none => (false, s)
  | some (id, ep, id', ep') =>
    let t : LinkTx := ⟨id, ep, dest, bcast, type, payload, flags, 1, tickOf s, tickOf s, software, false⟩
    let s := wr (wr s F.LINK_STATUS_NEXT_ID id') F.LINK_STATUS_EPOCH ep'
    (true, txFrame { s with link := { s.link with tx := s.link.tx ++ [t] } } t)
/-- A TIME frame sent; the first frame after a transition from Dark carries the restart flag (R468, R473). -/
def sendTime (s : State) : State :=
  let flags := if s.link.restartSent then 0 else 32
  (linkSend1 { s with link := { s.link with restartSent := true } } 0x1FF true 0x12 (leBytes 5 (tick40 s)) flags false).2
/-- A command frame sent, after the TIME frame that must come first (R468). -/
def linkSend (s : State) (dest : Nat) (bcast : Bool) (type : Nat) (payload : List Byte) (software : Bool) : Bool × State :=
  linkSend1 (whenS (!s.link.restartSent) sendTime s) dest bcast type payload 0 software

/-! Receiving as a follower (R468 to R474, R477). -/

/-- Two stage managers: the flag and event 0x814, once until the flag is cleared (R477). -/
def leadConflict (s : State) (other : Nat) : State :=
  if rdb s F.LINK_STATUS_LEAD_CONFLICT then s else event (wr s F.LINK_STATUS_LEAD_CONFLICT 1) 0x814 2 0 other
/-- The stage manager is lost (R477). -/
def leadLost (s : State) : State :=
  if !linkOn s || rdb s F.LINK_CFG_LEAD || rdb s F.LINK_STATUS_LEAD_LOST then s
  else
    let s := untilTick s (s.link.heardTick + rd s F.LINK_CFG_LEAD_LOST)
    let s := wr (wr { s with link := { s.link with sources := [] } } F.LINK_STATUS_LEAD_LOST 1) F.LINK_STATUS_TIME_VALID 0
    event s 0x813 1 0 (rd s F.LINK_STATUS_LEAD_NODE)
/-- A frame with the stage-manager bit heard from a source, whomever it addresses; a LEAD_LOST window that has ended ends first (R7, R477). -/
def linkHear (s : State) (src : Nat) : State :=
  let s := frameCount (if s.link.heardTick + rd s F.LINK_CFG_LEAD_LOST ≤ tickOf s then leadLost s else s)
  if src = ownNode s then s
  else if rdb s F.LINK_CFG_LEAD then leadConflict s src
  else
    let known := s.link.sources
    let other := known.any (· != src)
    let s := { s with link := { s.link with heardTick := tickOf s, sources := if known.contains src then known else known ++ [src] } }
    whenS other (fun s => leadConflict s src) (wr (wr s F.LINK_STATUS_LEAD_NODE src) F.LINK_STATUS_LEAD_LOST 0)
/-- A remembered pair as it is answered again: an ACK with RESULT 1, a STATUS as it was (R468). -/
def replyAgain (bs : List Byte) : Nat × List Byte :=
  match bs with
  | [] => (3, [])
  | t :: p => if t = 3#8 then (3, 1#8 :: p.drop 1) else (t.toNat, p)
/-- A command frame of the stage manager: only a follower that it addresses executes it, once for its ID and epoch, and answers a unicast one (R465, R468). The action answers TYPE and payload, or nothing. -/
def linkTake (s : State) (h : LinkHdr) (restart : Bool) (act : State → Option (Nat × List Byte) × State) : State :=
  if !linkOn s then s
  else
    let s := linkHear s h.src
    if h.src = ownNode s ∨ rdb s F.LINK_CFG_LEAD = true ∨ (h.bcast = false ∧ h.dest ≠ ownNode s) then s
    else
      let s := if restart then { s with link := { s.link with memory := [] } } else s
      match s.link.memory.find? (fun m => m.1 == h.id && m.2.1 == h.epoch) with
      | some m =>
        let s := incSat s F.LINK_COUNT_DUPLICATES 1
        if h.bcast || m.2.2.isEmpty then s else linkReply s h (replyAgain m.2.2)
      | none =>
        let (r, s) := act s
        let kept := r.elim [] (fun r => BitVec.ofNat 8 r.1 :: r.2)
        let mem := s.link.memory ++ [(h.id, h.epoch, kept)]
        let s := { s with link := { s.link with memory := mem.drop (mem.length - 16) } }
        match r with
        | none => s
        | some r => if h.bcast then s else linkReply s h r
/-- An ACK with a result (R470). -/
def ackOf (result : Nat) : Option (Nat × List Byte) := some (3, [BitVec.ofNat 8 result])
/-- The STATUS payload (R470). -/
def statusPayload (s : State) : List Byte :=
  let m := s.modes
  let flags := b2n (rdb s F.PWR_VIN_STATUS_SUPPLY_GOOD) + 2 * b2n (rdb s F.GAUGE_STATUS_PRESENT) + 4 * b2n (rdb s F.GAUGE_STATUS_ANCHOR_DUE)
    + 8 * b2n (rd s F.GAUGE_REH_STATE == 1) + 16 * b2n (decide (rd s F.GAUGE_REH_STATE ≥ 2)) + 32 * b2n m.recovery + 64 * b2n m.intermission
    + 128 * b2n (rdb s F.PWR_THERM_TRIPPED)
  let quiet := m.mode = .dark ∨ m.mode = .standby ∨ m.mode = .hold
  leBytes 1 (modeCode m.mode) ++ leBytes 1 flags
    ++ leBytes 2 (stageCode m.stages.a0 + 8 * stageCode m.stages.a1 + 64 * stageCode m.stages.a2 + 512 * stageCode m.stages.a3)
    ++ leBytes 1 (rd s F.SAVE_LAST_OUTCOME) ++ leBytes 1 (rd s F.SAVE_LAST_CAUSE) ++ leBytes 4 (if quiet then 0 else rd s F.LDG_DEV_RESIDUE_TOTAL)
    ++ leBytes 2 (satN 16 (rd s F.LDG_DEV_USABLE_USABLE_MJ / 1000)) ++ leBytes 2 (rd s F.PWR_RAIL_FAULT_FAULTED) ++ leBytes 1 (rd s F.LINK_CFG_SHELF)
/-- POLL (R469). -/
def linkPoll (s : State) (h : LinkHdr) : State := linkTake s h false (fun s => (some (2, statusPayload s), s))
/-- CUE_SAVE: a gate instant of cause 0x0B in Service and Restore; the stage manager acts on its own broadcast (R469, R471). -/
def cueSaveAct (s : State) (action : Nat) : Nat × State :=
  if action > 2 then (3, s)
  else
    let a := if action = 0 then actionOf s 0x0B else action - 1
    if serving s && !s.modes.mrReset && !downRuns s then (0, saveTrigger s 0x0B a) else (2, ignored s 0x0B)
/-- CUE_SAVE received. -/
def linkCueSave (s : State) (h : LinkHdr) (action : Nat) : State :=
  if linkOn s && rdb s F.LINK_CFG_LEAD && decide (h.src = ownNode s) && h.bcast then (cueSaveAct (frameCount s) action).2
  else linkTake s h false (fun s => let (r, s) := cueSaveAct s action; (ackOf r, s))
/-- WAKE: the wake matcher in Dark, ACK 2 elsewhere (R469, R472). -/
def linkWake (s : State) (h : LinkHdr) : State :=
  if s.modes.mode = .dark then
    (if rdb s F.LINK_CFG_ENABLE && (h.bcast || h.dest == ownNode s) && rdb s F.PWR_VIN_STATUS_SUPPLY_GOOD then powerUpRequest s 3 else s)
  else linkTake s h false (fun s => (ackOf 2, s))
/-- The offset logged for the alignment of records: when time becomes valid, and when it moved by more than ALIGN_TICKS (R637). -/
def alignLog (s : State) (off : Int) (was : Bool) : State :=
  let sat : Int := max (-2147483648) (min 2147483647 off)
  let due := !was || s.pbook.offsetLogged.elim true (fun o => decide ((off - o.toInt).natAbs > rd s F.PBOOK_CFG_ALIGN_TICKS))
  if due then event { s with pbook := { s.pbook with offsetLogged := some (BitVec.ofInt 32 sat) } } 0xD03 0 0 (twos 32 sat) else s
/-- TIME: offset and its validity (R473). -/
def linkTime (s : State) (h : LinkHdr) (tick : Nat) (restart : Bool) : State :=
  linkTake s h restart (fun s =>
    let off : Int := (tick % 2 ^ 40 : Nat) - (tick40 s : Nat)
    let was := rdb s F.LINK_STATUS_TIME_VALID
    (none, alignLog (wr (wr s F.LINK_TIME_OFFSET (twos 48 off)) F.LINK_STATUS_TIME_VALID 1) off was))
/-- The link serves GRANT: not in Save and Hold (R469). -/
def grantServed (s : State) : Bool := s.modes.mode ≠ .save && s.modes.mode ≠ .hold
/-- The start conditions of C005h but for a rehearsal already active: mode, main input, battery, rail (R398, R399, R501). -/
def rehReady (s : State) : Bool :=
  (s.modes.mode = .standby || s.modes.mode = .service) && rdb s F.PWR_VIN_STATUS_SUPPLY_GOOD && batteryOk s && rehRailOk s
/-- GRANT OP 1 at a follower, and the stage manager's grant to itself (R474). -/
def grantTake (s : State) : Nat × State :=
  if rd s F.GAUGE_REH_STATE ≠ 1 then (3, s)
  else if rehReady s then (0, rehBegin s)
  else (3, wr (wr s F.GAUGE_REH_STATE 0) F.LINK_STATUS_GRANT_PENDING 0)
/-- GRANT OP 2: a start as if granted; one that waits for its grant starts by it (R474, R502). -/
def orderTake (s : State) : Nat × State := if decide (rd s F.GAUGE_REH_STATE ≤ 1) && rehReady s then (0, rehBegin s) else (3, s)
/-- GRANT OP 3 (R474). -/
def revokeTake (s : State) : Nat × State := (0, rehEnd s 2)
/-- A GRANT message with an operation. -/
def linkGrant (s : State) (h : LinkHdr) (op : State → Nat × State) : State :=
  linkTake s h false (fun s => if grantServed s then let (r, s) := op s; (ackOf r, s) else (ackOf 2, s))
/-- READ_REG: the value as the sideband reads it (R469, R470, R648). -/
def linkReadReg (s : State) (h : LinkHdr) (index : Nat) : State :=
  linkTake s h false (fun s =>
    if !regExists index || isI3c index || notServed s index then (ackOf 3, s)
    else
      let (w, s) := sideRead s index
      (some (3, 0#8 :: wordBytes w), s))
/-- A message of a reserved type (R469). -/
def linkReserved (s : State) (h : LinkHdr) : State := linkTake s h false (fun s => (ackOf 3, s))
/-- A frame that fails its checks (R464). -/
def linkDropped (s : State) : State := if linkOn s then incSat s F.LINK_COUNT_CRC_ERRORS 1 else s

/-! The stage manager (R466, R467, R475 to R478). -/

/-- A node as the stage manager knows it before it has answered. -/
def linkNodeInit : LinkNode := ⟨0, false, false, 0⟩
/-- A grant ends; `byLimit` for one that was ended at the limit (R476). -/
def grantEnd (s : State) (node : Nat) (byLimit : Bool) : State :=
  if s.link.grants.any (fun g => g.node == node) then
    event { s with link := { s.link with grants := s.link.grants.filter (fun g => g.node != node) } } 0x816 0 0 (node + 512 * b2n byLimit)
  else s
/-- The grant of a node that OP 3 has been sent for ends with that command. -/
def revokeOver (s : State) (t : LinkTx) : State :=
  if t.type = 0x13 ∧ t.payload = [3#8] ∧ t.software = false then grantEnd s t.dest true else s
/-- Nodes that ask for a grant with their shelves: those polled, and the stage manager itself (R476). -/
def askers (s : State) : List (Nat × Nat) :=
  (s.link.nodes.filter (fun e => e.2.awaiting)).map (fun e => (e.1, e.2.shelf))
    ++ (if rd s F.GAUGE_REH_STATE = 1 then [(ownNode s, rd s F.LINK_CFG_SHELF)] else [])
/-- The lowest of the numbers that satisfy a test. -/
def lowestOf (xs : List Nat) (f : Nat → Bool) : Option Nat :=
  xs.foldl (fun m x => if f x then some (m.elim x (min x)) else m) none
/-- The requester of a shelf whose turn it is (R476). -/
def grantNext (s : State) (shelf : Nat) : Option Nat :=
  let xs := ((askers s).filter (fun a => a.2 == shelf)).map (·.1)
  let last := mget 0 s.link.lastGrant shelf
  (lowestOf xs (fun x => decide (x ≥ last))).orElse (fun _ => lowestOf xs (fun _ => true))
/-- A grant given (R476). -/
def grantGive (s : State) (shelf : Nat) : State :=
  if s.link.grants.any (fun g => g.shelf == shelf) then s
  else match grantNext s shelf with
    | none => s
    | some x =>
      let g : LinkGrant := ⟨shelf, x, tickOf s, none⟩
      let s := { s with link := { s.link with grants := s.link.grants ++ [g], lastGrant := mset 0 s.link.lastGrant shelf (x + 1) } }
      let s := event s 0x815 0 0 (x + 512 * shelf)
      if x = ownNode s then
        let (r, s) := grantTake s
        if r = 0 then s else grantEnd s x false
      else (linkSend s x false 0x13 [1#8] false).2
/-- Grants given to every shelf that asks and has none; the stage manager's own grant ends with its rehearsal (R476). -/
def grantsGo (s : State) : State :=
  if !linkLeads s then s
  else
    let s := whenS (rd s F.GAUGE_REH_STATE == 0) (fun s => grantEnd s (ownNode s) false) s
    foldS ((askers s).map (·.2)) grantGive s
/-- A command's ID released. -/
def txDrop (s : State) (t : LinkTx) : State := { s with link := { s.link with tx := s.link.tx.filter (fun x => x.id != t.id) } }
/-- A response's ID and epoch looked up: the command that it completes, if any (R467). -/
def linkComplete (s : State) (src id epoch : Nat) : Option LinkTx × State :=
  match s.link.tx.find? (fun t => t.id == id) with
  | none => (none, s)
  | some t =>
    if t.epoch = epoch then (some t, txDrop s t)
    else (none, event (incSat s F.LINK_COUNT_STALE_ACKS 1) 0x811 1 0 (id % 256 + 256 * (epoch % 16) + 4096 * (src % 512)))
/-- The outcome of a command that software sent (R478, R483). -/
def linkResult (s : State) (t : LinkTx) (result ack : Nat) : State :=
  if t.software then wr (wr (wr s F.LINK_CMD_BUSY 0) F.LINK_CMD_RESULT result) F.LINK_CMD_ACK ack else s
/-- A command replaced in the list of those whose ID is reserved. -/
def txSet (s : State) (t : LinkTx) : State :=
  { s with link := { s.link with tx := s.link.tx.map (fun x => if x.id = t.id then t else x) } }
/-- A failed command: event 0x812, and a poll's failure counted (R467, R475). -/
def txFail (s : State) (t : LinkTx) : State :=
  let s := linkResult (event s 0x812 1 0 (t.dest % 512 + 512 * (t.type % 256))) t 1 0
  if t.type = 1 ∧ t.software = false then
    let x := mget linkNodeInit s.link.nodes t.dest
    { s with link := { s.link with nodes := mset linkNodeInit s.link.nodes t.dest { x with fails := x.fails + 1 } } }
  else s
/-- A command is sent again, or has been sent as often as it may be (R467). -/
def txAgain (s : State) (t : LinkTx) : State :=
  let more := if t.bcast then t.type ≠ 0x12 ∧ t.sent ≤ rd s F.LINK_CFG_BCAST_REPEAT else t.sent ≤ rd s F.LINK_CFG_RETRIES
  if more then
    let t := { t with sent := t.sent + 1, lastTick := tickOf s }
    let s := txFrame (txSet s t) t
    whenS (t.bcast && decide (t.sent > rd s F.LINK_CFG_BCAST_REPEAT)) (fun s => linkResult s t 2 0) s
  else
    let s := txSet s { t with closed := true, lastTick := tickOf s }
    whenS (!t.bcast) (fun s => txFail s t) s
/-- A link timeout of a command ends: it is sent again or fails, and four timeouts after its first transmission its ID is free (R466, R467). -/
def linkTimeout (s : State) (id : Nat) : State :=
  match s.link.tx.find? (fun t => t.id == id) with
  | none => s
  | some t =>
    if !linkOn s then s
    else
      let endAt := t.firstTick + 4 * linkTicks s
      let s := untilTick s (if t.closed then endAt else t.lastTick + linkTicks s)
      let s := whenS (!t.closed) (fun s => txAgain s t) s
      whenS (decide (tickOf s ≥ endAt)) (fun s => grantsGo (revokeOver (txDrop s t) t)) s
/-- A link timeout of an ID that has ended is over before a later response (R7, R467). -/
def txCatch (s : State) (id : Nat) : State :=
  match s.link.tx.find? (fun t => t.id == id) with
  | none => s
  | some t => if (if t.closed then t.firstTick + 4 * linkTicks s else t.lastTick + linkTicks s) ≤ tickOf s then linkTimeout s id else s
/-- STATUS received (R470, R475, R476). -/
def linkStatus (s : State) (src id epoch : Nat) (awaiting active : Bool) (shelf : Nat) : State :=
  if !(linkOn s && rdb s F.LINK_CFG_LEAD) then s
  else
    let (t, s) := linkComplete (txCatch (frameCount s) id) src id epoch
    match t with
    | none => s
    | some t =>
      let s := linkResult s t 0 0
      let s := { s with link := { s.link with nodes := mset linkNodeInit s.link.nodes src ⟨0, awaiting, active, shelf % 64⟩ } }
      grantsGo (whenS (!awaiting && !active) (fun s => grantEnd s src false) s)
/-- ACK received (R467, R476). -/
def linkAck (s : State) (src id epoch result : Nat) : State :=
  if !(linkOn s && rdb s F.LINK_CFG_LEAD) then s
  else
    let (t, s) := linkComplete (txCatch (frameCount s) id) src id epoch
    match t with
    | none => s
    | some t =>
      let s := linkResult s t 0 (result % 256)
      let refused := t.type = 0x13 ∧ t.payload = [1#8] ∧ t.software = false ∧ result ≥ 2
      grantsGo (revokeOver (whenS refused (fun s => grantEnd s t.dest false) s) t)
/-- A node is passed over this round: silent for four polls, except in every eighth round; the stage manager's own address is not polled (R475). -/
def pollSkip (s : State) (x round : Nat) : Bool :=
  x == ownNode s || (decide ((mget linkNodeInit s.link.nodes x).fails ≥ 4) && round % 8 != 0)
/-- The next node to poll from a place on, with its round (R475). -/
def pollPick (s : State) : Nat → Nat → Nat → Option (Nat × Nat)
  | 0, _, _ => none
  | fuel + 1, x, round =>
    let lo := rd s F.LINK_POLL_FIRST
    let hi := rd s F.LINK_POLL_LAST
    if x < lo ∨ x > hi then (if lo ≤ hi then pollPick s fuel lo (round + 1) else none)
    else if pollSkip s x round then pollPick s fuel (x + 1) round else some (x, round)
/-- A poll window opens (R475). -/
def pollWindow (s : State) : State :=
  window s timerPoll (rd s F.LINK_POLL_POLL_TICKS) (fun s _ =>
    if !linkLeads s then s
    else
      let s := grantsGo s
      match pollPick s 4200 s.link.pollNode s.link.round with
      | none => s
      | some (x, r) => (linkSend { s with link := { s.link with pollNode := x + 1, round := r } } x false 1 [] false).2)
/-- A TIME window opens (R473). -/
def timeWindow (s : State) : State := window s timerTime 32768 (fun s _ => whenS (linkLeads s) sendTime s)
/-- A grant reaches its limit: OP 3 is sent, or the stage manager ends its own rehearsal (R476). -/
def grantLimit (s : State) (shelf : Nat) : State :=
  match s.link.grants.find? (fun g => g.shelf == shelf && g.revoked.isNone) with
  | none => s
  | some g =>
    if !linkLeads s then s
    else
      let s := untilTick s (g.tick + rd s F.LINK_POLL_GRANT_LIMIT_S * 32768)
      if g.node = ownNode s then grantEnd (revokeTake s).2 g.node true
      else
        let gs := s.link.grants.map (fun x => if x.shelf = shelf then { x with revoked := some (tickOf s) } else x)
        (linkSend { s with link := { s.link with grants := gs } } g.node false 0x13 [3#8] false).2
/-- The payload that LINK_CMD gives a message type (R469, R483). -/
def cmdPayload (s : State) (type arg : Nat) : List Byte :=
  if type = 0x10 ∨ type = 0x13 then leBytes 1 arg
  else if type = 0x14 then leBytes 2 arg
  else if type = 0x12 then leBytes 5 (tick40 s)
  else []
/-- LINK_CMD.GO, with the fields of the register as written (R478). -/
def linkCmdGo (s : State) : State :=
  if rdb s F.LINK_CMD_BUSY || !linkLeads s then wr s F.LINK_CMD_RESULT 3
  else
    let bcast := rdb s F.LINK_CMD_BCAST
    let type := rd s F.LINK_CMD_TYPE
    let (ok, s) := linkSend s (rd s F.LINK_CMD_DEST) bcast type (cmdPayload s type (rd s F.LINK_CMD_ARG)) true
    if !ok then wr s F.LINK_CMD_RESULT 3
    else if bcast && (type == 0x12 || rd s F.LINK_CFG_BCAST_REPEAT == 0) then wr s F.LINK_CMD_RESULT 2
    else wr s F.LINK_CMD_BUSY 1
/-- LEAD_CONFLICT cleared: the sources heard are counted afresh (R477). -/
def conflictCleared (s : State) : State := { s with link := { s.link with sources := [] } }

end Sys2Proof.Machine
end

