-- ==== Sys2Proof/Machine/Fw.lean ====
section
/-! DEFINITION. Boot, firmware loads, activation, understudy handover, recovery, fuses and the debug port (R574 to R599). -/

namespace Sys2Proof.Machine

/-! Boot (R579 to R582, R592). -/

/-- Recovery is entered with a cause: 1 RECOVERY_N, 2 no candidate slot (R45, R592). -/
def recoveryEnter (s : State) (cause : Nat) : State :=
  let s := { s with modes := { s.modes with recovery := true, recoveryPin := cause == 1, booting := false } }
  event (wr s F.FW_STATUS_RECOVERY_CAUSE cause) 0x00A 0 0 (b2n (cause == 1))
/-- Slots that hold a container that is not accepted are named at boot, a failed signature with event 0x70F (R575, R599). -/
def slotsRefused (s : State) : State :=
  foldS [false, true] (fun s b => if !fwShipped s b && (fwContainer s b).isSome && !fwAccepted s b then event (fwSigEvent s (fwCheck s ((fwContainer s b).getD [])).2) 0x711 2 0 (b2n b) else s) s
/-- Steps 1 and 2 of R579: script-store recovery, fuses, wrapping key, boot nonce, the nonce of the debug port; the prompt-book area is taken up and the ring renumbered; a Set LSA or a copy of the learned capacity that a loss of power cut off is reported (R394, R497, R414, R417, R561, R596, R626, R631, R636). -/
def bootStore (s : State) : State :=
  let s := cutsReport (cutsReport (clearPendingArea (renumber (areaResume (storeRecover (slotsFollow s))))) 0x0C 0x60E) 0x02 0x907
  let s := setKey (fuseRegs s) 0 wrappingKey
  let (n, s) := randomBytes s 4
  let (d, s) := randomBytes s 32
  { s with
    cipher := { s.cipher with bootNonce := n.map (fun bs => BitVec.ofNat 32 (leNat bs)) }
    fw := { s.fw with nonce := d.getD [], roleCore := State.reset.fw.roleCore } }
/-- Steps 6 to 8 of R579 with the chosen slot: protection, the roles' firmware, the image and DRAM training. -/
def bootSlot (s : State) (b : Bool) (t : TrainIn) (ms : Nat) : State :=
  let s := fwProtect s b
  let s := { s with
    fw := { s.fw with roleSlotB := List.replicate 6 b, unconfirmed := fwSlotState s b == 2 }
    modes := { s.modes with booting := false } }
  let s := event (wr (fwSlotRegs s) F.FW_BOOT_BOOT_MS (satN 16 ms)) 0x710 0 0 (b2n b + 2 * satN 16 ms)
  -- the local bus's addresses are assigned at each transition from Dark to Standby (R365)
  let s := whenS (rd s F.GLB_RESET_LAST == 1) (fun s => emit s (.i3cAssign (rd s F.DC_I3C_CFG_RATE))) s
  let s := lanesDue (imageApply s)
  let s := trainBoot s t
  whenS (!rdb s F.IMG_STATUS_VALID) fwConfirmTry s
/-- The boot of core 0 (R579): `t` is what DRAM training finds, `recoveryLow` the level of RECOVERY_N, `ms` the duration of steps 1 to 7. -/
def boot (s : State) (t : TrainIn) (recoveryLow : Bool) (ms : Nat) : State :=
  if !s.modes.booting then s
  else
    let s := bootStore { s with fw := { s.fw with recoveryLow := recoveryLow } }
    if recoveryLow then recoveryEnter (fwSlotRegs s) 1
    else
      let s := slotsRefused s
      match fwPick s with
      | (none, s) => recoveryEnter (fwSlotRegs s) 2
      | (some b, s) => bootSlot s b t ms
/-- The house role resets the watchdog (R582). -/
def wdogReset (s : State) : State := if s.modes.mode = .dark ∨ s.fw.wdogTick + 65536 ≤ tickOf s then s else { s with fw := { s.fw with wdogTick := tickOf s } }
/-- FW_CTRL.REBOOT (R594, R649). -/
def fwReboot (s : State) (recoveryLow : Bool) : State :=
  if !s.modes.recovery || recoveryLow then wr s F.FW_CTRL_RESULT 5
  else
    let drbg := s.cipher.drbgFailed
    let s := clearEngines (dropMain (portsDown s))
    let s := { s with cipher := { s.cipher with drbgFailed := drbg }, modes := { s.modes with booting := true } }
    incSat (wr s F.GLB_RESET_LAST 4) F.GLB_RESET_CORE_RESETS 1

/-! Loads (R583, R593). -/

/-- The slot that a load writes: not the house role's; in recovery not the one boot would pick (R583, R593). -/
def loadSlot (s : State) : Bool :=
  if s.modes.recovery then (fwPick s).1.elim false (!·) else !s.fw.roleSlotB.headD false
/-- Sectors of a slot that hold a container of a length and its activation log (R576). -/
def loadSectors (b : Bool) (length : Nat) : List Nat := (fwSectors b).take (ceilDiv (length / 6 + 2 + 128) 2045)
/-- The slot's sectors erased as the load's first part states its length; what the slot was shipped with is gone (R576, R583). -/
def loadErase (s : State) (b : Bool) (length : Nat) : State :=
  let s := foldS (loadSectors b length) eraseWhole s
  fwSlotRegs { s with fw := { s.fw with shipLog := if b then s.fw.shipLog else none } }
/-- A load begins, discarding another; event 0x713 with result 2 for the discarded one. -/
def loadBegin (s : State) (path : Nat) : State :=
  let s := whenS s.fw.load.isSome (fun s => event s 0x713 0 0 (2 + 16 * b2n (loadSlot s))) s
  { s with fw := { s.fw with load := some ⟨path, [], loadSlot s, false⟩ } }
/-- The slot sequence of the next firmware slot (R549). -/
def fwNextSeq (s : State) : Nat :=
  max ((slotRead s.store 0x08 (fwSectors false)).elim 0 (·.1)) ((slotRead s.store 0x08 (fwSectors true)).elim 0 (·.1)) + 1
/-- The slot's headers and slot head are programmed once the length is known (R549, R583). -/
def loadHead (s : State) (b : Bool) (length : Nat) : State :=
  let used := loadSectors b length
  let st := slotHeads s.store 0x08 used (bits (headerOf s.store (used.getD 0 0)).toNat 16 32 + 1)
  { s with store := progWord st (slotAddr (fwSectors b) 0) (BitVec.ofNat 48 (fwNextSeq s % 2 ^ 32 + length / 6 % 65536 * 2 ^ 32)) }
/-- The whole words of the received bytes from a place on are programmed as they arrive, within the stated length (R583). -/
def loadWords (s : State) (b : Bool) (all : List Byte) (first : Nat) : State :=
  let n := min (all.length / 6) (le all 8 4 / 6)
  let ws := ((bytesWords all).take n).drop first
  { s with store := (ws.foldl (fun (p : Store × Nat) w => (progWord p.1 (slotAddr (fwSectors b) (p.2 + 1)) w, p.2 + 1)) (s.store, first)).1 }
/-- Bytes taken; once the length is known the slot is erased, and words are programmed as they come. -/
def loadTake (s : State) (bs : List Byte) : State :=
  match s.fw.load with
  | none => s
  | some l =>
    let all := l.bytes ++ bs
    let s := { s with fw := { s.fw with load := some { l with bytes := all } } }
    if all.length < 12 then s
    else
      let length := le all 8 4
      let fits := decide (length ≤ 8392704)
      if l.bytes.length < 12 then whenS fits (fun s => loadWords (loadHead s l.slotB length) l.slotB all 0) (loadErase s l.slotB length)
      else whenS fits (fun s => loadWords s l.slotB all (l.bytes.length / 6)) s
/-- The load discarded with its result: no valid mark is written. -/
def loadDrop (s : State) (result : Nat) : State :=
  match s.fw.load with
  | none => s
  | some l =>
    let s := { s with fw := { s.fw with load := none } }
    let s := if l.path = 0 then wr (wr s F.FW_LOAD_CTRL_BUSY 0) F.FW_LOAD_CTRL_RESULT result else s
    fwSlotRegs (event s 0x713 0 0 (result + 16 * b2n l.slotB))
/-- The last part: the checks run (R583). -/
def loadCheck (s : State) : State :=
  match s.fw.load with
  | none => s
  | some l =>
    let s := { s with fw := { s.fw with load := some { l with checking := true } } }
    if l.path = 0 then wr s F.FW_LOAD_CTRL_BUSY 1
    else s
/-- The checks end: an accepted container gets its valid mark, in recovery it is activated too (R575, R583, R593). -/
def loadEnded (s : State) : State :=
  match s.fw.load with
  | none => s
  | some l =>
    if !l.checking then s
    else
      let s := if l.path = 1 then { s with cxl := { s.cxl with background := none } } else s
      let (code, sig) := fwCheck s l.bytes
      if code ≠ 0 then loadDrop (fwSigEvent s sig) code
      else
        let (ok, s) := slotProgram s 0x08 (fwSectors l.slotB) (loadSectors l.slotB l.bytes.length) (fwNextSeq s) (containerWords l.bytes) none
        let s := loadDrop s (if ok then 0 else 2)
        if ok && s.modes.recovery then fwSlotRegs (event (fwAppend s l.slotB false).2 0x71C 0 0 0) else s
/-- FW_LOAD_CTRL.START: busy while an activation, a load's checks or a background command runs (R583, R584). -/
def fwLoadStart (s : State) : State :=
  if s.fw.series.isSome || s.cxl.background.isSome || s.fw.load.elim false (·.checking) then wr s F.FW_LOAD_CTRL_RESULT 1
  else loadBegin (wr (wr s F.FW_LOAD_CTRL_WORDS 0) F.FW_LOAD_CTRL_RESULT 0) 0
/-- A register load that receives data or may end. -/
def fwLoadOpen (s : State) (path : Nat) : Bool := s.fw.load.elim false (fun l => l.path == path && !l.checking)
/-- FW_LOAD_DATA. -/
def fwLoadData (s : State) (w : Word) : State :=
  if fwLoadOpen s 0 then incSat (loadTake s (wordBytes w)) F.FW_LOAD_CTRL_WORDS 1 else s
/-- FW_LOAD_CTRL.END. -/
def fwLoadEnd (s : State) : State := if fwLoadOpen s 0 then loadCheck s else s
/-- FW_LOAD_CTRL.ABORT. -/
def fwLoadAbort (s : State) : State := if fwLoadOpen s 0 then loadDrop s 2 else s

/-! Activation and handover (R578, R584 to R589). -/

/-- The result that refuses a slot, 0 for none: not accepted, or below the fused version (R575, R584). -/
def slotRefusal (s : State) (b : Bool) : Nat :=
  if fwSlotState s b ≠ 0 then 0 else match fwContainer s b with
  | none => 2
  | some bs => if (fwCheck s bs).1 = 3 then 3 else 2
/-- Another load, activation or background command runs (R584). -/
def fwBusy (s : State) : Bool := s.fw.series.isSome || s.fw.load.isSome || s.cxl.background.isSome
/-- The running firmware serves activations (R584, R592). -/
def fwServes (s : State) : Bool := mainOn s && s.modes.mode ≠ .save && !s.modes.recovery && !s.modes.booting
/-- Offline activation of a slot: its result (R585). -/
def activateOffline (s : State) (b : Bool) : Nat × State :=
  if !fwServes s then (5, s)
  else if fwBusy s then (1, s)
  else if slotRefusal s b ≠ 0 then (slotRefusal s b, s)
  else
    let (r, s) := fwAppend s b false
    (r, fwSlotRegs s)
/-- A series ended by the rules of R589 may be taken up again: roles run different firmware and the slot is the one activated last. -/
def seriesResumes (s : State) (b : Bool) : Bool := rolesMixed s && decide (fwSeq s b > fwSeq s (!b))
/-- The result that refuses an online activation, 0 for none (R586). -/
def onlineRefusal (s : State) (b : Bool) : Nat :=
  if !fwServes s || anyStage s .dressing || anyStage s .restoring then 5
  else if fwBusy s || s.image.request.isSome then 1
  else if slotRefusal s b ≠ 0 then slotRefusal s b
  else
    let run := fwSlotHead s (s.fw.roleSlotB.headD false)
    let new := fwSlotHead s b
    if run.format < new.oldest ∨ run.format > new.format then 4 else 0
/-- Roles that the series still has to move: the house role's, then those of the bound stages (R586). -/
def seriesRoles (s : State) (b : Bool) : List Nat :=
  (0 :: (fours.filter (bound s)).map (fun n => n.val + 1)).filter (fun r => s.fw.roleSlotB.getD r false != b)
/-- The registers of a running series. -/
def seriesRegs (s : State) : State :=
  match s.fw.series with
  | none => s
  | some x => wr (wr (wr s F.FW_CTRL_BUSY 1) F.FW_HANDOVER_STEP x.step) F.FW_HANDOVER_ROLES_LEFT x.roles.length
/-- The series has moved its last role: the new house role confirms the slot and the protection is swapped (R588). -/
def seriesDone (s : State) (b : Bool) : State :=
  let s := { s with fw := { s.fw with series := none, roleSlotB := List.replicate 6 b } }
  let s := wr (wr (wr (wr s F.FW_CTRL_BUSY 0) F.FW_CTRL_RESULT 0) F.FW_HANDOVER_STEP 0) F.FW_HANDOVER_ROLES_LEFT 0
  fwProtect (fwConfirm s) b
/-- Online activation of a slot: its result; the series begins (R586, R589). -/
def activateOnline (s : State) (b : Bool) : Nat × State :=
  let no := onlineRefusal s b
  if no ≠ 0 then (no, event s 0x717 1 0 no)
  else
    let (r, s) := if seriesResumes s b then (0, s) else fwAppend s b false
    if r ≠ 0 then (r, event s 0x717 1 0 r)
    else
      let s := fwSlotRegs s
      let roles := seriesRoles s b
      if roles.isEmpty then (0, seriesDone s b)
      else (0, seriesRegs { s with fw := { s.fw with series := some ⟨b, roles, 1, s.now, false⟩ } })
/-- FW_CTRL.ACTIVATE (R585, R586). -/
def fwActivate (s : State) (online b : Bool) : State :=
  let (r, s) := if online then activateOnline s b else activateOffline s b
  wr s F.FW_CTRL_RESULT r
/-- The series at its step, if it is the one given. -/
def seriesAt (s : State) (step : Nat) : Option FwSeries := s.fw.series.filter (fun x => x.step == step)
/-- A series moved to a step. -/
def seriesStep (s : State) (x : FwSeries) (step : Nat) : State :=
  seriesRegs { s with fw := { s.fw with series := some { x with step := step, since := s.now } } }
/-- Load ends: the new body verified, or the series ends with result 6 (R587, R589). -/
def handoverLoad (s : State) (ok : Bool) : State :=
  match seriesAt s 1 with
  | none => s
  | some x =>
    if ok then seriesStep s x 2
    else
      let s := seriesEnd s 6
      if s.fw.roleSlotB.headD false = x.slotB then s else fwSlotRegs (fwAppend s (!x.slotB) false).2
/-- Shadow ends: prepare begins (R587). -/
def handoverShadow (s : State) : State := (seriesAt s 2).elim s (fun x => seriesStep s x 3)
/-- Prepare takes longer than PREP_MS (R589). -/
def prepareTimeout (s : State) : State :=
  match seriesAt s 3 with
  | none => s
  | some x => seriesEnd (untilTick s (x.since / unitsPerTick + msTicks (max 1 (rd s F.FW_HANDOVER_PREP_MS)))) 7
/-- Quiesce and swap: the role moves to the understudy's core, which takes over the old one's (R587, R588); not once PREP_MS has ended (R7, R589). -/
def handoverQuiesce (s : State) (q : Nat) : State :=
  match seriesAt s 3 with
  | none => s
  | some x =>
    if x.since / unitsPerTick + msTicks (max 1 (rd s F.FW_HANDOVER_PREP_MS)) ≤ tickOf s then prepareTimeout s
    else
    let r := x.roles.headD 0
    let old := s.fw.roleCore.getD r 0
    let new := s.fw.roleCore.getD 5 5
    let s := { s with fw := { s.fw with
      roleCore := (s.fw.roleCore.set r new).set 5 old, roleSlotB := s.fw.roleSlotB.set r x.slotB } }
    let s := event (wr s F.FW_HANDOVER_LAST_QUIESCE_10NS (satN 10 q)) 0x715 0 0 (r + 8 * satN 10 q)
    match x.roles.tail with
    | [] => seriesDone s x.slotB
    | rest => seriesStep s { x with roles := rest } 1

/-! Fuses and the debug port (R591, R595, R596). -/

/-- Fuse bits programmed up to a version. -/
def fuseUp (v : BitVec 64) (n : Nat) : BitVec 64 := v ||| BitVec.ofNat 64 (2 ^ n - 1)
/-- The next security-version raise runs: `stuck` is a bit that still reads unprogrammed after its retries (R520, R591). -/
def fuseRaise (s : State) (stuck : Option Nat) : State :=
  match s.fw.raises with
  | [] => s
  | (img, target) :: rest =>
    if !(s.modes.mode = .standby || s.modes.mode = .service) || !rdb s F.PWR_VIN_STATUS_SUPPLY_GOOD then s
    else
      let v := if img then s.fw.fuseImg else s.fw.fuseFw
      let bad := stuck.filter (fun k => decide (fuseVersion v ≤ k) && decide (k < target))
      let v' := fuseUp v (bad.getD target)
      let s := { s with fw := { s.fw with raises := rest, fuseImg := if img then v' else s.fw.fuseImg, fuseFw := if img then s.fw.fuseFw else v' } }
      let s := fwSlotRegs (fuseRegs s)
      match bad with
      | some k => event s 0x71A 2 0 (k + 64 * b2n img)
      | none =>
        let s := event s 0x719 0 0 (target + 128 * b2n img)
        whenS img (fun s => event s 0xA0B 0 0 target) s
/-- The module maker's key hash fused, once, in recovery (R595). -/
def makerProgram (s : State) (hash : List Byte) : State :=
  if s.modes.recovery && s.fw.makerHash.isNone && hash.length == 32 then fuseRegs { s with fw := { s.fw with makerHash := some hash } } else s
/-- The bytes that a debug token signs: nonce, serial number, permission mask (R596). -/
def tokenBytes (s : State) (perms : Nat) : List Byte := s.fw.nonce ++ leBytes 16 Config.serial.toNat ++ leBytes 1 perms
/-- A debug token (R596). -/
def debugToken (s : State) (perms : Nat) (pub sig : List Byte) : State :=
  if !mainOn s || s.modes.booting then s
  else
    let r := hssVerify Config.pyruaKeyHash pub sig (tokenBytes s perms)
    let ok := decide (r = .ok) && !s.fw.nonce.isEmpty
    let s := if ok then event (wr (wr s F.FW_DEBUG_OPEN 1) F.FW_DEBUG_PERMS perms) 0x71D 1 0 (perms % 4)
      else
        let s := incSat (fwSigEvent s r) F.FW_DEBUG_REFUSALS 1
        event s 0x71E 1 0 (rd s F.FW_DEBUG_REFUSALS)
    let (d, s) := randomBytes s 32
    { s with fw := { s.fw with nonce := d.getD [] } }

end Sys2Proof.Machine
end

