-- ==== Sys2Proof/Machine/Bus.lean ====
section
/-! DEFINITION. Register accesses as commands: the paths of R655, what a write to a register with behaviour of its own starts, reads, and the two-wire sideband (chapter 17). -/

namespace Sys2Proof.Machine

/-! Triggers: what a committed write starts. -/

/-- MODE_REQUEST (R71): a request that is not valid in the mode is ignored with event 0x00B. -/
def modeRequest (s : State) (up down : Bool) : State :=
  let s := if !up then s
    else if s.modes.mode = .dark && rdb s F.PWR_VIN_STATUS_SUPPLY_GOOD && s.modes.powerUp.isNone && s.power.run.isNone then powerUpRequest s 2
    else ignored s srcRegister
  if !down then s else if s.modes.mode = .standby then startDown s 0x12 else ignored s srcRegister

/-- The settings of a playbill that wait for a power-up are those in use: the DRAM speed that training would choose, and the flash rate (R63, R350). -/
def billInUse (s : State) (b : Playbill) : Bool :=
  ((timingSpeeds s).find? (fun v => decide (v ≤ (billSet b).speed))).elim true (fun v => v == rd s F.DC_PHY_GLOBAL_SPEED_ACTIVE)
    && (List.range 16).all (fun c => rd s (F.FL_CH_CFG_RATE c) == (billSet b).rate)

/-- A playbill refused with its result (R63, R67). -/
def billRefuse (s : State) (result : Nat) : State := event (wr s F.MODE_PLAYBILL_RESULT result) 0x004 1 0 result

/-- MODE_PLAYBILL.APPLY (R63): refused, recorded, or applied at the next recompute. -/
def playbillApply (s : State) : State :=
  match billOf (rd s F.MODE_PLAYBILL_PLAYBILL) with
  | none => billRefuse s 3
  | some b =>
    let q : PlaybillReq := ⟨b, rdb s F.MODE_PLAYBILL_COMPAT_QOS⟩
    match s.modes.mode with
    | .save => billRefuse s 2
    | .hold => billRefuse s 2
    | .dark => wr { s with modes := { s.modes with recorded := some q } } F.MODE_PLAYBILL_RESULT 1
    | _ =>
      if !s.modes.allowed.getLsbD (billCode b) then billRefuse s 3
      else
        let pend := !billInUse s b
        let mark : ApplyMark := ⟨edgeOf s.now, s.modes.applying, s.modes.recorded⟩
        let s := { s with modes := { s.modes with applying := some q, applyMark := some mark, recorded := if pend then some q else none } }
        wr s F.MODE_PLAYBILL_RESULT (b2n pend)

/-- The accepted playbill takes effect at the opening of a recompute period, with event 0x003 (R62, R63). -/
def playbillTake (s : State) : State :=
  match s.modes.applying with
  | none => s
  | some q =>
    let s := whenS s.modes.recorded.isNone (fun s => billRates s q.bill) (billLoad s q)
    billAfford (event s 0x003 0 0 (billCode q.bill + 8 * b2n q.compat + 16 * b2n s.modes.recorded.isSome))

/-- A Sealed stage that a START may restore: dressed, not waiting under R202 or for an intermission, and not kept back by a rail (R48, R205, R446). -/
def startable (s : State) (n : Stage) : Bool :=
  stageSt s n = .sealed && bound s n && (s.modes.mode = .standby || serving s) && !s.modes.recovery && !s.modes.booting
    && rd s (F.STAGE_DRESS_REASON n.val) == 0 && !(rst s n).waitResume && !qget s.modes.interWait n && !stageBlocked s n

/-- RESTORE_CTRL (R202, R205). -/
def restoreCtrl (s : State) (n : Stage) (start resume : Bool) : State :=
  let s := if !start then s else if startable s n then restoreStart s n else ignored s srcRegister
  if !resume then s else if (rst s n).waitResume then interResume s n else ignored s srcRegister

/-- GAUGE_CTRL.NEW_PACK (R491). -/
def newPack (s : State) : State := learnedReset (unanchor s)

/-- IMG_LOAD_CTRL.START: a load begins, a staged container is discarded (R540). -/
def imgLoadStart (s : State) : State :=
  let s := stagedDrop s 1
  wr (wr { s with image := { s.image with loading := some (0, []) } } F.IMG_LOAD_CTRL_WORDS 0) F.IMG_LOAD_CTRL_BUSY 0
/-- IMG_LOAD_DATA: the next word of a load through the registers (R540). -/
def imgLoadData (s : State) (w : Word) : State :=
  match s.image.loading with
  | some (0, bs) => incSat { s with image := { s.image with loading := some (0, bs ++ wordBytes w) } } F.IMG_LOAD_CTRL_WORDS 1
  | _ => s
/-- The received container staged; its checks start (R521, R540). -/
def imgStage (s : State) (path : Nat) (bs : List Byte) : State :=
  let s := { s with image := { s.image with loading := none, staged := some ⟨bs, path, none⟩ } }
  stagedRegs (whenS (path == 0) (fun s => wr s F.IMG_LOAD_CTRL_BUSY 1) s)
/-- IMG_LOAD_CTRL.END (R540). -/
def imgLoadEnd (s : State) : State :=
  match s.image.loading with
  | some (0, bs) => imgStage s 0 bs
  | _ => s
/-- A load of a path aborted: reason 10; a container that the path has staged is discarded (R521, R540). -/
def imgAbort (s : State) (path : Nat) : State :=
  match s.image.loading with
  | some (p, _) => if p = path then containerReject { s with image := { s.image with loading := none } } 10 0 path else s
  | none =>
    if s.image.staged.elim false (fun g => g.path == path) then stagedDrop (whenS (path == 0) (fun s => wr s F.IMG_LOAD_CTRL_BUSY 0) s) 0 else s

/-- The clear named by PBOOK_CLEAR's fields (R636). -/
def pbookClearGo (s : State) : State := clearBook s (rd s F.PBOOK_CLEAR_UP_TO_SEQ) (rd s F.PBOOK_CLEAR_AREAS)

/-- Every performance counter to 0 (R643). -/
def pmonClear (s : State) : State := foldS (List.range 32) (fun s k => wr s (F.PMON_CNT_COUNT k) 0) s

/-- The lane test armed or disarmed as CIPH_LANE_TEST says (R407). -/
def laneTestFollow (s : State) : State :=
  { s with cipher := { s.cipher with laneTest := if rdb s F.CIPH_LANE_TEST_ARM then some (rd s F.CIPH_LANE_TEST_LANE) else none } }

/-- The stage of a flash channel is Dressing. -/
def chanDressing (s : State) (ch : Nat) : Bool := (flashStage s ch).elim false (fun n => stageSt s n == .dressing)

/-- A write that the rules of its register ignore: arming an injection, a lane test or a pattern operation where none may run (R231, R318, R357, R407). -/
def writeIgnored (s : State) (i : Nat) (w : Word) : Bool :=
  if 0x1000 ≤ i ∧ i < 0x2000 then
    (let c := fin4 ((i - 0x1000) / 1024)
    if i % 1024 = 0x47 then fldOf w (F.DC_INJECT_ARM c.val) == 1 && !trainAllowed s c && !rdb s (F.DC_ECC_CFG_INJECT_LIVE c.val)
    else if i % 1024 = 0x82 then fldOf w (F.DC_TRN_CTRL_START c.val) == 1 && !trainAllowed s c
    else false)
  else if i = 0x2001 then
    fldOf w F.FL_INJECT_ARM == 1 && fldOf w F.FL_INJECT_ON_READ == 0 && !chanDressing s (fldOf w F.FL_INJECT_CHANNEL)
  else if i = 0x2803 then
    fldOf w F.CIPH_LANE_TEST_ARM == 1 && !(chanDressing s (fldOf w F.CIPH_LANE_TEST_LANE) || decide (s.modes.mode = .standby))
  else false

/-- Triggers of the global, mode, ledger and restore registers. -/
def triggerLow (s : State) (i : Nat) (w : Word) : State :=
  if i = 8 then whenS (bitOf w.toNat 39) (fun s => wr (wr s F.GLB_ACCESS_COUNT 0) F.GLB_ACCESS_KIND 0) s
  else if i = 0x401 then whenS (bitOf w.toNat 4) playbillApply s
  else if i = 0x404 then modeRequest s (bitOf w.toNat 0) (bitOf w.toNat 1)
  else if homeIdx i = 0x800 then whenS (fldOf w F.LDG_DEV_CAP_CAP_MIB == rd s F.LDG_DEV_CAP_CAP_MIB) (fun s => capChecked s (rd s F.LDG_DEV_CAP_CAP_MIB)) s
  else if 0x800 ≤ i ∧ i < 0xC00 ∧ i % 256 = 0x1A then whenS (bitOf w.toNat 32) (fun s => wr s (F.LDG_HOLD_MAX_MAX_US ((i - 0x800) / 256)) 0) s
  else if 0xE00 ≤ i ∧ i < 0xE40 then
    (let n := fin4 ((i - 0xE00) / 16)
    if i % 16 = 1 then restoreCtrl s n (bitOf w.toNat 0) (bitOf w.toNat 1)
    else if i % 16 = 6 then whenS (bitOf w.toNat 32) (fun s => wr s (F.RESTORE_TOUCH_MAX_MAX_US n.val) 0) s
    else s)
  else s

/-- Triggers of the DRAM, flash, cipher and script-store registers; the nominal bandwidths follow FL_STAGE_TIMING (R218, R258). -/
def triggerMid (s : State) (i : Nat) (w : Word) : State :=
  if i < 0x2000 then
    (let c := fin4 ((i - 0x1000) / 1024)
    if i % 1024 = 0x81 then delayWrite s c w
    else if i % 1024 = 0x82 then whenS (bitOf w.toNat 22) (fun s => trainStart s c) s
    else if i = 0x1182 then whenS (bitOf w.toNat 28) i3cGo s
    else s)
  else if 0x2010 ≤ i ∧ i < 0x2050 ∧ i % 16 = 1 then stageRates s (fin4 ((i - 0x2010) / 16))
  else if i = 0x2803 then laneTestFollow s
  else if i = 0x2C06 then userProtFollow s
  else s

/-- Triggers of the gauge, sideband, link and prompt-book registers. -/
def triggerHigh (s : State) (i : Nat) (w : Word) : State :=
  if i = 0x3400 then chgFollow s
  else if i = 0x3404 then whenS (bitOf w.toNat 0) newPack s
  else if i = 0x3807 then whenS (bitOf w.toNat 10) (fun s => wr s F.SB_IBR_FAILS 0) s
  else if i = 0x3882 then whenS (bitOf w.toNat 1) conflictCleared s
  else if i = 0x3885 then whenS (bitOf w.toNat 34) linkCmdGo s
  else if i = 0x3C02 ∨ i = 0x3C06 then
    (let k := (i - 0x3C02) / 4
    cursorPlace s k (rdb s (F.PBOOK_CURSOR_AREA k)) (rd s (F.PBOOK_CURSOR_SEQ k)))
  else if i = 0x3C0A then whenS (bitOf w.toNat 34) pbookClearGo s
  else if i = 0x3C40 then whenS (bitOf w.toNat 1) pmonClear s
  else s

/-- Triggers of the stage, image, firmware and package registers; `pin` is the level of RECOVERY_N, low. -/
def triggerTop (s : State) (i : Nat) (w : Word) (pin : Bool) : State :=
  if i = 0x4000 then whenS (bitOf w.toNat 3) (fun s => stageCtrlGo s (fin4 (rd s F.STAGE_CTRL_STAGE)) (rdb s F.STAGE_CTRL_OP)) s
  else if i = 0x4001 then whenS (bitOf w.toNat 25) (fun s => wr s F.STAGE_XBAR_FAULT_COUNT 0) s
  else if i = 0x4084 then
    (let s := whenS (bitOf w.toNat 0) imgLoadStart s
    let s := whenS (bitOf w.toNat 1) imgLoadEnd s
    whenS (bitOf w.toNat 2) (fun s => imgAbort s 0) s)
  else if i = 0x4085 then imgLoadData s w
  else if i = 0x4403 then
    (let s := whenS (bitOf w.toNat 0) (fun s => fwActivate s (rdb s F.FW_CTRL_ONLINE) (rdb s F.FW_CTRL_SLOT)) s
    whenS (bitOf w.toNat 3) (fun s => fwReboot s pin) s)
  else if i = 0x4407 then
    (let s := whenS (bitOf w.toNat 0) fwLoadStart s
    let s := whenS (bitOf w.toNat 1) fwLoadEnd s
    whenS (bitOf w.toNat 2) fwLoadAbort s)
  else if i = 0x4408 then fwLoadData s w
  else if i = 0x4807 then whenS (bitOf w.toNat 40) (fun s => { s with pack := { s.pack with peakSince := tickOf s } }) s
  else s

/-- What a committed write starts. -/
def trigger (s : State) (i : Nat) (w : Word) (pin : Bool) : State :=
  let i := homeIdx i
  if i < 0x1000 then triggerLow s i w
  else if i < 0x3000 then triggerMid s i w
  else if i < 0x4000 then triggerHigh s i w
  else triggerTop s i w pin

/-- A write that a path may make: committed under R650 and R653, then what it starts; nothing starts in a domain that is off. The rate-limit window in progress keeps its end where its length is changed (R53). -/
def commitGo (s : State) (p : WPath) (i : Nat) (w : Word) (pin : Bool) : State :=
  if writeIgnored s i w then s
  else
    let off := mainOff s && regDomain i = .main
    let s := whenS (i == F.PBOOK_CFG_RL_WINDOW.idx) rollWindow s
    let s := commitWrite s p i w
    if off then s else trigger s i w pin

/-! The paths (R655). -/

/-- A port runs MLD. -/
def portMld (s : State) (k : Nat) : Bool := if k = 0 then s.cxl.mld0 else s.cxl.mld1
/-- The port that carries a stage. -/
def stagePort (s : State) (n : Stage) : Nat := rd s (F.STAGE_BIND_PORT n.val)
/-- A port that the host reaches: in L0, outside recovery, where the recovery function takes its place (R592). -/
def portUp (s : State) (k : Nat) : Bool := (portOf s k).inL0 && mainOn s && !s.modes.recovery
/-- A path exists now. -/
def pathOpen (s : State) : Path → Bool
  | .bar2 => [0, 1].any (fun k => portUp s k && !portMld s k)
  | .fm => [0, 1].any (fun k => portUp s k && portMld s k)
  | .ld k n => bound s n && portUp s (stagePort s n) && portMld s (stagePort s n) && rd s (F.STAGE_BIND_LD_ID n.val) == k
  | .core => mainOn s && !s.modes.mrReset && !s.modes.booting
  | .recovery => s.modes.recovery && mainOn s && s.cxl.p0.inL0
  | .sideband => true
/-- The writing path of a path. -/
def wpath : Path → WPath
  | .bar2 => .bar2 | .fm => .bar2 | .ld k n => .ld k n | .core => .core | .recovery => .recovery | .sideband => .sideband

/-! The sideband (R600 to R619). -/

/-- A sideband access is a transfer of the house core's counters (R641). -/
def sideHit (s : State) : State := pmonHit s 7 2 (s.fw.roleCore.headD 0) 1
/-- SB_LAST after a transfer (R621). -/
def sideLast (s : State) (i result : Nat) : State := wr (wr s F.SB_LAST_INDEX i) F.SB_LAST_RESULT result
/-- The sideband may write the index's group (R609). -/
def sideGroup (s : State) (i : Nat) : Bool :=
  let g := i / 1024
  bitOf (rd s F.SB_WRITE_EN_GROUPS) g || g == 1 || (0x3800 ≤ i && i < 0x3880) || (s.modes.recovery && (g == 16 || g == 17))
/-- The access is not served in the mode: event 0xC06, result 4 (R608). -/
def sideNotServed (s : State) (i : Nat) : State := sideLast (event s 0xC06 0 0 (i % 65536 + modeCode s.modes.mode * 65536)) i 4
/-- A complete register write on the sideband (R605, R608, R609, R646). -/
def sideWrite (s : State) (i : Nat) (w : Word) (pin : Bool) : State :=
  let s := sideHit s
  if regExists i && notServed s i then incSat (sideNotServed s i) F.SB_COUNT_REFUSED 1
  else if regExists i && !isI3c i && sideGroup s i then sideLast (commitGo s .sideband i w pin) i 0
  else
    let s := whenS (!regExists i && !mainOff s) (fun s => accessNote s i 4 1 0) s
    incSat (sideLast (event s 0xC05 0 0 (i % 65536)) i 3) F.SB_COUNT_REFUSED 1
/-- A register read on the sideband: its value, with its side effect (R606, R608, R609). -/
def sideReadAt (s : State) (i : Nat) : Word × State :=
  let s := sideHit s
  if regExists i && notServed s i then (0#48, sideNotServed s i)
  else
    let (w, s) := sideRead s i
    (w, sideLast s i 5)

/-- The address bytes of the controller: A1 of a write, A2 (R601). -/
def sideAddr (s : State) : List Byte :=
  let node := rd s F.SB_STATUS_NODE
  [BitVec.ofNat 8 (0xF4 + 2 * (node / 256 % 2)), BitVec.ofNat 8 (node % 256)]
/-- The matcher runs from SCL alone (R610). -/
def clockStopped (s : State) : Bool := mainOff s || (s.modes.mode = .standby && rdb s F.SB_STATUS_CLOCK_STOPPED)
/-- An address match: a stopped clock wakes, and the wake's length is kept (R610). -/
def sideWake (s : State) (us : Nat) : State :=
  whenS (clockStopped s) (fun s => wr (wr s F.SB_LAST_WAKE_US (satN 9 us)) F.SB_STATUS_CLOCK_STOPPED 0) s
/-- The end of a transfer. -/
def sideOver (s : State) : State := { s with side := { s.side with lastTime := s.now } }
/-- The number of bytes a write has after its address: index, data and, with PEC_EN, the PEC (R603). -/
def sideNeed (s : State) : Nat := 8 + rd s F.SB_CFG_PEC_EN

/-- A write transfer as it stood on the bus (R603 to R605). -/
def sideWriteTransfer (s : State) (bytes : List Byte) (us : Nat) : State :=
  if bytes.take 2 ≠ sideAddr s then s
  else
    let s := sideWake s us
    let body := bytes.drop 2
    let i := leNat (body.take 2)
    let s := whenS (decide (body.length ≥ 2)) (fun s => { s with side := { s.side with index := i } }) s
    if body.length < sideNeed s then
      let got := decide (body.length ≥ 2)
      let s := event (sideHit s) 0xC02 1 0 ((if got then i else 0xFFFF) + (body.length - 2) * 65536)
      let s := incSat s F.SB_COUNT_SHORT_WRITES 1
      sideOver (if got then sideLast s i 2 else wr s F.SB_LAST_RESULT 2)
    else if rdb s F.SB_CFG_PEC_EN && crc8 (bytes.take 10) ≠ ((bytes.getD 10 0#8).toNat) then
      sideOver (sideLast (incSat (event (sideHit s) 0xC01 1 0 i) F.SB_COUNT_PEC_ERRORS 1) i 1)
    else sideOver (sideWrite s i (bytesWord ((body.drop 2).take 6)) s.fw.recoveryLow)

/-- The bytes of a read that the controller sends: six of data, and the PEC over the whole transfer (R603, R604). -/
def sideReply (s : State) (bytes : List Byte) (w : Word) : List Byte :=
  let d := wordBytes w
  if rdb s F.SB_CFG_PEC_EN then d ++ [BitVec.ofNat 8 (crc8 (bytes ++ d))] else d
/-- A read transfer: with its index phase, or at the last index (R603, R606). Other bytes before its repeated START are a write that the Sr ends; bytes without A1 (read) are a write (R605). -/
def sideReadTransfer (s : State) (bytes : List Byte) (us : Nat) : State :=
  let a := sideAddr s
  if bytes.take 2 ≠ a then s
  else if bytes.length < 3 ∨ bytes.getLastD 0#8 ≠ (a.headD 0#8) ||| 1#8 then sideWriteTransfer s bytes us
  else
    let s := if bytes.length = 5 then sideWake { s with side := { s.side with index := leNat ((bytes.drop 2).take 2) } } us
      else if bytes.length = 3 then sideWake s us
      else sideWriteTransfer s bytes.dropLast us
    let (w, s) := sideReadAt s s.side.index
    sideOver (emit s (.sideband (sideReply s bytes w)))

/-- The interface reset of R614: SDA and SCL are released, a write in progress is gone. -/
def sideReset (s : State) (code arg : Nat) : State :=
  let s := incSat (event s code 1 0 arg) F.SB_COUNT_TIMEOUTS 1
  emit { s with side := { s.side with driving := none } } (.sidebandLine 0)

/-- 10 ms without a transfer in Standby: the matcher falls back to SCL alone (R610). -/
def sideIdle (s : State) : State :=
  if s.modes.mode = .standby then wr (until_ s (s.side.lastTime + 10000 * unitsPerUs)) F.SB_STATUS_CLOCK_STOPPED 1 else s

/-- An in-band request: SDA is pulled low on a free bus (R617). -/
def ibrStart (s : State) : State :=
  if ibrPending s && s.side.driving.isNone then
    let s := until_ s (s.side.lastTime + max 1 (rd s F.SB_CFG_IBR_FREE_US) * unitsPerUs)
    emit { s with side := { s.side with driving := some s.now } } (.sidebandLine 2)
  else s
/-- Arbitration has ended: the winner sends its status byte and the request is accepted; a loser withdraws (R617, R618). -/
def ibrAccepted (s : State) (won : Bool) : State :=
  if s.side.driving.isNone then s
  else
    let b := alertBits s
    let s := { s with side := { s.side with driving := none } }
    if won then
      let s := emit { s with side := { s.side with accepted := b } } (.sideband [BitVec.ofNat 8 b])
      wr (wr s F.SB_IBR_LAST_SENT b) F.SB_IBR_FAILS 0
    else s
/-- An attempt fails after IBR_WAIT_US; the third in a row disables requests (R618). -/
def ibrTimeout (s : State) : State :=
  match s.side.driving with
  | none => s
  | some t =>
    let s := until_ s (t + max 1 (rd s F.SB_CFG_IBR_WAIT_US) * unitsPerUs)
    let s := emit { s with side := { s.side with driving := none } } (.sidebandLine 0)
    let s := incSat s F.SB_IBR_FAILS 1
    if rd s F.SB_IBR_FAILS < 3 then s else event (wr s F.SB_IBR_DISABLED 1) 0xC07 1 0 (alertBits s)

/-! Accesses. -/

/-- A write of a path (R647, R653 to R655): `full` for byte enables that include bytes 0 to 5; `pin` is the level of RECOVERY_N, low. -/
def busWrite (s : State) (p : Path) (i : Nat) (w : Word) (full pin : Bool) : State :=
  if !pathOpen s p then s
  else if p = .sideband then sideOver (sideWrite s i w pin)
  else
    let (ok, s) := writeAllowed s (wpath p) i full
    if ok then commitGo s (wpath p) i w pin else s

/-- A read of a path (R648, R655): its value is sent. -/
def busRead (s : State) (p : Path) (i : Nat) : State :=
  if !pathOpen s p then s
  else
    let (w, s) := match p with
      | .sideband => sideReadAt s i
      | .recovery => if i / 1024 = 17 then regRead s i else (0#48, s)
      | .core => regRead s i
      | _ => if isI3c i then (0#48, s) else regRead s i
    emit s (.regData w)

/-- The word that sets one field and nothing else. -/
def oneField (f : Fld) (v : Nat) : Word := withFld 0#48 f v

end Sys2Proof.Machine
end

