-- ==== Sys2Proof/Machine/Finish.lean ====
section
/-! DEFINITION. What ends every command: levels counted over the time that passed (R381, R639 to R641), a security version that entry to Service fuses (R520), and the recorder (chapter 18). -/

namespace Sys2Proof.Machine

/-! Levels and conditions of the performance counters (R641). -/

/-- The reads of a port that have not completed: held, waiting, and in the DRAM queues. -/
def readsOut (s : State) (port : Nat) : Nat :=
  let mine := fun (r : DramReq) => match r.use with
    | .hostRead p _ => p == port
    | _ => false
  let sub := fun (x : SubCh) => (x.rq.filter mine).length + (x.waiting.filter mine).length + (x.inFlight.filter mine).length
  (fours.map (fun c => sub (subch s c false) + sub (subch s c true))).sum
    + (fours.map (fun n => (((rst s n).heldReads ++ (rst s n).bitWaitR ++ (led s n).waitReads).filter (fun h => h.port == port)).length)).sum
    + (s.dram.remap.map (fun e => (e.2.waiting.filter mine).length)).sum
/-- The subchannel of a performance-counter instance: twice the channel, plus one for B. -/
def subOf (s : State) (k : Nat) : SubCh := subch s (fin4 (k / 2)) (k % 2 == 1)
/-- The level of a source at an instance (mode 1). -/
def pmonLevel (s : State) (group item inst : Nat) : Nat :=
  if group = 0 then (if item = 3 ∧ inst < 2 then readsOut s inst else 0)
  else if group = 1 then
    (if inst ≥ 4 then 0 else if item = 2 then (led s (fin4 inst)).held.length else if item = 9 then residue s (fin4 inst) else 0)
  else if group = 2 then
    (if inst ≥ 4 then 0 else if item = 3 then (rst s (fin4 inst)).touchQ.length else if item = 4 then (rst s (fin4 inst)).heldReads.length else 0)
  else if group = 3 then
    (if inst ≥ 8 then 0
    else if item = 5 then (subOf s inst).rq.length
    else if item = 6 then (subOf s inst).wq.length
    else if item = 7 then ((subOf s inst).rq.filter (fun r => match r.use with
      | .hostRead .. => true
      | _ => false)).length
    else 0)
  else if group = 5 then (if item = 5 ∧ inst < 16 then (fch s inst).ops.length + (fch s inst).awaiting.length else 0)
  else 0
/-- The condition of a source at an instance (mode 2). -/
def pmonCond (s : State) (group item inst : Nat) : Bool :=
  if group = 0 then item == 4 && decide (inst < 2) && fours.any (fun n => bound s n && stagePort s n == inst && qget s.cxl.noWrite n)
  else if group = 1 then item == 8 && decide (inst < 4) && (led s (fin4 inst)).sweep.isSome
  else if group = 3 then
    (if inst ≥ 8 then false
    else if item = 13 then (subOf s inst).drain
    else if item = 14 then (chan s (fin4 (inst / 2))).panic0 || (chan s (fin4 (inst / 2))).panic1
    else if item = 16 then (subOf s inst).rank0.powerDown || (subOf s inst).rank1.powerDown
    else if item = 17 then inSr (subOf s inst)
    else false)
  else if group = 5 then item == 6 && decide (inst < 16) && ((fch s inst).runs.head?).elim false (fun r => r.wait == .none)
  else if group = 6 then
    item == 4 && (if inst = 16 then !s.cipher.calls.isEmpty
      else fours.any (fun n => (qget s.flash.laneQ n).any (fun e => lunCh (entryLun e.1.entry) == inst)))
  else if group = 7 then item == 0 && decide (inst < 6) && coreMode s inst == 1 && s.fw.roleCore.headD 0 == inst && s.cxl.background.isSome
  else false
/-- Instances of a group (R641). -/
def pmonInsts (group : Nat) : List Nat :=
  List.range (if group = 0 then 2 else if group = 3 then 8 else if group = 5 then 16 else if group = 6 then 17 else if group = 7 then 6 else 4)
/-- What a counter adds on each clock as its selection stands; 0 while the counters do not run (R639, R640). -/
def pmonRate (s : State) (k : Nat) : Nat :=
  let w := (rawReg s (0x3C60 + k)).toNat
  if !bitOf w 16 || !pmonRuns s then 0
  else
    let group := bits w 5 3
    let item := bits w 0 5
    let insts := if bitOf w 13 then pmonInsts group else [bits w 8 5]
    if bits w 14 2 = 1 then (insts.map (fun i => pmonLevel s group item i)).sum
    else if bits w 14 2 = 2 then (insts.filter (fun i => pmonCond s group item i)).length
    else 0
/-- The rates of the counters that have a selection, and the read-queue depths of the stages at places 32 to 35. -/
def rates (s : State) : List Nat :=
  let sel := pmonSel s
  (if sel.isEmpty then List.replicate 32 0 else (List.range 32).map (fun k => if sel.any (fun e => e.1 == k) then pmonRate s k else 0))
    ++ fours.map (fun n => ((stageChans s n).map (fun c => (subch s c false).rq.length + (subch s c true).rq.length)).sum)
/-- The clocks that have passed counted into the level counters and the depth sums. -/
def accrue (s : State) : State :=
  let t := s.now / unitsPerClock - s.pmonAt / unitsPerClock
  if t = 0 then { s with pmonAt := s.now }
  else
    let r := s.pmonLevels
    let s := foldS ((List.range 32).filter (fun k => decide (r.getD k 0 ≠ 0))) (fun s k => pmonAdd s k (t * r.getD k 0)) s
    { s with pmonAt := s.now, cxl := { s.cxl with depthSum := qtab (fun n => qget s.cxl.depthSum n + t * r.getD (32 + n.val) 0) } }

/-! Panic of the real-time ports (R272). -/

/-- Requests of the queues of a subchannel. -/
def queued (x : SubCh) : List DramReq := x.rq ++ x.wq
/-- Data of the save engine staged for a stage, in KiB of the 64 KiB buffer: its gathered and queued flush frames, shared among the channels; 64 outside the flush (R272). -/
def saveLevel (s : State) (n : Stage) : Nat :=
  if (sav s n).phase = .flush then
    let lines := ((led s n).gathers.map (fun g => if g.flush then g.lines.length else 0)).sum
    let jobs := ((fset s n).jobs.filter (fun j => match j.use with
      | .flush _ => true
      | _ => false)).length
    min 64 ((lines / 16 + 4 * jobs) / max 1 (stageChans s n).length)
  else 64
/-- Free space of the touch service's buffer for a channel, in KiB: the touch writes of the channel take 64 bytes each (R272). -/
def touchLevel (s : State) (c : DramCh) : Nat :=
  let k := ([false, true].map (fun b => ((queued (subch s c b) ++ (subch s c b).waiting).filter (fun r => r.port == 1 && r.write)).length)).sum
  64 - min 64 (ceilDiv k 16)
/-- Levels and panic of a channel as they now stand. -/
def panicFollow (s : State) (c : DramCh) : State :=
  (chanStage s c).elim s (fun n => panicUpdate s c (saveLevel s n) (touchLevel s c))
/-- The levels of every channel that works as they stand at the end of a command: a level that has crossed a mark raises or ends panic (R272). -/
def panicAll (s : State) : State := foldS fours (fun s c => if dramOn s c then panicFollow s c else s) s

/-! The end of a command. -/

/-- A security version of the image fused at entry to Service (R520). -/
def fuseAtService (s : State) : State :=
  match s.image.fuseTarget with
  | none => s
  | some t => if s.modes.mode = .service then fwRaise { s with image := { s.image with fuseTarget := none } } true t else s
/-- Life Used of a stage (R388). -/
def lifeUsed (s : State) (n : Stage) : Nat :=
  if rdb s (F.FL_STAGE_STATUS_CAPACITY_DEGRADED n.val) then 100
  else min 100 (rd s (F.FL_STAGE_WEAR_MEAN_ERASES n.val) * 100 / max 1 (rd s F.FL_CFG_RATED_ERASES))
/-- Health Status, Media Status and Life Used of a stage (R387, R388): status bit 0 Maintenance Needed, 1 Performance Degraded, 2 Hardware Replacement Needed; media 0 Normal, 1 Not Ready, 4 Write Persistency Loss in the Event of Power Loss (log entry 70). -/
def healthOf (s : State) (n : Stage) : Nat × Nat × Nat :=
  let degraded := rdb s (F.LDG_STATUS_DEGRADED n.val)
  let lost := (stageFlashChs s n).any (chLost s)
  let care := rdb s (F.FL_STAGE_STATUS_CAPACITY_DEGRADED n.val) || rdb s (F.FL_STAGE_STATUS_SEAL_NEEDED n.val) || rdb s F.GAUGE_STATUS_ANCHOR_DUE
  (b2n care + 2 * b2n (degraded || lost) + 4 * b2n lost, if stageSt s n ≠ .live then 1 else if degraded then 4 else 0, lifeUsed s n)
/-- Device Temperature (R388). -/
def deviceTemp (s : State) : Nat := max (rd s F.PWR_THERM_JUNCTION_C) s.dram.dramTemp
/-- Corrected Persistent Error Count (R388). -/
def correctedOf (s : State) (n : Stage) : Nat := ((stageChans s n).map (fun c => rd s (F.DC_ECC_COUNT_CORRECTED c.val))).sum
/-- Memory Module records of a stage for a change of its health, for a temperature past its threshold and for a corrected-error count past its own (R337, R395): 0 Health Status, 1 Media Status, 2 Life Used, 4 Device Temperature, 5 Corrected Persistent Error Count (DEDUCED, log entry 153). `alerted` has bit 0 for the temperature, bit 1 for the errors. -/
def healthStage (s : State) (n : Stage) : State :=
  if !bound s n then { s with cxl := { s.cxl with lastHealth := qset s.cxl.lastHealth n (0, 1, 0), alerted := qset s.cxl.alerted n 0 } }
  else
    let was := qget s.cxl.lastHealth n
    let is := healthOf s n
    let s := { s with cxl := { s.cxl with lastHealth := qset s.cxl.lastHealth n is } }
    let s := whenS (was.1 != is.1) (fun s => cxlRecord s n 1 (.memoryModule 0 is.1)) s
    let s := whenS (was.2.1 != is.2.1) (fun s => cxlRecord s n 1 (.memoryModule 1 is.2.1)) s
    let s := whenS (was.2.2 != is.2.2) (fun s => cxlRecord s n 0 (.memoryModule 2 is.2.2)) s
    let past := fun (lim : Option Nat) (v : Nat) => lim.elim false (fun t => decide (v > t))
    let hot := past (qget s.cxl.alerts n).temp (deviceTemp s)
    let many := past (qget s.cxl.alerts n).errors (correctedOf s n)
    let told := qget s.cxl.alerted n
    let s := whenS (hot && told % 2 == 0) (fun s => cxlRecord s n 1 (.memoryModule 4 (deviceTemp s))) s
    let s := whenS (many && told / 2 == 0) (fun s => cxlRecord s n 1 (.memoryModule 5 (correctedOf s n))) s
    { s with cxl := { s.cxl with alerted := qset s.cxl.alerted n (b2n hot + 2 * b2n many) } }
/-- The records of R395 that follow the stages' conditions, while the main domain is on. -/
def healthFollow (s : State) : State := if mainOn s then foldS fours healthStage s else s
/-- A background command of C009h or C00Ah ends with the checks or the re-dress that it started (R398). -/
def bgFollow (s : State) : State :=
  match s.cxl.background with
  | none => s
  | some b =>
    let gone := (b.opcode == 0xC00A && s.image.request.isNone) || (b.opcode == 0xC009 && !s.image.staged.elim false (fun g => g.path == 1 && g.result.isNone))
    if gone then { s with cxl := { s.cxl with background := none } } else s
/-- An event taken by the recorder, counted as accepted or suppressed (R641). -/
def recordHit (s : State) (e : Ev) : State :=
  let house := s.fw.roleCore.headD 0
  let s' := recordEv s e
  let got := (nextSeq s' + 2 ^ 32 - nextSeq s) % 2 ^ 32
  let s' := pmonHit s' 7 4 house got
  if s'.pbook.suppressed > s.pbook.suppressed then pmonHit s' 7 5 house 1 else s'
/-- The events of the command taken in the order of R625; a counter that wraps on the way adds its own. -/
def recordBook (s : State) : State := recordAll (foldS (sortEvs s.evs) recordHit { s with evs := [] })
/-- The end of every meaning: what follows the state of the controller follows it, and the recorder takes the command's events. CHG_EN stands as R500 gives it at the end of every command. -/
def finish (s : State) : State :=
  let s := chgFollow (recordBook (accrue (bgFollow (healthFollow (panicAll (fuseAtService s))))))
  { s with pmonLevels := rates s }
/-- A meaning's answer. -/
def done (s : State) : Host.Outcome State Fault Refusal := .next (finish s)

end Sys2Proof.Machine
end

