-- ==== Sys2Proof/Machine/Mem.lean ====
section
/-! DEFINITION. CXL.mem requests and what the tap, the restore check and the heat ring do with them; ports, power messages and DevLoad (chapters 03, 05, 10). -/

namespace Sys2Proof.Machine

/-! Ports. -/

/-- The stage a logical device of a port carries (R374). -/
def ldStage (s : State) (port ld : Nat) : Option Stage :=
  fours.find? (fun n => bound s n && stagePort s n == port && (if portMld s port then rd s (F.STAGE_BIND_LD_ID n.val) == ld else ld == 0))
/-- Port and LD-ID as the events of R400 carry them. -/
def ldArg (s : State) (port ld : Nat) : Nat := portNo s port + 4 * (ld % 4)
/-- Port numbers are 0 and 1; the combined port has no second one. -/
def portExists (s : State) (k : Nat) : Bool := k == 0 || (k == 1 && !s.cxl.combined)

/-- The logical devices of a port in LD-ID order, with the stage each carries: an SLD port has one; an MLD port has one for each stage that the image binds to it (R374, R536). -/
def portLds (s : State) (port : Nat) : List (Option Stage) :=
  if portMld s port then (List.range (min 4 ((layouts s.image.sections).filter (fun l => l.port == port)).length)).map (ldStage s port)
  else [ldStage s port 0]
/-- What a logical device reports of itself (R372, R376, R382): no volatile-only capacity, the host-visible capacity persistent-only, two decoders. -/
def ldReport (s : State) (k ld : Nat) : CxlReport :=
  { port := k, ld := ld, volatileOnly := 0, persistentOnly := (ldStage s k ld).elim 0 (fun n => rd s (F.STAGE_SIZE_HOST_256MIB n.val)), decoders := 2, ways := [1, 2, 4, 8, 16]
    granMin := 256, granMax := 16384, payload := 16384, lsa := 131072, gpfUs := 2, gpfWatts := 48 }
/-- A width that the port's arrangement trains at, and a speed (R373). -/
def linkTrains (s : State) (speed width : Nat) : Bool :=
  [64, 32, 16, 8].contains speed && (if s.cxl.combined then [16, 8, 4] else [8, 4]).contains width
/-- A port reaches L0 (R373): speed in GT/s. Each logical device reports itself to the host as the port comes up (DESIGN CHOICE, log entry 154). -/
def linkUp (s : State) (k speed width : Nat) : State :=
  let p := portOf s k
  if !linkTrains s speed width || !portExists s k || p.inL0 || !mainOn s || s.modes.booting || s.modes.mrReset || linkCut s || !domainOn s (13 + k)
      || rd s F.PWR_RAIL_STATUS_EN &&& linkMask s != linkMask s then s
  else
    let code := if speed = 64 then 0 else if speed = 32 then 1 else if speed = 16 then 2 else 3
    let s := { s with pack := { s.pack with unlocked := s.pack.unlocked &&& (if s.cxl.combined then 7#5 else ~~~(BitVec.ofNat 5 (2 ^ (3 + k)))) } }
    let s := setPort s k { p with inL0 := true, speed := speed, width := width, gpf2 := false, pmeOff := false }
    let s := event s 0x601 0 0 (portNo s k + 4 * code + 16 * width)
    foldS (List.range (portLds s k).length) (fun s ld => emit s (.cxlReport (ldReport s k ld))) s
/-- A port's link goes down (R375). -/
def linkDown (s : State) (k : Nat) : State :=
  if !portExists s k || !(portOf s k).inL0 then s else linkLose s k

/-- GPF Phase 1 asks nothing (R382). -/
def gpf1 (s : State) (k : Nat) : State := if portUp s k && portExists s k then emit s (.gpf k 1) else s
/-- The writes received on a port so far are those that its GPF Phase 2 waits for (R382). -/
def gpfMark (s : State) (k : Nat) : State :=
  let mark := fun (ws : List HostWrite) => ws.map (fun w => if w.port = k then { w with gpf := true } else w)
  foldS fours (fun s n =>
    setRst (setLedger s n { led s n with tap := mark (led s n).tap, held := mark (led s n).held }) n { rst s n with bitWaitW := mark (rst s n).bitWaitW }) s
/-- GPF Phase 2 begins. -/
def gpf2 (s : State) (k : Nat) : State := if portUp s k && portExists s k then setPort (gpfMark s k) k { portOf s k with gpf2 := true } else s
/-- A write received on the port before its GPF Phase 2 request has not passed the ledger tap. -/
def tapWaits (s : State) (k : Nat) : Bool :=
  fours.any (fun n => ((led s n).tap ++ (led s n).held ++ (rst s n).bitWaitW).any (fun w => w.gpf && w.port == k))
/-- GPF Phase 2 completes once every write received before it has passed the tap: the flush flag is set (R382, R383). -/
def gpf2Done (s : State) (k : Nat) : State :=
  if portExists s k && (portOf s k).gpf2 && portUp s k && !tapWaits s k then
    emit (event (setPort s k { portOf s k with gpf2 := false, flushFlag := true }) 0x606 0 0 (portNo s k)) (.gpf k 2)
  else s
/-- PME_Turn_Off (R383): a gate instant where every port in L0 is flushed and no port runs MLD. -/
def pmeOff (s : State) (k : Nat) : State :=
  if !(portUp s k && portExists s k) then s
  else
    let s := emit (setPort s k { portOf s k with pmeOff := (portOf s k).flushFlag }) (.pmeAck k)
    let all := [0, 1].all (fun j => !portExists s j || !(portOf s j).inL0 || (portOf s j).pmeOff)
    if all && !s.cxl.mld0 && !s.cxl.mld1 then saveTrigger s 0x0A (actionOf s 0x0A)
    else event s 0x607 0 0 (portNo s k)

/-- DevLoad recomputed from the mean read-queue depth of the past microsecond (R381): 1 Optimal at a mean of 16 or more. -/
def devLoadUpdate (s : State) : State :=
  let s := accrue (until_ s (s.cxl.depthSince + unitsPerUs))
  let t := s.now / unitsPerClock - s.cxl.depthSince / unitsPerClock
  let load := fun (n : Stage) => b2n (decide (qget s.cxl.depthSum n ≥ 16 * t * (2 * (stageChans s n).length)) && !(stageChans s n).isEmpty)
  { s with cxl := { s.cxl with devLoad := qtab load, depthSum := qall 0, depthSince := s.now } }

/-! Heat (R196, R197, R685). -/

/-- An access to a Live stage: one in 2^SAMPLE_LOG2 is sampled into the ring (R196). -/
def heatSample (s : State) (n : Stage) (f : Nat) : State :=
  if stageSt s n ≠ .live then s
  else
    let h := qget s.heat n
    if h.skip + 1 < 2 ^ rd s F.RESTORE_HEAT_SAMPLE_LOG2 then { s with heat := qset s.heat n { h with skip := h.skip + 1 } }
    else
      let s := pmonHit s 2 6 n.val 1
      if h.ring.length < 4096 then { s with heat := qset s.heat n { h with skip := 0, sampled := h.sampled + 1, ring := h.ring ++ [f] } }
      else incSat (pmonHit { s with heat := qset s.heat n { h with skip := 0, sampled := h.sampled + 1 } } 2 7 n.val 1) F.RESTORE_HEAT_DROPPED 1
/-- A line of the heat region: eight entries of frame number and count (R514). -/
def heatLine (m : NMap Nat) (l : Nat) : BitVec 512 :=
  BitVec.ofNat 512 ((List.range 8).foldl (fun a j =>
    match m.find? (fun e => e.1 % 4194304 == 8 * l + j) with
    | some e => a + (e.1 % 2 ^ 32 + min e.2 (2 ^ 32 - 1) * 2 ^ 32) * 2 ^ (64 * j)
    | none => a) 0)
/-- The recurring windows of the heat ring and of halving. -/
def timerHeat (n : Nat) : Nat := 24 + n
def timerHalf (n : Nat) : Nat := 28 + n
/-- The ring drained into the heat region every 10 ms, one count for each sample (R196); a changed line is written at class 4. -/
def heatDrain (s : State) (n : Stage) : State :=
  if stageSt s n ≠ .live then s
  else window s (timerHeat n.val) (msTicks 10) (fun s _ =>
    let h := qget s.heat n
    let m := h.ring.foldl (fun m f => mset 0 m f (min (mget 0 m f + 1) (2 ^ 32 - 1))) h.counts
    let s := { s with heat := qset s.heat n { h with ring := [], counts := m } }
    let lines := h.ring.foldl (fun ls f => insertNat ls (f % 4194304 / 8)) []
    foldS lines (fun s l => dramWrite s 7 4 n (backBase s n 3 + l) (heatLine m l) false .heat) s)
/-- Every count halved at each HALF_LIFE_S; a count of 0 leaves the region (R685). -/
def heatHalving (s : State) (n : Stage) : State :=
  let sec := rd s F.RESTORE_HEAT_HALF_LIFE_S
  if sec = 0 ∨ stageSt s n ≠ .live then s
  else window s (timerHalf n.val) (sec * 32768) (fun s _ =>
    let h := qget s.heat n
    { s with heat := qset s.heat n { h with
        halved := h.halved + 1
        counts := (h.counts.map (fun e => (e.1, e.2 / 2))).filter (fun e => e.2 != 0) } })

/-! CXL.mem requests (R372, R377, R378, R380). -/

/-- A read that reaches no memory completes with poison (R377, R378, R513). -/
def readPoison (s : State) (n : Stage) (port tag : Nat) : State :=
  let (d, s) := freshLine s
  readReply s n port tag d true
/-- A response of a port that carries no stage has Light Load (R381). -/
def bareRead (s : State) (port tag : Nat) : State :=
  let (d, s) := freshLine s
  emit (pmonHit s 0 2 port 1) (.memData port tag d true 0)
/-- Event 0x603, once for each entry of the stage into a state other than Live (R378). -/
def notLive (s : State) (n : Stage) (arg : Nat) : State :=
  if (led s n).notLiveLogged then s else setLedger (event s 0x603 1 n.val arg) n { led s n with notLiveLogged := true }
/-- The gate contract of a save holds for the stage: its gate is closed and it has not ended its save (R133, R378). -/
def gateHolds (s : State) (n : Stage) : Bool := (led s n).gated && (s.saveDev.gate || (sav s n).alone)
/-- A line that a decoder maps: below the host-visible capacity (R376, R377). -/
def mapped (s : State) (n : Stage) (line : Option Nat) : Option Nat := line.bind (fun l => if l < hostLines s n then some l else none)

/-- A write that arrives behind a closed gate is held (R133). -/
def holdAfterGate (s : State) (n : Stage) (w : HostWrite) : State := setLedger s n { led s n with afterGate := (led s n).afterGate ++ [w] }
/-- A write goes on to the restore check and the tap, behind the held writes that may go before it (R93). -/
def writeGo (s : State) (n : Stage) (w : HostWrite) : State := ledRefresh (writeTouch (heldPump (led s n).held.length s n) n w) n
/-- The stages whose credits are common with a stage's: in MLD operation those of its port (R95, R190). -/
def creditPeers (s : State) (n : Stage) : List Stage :=
  if portMld s (stagePort s n) then fours.filter (fun m => bound s m && stagePort s m == stagePort s n) else [n]
/-- No write credits, or no read credits, come back for a stage's traffic (R95, R134, R190). -/
def noCredit (s : State) (n : Stage) (write : Bool) : Bool :=
  (creditPeers s n).any (fun m => if write then qget s.cxl.noWrite m else qget s.cxl.noRead m)
/-- A write received for a mapped line: held behind the gate, completed at once where the stage is not Live or a fault meets it, standing at its port while credits are withheld (log entry 124), else on its way (R133, R378, R513). -/
def writeArrive (s : State) (n : Stage) (ld : Nat) (w : HostWrite) : State :=
  if gateHolds s n then holdAfterGate s n w
  else if stageSt s n ≠ .live then writeComplete (notLive s n (ldArg s w.port ld + 16)) n w.owner
  else if (mapLine s n w.line).isNone then writeComplete (xbarFault s n 0 0) n w.owner
  else if noCredit s n true then setLedger s n { led s n with stallW := (led s n).stallW ++ [w] }
  else writeGo s n w
/-- A read received for a mapped line (R94, R377, R378, R513); one that comes while read credits are withheld stands at its port. -/
def readArrive (s : State) (n : Stage) (ld : Nat) (h : HeldRead) : State :=
  if stageSt s n ≠ .live then
    readPoison (whenS (!gateHolds s n) (fun s => notLive s n (ldArg s h.port ld)) s) n h.port h.tag
  else if (mapLine s n h.line).isNone then readPoison (xbarFault s n 0 0) n h.port h.tag
  else if noCredit s n false then setLedger s n { led s n with stallR := (led s n).stallR ++ [h] }
  else readCheck s n h
/-- An access to a line as it arrives: one that goes on to the stage's memory is sampled, once (R196). -/
def heatArrive (s : State) (n : Stage) (line : Nat) (write : Bool) : State :=
  if (write && gateHolds s n) || (mapLine s n line).isNone then s else heatSample s n (line / 64)
/-- The LD-ID of a stage on its port. -/
def stageLd (s : State) (n : Stage) : Nat := if portMld s (stagePort s n) then rd s (F.STAGE_BIND_LD_ID n.val) else 0
/-- The requests of a stage that stood at its port come in once their credits are back (R95, R190). -/
def stallGo (s : State) (n : Stage) : State :=
  let s := if (led s n).stallW.isEmpty || noCredit s n true then s
    else foldS (led s n).stallW (fun s w => writeArrive s n (stageLd s n) { w with since := s.now }) (setLedger s n { led s n with stallW := [] })
  if (led s n).stallR.isEmpty || noCredit s n false then s
  else foldS (led s n).stallR (fun s h => readArrive s n (stageLd s n) { h with since := s.now }) (setLedger s n { led s n with stallR := [] })
/-- A read request at its port. -/
def memRead (s : State) (port ld tag : Nat) (line : Option Nat) : State :=
  if !(portUp s port && portExists s port) then s
  else
    let s := pmonHit s 0 0 port 1
    match ldStage s port ld with
    | none => bareRead (event s 0x608 1 0 (ldArg s port ld)) port tag
    | some n =>
      match mapped s n line with
      | none => readPoison (event s 0x608 1 n.val (ldArg s port ld)) n port tag
      | some l => readArrive (heatArrive (stallGo s n) n l false) n ld ⟨port, tag, l, s.now, false⟩

/-- A write request at its port; `mask` names the bytes of a partial write. -/
def memWrite (s : State) (port ld tag : Nat) (line : Option Nat) (data : BitVec 512) (mask : Option (BitVec 64)) (poison : Bool) : State :=
  if !(portUp s port && portExists s port) then s
  else
    let s := pmonHit (setPort s port { portOf s port with flushFlag := false, pmeOff := false }) 0 1 port 1
    match ldStage s port ld with
    | none => emit (event s 0x608 1 0 (ldArg s port ld)) (.memDone port tag 0)
    | some n =>
      match mapped s n line with
      | none => writeComplete (event s 0x608 1 n.val (ldArg s port ld)) n (.mem port tag)
      | some l => writeArrive (heatArrive (stallGo s n) n l true) n ld ⟨.mem port tag, port, l, data, mask, poison, s.now, false, false, false, false, false⟩

/-- A request that no decoder of its logical device maps is logged (R377). -/
def outside (s : State) (port ld : Nat) (line : Option Nat) : State :=
  match ldStage s port ld with
  | none => event s 0x608 1 0 (ldArg s port ld)
  | some n => whenS (mapped s n line).isNone (fun s => event s 0x608 1 n.val (ldArg s port ld)) s
/-- MemInv and MemInvNT complete with no effect (R372); one outside the decoders is logged (R377). -/
def memInvalid (s : State) (port ld : Nat) (req : InvReq) : State :=
  if !(portUp s port && portExists s port) then s
  else
    let s := outside s port ld req.line
    match ldStage s port ld with
    | none => emit s (.memDone port req.tag 0)
    | some n => writeComplete s n (.mem port req.tag)
/-- A MemSpecRd is accepted and dropped (R372); one outside the decoders is logged (R377). -/
def specRead (s : State) (port ld : Nat) (line : Option Nat) : State :=
  if portUp s port && portExists s port then outside s port ld line else s

/-! Held writes and the restore cache. -/

/-- HELD_WRITE_RELEASE: one held write passes the tap again; writes in front of the buffer and reads that waited for it follow (R93 to R95). -/
def heldWriteRelease (s : State) (n : Stage) : State := ledRefresh (readsGo (frontGo (heldRelease s n) n) n) n

/-- A restore-bitmap line has come from backstage: the cache keeps at most 8,192 for each stage (DESIGN CHOICE, log entry 93), and what waited for it is checked again (R188). -/
def bitmapFill (s : State) (n : Stage) (line : Nat) : State :=
  let r := rst s n
  if !r.bitArrived.contains line then s
  else
    let kept := (r.bitLines.filter (· ≠ line)) ++ [line]
    let s := setRst s n { r with
      bitArrived := r.bitArrived.erase line, bitFilling := r.bitFilling.filter (· ≠ line), bitLines := kept.drop (kept.length - 8192)
      bitWaitR := r.bitWaitR.filter (fun h => h.line / 64 / 512 != line), bitWaitW := r.bitWaitW.filter (fun w => w.line / 64 / 512 != line) }
    let s := foldS (r.bitWaitR.filter (fun h => h.line / 64 / 512 == line)) (fun s h => readTouch s n h) s
    let s := foldS (r.bitWaitW.filter (fun w => w.line / 64 / 512 == line)) (fun s w => writeTouch s n w) s
    flushTry (ledRefresh (readsGo s n) n) n

/-- The access held longest for a touch fetch and not yet warned of: when it was held, and whether it is a write. -/
def touchOldest (s : State) (n : Stage) : Option (Nat × Bool) :=
  let rs := ((rst s n).heldReads.filter (fun h => !h.warned)).map (fun h => (h.since, false))
  let ws := ((led s n).held.filter (fun w => w.touch && !w.warned)).map (fun w => (w.since, true))
  (rs ++ ws).foldl (fun a e => match a with
    | none => some e
    | some b => if e.1 < b.1 then some e else some b) none
/-- A touch hold passes the warning threshold: event 0x30A, once for each access (R195). -/
def touchWarn (s : State) (n : Stage) : State :=
  let lim := rd s (F.RESTORE_CFG_TOUCH_WARN n.val)
  match touchOldest s n with
  | none => s
  | some (t, isWrite) =>
    if lim = 0 then s
    else
      let s := until_ s (t + (lim * 100 + 1) * unitsPerUs)
      let s := if isWrite then
          setLedger s n { led s n with held := updFirst (fun w => w.touch && !w.warned && w.since == t) (fun w => { w with warned := true }) (led s n).held }
        else setRst s n { rst s n with heldReads := updFirst (fun h => !h.warned && h.since == t) (fun h => { h with warned := true }) (rst s n).heldReads }
      event s 0x30A 1 n.val (satN 32 ((s.now - t) / unitsPerUs))

/-! Trickle. -/

/-- Write-through operation queues the dirty frames it may; where all of them have changed on this clock it does so on the next (R76, R98). -/
def wtNext (s : State) (n : Stage) : State :=
  let s := wtQueue s n
  if (wtDirty s n).isEmpty || (led s n).queue.any (fun e => e.progress == 0) then s
  else wtQueue (until_ s ((edgeOf s.now + 1) * unitsPerClock)) n
/-- TRICKLE_FRAME: the first waiting frame of the trickle queue is read at class 3 (R97, R106). A waiting frame that an uncorrectable ledger line has put back to dirty leaves the queue unread, with neither completion nor failure (DESIGN CHOICE, log entry 25). -/
def trickleFrame (s : State) (n : Stage) : State :=
  let s := wtNext s n
  if !trickleRuns s n then s
  else match (led s n).queue.find? (fun e => e.progress == 0) with
    | none => s
    | some e =>
      let l := led s n
      if l.gathers.any (fun g => g.frame == e.frame) then s
      else if frameState s n e.frame < 2 then wtQueue (setLedger s n { l with queue := l.queue.erase e }) n
      else
        let s := setLedger s n { l with queue := updFirst (· == e) (fun e => { e with progress := 1 }) l.queue }
        gatherStart s n e.frame false (rdb s (F.LDG_CFG_IDLE_ONLY n.val) && l.holdSince.isNone)

end Sys2Proof.Machine
end

