-- ==== Sys2Proof/Machine/Dram.lean ====
section
/-! DEFINITION. The DRAM schedulers at work: queue entry past the remap lookup, the next command of a subchannel, promotion, refresh, power-down and self-refresh, patrol scrub's pace and the refresh window (chapters 07 and 08). -/

namespace Sys2Proof.Machine

/-- The channel's scheduler works: bound to a stage and powered. -/
def schedOn (s : State) (c : DramCh) : Bool := dramOn s c
/-- A subchannel in idle self-refresh (R289). -/
def srIdle (x : SubCh) : Bool :=
  match x.sr with
  | .committed _ idle => idle
  | _ => false
/-- The package rank of a request's line. -/
def rankOfReq (s : State) (r : DramReq) : Nat := (mapLine s r.stage r.line).elim 0 (fun k => k.prank)

/-! Queue entry (R267, R289, R331, R333). -/

/-- A request that the remap lookup finds invalid: event 0x50E; a host read gets poison, a host write is discarded, a flush read is a translation fault (R333); what else reads gets no data. -/
def invalidReq (s : State) (c : DramCh) (b : Bool) (r : DramReq) (k : Nat) : State :=
  let n := r.stage
  let s := event (setRemap s k { remapAt s k with state := 3 }) 0x50E 2 n.val k
  if r.write then s
  else match r.use with
    | .hostRead port tag => readPoison s n port tag
    | .flush f => gatherFault s n f
    | .partialRead .. | .writeBack | .poisonWrite | .remapCopy _ => pairWrite s r.pair none
    | _ => deliver s c b r poisonCell .poisoned
/-- The first request of a port that waits and may enter its queue now; one that conflicts with an earlier one, at whatever port, waits for it to enter (R107, R139, R180). -/
def entrant (x : SubCh) (port : Nat) : Option DramReq :=
  (x.waiting.find? (fun r => r.port == port && !(srIdle x && r.cls == 4))).bind
    (fun r => if queueRoom (if r.write then x.wq else x.rq) r.write port && !x.waiting.any (fun q => decide (q.id < r.id) && q.port != port && conflicts q r) then some r else none)
/-- The read of a pair has passed the lookup: its write goes to the same line, without a lookup of its own (R279, R331). -/
def mateTo (s : State) (pair line : Nat) : State :=
  let fix := fun (x : SubCh) => { x with waiting := x.waiting.map (fun r => if r.pair == pair && r.write then { r with line := line, passed := true } else r) }
  { s with dram := { s.dram with ch := qmap (fun x => { x with subA := fix x.subA, subB := fix x.subB }) s.dram.ch } }
/-- The write of a pair that waits at a port, taken from it with its read. -/
def mateTake (s : State) (pair : Nat) : List DramReq × State :=
  let mine := fun (r : DramReq) => decide (pair ≠ 0) && r.pair == pair && r.write
  let fix := fun (x : SubCh) => { x with waiting := x.waiting.filter (fun r => !mine r) }
  (fours.flatMap (fun c => ((subch s c false).waiting ++ (subch s c true).waiting).filter mine),
    { s with dram := { s.dram with ch := qmap (fun x => { x with subA := fix x.subA, subB := fix x.subB }) s.dram.ch } })
/-- DRAM_REQUEST_ENQUEUE: the lookup comes first; a line in copying waits at it, a line moved to another subchannel goes there. -/
def requestEnqueue (s : State) (c : DramCh) (b : Bool) (port : Nat) : State :=
  match entrant (subch s c b) port with
  | none => s
  | some r =>
    let x := subch s c b
    let s := setSub s c b { x with waiting := x.waiting.erase r }
    let copy := match r.use with
      | .remapCopy _ => true
      | _ => false
    let here := fun (l : Nat) => (mapLine s r.stage l).elim false (fun k => k.ch == c && k.sub == b)
    let tell := fun (s : State) (l : Nat) => if r.pair ≠ 0 ∧ ¬ r.write then mateTo s r.pair l else s
    if copy then queueEnter s c b r
    else if r.passed then (if here r.line then queueEnter s c b r else dramPut s r)
    else match remapLookup s r.stage r.origLine with
      | .direct => queueEnter (tell s r.line) c b r
      | .wait k =>
        let (mates, s) := if r.write then ([], s) else mateTake s r.pair
        setRemap s k { remapAt s k with waiting := (remapAt s k).waiting ++ r :: mates }
      | .invalid k => invalidReq s c b r k
      | .redirect l =>
        if here l then queueEnter (tell (whenS (r.line != l) (fun s => pmonHit s 4 7 c.val 1) s) l) c b { r with line := l }
        else dramPut (tell (pmonHit s 4 7 c.val 1) l) { r with line := l }

/-! The next command of a subchannel (R268 to R292). -/

/-- A request may not close a row that a queued request of a port in panic will use (R273). -/
def panicKeeps (s : State) (c : DramCh) (x : SubCh) (r : DramReq) : Bool :=
  match mapLine s r.stage r.line with
  | none => false
  | some k =>
    let row := (bankOf x (bankNo k)).openRow
    row.isSome && row != some k.row &&
      (queued x).any (fun q => reqPanic s c q && q.cls == 0 && q.id != r.id &&
        (mapLine s q.stage q.line).elim false (fun j => bankNo j == bankNo k && some j.row == row))

/-- A request of class 0 to 2 is queued to a rank; `bank` limits it to one bank address (R283). -/
def urgentOn (s : State) (x : SubCh) (r : Nat) (bank : Option Nat) : Bool :=
  (queued x).any (fun q => decide (q.cls ≤ 2) && (mapLine s q.stage q.line).elim false (fun k =>
    k.prank == r && bank.elim true (fun b => k.bank == b)))
/-- The rank that an owed refresh may go to now, if any (R282, R283). -/
def refreshRank (s : State) (c : DramCh) (x : SubCh) : Option Nat :=
  (ranksOf s c).find? (fun r => decide ((rankOf x r).owed > 0) &&
    !urgentOn s x r (if rd s (F.DC_REF_CFG_SAME_BANK c.val) = 1 then some (rankOf x r).setDone else none))
/-- One refresh command of a rank in the form that SAME_BANK chooses; a set begun is completed first (R283, R284). -/
def refreshOne (s : State) (c : DramCh) (b : Bool) (r : Nat) : State :=
  if rd s (F.DC_REF_CFG_SAME_BANK c.val) = 1 ∨ (rankOf (subch s c b) r).setDone ≠ 0 then sameBankRefresh s c b r else allBankRefresh s c b r
/-- The rank that may be refreshed ahead (R285). -/
def pullInRank (s : State) (c : DramCh) (x : SubCh) : Option Nat :=
  (ranksOf s c).find? (fun r => decide ((rankOf x r).owed ≤ 0 ∧ (rankOf x r).owed > -(pullinMax s c : Int)) && !(queued x).any (fun q => rankOfReq s q == r))

/-- The idle-slot restriction of trickle is lifted while first-touch writes are held (R97). -/
def idleFree (s : State) (n : Stage) : Bool := (led s n).holdSince.isSome
/-- An activate that would take the rolling count to RAAMMT waits for the refresh management that is due (R351). -/
def raaHeld (s : State) (x : SubCh) (r : DramReq) : Bool :=
  rfmRequired s && (mapLine s r.stage r.line).elim false (fun k =>
    let bk := bankOf x (bankNo k)
    bk.openRow.isNone && decide (bk.raa + 1 ≥ raaMmt s) && x.due.contains (.raaRfm k.prank (bankNo k)))
/-- The bank of a request is being mitigated, or is to be before its next activate: it accepts no other (R325). -/
def mitigateHeld (s : State) (x : SubCh) (r : DramReq) : Bool :=
  (mapLine s r.stage r.line).elim false (fun k => x.due.any (fun d => match d with
    | .mitigate _ bank _ step => bank == bankNo k && (decide (step > 0) || !rowOpen s x r)
    | _ => false))
/-- The request to issue now. -/
def nextReq (s : State) (c : DramCh) (b : Bool) (blocked : List Nat) : Option DramReq :=
  let x := subch s c b
  chooseReq s c x ((candidates s c x blocked (idleFree s)).filter (fun r => !panicKeeps s c x r && !raaHeld s x r && !mitigateHeld s x r && !copyHeld s r))
/-- A refresh after self-refresh comes before any other command (R292). -/
def exitWaits (x : SubCh) : Bool := x.due.any (fun d => match d with
  | .exitRefresh _ => true
  | _ => false)

/-- A scrub read that was owed goes once the previous ones have been issued (R320). -/
def scrubOut (s : State) (c : DramCh) : Bool :=
  [false, true].any (fun b => (subch s c b).scrubQueued || (subch s c b).waiting.any (fun r => r.use == .scrub))
/-- Key of the time from which a channel's scrub interval counts. -/
def timerScrub (c : DramCh) : Nat := 40 + c.val
/-- The scrub reads of a channel queued now; the next interval counts from here (R320). -/
def scrubNow (s : State) (c : DramCh) : State :=
  let s := setChan s c { chan s c with subA := { (chan s c).subA with scrubOwed := false } }
  scrubQueue { s with timers := mset 0 s.timers (timerScrub c) s.now } c
/-- Owed scrub reads queued where the previous ones have been issued. -/
def scrubFollow (s : State) (c : DramCh) : State :=
  if (chan s c).subA.scrubOwed && !scrubOut s c && scrubRuns s c then scrubNow s c else s

/-- Refreshes at the postponement limit are due, as it now stands (R284, R301). -/
def forceFollow (s : State) (c : DramCh) (b : Bool) : State :=
  setSub s c b ((ranksOf s c).foldl (fun x r => if (rankOf x r).owed ≥ postponeMax s c then addDue x (.forcedRefresh r) else x) (subch s c b))
/-- The first command of level 1 that timing allows; the refresh after self-refresh comes before every other (R268, R292). -/
def firstDue (s : State) (c : DramCh) (x : SubCh) (late : List Nat) : Option DueCmd :=
  ((x.due.zipIdx.filter (fun e => !late.contains e.2 && !dueHeld s c x e.1 && (!exitWaits x || (match e.1 with | .exitRefresh _ => true | _ => false)))).head?).map (·.1)
/-- The order of the levels: due commands, then requests; an owed refresh goes where no request before class 3 can (R268, R283). -/
def issueOrder (s : State) (c : DramCh) (b : Bool) (blocked late : List Nat) (pullIn : Bool) : State :=
  let s := forceFollow s c b
  let x := subch s c b
  let r := nextReq s c b blocked
  let low := r.elim true (fun r => decide (r.cls ≥ 3) && !r.promoted)
  let refresh := !blocked.contains 0 && x.due.isEmpty && !anyPanic s c
  match firstDue s c x late with
  | some d => issueDue s c b d
  | none =>
    if exitWaits x then s
    else if low && refresh && (refreshRank s c x).isSome then refreshOne s c b ((refreshRank s c x).getD 0)
    else match r with
      | some r => issueReq s c b r
      | none => if pullIn && refresh then (pullInRank s c x).elim s (fun k => refreshOne s c b k) else s
/-- DRAM_COMMAND_ISSUE: `blocked` names the requests that DDR5 timing does not allow now, 0 standing for a refresh below its limit; `late` names the commands of level 1 that it does not allow, by their places; `pullIn` lets an idle rank be refreshed ahead. -/
def commandIssue (s : State) (c : DramCh) (b : Bool) (blocked late : List Nat) (pullIn : Bool) : State :=
  if !schedOn s c then s
  else
    let s := panicFollow s c
    match (subch s c b).sr with
    | .committed .. => s
    | .entering => if (queued (subch s c b)).isEmpty then srNext s c b else s
    | .awake => quarantineLift (scrubFollow (issueOrder s c b blocked late pullIn) c)

/-! Timers of the scheduler. -/

/-- A request that its age can still promote (R269, R271, R275). -/
def mayPromote (s : State) (r : DramReq) : Bool :=
  !s.modes.compat && decide (r.cls ≥ 1) && !r.promoted && !(r.idleOnly && !(idleFree s r.stage && r.port == 4))
/-- The request whose age limit ends first. -/
def nextAged (s : State) (c : DramCh) (x : SubCh) : Option DramReq :=
  ((queued x).filter (mayPromote s)).foldl (fun a r => match a with
    | none => some r
    | some q => if r.age + ageLimit s c r.cls < q.age + ageLimit s c q.cls then some r else some q) none
/-- AGE_LIMIT_EXPIRY: the age of a request exceeds its limit; it is promoted (R269). -/
def ageExpiry (s : State) (c : DramCh) (b : Bool) : State :=
  let x := subch s c b
  match nextAged s c x with
  | none => s
  | some r =>
    let s := until_ s (r.age + ageLimit s c r.cls + 1)
    let up := fun (q : DramReq) => if q.id == r.id then { q with promoted := true } else q
    incWrap (pmonHit (setSub s c b { x with rq := x.rq.map up, wq := x.wq.map up }) 3 15 (subNo c b) 1) (F.DC_PROMOTE_COUNT_COUNT c.val) 1

/-- REFRESH_INTERVAL: one more refresh owed; at the postponement limit it is forced (R282, R284). -/
def refreshTick (s : State) (c : DramCh) (b : Bool) (r : Nat) : State :=
  let x := subch s c b
  let k := rankOf x r
  let t := refreshInterval s c k.highTemp
  if !schedOn s c || !(ranksOf s c).contains r || t == 0 || inSr x then s
  else
    let s := until_ s (k.refAt + t)
    let x := setRank x r { k with owed := k.owed + 1, refAt := s.now }
    setSub s c b (if k.owed + 1 ≥ postponeMax s c then addDue x (.forcedRefresh r) else x)

/-- ROW_IDLE_CLOSE: an open row that no queued request uses is closed (R281). -/
def rowIdleClose (s : State) (c : DramCh) (b : Bool) (bank : Nat) : State :=
  let x := subch s c b
  let k := bankOf x bank
  let t := rd s (F.DC_PAGE_CFG_IDLE_CLOSE c.val)
  let used := (queued x).any (fun q => (mapLine s q.stage q.line).elim false (fun j => bankNo j == bank && some j.row == k.openRow))
  if !schedOn s c || k.openRow.isNone || t == 0 || used then s
  else
    let s := until_ s (k.lastUse + t * unitsPerClock)
    emit (setSub s c b (rankUsed s (setBank x bank { k with openRow := none, justActivated := false }) (bank / 128))) (.ddr c.val (b2n b) 3 (bank / 128) bank 0)

/-- RANK_POWER_DOWN (R287). -/
def rankPowerDown (s : State) (c : DramCh) (b : Bool) (r : Nat) : State :=
  let x := subch s c b
  let k := rankOf x r
  let t := rd s (F.DC_LP_CFG_PD_TIMER c.val)
  let busy := (queued x).any (fun q => rankOfReq s q == r) || x.due.any (fun d => dueRank d == r)
  if !schedOn s c || !(ranksOf s c).contains r || t == 0 || busy || decide (k.owed ≥ postponeMax s c) || anyPanic s c || k.powerDown || x.sr != .awake then s
  else
    let s := until_ s (k.lastCmd + t * unitsPerClock)
    let close := x.banks.map (fun e => if e.1 / 128 == r then (e.1, { e.2 with openRow := none, justActivated := false }) else e)
    emit (setSub s c b (setRank { x with banks := close } r { k with powerDown := true })) (.ddr c.val (b2n b) 10 r 0 0)

/-- A save keeps the channel's subchannels out of self-refresh from its gate instant (R294). -/
def saveKeepsAwake (s : State) (c : DramCh) : Bool := (chanStage s c).elim true (fun n => (led s n).gated)
/-- IDLE_SELF_REFRESH: the entry sequence begins (R288, R290, R294). -/
def idleSelfRefresh (s : State) (c : DramCh) (b : Bool) : State :=
  let x := subch s c b
  let us := rd s (F.DC_LP_CFG_SR_IDLE_US c.val)
  let busy := !(queued x).isEmpty || !x.inFlight.isEmpty || x.waiting.any (fun r => decide (r.cls ≤ 3)) || !x.due.isEmpty
  if !schedOn s c || us == 0 || busy || x.sr != .awake || anyPanic s c || saveKeepsAwake s c then s
  else
    let s := until_ s (x.idleSince + us * unitsPerUs)
    setSub s c b { x with sr := .entering }
/-- SELF_REFRESH_EXIT: a request of class 0 to 3 that waits ends idle self-refresh (R292). -/
def selfRefreshExit (s : State) (c : DramCh) (b : Bool) : State :=
  let x := subch s c b
  if schedOn s c && inSr x && (queued x ++ x.waiting).any (fun r => decide (r.cls ≤ 3)) then srExit s c b else s
/-- SELF_REFRESH_MAX_EXIT: class 4 requests held for SR_MAX_MS end it (R289). -/
def selfRefreshMax (s : State) (c : DramCh) (b : Bool) : State :=
  let x := subch s c b
  match x.sr with
  | .committed since true =>
    if schedOn s c && (queued x ++ x.waiting).any (fun r => r.cls == 4) then
      let s := until_ s (since + max 1 (rd s (F.DC_LP_CFG_SR_MAX_MS c.val)) * 1000 * unitsPerUs)
      event (srExit s c b) 0x503 0 ((chanStage s c).elim 0 (fun n => n.val)) (c.val + 4 * b2n b)
    else s
  | _ => s

/-- DRAM_READ_COMPLETE on a subchannel. -/
def dramReadDone (s : State) (c : DramCh) (b : Bool) (raw : LineErrs) : State := if (chanStage s c).isSome then readComplete s c b raw else s

/-- The scrub interval in clocks (R320). -/
def scrubInterval (s : State) (c : DramCh) : Nat := max 1 (rd s (F.DC_SCRUB_CFG_PERIOD_H c.val)) * 3600 * 1600000000 / max 1 (subLines s c)
/-- SCRUB_INTERVAL: the next reads of the patrol, unless the previous ones have not been issued (R319, R320). -/
def scrubTick (s : State) (c : DramCh) : State :=
  if !schedOn s c || !scrubRuns s c then s
  else
    let s := until_ s (mget 0 s.timers (timerScrub c) + scrubInterval s c * unitsPerClock)
    if scrubOut s c then setChan s c { chan s c with subA := { (chan s c).subA with scrubOwed := true } } else scrubNow s c

/-- REFRESH_WINDOW: the activation tables of a channel are cleared (R324). -/
def refreshWindow (s : State) (c : DramCh) : State :=
  if !schedOn s c then s
  else
    let s := until_ s ((chan s c).window + 51200000 * unitsPerClock)
    let clear := fun (x : SubCh) => { x with banks := x.banks.map (fun e => (e.1, { e.2 with table := List.replicate 32 (0, 0), spill := 0 })) }
    setChan s c { chan s c with window := s.now, subA := clear (chan s c).subA, subB := clear (chan s c).subB }

/-- LEDGER_LINE_FILL: a ledger line whose read has come back enters the cache (R80). -/
def ledgerLineFill (s : State) (n : Stage) (line victim : Nat) : State :=
  match (led s n).arrived.find? (fun e => e.1 == line) with
  | none => s
  | some e => flushTry (ledgerFillDone s n line victim e.2) n

end Sys2Proof.Machine
end

