-- ==== Sys2Proof/Machine/Mailbox.lean ====
section
/-! DEFINITION. The memory-device mailbox and its standard commands (R372, R374, R384 to R398). Return codes and payload layouts that the spec leaves to the CXL 3.1 standard are log entry 70. -/

namespace Sys2Proof.Machine

/-! Reception (R374, R398). Return codes: 0 Success, 1 background command started, 2 Invalid Input, 3 Unsupported, 4 Internal Error, 6 Busy, 9 transfer out of order, 10 authentication failed, 11 invalid slot. -/

/-- A mailbox that exists: a logical device of an MLD port that carries a stage or is the FM-owned one (4 and up), the one device of an SLD port. -/
def boxExists (s : State) (port ld : Nat) : Bool := if portMld s port then decide (ld ≥ 4) || (ldStage s port ld).isSome else ld == 0
/-- The command arrives: the link is up, and the mailbox exists. -/
def boxUp (s : State) (port ld : Nat) : Bool := portExists s port && portUp s port && boxExists s port ld
/-- A completion. -/
def reply (s : State) (port ld code : Nat) (payload : List Byte) : State := emit s (.mailbox port ld code payload)
/-- A command of device scope is received and counted (R641). -/
def boxDo (s : State) (port ld : Nat) (f : State → State) : State := if boxUp s port ld then f (pmonHit s 7 1 (s.fw.roleCore.headD 0) 1) else s
/-- A command of stage scope: a logical device without a stage completes it with Unsupported (R398). -/
def boxStage (s : State) (port ld : Nat) (f : State → Stage → State) : State :=
  boxDo s port ld (fun s => match ldStage s port ld with
    | none => reply s port ld 3 []
    | some n => f s n)
/-- A background command begins (R398). -/
def bgStart (s : State) (port ld opcode : Nat) : State :=
  reply { s with cxl := { s.cxl with background := some ⟨port, ld, opcode⟩ } } port ld 1 []
/-- A background command runs. -/
def bgRuns (s : State) : Bool := s.cxl.background.isSome
/-- A host range of lines lies in the stage's host-visible capacity. -/
def rangeOk (s : State) (n : Stage) (line lines : Nat) : Bool := decide (line + lines ≤ hostLines s n) && decide (lines > 0)

/-! Health, alerts, shutdown state (R384 to R388). -/

/-- Get Health Info (R387, R388). -/
def healthInfo (s : State) (n : Stage) : List Byte :=
  let h := healthOf s n
  leBytes 1 h.1 ++ leBytes 1 h.2.1 ++ leBytes 1 0 ++ leBytes 1 h.2.2 ++ leBytes 2 (deviceTemp s) ++ leBytes 4 (dscCount s n) ++ leBytes 4 0 ++ leBytes 4 (correctedOf s n)
def getHealth (s : State) (port ld : Nat) : State := boxStage s port ld (fun s n => reply s port ld 0 (healthInfo s n))
/-- Get Alert Configuration (R388): which warnings are set, which can be, and the thresholds. -/
def alertBytes (a : AlertCfg) : List Byte :=
  leBytes 1 (b2n a.life.isSome + 2 * b2n a.temp.isSome + 16 * b2n a.errors.isSome) ++ leBytes 1 19 ++ leBytes 1 0 ++ leBytes 1 (a.life.getD 0)
    ++ leBytes 2 0 ++ leBytes 2 0 ++ leBytes 2 (a.temp.getD 0) ++ leBytes 2 0 ++ leBytes 2 0 ++ leBytes 2 (a.errors.getD 0)
def getAlerts (s : State) (port ld : Nat) : State := boxStage s port ld (fun s n => reply s port ld 0 (alertBytes (qget s.cxl.alerts n)))
/-- Set Alert Configuration (R388): a threshold of Life Used is at most 100, the others are 16 bits. -/
def setAlerts (s : State) (port ld : Nat) (life temp errors : Option Nat) : State :=
  boxStage s port ld (fun s n =>
    if life.elim false (fun v => decide (v > 100)) || temp.elim false (fun v => decide (v ≥ 65536)) || errors.elim false (fun v => decide (v ≥ 65536)) then reply s port ld 2 []
    else reply { s with cxl := { s.cxl with alerts := qset s.cxl.alerts n ⟨life, temp, errors⟩ } } port ld 0 [])
/-- The stored shutdown state read back (R386). -/
def getShutdown (s : State) (port ld : Nat) : State := boxStage s port ld (fun s n => reply s port ld 0 (leBytes 1 (b2n (dscShutdown s n))))
/-- Set Shutdown State (R386): stored beside the count, which it does not change. -/
def setShutdown (s : State) (port ld dirty : Nat) : State :=
  boxStage s port ld (fun s n =>
    if dirty > 1 then reply s port ld 2 []
    else reply (event (dscWrite s n (dscCount s n) (dscGen s n) (dirty == 1)) 0x612 0 n.val dirty) port ld 0 [])

/-! Poison and media scan (R389 to R391). -/

/-- A poison-list entry as it is listed: the address with its source (2 Internal, 3 Injected) in the low bits, and the length in lines. -/
def poisonBytes (e : PoisonEntry) : List Byte := leBytes 8 (e.line * 64 + (if e.injected then 3 else 2)) ++ leBytes 4 e.lines ++ leBytes 4 0
/-- Get Poison List of a range of lines: at most 1,022 entries fit the payload. -/
def getPoison (s : State) (port ld line lines : Nat) : State :=
  boxStage s port ld (fun s n =>
    if !rangeOk s n line lines then reply s port ld 2 []
    else
      let es := (qget s.cxl.poison n).filter (fun e => decide (e.line < line + lines) && decide (line < e.line + e.lines))
      let scans := s.cxl.scan.elim false (fun x => x.stage == n)
      let flags := b2n (decide (es.length > 1022)) + 2 * b2n (qget s.cxl.poisonOver n).isSome + 4 * b2n scans
      let at_ := (qget s.cxl.poisonOver n).getD 0
      reply s port ld 0 (leBytes 1 flags ++ leBytes 1 0 ++ leBytes 8 at_ ++ leBytes 2 (min 1022 es.length) ++ List.replicate 20 0#8 ++ (es.take 1022).flatMap poisonBytes))
/-- Inject Poison and Clear Poison: a host write through the tap, completed when a CXL.mem write would be (R390). -/
def poisonCommand (s : State) (port ld line : Nat) (data : BitVec 512) (clear : Bool) : State :=
  boxStage s port ld (fun s n =>
    if !rangeOk s n line 1 then reply s port ld 2 []
    else if stageSt s n ≠ .live then reply s port ld 6 []
    else
      let s := event s 0x613 0 n.val (line / 64 % 2 ^ 29 + b2n clear * 2 ^ 31)
      let w : HostWrite := ⟨.mailbox port ld (if clear then 0x4302 else 0x4301), port, line, data, none, !clear, s.now, false, false, false, false, false⟩
      if gateHolds s n then holdAfterGate s n w else writeGo s n w)
/-- Scan Media (R391): the reply carries the estimated time in ms, the range at 2 GB/s. -/
def scanMedia (s : State) (port ld line lines : Nat) : State :=
  boxStage s port ld (fun s n =>
    if !rangeOk s n line lines then reply s port ld 2 []
    else if bgRuns s || stageSt s n ≠ .live || (rst s n).pending || (led s n).gated then reply s port ld 6 []
    else
      let s := { s with cxl := { s.cxl with background := some ⟨port, ld, 0x4304⟩, scan := some ⟨n, line, line + lines, [], 0⟩ } }
      scanNext (reply s port ld 1 (leBytes 4 (ceilDiv (lines * 64) 2000000))))
/-- Get Scan Media Results (R391): the lines listed by the last scan of the stage; at most 1,022 fit the payload. -/
def scanResults (s : State) (port ld : Nat) : State :=
  boxStage s port ld (fun s n =>
    let ls := qget s.cxl.scanResults n
    reply s port ld 0 (leBytes 4 ls.length ++ (ls.take 1022).flatMap (fun l => poisonBytes ⟨l, 1, false⟩)))

/-! Secure Erase, Sanitize (R392). -/

/-- The erase of the stage: a Live stage is sealed first; Restoring and Dressing stages have no transition for it. -/
def eraseCommand (s : State) (port ld : Nat) (sanitize : Bool) : State :=
  boxStage s port ld (fun s n =>
    let st := stageSt s n
    if bgRuns s || s.image.request.isSome || (led s n).gated || (st != .live && st != .sealed) || s.modes.mode == .save || s.modes.booting then reply s port ld 6 []
    else
      let s := event (bgStart s port ld (if sanitize then 0x4400 else 0x4401)) 0x60B 0 n.val (b2n sanitize)
      if st = .live then stageSeal { s with cxl := { s.cxl with erase := some ⟨n, sanitize, 0⟩ } } n else eraseRun s n sanitize)

/-! Label storage area (R394). -/

/-- Bytes of a label storage area. -/
def lsaBytes : Nat := 131072
/-- The contents of a stage's area; one that was never written reads as erased words. -/
def lsaRead (s : State) (n : Stage) : List Byte :=
  match slotPayload s.store 0x0C (slotsLsa n).1 (slotsLsa n).2 with
  | some ws => (ws.flatMap wordBytes).take lsaBytes
  | none => List.replicate lsaBytes 0xFF#8
def getLsa (s : State) (port ld offset len : Nat) : State :=
  boxStage (slotsFollow s) port ld (fun s n => if offset + len > lsaBytes ∨ len > 16384 then reply s port ld 2 [] else reply s port ld 0 (slice (lsaRead s n) offset len))
/-- A Set LSA of a mailbox waits for its valid mark. -/
def lsaWaits (s : State) (port ld : Nat) : Bool := s.store.writing.any (fun e => e.who == some (port, ld))
/-- Set LSA: the alternate copy gets the unchanged bytes and the changed ones, its valid mark last; the command completes once the mark has passed, and the mailbox takes no other Set LSA until then. -/
def setLsa (s : State) (port ld offset : Nat) (data : List Byte) : State :=
  boxStage (slotsFollow s) port ld (fun s n =>
    if offset + data.length > lsaBytes ∨ data.length > 16376 then reply s port ld 2 []
    else if lsaWaits s port ld then reply s port ld 6 []
    else
      let old := lsaRead s n
      let (ok, s) := slotWriteBy s 0x0C (slotsLsa n).1 (slotsLsa n).2 (bytesWords (old.take offset ++ data ++ old.drop (offset + data.length))) (some (offset, some (port, ld)))
      if ok then s else reply s port ld 4 [])

/-! Device commands (R372, R374, R395, R396). -/

/-- Set Partition Info and Set LD Allocations complete with Unsupported (R372, R374). -/
def unsupported (s : State) (port ld : Nat) : State := boxDo s port ld (fun s => reply s port ld 3 [])
/-- Get LD Info: memory of the port's logical devices and their number (R374). -/
def ldInfo (s : State) (port ld : Nat) : State :=
  boxDo s port ld (fun s =>
    let lds := portLds s port
    reply s port ld 0 (leBytes 8 ((lds.map (fun x => x.elim 0 (fun n => hostLines s n * 64))).sum) ++ leBytes 2 lds.length))
/-- A logical device's allocation: its size in 256 MiB and its stage; one without a stage has size 0 and stage number 255 (R374). -/
def ldAllocation (s : State) (x : Option Stage) : List Byte := leBytes 8 (x.elim 0 (fun n => rd s (F.STAGE_SIZE_HOST_256MIB n.val))) ++ leBytes 8 (x.elim 255 (·.val))
/-- Get LD Allocations: the number of logical devices, the granularity code of 256 MiB, and each one's allocation in LD-ID order (R374). -/
def ldAllocations (s : State) (port ld : Nat) : State :=
  boxDo s port ld (fun s =>
    let lds := portLds s port
    reply s port ld 0 (leBytes 1 lds.length ++ leBytes 1 0 ++ leBytes 2 0 ++ lds.flatMap (ldAllocation s)))
/-- Get Timestamp: what was set, with the time since; 0 where none was. -/
def getTimestamp (s : State) (port ld : Nat) : State :=
  boxDo s port ld (fun s =>
    reply s port ld 0 (leBytes 8 (timestampNow s)))
/-- Set Timestamp in nanoseconds. -/
def setTimestamp (s : State) (port ld time : Nat) : State :=
  boxDo s port ld (fun s => reply { s with cxl := { s.cxl with timestamp := (time % 2 ^ 64, tickOf s + 1) } } port ld 0 [])
/-- Set Event Interrupt Policy: one byte for each log of the logical device (R395). -/
def setPolicy (s : State) (port ld policy : Nat) : State :=
  boxDo s port ld (fun s =>
    reply { s with cxl := { s.cxl with policy := mset 0 s.cxl.policy (ldKey port ld) (policy % 2 ^ 32) } } port ld 0 [])
/-- Clear Event Records (R395): all records of a log, or those of the handles given, which count from 1 for the oldest. -/
def clearEvents (s : State) (port ld k : Nat) (all : Bool) (handles : List Nat) : State :=
  boxDo s port ld (fun s =>
    let l := ldLog s (ldKey port ld) k
    if k > 3 || (!all && handles.any (fun h => h == 0 || decide (h > l.recs.length))) then reply s port ld 2 []
    else
      let left := if all then [] else (l.recs.zipIdx.filter (fun e => !handles.contains (e.2 + 1))).map (·.1)
      reply (setLdLog s (ldKey port ld) k (if left.length < 64 then { cxlLogInit with recs := left } else l)) port ld 0 [])

/-- Get FW Info (R396): two slots, the active one, online activation supported, the version of each slot's header. -/
def fwInfo (s : State) (port ld : Nat) : State :=
  boxDo s port ld (fun s =>
    let active := 1 + b2n (s.fw.roleSlotB.headD false)
    let ver := fun (b : Bool) => leBytes 16 (if fwSlotState s b = 0 ∧ (fwContainer s b).isNone then 0 else (fwSlotHead s b).version)
    reply s port ld 0 ([2#8] ++ leBytes 1 active ++ [1#8] ++ List.replicate 13 0#8 ++ ver false ++ ver true ++ List.replicate 32 0#8))
/-- The number of a firmware slot in mailbox commands: 1 A, 2 B. -/
def slotNo (b : Bool) : Nat := 1 + b2n b
/-- Transfer FW (R396, R583): action 0 whole, 1 first, 2 continued, 3 last, 4 abort; the last part starts the checks in the background. -/
def transferFw (s : State) (port ld action slot offset : Nat) (data : List Byte) : State :=
  boxDo s port ld (fun s =>
    let ends := action == 0 || action == 3
    let begins := decide (action ≤ 1)
    let got := s.fw.load.elim 0 (fun l => l.bytes.length)
    if action > 4 ∨ data.length > 16384 then reply s port ld 2 []
    else if action = 4 then (if fwLoadOpen s 1 then reply (loadDrop s 2) port ld 0 [] else reply s port ld 2 [])
    else if s.fw.series.isSome || s.fw.load.elim false (·.checking) || bgRuns s then reply s port ld 6 []
    else if ends && slot != slotNo (loadSlot s) then reply s port ld 11 []
    else if !begins && !fwLoadOpen s 1 then reply s port ld 9 []
    else if offset ≠ (if begins then 0 else got) then reply (whenS (fwLoadOpen s 1) (fun s => loadDrop s 2) s) port ld 9 []
    else
      let s := loadTake (whenS begins (fun s => loadBegin s 1) s) data
      if ends then bgStart (loadCheck s) port ld 0x0201 else reply s port ld 0 [])
/-- Return code of an activation result (R584). -/
def activateCode (r : Nat) : Nat :=
  match r with
  | 0 => 0 | 1 => 6 | 2 => 11 | 3 => 10 | 5 => 6 | _ => 4
/-- Activate FW (R585, R586). -/
def activateFw (s : State) (port ld slot : Nat) (online : Bool) : State :=
  boxDo s port ld (fun s =>
    if slot ≠ 1 ∧ slot ≠ 2 then reply s port ld 11 []
    else
      let (r, s) := if online then activateOnline s (slot == 2) else activateOffline s (slot == 2)
      reply s port ld (activateCode r) [])

end Sys2Proof.Machine
end

