-- ==== Sys2Proof/Machine/Vendor.lean ====
section
/-! DEFINITION. The vendor commands C001h to C00Fh (R398, R399). -/

namespace Sys2Proof.Machine

/-! Modes (R398). -/

/-- Standby, Service and Restore, in which most vendor commands run. -/
def modesAll : List Mode := [.standby, .service, .restore]
/-- A vendor command of device scope: Busy in another mode; a reserved or out-of-range input is Invalid Input (R398). -/
def vendorDo (s : State) (port ld : Nat) (ms : List Mode) (bad : Bool) (f : State → State) : State :=
  boxDo s port ld (fun s => if !ms.contains s.modes.mode then reply s port ld 6 [] else if bad then reply s port ld 2 [] else f s)
/-- A vendor command of stage scope. -/
def vendorStage (s : State) (port ld : Nat) (ms : List Mode) (bad : State → Stage → Bool) (f : State → Stage → State) : State :=
  boxStage s port ld (fun s n => if !ms.contains s.modes.mode then reply s port ld 6 [] else if bad s n then reply s port ld 2 [] else f s n)

/-! C001h to C003h. -/

/-- Get Stage Status. -/
def stageReport (s : State) (n : Stage) : List Byte :=
  let k := n.val
  let flags := b2n (rst s n).pending + 2 * rd s (F.LDG_STATUS_WRITE_THROUGH k) + 4 * rd s (F.LDG_STATUS_DEGRADED k)
    + 8 * b2n ((led s n).held.any (fun w => !w.touch)) + 16 * rd s (F.FL_STAGE_STATUS_SPACE_HOLD k) + 32 * rd s (F.FL_STAGE_STATUS_SEAL_NEEDED k)
    + 64 * rd s (F.FL_STAGE_STATUS_CAPACITY_DEGRADED k) + 128 * b2n (rst s n).waitResume
  leBytes 1 k ++ leBytes 1 (stageCode (stageSt s n)) ++ leBytes 1 (modeCode s.modes.mode) ++ leBytes 1 flags ++ leBytes 4 (rd s (F.SAVE_OPEN_OPEN_GEN k))
    ++ leBytes 4 (rd s (F.SAVE_GEN_SEALED_GEN k)) ++ leBytes 1 (rd s (F.SAVE_GEN_VALID k)) ++ List.replicate 3 0#8 ++ leBytes 4 (residue s n)
    ++ leBytes 4 (stageCap s n) ++ leBytes 4 (softMark s n) ++ leBytes 4 (hostFrames s n) ++ leBytes 4 (rd s (F.RESTORE_PROGRESS_FRAMES k)) ++ leBytes 4 (dscCount s n)
def stageStatus (s : State) (port ld : Nat) : State := vendorStage s port ld modesAll (fun _ _ => false) (fun s n => reply s port ld 0 (stageReport s n))
/-- Set Residue Cap. -/
def residueCap (s : State) (port ld mib : Nat) : State :=
  vendorDo s port ld modesAll (decide (mib > 0xFFFFFF)) (fun s =>
    let s := event (capChecked (wr s F.LDG_DEV_CAP_CAP_MIB mib) mib) 0x604 0 0 mib
    reply s port ld 0 (leBytes 4 (configuredMib s) ++ leBytes 4 (rd s F.LDG_DEV_EFF_EFF_CAP) ++ leBytes 1 (rd s F.LDG_DEV_EFF_LIMIT)))
/-- Planned Save: Success first, the gate instant on the next clock. -/
def plannedSave (s : State) (port ld action resv : Nat) : State :=
  vendorDo s port ld [.service, .restore] (decide (action > 2) || decide (resv ≠ 0)) (fun s =>
    if s.modes.recovery || !(anyStage s .live || anyStage s .restoring) then reply s port ld 6 []
    else
      let s := reply (event s 0x605 0 0 action) port ld 0 []
      saveTrigger (until_ s (s.now + unitsPerClock)) 0x09 (if action = 0 then actionOf s 0x09 else action - 1))

/-! C004h, C005h, C00Fh. -/

/-- Ticks since an anchor, all ones before the first one (R507). -/
def sinceAnchor (s : State) (ft fv : Fld) : Nat := if rdb s fv then ticksSince s (rd s ft) else 2 ^ 40 - 1
/-- Get Gauge Report. -/
def gaugeReport (s : State) (port ld : Nat) : State :=
  vendorDo s port ld modesAll false (fun s =>
    let full := sinceAnchor s F.GAUGE_FULL_TICK_TICK F.GAUGE_FULL_TICK_VALID
    let empty := sinceAnchor s F.GAUGE_EMPTY_TICK_TICK F.GAUGE_EMPTY_TICK_VALID
    let st := rd s F.GAUGE_REH_STATE
    let flags := rd s F.GAUGE_STATUS_PRESENT + 2 * rd s F.GAUGE_STATUS_FAULT + 4 * rd s F.GAUGE_STATUS_ANCHOR_DUE + 8 * rd s F.GAUGE_STATUS_CHG_EN
      + 16 * rd s F.GAUGE_STATUS_CHG_DONE + 32 * b2n (decide (st ≥ 2)) + 64 * b2n (decide (st = 1))
    reply s port ld 0 (leBytes 4 (rd s F.GAUGE_SOC_SOC_UAH) ++ leBytes 4 (rd s F.GAUGE_UNC_UNC_UAH) ++ leBytes 4 (rd s F.GAUGE_LEARNED_LEARNED_UAH)
      ++ leBytes 4 (rd s F.LDG_DEV_USABLE_USABLE_MJ) ++ leBytes 2 (rd s F.GAUGE_MEAS_PACK_MV) ++ leBytes 4 (twos 32 (untwos 20 (rd s F.GAUGE_MEAS_CURRENT_MA)))
      ++ leBytes 1 flags ++ [0#8] ++ leBytes 5 full ++ leBytes 5 empty))
/-- A start or a cancel of a rehearsal (C005h, R502): 1 start, 2 cancel. -/
def rehearsalCommand (s : State) (port ld op : Nat) : State :=
  vendorDo s port ld [.standby, .service] (decide (op ≠ 1) && decide (op ≠ 2)) (fun s =>
    if op = 2 then (if rd s F.GAUGE_REH_STATE = 0 then reply s port ld 6 [] else reply (rehEnd s 2) port ld 0 [2#8])
    else if rehBusy s then reply s port ld 6 []
    else if rdb s F.LINK_CFG_ENABLE then grantsGo (reply (rehAwait s) port ld 0 [1#8])
    else reply (rehBegin s) port ld 0 [0#8])
/-- Get Power Report. -/
def powerReport (s : State) (port ld : Nat) : State :=
  vendorDo s port ld modesAll false (fun s =>
    let good := rdb s F.PWR_VIN_STATUS_SUPPLY_GOOD
    let flags := b2n good + 2 * b2n (!good && rdb s F.GAUGE_STATUS_PRESENT) + 4 * b2n s.modes.recovery
    let vmon := (List.range 8).flatMap (fun k => leBytes 2 (rd s (F.PWR_VMON_DATA_MV k)))
    reply s port ld 0 (leBytes 1 (modeCode s.modes.mode) ++ leBytes 1 flags ++ leBytes 2 (rd s F.PWR_RAIL_STATUS_EN) ++ leBytes 2 (rd s F.PWR_RAIL_STATUS_PG)
      ++ leBytes 2 (rd s F.PWR_RAIL_FAULT_FAULTED) ++ vmon ++ leBytes 4 (fldOf (regView s F.CPD_POWER_MW.idx) F.CPD_POWER_MW) ++ leBytes 4 (rd s F.SAVE_LAST_DURATION)
      ++ leBytes 1 (rd s F.SAVE_LAST_OUTCOME)))

/-! C006h, C007h. -/

/-- At most `k` records of a list in ascending sequence from one on. -/
def recordsFrom : Nat → List Rec → Nat → List Rec
  | 0, _, _ => []
  | k + 1, rs, q =>
    match oldestFrom rs q with
    | none => []
    | some x => match rs.find? (fun r => recSeq r == x) with
      | none => []
      | some r => r :: recordsFrom k rs (seqNext x)
/-- The lowest sequence number of an area; 0 where it holds none. -/
def oldestSeq (rs : List Rec) : Nat :=
  (rs.foldl (fun a r => match a with
    | none => some (recSeq r)
    | some x => if seqBefore (recSeq r) x then some (recSeq r) else some x) none).getD 0
/-- Read Prompt Book: at most 909 records. -/
def readBook (s : State) (port ld fromSeq area resv k : Nat) : State :=
  vendorDo s port ld modesAll (decide (area > 1) || decide (resv ≠ 0) || decide (fromSeq ≥ 2 ^ 32)) (fun s =>
    let rs := areaOfBook s (area == 1)
    let got := recordsFrom (if k = 0 then 909 else min 909 k) rs fromSeq
    let next := (got.getLast?).elim fromSeq (fun r => seqNext (recSeq r))
    reply s port ld 0 (leBytes 2 got.length ++ leBytes 2 0 ++ leBytes 4 next ++ leBytes 4 (oldestSeq rs) ++ leBytes 4 0
      ++ got.flatMap (fun r => wordBytes r.w0 ++ wordBytes r.w1 ++ wordBytes r.w2)))
/-- Records that a clear takes out. -/
def clearCount (s : State) (bound areas : Nat) : Nat :=
  (if areas % 2 = 1 then (clearRing s.pbook bound).1 else 0) + (if areas / 2 % 2 = 1 && storePowered s then (clearArea s bound).1 else 0)
/-- Clear Prompt Book. -/
def clearBookCommand (s : State) (port ld areas resv upTo : Nat) : State :=
  vendorDo s port ld modesAll (decide (areas > 3) || decide (resv ≠ 0) || decide (upTo ≥ 2 ^ 32)) (fun s =>
    reply (clearBook s upTo areas) port ld 0 (leBytes 4 (clearCount s upTo areas)))

/-! C008h, C00Ch. -/

/-- Get Block Wear. -/
def blockWear (s : State) (port ld lun resv first k : Nat) : State :=
  vendorStage s port ld modesAll
    (fun s n => !(stageLuns s n).contains lun || decide (resv ≠ 0) || decide (k > 2046) || decide (first ≥ blocksPer s n))
    (fun s n =>
      let skip := (stageLuns s n).findIdx (· == lun) * blocksPer s n + first
      let es := ((wearEntries s n).drop skip).take (min k (blocksPer s n - first))
      reply s port ld 0 (leBytes 2 es.length ++ List.replicate 14 0#8 ++ es.flatten))
/-- Get Heat Statistics: the region's entries in the order of the heat list. -/
def heatStatistics (s : State) (port ld first k : Nat) : State :=
  vendorStage s port ld [.service, .restore] (fun _ _ => decide (k > 2046)) (fun s n =>
    let h := qget s.heat n
    let es := ((heatOrder h.counts).drop first).take k
    reply s port ld 0 (leBytes 2 es.length ++ leBytes 2 0 ++ leBytes 4 (satN 32 h.sampled) ++ leBytes 4 (rd s F.RESTORE_HEAT_DROPPED) ++ leBytes 4 h.counts.length
      ++ es.flatMap (fun f => leBytes 4 (f % 2 ^ 29) ++ leBytes 4 (mget 0 h.counts f))))

/-! C009h, C00Ah, C00Eh. -/

/-- Load Image Section: a part of a container; the last part starts the checks in the background. -/
def imageSection (s : State) (port ld offset : Nat) (first last : Bool) (resv : Nat) (data : List Byte) : State :=
  vendorDo s port ld modesAll (decide (resv ≠ 0)) (fun s =>
    let bs := if first then [] else s.image.loading.elim [] (fun l => if l.1 = 1 then l.2 else [])
    let opened := first || s.image.loading.elim false (fun l => l.1 == 1)
    if last && bgRuns s then reply s port ld 6 []
    else if !opened || offset != bs.length || (!last && data.length % 128 != 0) || decide (data.length > 16376) then reply (imgAbort s 1) port ld 2 []
    else
      let s := whenS first (fun s => stagedDrop s 1) s
      let s := { s with image := { s.image with loading := some (1, bs ++ data) } }
      if last then bgStart (imgStage s 1 (bs ++ data)) port ld 0xC009 else reply s port ld 0 [])
/-- Load Image Section with FLAGS bit 2: the staged section is discarded. -/
def imageSectionAbort (s : State) (port ld resv : Nat) : State :=
  vendorDo s port ld modesAll (decide (resv ≠ 0)) (fun s => reply (imgAbort s 1) port ld 0 [])
/-- A mailbox may name a stage in C00Ah: its own, an Unbound one, and from the FM-owned logical device any. -/
def mayName (s : State) (port ld stage : Nat) : Bool :=
  decide (stage < 4) && (decide (ld ≥ 4) || ldStage s port ld == some (fin4 stage) || stageSt s (fin4 stage) == .unbound)
/-- Apply Stage Section: a re-dress or an unbind, in the background; one deferred to the next power-up completes at once (R531). -/
def applySection (s : State) (port ld stage resv : Nat) (unbind : Bool) : State :=
  vendorDo s port ld modesAll (decide (resv ≠ 0) || !mayName s port ld stage) (fun s =>
    let (r, s) := redressRequest s (fin4 stage) unbind
    match r with
    | 0 => if s.image.request.isSome then bgStart s port ld 0xC00A else reply s port ld 0 []
    | 1 => reply s port ld 6 []
    | 2 => reply s port ld 2 []
    | _ => reply s port ld 0 [])
/-- Intermission Resume (R202). -/
def interResumeCommand (s : State) (port ld mask : Nat) : State :=
  vendorDo s port ld [.standby, .service] (decide (mask > 15)) (fun s =>
    let ns := fours.filter (fun n => bitOf mask n.val && (rst s n).waitResume)
    reply (foldS ns interResume s) port ld 0 (leBytes 1 (mask4 (fun n => ns.contains n))))

/-! C00Bh (R426 to R431). -/

/-- The attestation report for a leaf (R431). -/
def attestReport (s : State) (q : Nat) : List Byte :=
  let b := s.fw.roleSlotB.headD false
  leBytes 4 0x46584154 ++ leBytes 2 1 ++ [0xB0#8, 0#8] ++ leBytes 2 (ownNode s) ++ leBytes 2 0 ++ leBytes 4 q ++ sha256 (fwContents s b)
    ++ s.image.hash ++ leBytes 2 (fwSlotHead s b).svn ++ leBytes 2 (rd s F.IMG_SVN_SVN) ++ leBytes 1 (b2n b) ++ leBytes 1 (mask4 (bound s)) ++ leBytes 2 0
    ++ identityPublic ++ leBytes 16 Config.serial.toNat ++ leBytes 4 0
/-- Attest: SHA-256 of the nonce and the report signed with the next leaf. -/
def attestCommand (s : State) (port ld : Nat) (nonce : List Byte) : State :=
  vendorDo s port ld modesAll (decide (nonce.length ≠ 32)) (fun s =>
    if rdb s F.FW_DEBUG_OPEN then reply s port ld 6 []
    else
      let (q, s) := attestLeaf s
      match q with
      | none => reply s port ld 6 []
      | some q =>
        let r := attestReport s q
        reply s port ld 0 (leBytes 2 r.length ++ leBytes 2 3124 ++ r ++ identitySign q (sha256 (nonce ++ r))))

/-! C00Dh (R399, R551 to R565). -/

/-- First word of the user area, and its words. -/
def userBase : Nat := 4096 * 2048
def userWords : Nat := 2048 * 2048
/-- A C00Dh erase runs in the background: every other C00Dh command is Busy meanwhile (R398, R552). -/
def userBusy (s : State) : Bool := s.cxl.background.elim false (fun b => b.opcode == 0xC00D)
/-- A C00Dh completion with its status. -/
def userReply (s : State) (port ld status count : Nat) : State := storeReply s (.host port ld) status count 0 []
/-- Read and program: words outside the area give status 3. -/
def userAccess (s : State) (port ld word count : Nat) (bad : Bool) (call : StoreCall) : State :=
  vendorDo s port ld modesAll bad (fun s =>
    if userBusy s then reply s port ld 6 []
    else if word + count > userWords then userReply s port ld 3 0 else if count = 0 then userReply s port ld 0 0 else storeCall s call)
def userRead (s : State) (port ld resv count word : Nat) : State :=
  userAccess s port ld word count (decide (resv ≠ 0) || decide (count > 2048)) (.read (.host port ld) (userBase + word) count)
def userProgram (s : State) (port ld resv word : Nat) (data : List Word) : State :=
  userAccess s port ld word data.length (decide (resv ≠ 0) || decide (data.length > 2729)) (.program (.host port ld) (userBase + word) data)
/-- Erase of the sector that holds a word, in the background. -/
def userErase (s : State) (port ld resv word : Nat) : State :=
  vendorDo s port ld modesAll (decide (resv ≠ 0)) (fun s =>
    if bgRuns s then reply s port ld 6 []
    else if word ≥ userWords then userReply s port ld 3 0
    else storeCall (bgStart s port ld 0xC00D) (.erase (.host port ld) (sectorOf (userBase + word))))
def userStatus (s : State) (port ld resv word : Nat) : State :=
  vendorDo s port ld modesAll (decide (resv ≠ 0)) (fun s =>
    if userBusy s then reply s port ld 6 []
    else if word ≥ userWords then userReply s port ld 3 0 else storeStatus s (.host port ld) (sectorOf (userBase + word)))

end Sys2Proof.Machine
end

