-- ==== Sys2Proof/Machine/Engines.lean ====
section
/-! DEFINITION. What is left beside the host's commands: calls of the control cores to the cipher and hash units, the gauge's inputs, clocks and package, VAON, and the windows of R53. -/

namespace Sys2Proof.Machine

/-! Calls of the control cores (R408, R418, R423 to R425). -/

/-- The core that holds a role runs: it can call an engine. -/
def roleRuns (s : State) (role : Nat) : Bool :=
  mainOn s && !s.modes.mrReset && decide (role < 5) && coreMode s (s.fw.roleCore.getD role 0) == 1
/-- A call of a core: nothing happens while the core does not run. -/
def coreDo (s : State) (role : Nat) (f : State → State) : State := whenS (roleRuns s role) f s
/-- A call with a key: one not the caller's, or not loaded, ends with error 5 (R409, R418). -/
def withKey (s : State) (role h : Nat) (f : State → List Byte → State) : State :=
  match keyAt s h with
  | some k => if keyAllowed role h then f s (keyBytes k) else callError s 5 0
  | none => callError s 5 0
/-- KEY_WRAP (R408): RFC 3394 takes whole 8-byte blocks, at least two. -/
def keyWrapCall (s : State) (role kek : Nat) (data : List Byte) : State :=
  coreDo s role (fun s => withKey s role kek (fun s k =>
    if data.length < 16 ∨ data.length % 8 ≠ 0 then callError s 1 0 else emit s (.coreData 0 (keyWrap k data))))
/-- KEY_UNWRAP (R408, R409): RFC 3394 takes whole 8-byte blocks, at least three. The house role may name a working key, 0x5 to 0xF: 32 bytes unwrapped go there and nowhere else (R417, R418). What another caller unwraps, what names no working key, and what is no key by its length, is the caller's data (DESIGN CHOICE, log entry 157). -/
def keyUnwrapCall (s : State) (role kek dest : Nat) (data : List Byte) : State :=
  coreDo s role (fun s => withKey s role kek (fun s k =>
    if data.length < 24 ∨ data.length % 8 ≠ 0 then callError s 7 0
    else match keyUnwrap k data with
    | none => callError s 7 0
    | some bs =>
      if dest < 5 ∨ 15 < dest then emit s (.coreData 0 bs)
      else if role ≠ 0 then callError s 5 0
      else if bs.length = 32 then emit (setKey s dest (bytesKey bs)) (.coreData 0 [])
      else emit s (.coreData 0 bs)))
/-- A chunk of a digest: the last one ends it with the digest, another leaves a context of kind 3 in the slot. A chunk before the last holds whole 64-byte blocks, since a context has no place for the rest of one; any other ends with error 3 (R409, R413; DESIGN CHOICE, log entry 158). -/
def digestChunk (s : State) (slot : Nat) (last : Bool) (msg : List Byte) : State :=
  let c := ((ctxSlot s slot).ctx.filter (fun c => c.kind == .sha256)).getD shaInit
  if last then emit (setCtxSlot s slot { ctxSlot s slot with ctx := none }) (.coreData 0 (shaFinish c msg))
  else if msg.length % 64 ≠ 0 then callError s 3 slot
  else emit (setCtxSlot s slot { ctxSlot s slot with ctx := some (shaMore c msg) }) (.coreData 0 [])
/-- SHA256_CALL (R412, R423): a chunk of a SHA-256 digest with its context slot, or HMAC-SHA-256 under a key of the caller; a slot of another core ends the call with error 5. -/
def shaCall (s : State) (role : Nat) (use : ShaUse) (msg : List Byte) : State :=
  coreDo s role (fun s =>
    if slotOwner use.slot ≠ some role then callError s 5 use.slot
    else match use.key with
    | none => digestChunk s use.slot use.last msg
    | some h => withKey s role h (fun s k => emit s (.coreData 0 (hmacSha256 k msg))))
/-- SIGNATURE_VERIFY (R424): signer 0 firmware, 1 image section, 2 recovery image; a failure logs event 0x70F. -/
def verifyCall (s : State) (signer : Nat) (pub sig msg : List Byte) : State :=
  if signer > 2 then s
  else
    let r := hssVerify (if signer = 1 then s.fw.makerHash.getD [] else Config.pyruaKeyHash) pub sig msg
    coreDo s 0 (fun s => if r = .ok then emit s (.coreData 0 []) else emit (event s 0x70F 2 0 (sigArg signer r)) (.coreData 1 []))
/-- RANDOM_REQUEST (R425). -/
def randomCall (s : State) (role count : Nat) : State :=
  coreDo s role (fun s => match randomBytes s count with
    | (some bs, s) => emit s (.coreData 0 bs)
    | (none, s) => emit s (.coreData 1 []))
/-- A health test fails while the generator is powered (R425, R673). -/
def entropyFail (s : State) (adaptive : Bool) : State := whenS (domainOn s 50) (fun s => healthFail s adaptive) s
/-- The next bottom tree is stored in the other tree area (R429): generated once the current one has 4,096 leaves or fewer left. -/
def treeGenerated (s : State) : State :=
  let c := s.cipher
  let left := 32768 * (c.treeNow + 1) - c.leafNext
  if mainOn s && !s.modes.booting && !s.modes.mrReset && !c.treeReady && decide (c.treeNow < 1023) && decide (left ≤ 4096) then
    let s := (slotWrite s 0x0B slotsTree.1 slotsTree.2 (bytesWords (treeBytes (c.treeNow + 1)))).2
    event { s with cipher := { s.cipher with treeReady := true } } 0x70D 0 0 (c.treeNow + 1)
  else s
/-- A call or a unit of the house engine goes on only while the engine is powered. -/
def engineUnit (s : State) : State := whenS (domainOn s 43 && !s.modes.mrReset) houseUnit s

/-! The gauge (R485 to R491, R502). It runs in every mode. -/

/-- The update at its window's opening (R488); in Hold the house core finds an exhausted pack (R57, R151). -/
def updateWindow (s : State) : State :=
  window s timerGauge (gaugeWindow s) (fun s _ =>
    let s := gaugeUpdate s
    whenS (rdb s F.GAUGE_STATUS_EXHAUSTED && s.modes.mode = .hold) holdExhausted s)
/-- The tick's conversion (R485); an update that is due at this tick comes first, since the conversion belongs to the window that opens here (R7, R488). -/
def conversionTick (s : State) (senseNv : Int) (batUv : Nat) : State :=
  window s 60 1 (fun s o =>
    let s := if nextOpening s timerGauge (gaugeWindow s) = o then updateWindow s else s
    gaugeConvert s senseNv batUv)
/-- The battery becomes present (R486, R491). -/
def batteryIn (s : State) : State :=
  if rdb s F.GAUGE_STATUS_PRESENT then s
  else
    let s := learnedReset (unanchor (wr s F.GAUGE_STATUS_PRESENT 1))
    chgFollow (event s 0x90A 0 0 (satN 16 (learnedUah s / 1000)))
/-- The battery becomes absent (R486, R502). -/
def batteryOut (s : State) : State :=
  if rdb s F.GAUGE_STATUS_PRESENT then chgFollow (rehEnd (event (wr s F.GAUGE_STATUS_PRESENT 0) 0x909 1 0 0) 4) else s
/-- A fault cause is entered; a low pack is one only while the battery is present (R487, R502). -/
def faultIn (s : State) (cause : Nat) : State :=
  if cause < 1 ∨ 3 < cause ∨ cause ∈ s.gauge.faults ∨ (cause = 1 ∧ rdb s F.GAUGE_STATUS_PRESENT = false) then s
  else
    let s := faultStatus { s with gauge := { s.gauge with faults := insertNat s.gauge.faults cause } }
    chgFollow (rehEnd (event s 0x90B 2 0 cause) 4)
/-- A fault cause ends (R487). -/
def faultOut (s : State) (cause : Nat) : State :=
  if cause ∈ s.gauge.faults then
    let s := faultStatus { s with gauge := { s.gauge with faults := s.gauge.faults.filter (fun c => decide (c ≠ cause)) } }
    chgFollow (event s 0x90C 0 0 cause)
  else s
/-- An edge of CHG_DONE (R489): a rising one with CHG_EN high is registered for the next update. -/
def chgDoneEdge (s : State) (high : Bool) : State :=
  let rise := high && !rdb s F.GAUGE_STATUS_CHG_DONE
  let s := wr s F.GAUGE_STATUS_CHG_DONE (b2n high)
  if !rise then s
  else if rdb s F.GAUGE_STATUS_CHG_EN then { s with gauge := { s.gauge with fullDue := true } }
  else event s 0x911 0 0 0
/-- MAX_MIN minutes have passed since the charge leg began (R502). -/
def rehTimeout (s : State) : State :=
  if rd s F.GAUGE_REH_STATE < 2 then s
  else rehEnd (untilTick s (s.gauge.legStart + max 1 (rd s F.GAUGE_REH_MAX_MIN) * 1966080)) 5

/-! Clocks and package (R670 to R675). -/

/-- The tick passes to the crystal (R670). -/
def crystalStart (s : State) : State := wr s F.CPD_XTAL_RC_ACTIVE 0
/-- The crystal stops: the tick returns to the RC oscillator (R670). -/
def crystalStop (s : State) : State :=
  if rdb s F.CPD_XTAL_RC_ACTIVE then s else incSat (wr (wr s F.CPD_XTAL_RC_ACTIVE 1) F.CPD_XTAL_FAILED 1) F.CPD_XTAL_FAILS 1
/-- A core PLL's loss of lock acts as the failure of a critical rail whose mask holds every stage (R446, R672). -/
def pllFail (s : State) : State :=
  let s := { s with power := { s.power with blocked := s.power.blocked ||| 2 ^ pllRail } }
  match s.modes.mode with
  | .standby => foldS (fours.filter (fun n => stageSt s n == .dressing)) (fun s n => dressFail s n 8) s
  | .service => railServing s pllRail
  | .restore => railServing s pllRail
  | .save =>
    if s.saveDev.abort = 2 then { s with power := { s.power with afterAbort := s.power.afterAbort ++ [pllRail] } }
    else foldS fours (fun s n => tearSaving s n 1) (triggerShared s 0x0E)
  | _ => s
/-- A PLL that was locked loses its lock (R672): 0 data path, 1 DRAM, 2 flash, 3 and 4 the CXL PHYs. -/
def pllUnlock (s : State) (k : Nat) : State :=
  if k > 4 ∨ pllLocked s k = false then s
  else
    let s := incSat { s with pack := { s.pack with unlocked := s.pack.unlocked ||| BitVec.ofNat 5 (2 ^ k) } } F.CPD_PLL_UNLOCKS 1
    if k < 3 then pllFail s else linkDown s (if s.cxl.combined then 0 else k - 3)
/-- A power domain is switched on for a request that waits for it (R675). -/
def domainUp (s : State) (k : Nat) : State :=
  whenS (mainOn s && decide (k < 56)) (fun s => { s with pack := { s.pack with woken := s.pack.woken ||| BitVec.ofNat 56 (2 ^ k) } }) s

/-! VAON (R33, R439, R491, R498, R626). -/

/-- What a loss of VAON leaves: the cells of the script store and of the flash, the fuses, and what the medium itself determines. The clock starts again at tick 0. -/
def vaonReset (s : State) : State :=
  let r := State.reset
  let s := slotsCut s
  let e := s.dram.epoch + 1
  { r with
    store := { r.store with nor := s.store.nor, touched := s.store.touched, prot := s.store.prot, cuts := s.store.cuts }
    flash := { r.flash with pages := s.flash.pages, blocks := s.flash.blocks, factory := s.flash.factory, failing := s.flash.failing, sets := qmap fsetFresh s.flash.sets }
    cipher := { r.cipher with
      leafNext := s.cipher.leafNext, treeNow := s.cipher.treeNow, treeReady := s.cipher.treeReady, exhausted := s.cipher.exhausted, blocksUsed := s.cipher.blocksUsed }
    fw := { r.fw with fuseFw := s.fw.fuseFw, fuseImg := s.fw.fuseImg, makerHash := s.fw.makerHash, shipLog := s.fw.shipLog }
    dram := { r.dram with fill := qall (.powerUp e), epoch := e }
    freeIdx := s.freeIdx, out := s.out, pending := s.pending }
/-- The learned values loaded, the gauge unanchored (R491, R498). -/
def learnedLoad (s : State) : State :=
  let p := slotPayload s.store 0x02 slotsLearned.1 slotsLearned.2
  let uah := match p with
    | some ws => (ws.getD 0 0#48).toNat % 2 ^ 32
    | none => 1000 * rd s F.GAUGE_PACK_MIN_MAH
  let unc := p.elim 0 (fun ws => (ws.getD 1 0#48).toNat % 65536)
  let s := wr (wr s F.GAUGE_LEARNED_LEARNED_UAH uah) F.GAUGE_LEARNED_LEARN_UNC_MAH unc
  let s := { s with gauge := { s.gauge with base := 1000 * unc, vaonHold := true } }
  let s := stampTick s F.GAUGE_LEARN_TICK_TICK F.GAUGE_LEARN_TICK_VALID (tickOf s)
  unanchor (event s 0x908 0 0 (p.elim 0 (fun _ => satN 16 (uah / 1000))))
/-- VAON is applied (R439, R498, R602): straps are read, the learned values are loaded. -/
def vaonApply (s : State) (sel0 sel1 sel2 : Nat) (fault : Bool) : State :=
  let s := vaonReset s
  let node := 64 * (sel2 % 8) + 8 * (sel1 % 8) + sel0 % 8
  let s := wr (wr (wr (wr s F.SB_STATUS_NODE node) F.SB_STATUS_SEL0 sel0) F.SB_STATUS_SEL1 sel1) F.SB_STATUS_SEL2 sel2
  let s := event (wr s F.SB_STATUS_STRAP_FAULT (b2n fault)) 0xC08 0 0 (node + 512 * b2n fault)
  learnedLoad s

/-! Windows of R53 that firmware and the recorder keep. -/

/-- The recompute of the caps: a pending playbill, the caps, the save reserve (R63, R86, R249). -/
def capsWindow (s : State) : State :=
  window s timerCaps 33 (fun s o =>
    if mainOn s then
      let s := recomputeCaps (playbillTake s) o
      foldS (fours.filter (fun n => bound s n)) (fun s n => strikeFollow (capacityFollow (spaceFollow s n true) n) n) s
    else s)
/-- The thermal sample of a window (R445). -/
def thermalWindow (s : State) (temp : Nat) : State := window s timerThermal 33 (fun s _ => thermalSample s temp)
/-- The drift tracking of a window (R363). -/
def driftWindow (s : State) (reads : List DriftRead) : State := window s timerDrift 328 (fun s _ => trackAll s reads)
/-- The sensor poll every 100 ms by the house core (R367). -/
def sensorWindow (s : State) (reads : List (Nat × Option Nat)) : State :=
  window s timerI3c (msTicks 100) (fun s _ => whenS (roleRuns s 0) (fun s => sensorPoll s reads) s)
/-- The rate-limit window after one in which something was suppressed opens (R633). -/
def rateWindow (s : State) : State :=
  if s.pbook.suppressed = 0 then s else rollWindow (untilTick s (rlOpening s))
/-- The house role copies one record when the die has nothing else to write (R629). -/
def bookCopy (s : State) : State :=
  let modeOk := s.modes.mode = .standby || serving s || s.modes.mode = .save
  if modeOk && !s.modes.booting && roleRuns s 0 && s.store.prog.isNone && s.store.calls.isEmpty then copyOne (eraseSuspend s) else s

/-- A data-path clock in which no command comes: time moves on (log entry 1); slots whose writing has ended get their valid marks, write-through operation queues its dirty frames, and requests whose credits are back come in (R95, R98, R190, R394). -/
def idleClock (s : State) : State := foldS fours (fun s n => stallGo (wtQueue s n) n) (slotsFollow { s with now := s.now + unitsPerClock })
/-- A step with no command waiting. -/
def idle (s : State) : Host.Outcome State Fault Refusal := done (idleClock s)

/-! Commands that are register accesses: the word a sender writes. -/

/-- A write of a word. -/
def regWord (s : State) (p : Path) (i : Nat) (w : Word) : State := busWrite s p i w true s.fw.recoveryLow
/-- A write of one field: the register's other writable fields are written with what they hold (DESIGN CHOICE, log entry 107). -/
def regField (s : State) (p : Path) (f : Fld) (v : Nat) : State :=
  regWord s p f.idx (withFld (rawReg s f.idx &&& accessMask f.idx (fun a => a == .rw || a == .rs || a == .rwk)) f v)
/-- A write of a word with its trigger field set. -/
def regArm (s : State) (p : Path) (f : Fld) (w : Word) : State := regWord s p f.idx (w ||| oneField f 1)

/-! Commands that stand for the end of a condition. -/

/-- The deglitch time ends with the pin still low (R439, R440). -/
def deglitchOver (s : State) : State :=
  match s.power.deglitch with
  | some t => inputFailed (until_ s t)
  | none => s
/-- A watched rail fails by its power-good input (R443, R446). -/
def railFailure (s : State) (r : Nat) : State := whenS (bitOf (rd s F.PWR_RAIL_STATUS_WATCHED) r && decide (r < 16)) (fun s => pgFall s r) s
/-- BTN_N has been low for DEBOUNCE ticks (R461): the press is stamped. -/
def btnDown (s : State) : State :=
  if rdb s F.PWR_BTN_BTN_LOW then s else { wr s F.PWR_BTN_BTN_LOW 1 with power := { s.power with press := some (tickOf s) } }
/-- A release: within the window a short press; at its end tick or later the press is long (R55, R461). -/
def btnUp (s : State) : State :=
  let s := wr s F.PWR_BTN_BTN_LOW 0
  match pressEnd s with
  | none => s
  | some k => if k ≤ tickOf s then pressLong s else shortPress { s with power := { s.power with press := none } }
/-- A sweep window opens: the first at the tick at which the stage became Live, each other no earlier than the end of the one before, at a multiple of the interval from there (R53, R101). -/
def sweepWindow (s : State) (n : Stage) : State :=
  if stageSt s n ≠ .live ∨ (led s n).gated ∨ s.saveDev.gate then s
  else
    let l := sweepLen s n
    let a := (led s n).liveTick
    let o := a + ceilDiv (max (tickOf s) (mget 0 s.timers (timerSweep n.val)) - a) l * l
    sweepOpen (untilTick { s with timers := mset 0 s.timers (timerSweep n.val) (o + l) } o) n
/-- Something happens at a LUN that a stage holds. -/
def onLun (s : State) (lun : Nat) (f : State → Stage → State) : State := if mainOn s then (lunStage s lun).elim s (f s) else s
/-- A map checkpoint of a Live stage is due after 64 GiB of trickle, or when 600 s have passed; it is passed over while another is written (R239). -/
def ckptWindow (s : State) (n : Stage) : State :=
  if stageSt s n ≠ .live ∨ (led s n).gated ∨ s.saveDev.gate then s
  else
    let s := if (fset s n).ckptFrames ≥ 16777216 then s else untilTick s ((fset s n).ckptTick + 19660800)
    if (fset s n).ckpt.isSome then setFset s n { fset s n with ckptFrames := 0, ckptTick := tickOf s } else ckptFeed (ckptBegin s n) n
/-- A line write of a restored frame. -/
def isFrameWrite (n : Stage) (f : Nat) (r : DramReq) : Bool :=
  r.stage == n && (r.use == .restoreWrite f || r.use == .touchWrite f)
/-- The last line write of a frame is in its DRAM queue: the frame is restored (R180). -/
def frameDone (s : State) (n : Stage) (f : Nat) : State :=
  let waits := (stageChans s n).any (fun c => [false, true].any (fun b => (subch s c b).waiting.any (isFrameWrite n f)))
    || s.dram.remap.any (fun e => e.2.waiting.any (isFrameWrite n f))
  if (rst s n).writing.contains f && !waits then frameRestored s n f else s
/-- A frame of a type that R469 gives no meaning; the types it lists are other commands. -/
def reservedType (s : State) (h : LinkHdr) (type : Nat) : State :=
  if [0x01, 0x02, 0x03, 0x10, 0x11, 0x12, 0x13, 0x14].contains type then s else linkReserved s h
/-- A call of a ROM routine: its caller runs and the script store is powered (R551, R673). -/
def callFrom (s : State) (who : StoreCaller) (f : State → State) : State :=
  let runs := match who with
    | .house => roleRuns s 0
    | .stageCore => (List.range 4).any (fun k => roleRuns s (1 + k))
    | .rom => true
    | .host port ld => boxUp s port ld
  whenS (storePowered s && runs) f s

end Sys2Proof.Machine
end

