-- ==== Sys2Proof/Machine/ExecCipher.lean ====
section
/-! DEFINITION. The meanings of the commands: the house engine, keys, hashes, signatures and random numbers (chapter 11). -/

namespace Sys2Proof.Machine

/-- HOUSE_GCM_ENCRYPT (R408): House engine GCM encryption call by a control core. -/
def execHouseGcmEncrypt (role slot key : Nat) (iv : List Byte) (aad text : List (List Byte)) (s : State) : Host.Outcome State Fault Refusal := done (coreDo s role (fun s => callStart s role slot key .gcmEncrypt iv aad text [] 0))

/-- HOUSE_GCM_DECRYPT (R410): House engine GCM decryption into a quarantine region. -/
def execHouseGcmDecrypt (role slot key : Nat) (iv : List Byte) (aad text : List (List Byte)) (tag : List Byte) (region : Nat) (s : State) : Host.Outcome State Fault Refusal := done (coreDo s role (fun s => callStart s role slot key .gcmDecrypt iv aad text tag region))

/-- HOUSE_GMAC (R408): House engine GMAC over additional data. -/
def execHouseGmac (role slot key : Nat) (iv : List Byte) (aad : List (List Byte)) (s : State) : Host.Outcome State Fault Refusal := done (coreDo s role (fun s => callStart s role slot key .gmac iv aad [] [] 0))

/-- KEY_WRAP (R408): House engine AES key wrap. -/
def execKeyWrap (role kek : Nat) (data : List Byte) (s : State) : Host.Outcome State Fault Refusal := done (keyWrapCall s role kek data)

/-- KEY_UNWRAP (R408): House engine AES key unwrap. -/
def execKeyUnwrap (role kek dest : Nat) (data : List Byte) (s : State) : Host.Outcome State Fault Refusal := done (keyUnwrapCall s role kek dest data)

/-- HOUSE_ENGINE_UNIT (R411): The house engine serves one unit of at most 64 KiB for the next caller round robin. -/
def execHouseEngineUnit (s : State) : Host.Outcome State Fault Refusal := done (engineUnit s)

/-- CONTEXT_SAVE (R414): Saves a context slot in the clear or wrapped, incrementing its save count. -/
def execContextSave (role slot : Nat) (wrapped : Bool) (s : State) : Host.Outcome State Fault Refusal := done (coreDo s role (fun s => Sys2Proof.Machine.contextSave s role slot wrapped))

/-- CONTEXT_RESTORE (R415): Restores a context only if unwrap, slot, save count and boot nonce match. -/
def execContextRestore (role slot : Nat) (wrapped : Bool) (bytes : List Byte) (s : State) : Host.Outcome State Fault Refusal := done (coreDo s role (fun s => Sys2Proof.Machine.contextRestore s role slot wrapped bytes))

/-- SHA256_CALL (R423): The hash unit computes SHA-256 or HMAC-SHA-256. -/
def execSha256Call (role : Nat) (use : ShaUse) (msg : List Byte) (s : State) : Host.Outcome State Fault Refusal := done (shaCall s role use msg)

/-- SIGNATURE_VERIFY (R424): Verifies an HSS/LMS signature against a fused key hash. -/
def execSignatureVerify (signer : Nat) (pub sig msg : List Byte) (s : State) : Host.Outcome State Fault Refusal := done (verifyCall s signer pub sig msg)

/-- RANDOM_REQUEST (R425): A control core draws random data from the CTR_DRBG. -/
def execRandomRequest (role count : Nat) (s : State) : Host.Outcome State Fault Refusal := done (randomCall s role count)

/-- ENTROPY_HEALTH_FAIL (R425): A continuous health test fails; the generator refuses every request until the next power-up. -/
def execEntropyHealthFail (adaptive : Bool) (s : State) : Host.Outcome State Fault Refusal := done (entropyFail s adaptive)

/-- NEXT_TREE_GENERATION (R429): The background generation of the next bottom tree ends and it is stored. -/
def execNextTreeGeneration (s : State) : Host.Outcome State Fault Refusal := done (treeGenerated s)

/-- CIPH_CERT_DATA_READ (R435): Reads a certificate word and advances WORD. -/
def execCiphCertDataRead (p : Path) (s : State) : Host.Outcome State Fault Refusal := done (busRead s p F.CIPH_CERT_DATA_DATA.idx)

end Sys2Proof.Machine
end

