-- ==== Sys2Proof/Machine/ExecCue.lean ====
section
/-! DEFINITION. The meanings of the commands: the cue sequencer (chapter 12). -/

namespace Sys2Proof.Machine

/-- CUE_ENABLE (R453): Cue instruction that drives RAIL_EN outputs high. -/
def execCueEnable (s : State) : Host.Outcome State Fault Refusal := done (Sys2Proof.Machine.cueEnable s)

/-- CUE_DISABLE (R453): Cue instruction that drives RAIL_EN outputs low and removes rails from the watch. -/
def execCueDisable (s : State) : Host.Outcome State Fault Refusal := done (Sys2Proof.Machine.cueDisable s)

/-- CUE_WAIT_GOOD (R453): Cue instruction that waits for rails good, putting them under watch. -/
def execCueWaitGood (s : State) : Host.Outcome State Fault Refusal := done (Sys2Proof.Machine.cueWaitGood s)

/-- CUE_WAIT_GOOD_TIMEOUT (R453): WAIT_GOOD times out and the run fails with kind 0. -/
def execCueWaitGoodTimeout (s : State) : Host.Outcome State Fault Refusal := done (waitGoodTimeout s)

/-- CUE_WAIT_OFF (R453): Cue instruction that waits for rails off and discharged. -/
def execCueWaitOff (s : State) : Host.Outcome State Fault Refusal := done (Sys2Proof.Machine.cueWaitOff s)

/-- CUE_WAIT_OFF_TIMEOUT (R459): WAIT_OFF times out; rails stuck high are marked and the run continues. -/
def execCueWaitOffTimeout (s : State) : Host.Outcome State Fault Refusal := done (waitOffTimeout s)

/-- CUE_DELAY (R453): Cue instruction that waits a number of µs. -/
def execCueDelay (s : State) : Host.Outcome State Fault Refusal := done (Sys2Proof.Machine.cueDelay s)

/-- CUE_DELAY_EXPIRY (R453): A cue delay ends and the run continues. -/
def execCueDelayExpiry (s : State) : Host.Outcome State Fault Refusal := done (delayOver s)

/-- CUE_SIGNAL (R456): SIGNAL 0 marks the link rails off so the flush may start. -/
def execCueSignal (s : State) : Host.Outcome State Fault Refusal := done (Sys2Proof.Machine.cueSignal s)

/-- CUE_SKIP_IF (R453): Cue instruction that skips the next instruction on a condition. -/
def execCueSkipIf (s : State) : Host.Outcome State Fault Refusal := done (Sys2Proof.Machine.cueSkipIf s)

/-- CUE_END (R453): Cue instruction that ends the run with pass or fail, completing the program's effects. -/
def execCueEnd (s : State) : Host.Outcome State Fault Refusal := done (Sys2Proof.Machine.cueEnd s)

/-- DEPENDENCY_PASS (R458): One pass of a program derived from the dependency table enables or disables rails. -/
def execDependencyPass (s : State) : Host.Outcome State Fault Refusal := done (depStep s)

/-- BACKOFF_EXPIRY (R459): A power-up retry backoff window ends and the next attempt starts if supply is good. -/
def execBackoffExpiry (s : State) : Host.Outcome State Fault Refusal := done (backoffOver s)

/-- RESUME_RUN_RETRY (R457): After BACKOFF a failed resume run runs once more. -/
def execResumeRunRetry (s : State) : Host.Outcome State Fault Refusal := done (resumeAgain s)

/-- BUILT_IN_SEQUENCE_WAIT_END (R449): The built-in POWER_UP's wait of PG_TIMEOUT ticks ends, and the sequence completes without checking RAIL_PG. -/
def execBuiltInSequenceWaitEnd (s : State) : Host.Outcome State Fault Refusal := done (builtInOver s)

/-- CUE_MEM_DATA_READ (R482): Reads a cue memory word and advances WORD. -/
def execCueMemDataRead (p : Path) (s : State) : Host.Outcome State Fault Refusal := done (busRead s p F.CUE_MEM_DATA_DATA.idx)

end Sys2Proof.Machine
end

