-- ==== Sys2Proof/Machine/ExecDram.lean ====
section
/-! DEFINITION. The meanings of the commands: DRAM schedulers, integrity and PHY (chapters 07 to 09). -/

namespace Sys2Proof.Machine

/-- DRAM_REQUEST_ENQUEUE (R267): A request enters a subchannel queue, passing the remap lookup, and its age starts. -/
def execDramRequestEnqueue (c : Fin 4) (sub : Bool) (port : Nat) (s : State) : Host.Outcome State Fault Refusal := done (requestEnqueue s c sub port)

/-- DRAM_COMMAND_ISSUE (R268): The scheduler issues the first permitted command by level, row state and age. -/
def execDramCommandIssue (c : Fin 4) (sub : Bool) (bar : TimingBar) (pullIn : Bool) (s : State) : Host.Outcome State Fault Refusal := done (commandIssue s c sub bar.requests bar.due pullIn)

/-- AGE_LIMIT_EXPIRY (R269): A request passes its class age limit and becomes promoted. -/
def execAgeLimitExpiry (c : Fin 4) (sub : Bool) (s : State) : Host.Outcome State Fault Refusal := done (ageExpiry s c sub)

/-- REFRESH_INTERVAL (R282): Each refresh interval adds one to the rank's owed count. -/
def execRefreshInterval (c : Fin 4) (sub : Bool) (rank : Nat) (s : State) : Host.Outcome State Fault Refusal := done (refreshTick s c sub rank)

/-- ROW_IDLE_CLOSE (R281): An open row with no queued request is closed after IDLE_CLOSE clocks. -/
def execRowIdleClose (c : Fin 4) (sub : Bool) (bank : Nat) (s : State) : Host.Outcome State Fault Refusal := done (Sys2Proof.Machine.rowIdleClose s c sub bank)

/-- RANK_POWER_DOWN (R287): A rank idle for PD_TIMER clocks enters power-down. -/
def execRankPowerDown (c : Fin 4) (sub : Bool) (rank : Nat) (s : State) : Host.Outcome State Fault Refusal := done (Sys2Proof.Machine.rankPowerDown s c sub rank)

/-- IDLE_SELF_REFRESH (R288): A subchannel idle for SR_IDLE_US begins the self-refresh entry sequence. -/
def execIdleSelfRefresh (c : Fin 4) (sub : Bool) (s : State) : Host.Outcome State Fault Refusal := done (Sys2Proof.Machine.idleSelfRefresh s c sub)

/-- SELF_REFRESH_EXIT (R292): After minimum residency the exit is issued, followed after tXS by an all-bank refresh; owed count is set to 0. -/
def execSelfRefreshExit (c : Fin 4) (sub : Bool) (s : State) : Host.Outcome State Fault Refusal := done (Sys2Proof.Machine.selfRefreshExit s c sub)

/-- SELF_REFRESH_MAX_EXIT (R289): Held class 4 requests force an exit after SR_MAX_MS. -/
def execSelfRefreshMaxExit (c : Fin 4) (sub : Bool) (s : State) : Host.Outcome State Fault Refusal := done (selfRefreshMax s c sub)

/-- DRAM_READ_COMPLETE (R311): A line read is decoded to clean, corrected, poisoned or uncorrectable and passed to its requester. -/
def execDramReadComplete (c : Fin 4) (sub : Bool) (raw : LineErrs) (s : State) : Host.Outcome State Fault Refusal := done (dramReadDone s c sub raw)

/-- REMAP_COPY_DONE (R330): The spare write is queued; the entry becomes valid and waiting requests go to the spare. -/
def execRemapCopyDone (entry : Nat) (s : State) : Host.Outcome State Fault Refusal := done (remapDone s entry)

/-- SCRUB_INTERVAL (R320): Each scrub interval queues one class 4 read per subchannel. -/
def execScrubInterval (c : Fin 4) (s : State) : Host.Outcome State Fault Refusal := done (scrubTick s c)

/-- REFRESH_WINDOW (R324): Every 32 ms the activation tables and spillover counters are cleared. -/
def execRefreshWindow (c : Fin 4) (s : State) : Host.Outcome State Fault Refusal := done (Sys2Proof.Machine.refreshWindow s c)

/-- DC_INJECT_ARM (R318): A write arming DC_INJECT corrupts one future line write if allowed. -/
def execDcInjectArm (p : Path) (c : Fin 4) (w : Word) (s : State) : Host.Outcome State Fault Refusal := done (regArm s p (F.DC_INJECT_ARM c.val) w)

/-- DC_ERR_CAPTURE_READ (R340): A read returns and removes the oldest error record. -/
def execDcErrCaptureRead (p : Path) (c : Fin 4) (s : State) : Host.Outcome State Fault Refusal := done (busRead s p (F.DC_ERR_CAPTURE_LINE c.val).idx)

/-- SCRUB_POSITION_WRITE (R322): A write to DC_SCRUB_STATUS.POSITION moves the next line to scrub. -/
def execScrubPositionWrite (p : Path) (c : Fin 4) (w : Word) (s : State) : Host.Outcome State Fault Refusal := done (regWord s p (F.DC_SCRUB_STATUS_POSITION c.val).idx w)

/-- DC_DLY_DATA_WRITE (R355): A delay write takes effect at once, or at the rank's next refresh when staged. -/
def execDcDlyDataWrite (p : Path) (c : Fin 4) (w : Word) (s : State) : Host.Outcome State Fault Refusal := done (regWord s p (F.DC_DLY_DATA_TAPS c.val).idx w)

/-- DC_DLY_DATA_READ (R648): A delay read advances the lane when AUTO_INC is 1. -/
def execDcDlyDataRead (p : Path) (c : Fin 4) (s : State) : Host.Outcome State Fault Refusal := done (busRead s p (F.DC_DLY_DATA_TAPS c.val).idx)

/-- DC_TRN_CTRL_START (R357): One training pattern operation runs on the selected subchannel and rank. -/
def execDcTrnCtrlStart (p : Path) (c : Fin 4) (w : Word) (s : State) : Host.Outcome State Fault Refusal := done (regArm s p (F.DC_TRN_CTRL_START c.val) w)

/-- TRAINING_RUN_DONE (R357): The pattern check ends and fail lanes, errors and DONE are set. -/
def execTrainingRunDone (c : Fin 4) (lanes : BitVec 40) (errors : Nat) (s : State) : Host.Outcome State Fault Refusal := done (trainEnd s c lanes errors)

/-- DRIFT_TRACKING (R363): Every 328 ticks firmware reads each rank's DQS oscillator and MR4 and stages a delay correction. -/
def execDriftTracking (reads : List DriftRead) (s : State) : Host.Outcome State Fault Refusal := done (driftWindow s reads)

/-- I3C_TRANSFER (R365): A write of GO runs a local-bus transfer. -/
def execI3cTransfer (p : Path) (w : Word) (s : State) : Host.Outcome State Fault Refusal := done (regArm s p F.DC_I3C_CMD_GO w)

/-- I3C_TRANSFER_DONE (R370): A local-bus transfer ends with done, no acknowledge or timeout. -/
def execI3cTransferDone (result : Nat) (data : Word) (s : State) : Host.Outcome State Fault Refusal := done (i3cEnd s result data)

/-- DRAM_SENSOR_POLL (R367): Every 100 ms the house core reads the DRAM temperature sensors and publishes the maximum. -/
def execDramSensorPoll (reads : List (Nat × Option Nat)) (s : State) : Host.Outcome State Fault Refusal := done (sensorWindow s reads)

end Sys2Proof.Machine
end

