-- ==== Sys2Proof/Machine/Micro.lean ====
section
/-! DEFINITION. The instructions of the flash micro-programs (R219 to R225): each acts where the channel's executing run stands at one of its opcode. -/

namespace Sys2Proof.Machine

/-- An instruction executes where the channel's run stands at one of that opcode. -/
def mpDo (s : State) (c op : Nat) (f : State → MpRun → Nat → State) : State :=
  match mpAt s c op with
  | some (r, w) => f s r w
  | none => s
/-- A cycle on the channel's bus, and the run goes on. -/
def mpCycle (s : State) (c : Nat) (r : MpRun) (kind : Nat) (bs : List Byte) : State := mpSet (emit s (.flashCycle c kind bs)) c (mpNext r)
/-- A run taken off its channel. -/
def mpDrop (s : State) (c : Nat) (r : MpRun) : State :=
  setFch s c { fch s c with runs := (fch s c).runs.filter (fun q => !(q.tag == r.tag && q.entry == r.entry && q.soft == r.soft)) }
/-- The command a run carries out. -/
def mpOp (s : State) (c : Nat) (r : MpRun) : Option FlashOp := (fch s c).ops.find? (fun o => o.tag == r.tag)
/-- A run ends in failure: recorded, and reported as a failure of its operation (R223). -/
def mpFail (s : State) (c : Nat) (r : MpRun) (code : Nat) : State :=
  let s := mpFailed s c r code
  match mpOp s c r with
  | some o => commandFails (flashDrop s c r.tag) r.stage c o false
  | none => if r.tag = initTag then initFails s r.stage c else mpDrop s c r
/-- A run ends with pass: the end of a RESET puts its tag into service again (R225); the status of a program, read or erase comes for itself (R683). -/
def mpPass (s : State) (c : Nat) (r : MpRun) : State :=
  match mpOp s c r with
  | some o => match o.act with
    | .reset t redo => resetDone (flashDrop s c r.tag) r.stage c t redo
    | _ => mpDrop s c r
  | none => mpDrop s c r
/-- The bytes of a page under program: its codewords, whose parity is free, and the filling of R216. -/
def pageBytes (s : State) (slots : List Placed) : List Byte × State :=
  let (bs, s) := slots.foldl (fun (a : List Byte × State) p =>
    let (par, s) := freshBytes a.2 464
    (a.1 ++ p.cw.body ++ p.cw.header ++ p.cw.tag ++ par, s)) ([], s)
  (bs ++ List.replicate (18432 - bs.length) 0xA5#8, s)

/-- CMD. -/
def mpCmd (s : State) (c : Nat) : State := mpDo s c 0x01 (fun s r w => mpCycle s c r 1 (leBytes 1 w))
/-- ADDR. -/
def mpAddrOp (s : State) (c : Nat) : State := mpDo s c 0x02 (fun s r w => mpCycle s c r 2 (mpAddr r w))
/-- DIN: the page buffer holds the page under program. -/
def mpDin (s : State) (c : Nat) : State :=
  mpDo s c 0x03 (fun s r w =>
    let n := bits w 3 21
    if bits w 0 3 ≠ 0 then mpCycle s c r 3 ((fch s c).featureBuf.take n)
    else match (mpOp s c r).map FlashOp.act with
      | some (.program slots _) =>
        let (bs, s) := pageBytes s slots
        mpCycle s c r 3 (bs.take n)
      | _ => mpCycle s c r 3 ((fch s c).pageBuf.take n))
/-- DOUT: `bs` is what the NAND answers. -/
def mpDout (s : State) (c : Nat) (bs : List Byte) : State :=
  mpDo s c 0x04 (fun s r w =>
    let got := bs.take (bits w 3 21)
    let x := fch s c
    let s := setFch s c (if bits w 0 3 = 0 then { x with pageBuf := got } else { x with featureBuf := got })
    mpCycle s c r 4 [])
/-- WAIT_RDY. -/
def mpWaitRdy (s : State) (c : Nat) : State :=
  mpDo s c 0x05 (fun s r w => mpSet s c { r with wait := .ready (s.now + nsUnits (100 * bits w 0 24)) })
/-- A WAIT_RDY times out: failure code 0x01. -/
def mpWaitTimeout (s : State) (c : Nat) : State :=
  match (fch s c).runs.findSome? (fun r => match r.wait with
    | .ready t => some (r, t)
    | _ => none) with
  | some (r, t) => mpFail (until_ s t) c r 1
  | none => s
/-- DELAY. -/
def mpDelay (s : State) (c : Nat) : State :=
  mpDo s c 0x06 (fun s r w => mpSet s c { r with wait := .delay (s.now + nsUnits (bits w 0 24)) })
/-- A DELAY ends. -/
def mpDelayOver (s : State) (c : Nat) : State :=
  match (fch s c).runs.findSome? (fun r => match r.wait with
    | .delay t => some (r, t)
    | _ => none) with
  | some (r, t) => mpSet (until_ s t) c (mpNext r)
  | none => s
/-- STATUS: `status` is the byte the NAND answers. -/
def mpStatus (s : State) (c status : Nat) : State :=
  mpDo s c 0x07 (fun s r w => mpCycle s c { r with status := status % 256 } 7 (leBytes 1 w))
/-- BRANCH. -/
def mpBranch (s : State) (c : Nat) : State :=
  mpDo s c 0x08 (fun s r w =>
    let eq := r.status &&& bits w 0 8 == bits w 8 8
    mpSet s c (if eq != bitOf w 28 then mpJump s r (bits w 16 12) else mpNext r))
/-- SETFEAT. -/
def mpSetfeat (s : State) (c : Nat) : State :=
  mpDo s c 0x09 (fun s r w => mpCycle s c r 9 (leBytes 1 w ++ leBytes 4 (w / 256)))
/-- LOOP: the counter starts at its operand; the spec gives no result for one that starts at 0. -/
def mpLoop (s : State) (c : Nat) : State :=
  mpDo s c 0x0A (fun s r w =>
    let k := (mpWord s r).1
    let now := (mfind r.loops k).getD (bits w 0 8)
    let (left, s) := if now = 0 then (fun q : Nat × State => (q.1 % 256, q.2)) (fresh s) else (now - 1, s)
    mpSet s c (if left = 0 then mpNext { r with loops := mdel r.loops k } else mpJump s { r with loops := mput r.loops k left } (bits w 8 12)))
/-- END. -/
def mpEnd (s : State) (c : Nat) : State :=
  mpDo s c 0x0B (fun s r w => if bitOf w 0 then mpPass s c r else mpFail s c r (bits w 1 8))
/-- A run exceeds CMD_TIMEOUT_US: the command of the oldest run is abandoned (R222, R225). -/
def mpRunTimeout (s : State) (c : Nat) : State :=
  match (fch s c).runs.head? with
  | some r => if r.tag = initTag then initFails s r.stage c else commandAbandon s c r.tag
  | none => s
/-- A LUN reports ready: the run that waits for it goes on (R221). -/
def mpReady (s : State) (lun : Nat) : State :=
  let c := lunCh lun
  match (fch s c).runs.find? (fun r => r.lun == lun && (match r.wait with
    | .ready _ => true
    | _ => false)) with
  | some r => mpSet s c (mpNext r)
  | none => s

/-! Training of a flash channel (R212, R406). -/

/-- A lane's self-test, once at each transition from Dark to Standby (R406): a lane that fails is marked, event 0x705. -/
def laneSelfTest (s : State) (c : Nat) (ok : Bool) : State :=
  if s.cipher.laneDue.getLsbD c = false then s
  else
    let s := { s with cipher := { s.cipher with laneDue := s.cipher.laneDue &&& ~~~(BitVec.ofNat 16 (2 ^ c)) } }
    if ok then s else event (wr s F.CIPH_STATUS_LANE_FAILED (rd s F.CIPH_STATUS_LANE_FAILED ||| 2 ^ c)) 0x705 2 ((flashStage s c).elim 0 (·.val)) c
/-- An enabled channel's lane is tested where its self-test is due, and the channel trains while its stage is Dressing; the channel of a lane that has failed is lost as one that trains at no rate (R212, R406). -/
def flashTrain (s : State) (c : Nat) (reach : Option Nat) (readId : Word) (laneOk : Bool) : State :=
  if rdb s (F.FL_CH_CFG_ENABLE c) = false ∨ c > 15 then s
  else
    let due := s.cipher.laneDue.getLsbD c
    let s := laneSelfTest s c laneOk
    let failed := bitOf (rd s F.CIPH_STATUS_LANE_FAILED) c
    let dresses := (flashStage s c).elim false (fun n => stageSt s n == .dressing)
    if dresses then (if failed then chTrain s c none ((flashStage s c).elim 0#48 (fun n => (microOf s n).getD 1 0#48)) else chTrain s c reach readId)
    else if due && failed then chLose s c
    else s

end Sys2Proof.Machine
end

