-- ==== Sys2Proof/Machine/ExecFlash.lean ====
section
/-! DEFINITION. The meanings of the commands: flash channels, micro-programs and cipher lanes (chapters 06, 11). -/

namespace Sys2Proof.Machine

/-- PAGE_PROGRAM_ISSUE (R683): A page of the open band is programmed once its four slots are filled or no further codeword is ready, and its LUN is free. -/
def execPageProgramIssue (lun : Nat) (s : State) : Host.Outcome State Fault Refusal := done (onLun s lun (fun s n => programTurn s n lun))

/-- PAGE_PROGRAM_STATUS (R683): A page program's pass or fail status arrives and every codeword of the page completes or fails on it. -/
def execPageProgramStatus (ch tag epoch : Nat) (pass : Bool) (pct : Nat) (s : State) : Host.Outcome State Fault Refusal := done (programStatus s ch tag epoch pass pct)

/-- PAGE_READ_ISSUE (R179): A restore, touch, strike or record read of a codeword is issued on its LUN. -/
def execPageReadIssue (lun : Nat) (s : State) : Host.Outcome State Fault Refusal := done (onLun s lun (fun s n => readIssueLun s n lun))

/-- PAGE_READ_COMPLETE (R230): A page read returns; the codeword is LDPC-decoded, or the next retry or soft read step is issued. -/
def execPageReadComplete (ch tag epoch : Nat) (ok : Bool) (iters : Nat) (s : State) : Host.Outcome State Fault Refusal := done (readStatus s ch tag epoch ok iters)

/-- COMMAND_TIMEOUT (R225): A flash command with no completion is abandoned, its LUN is reset and the command is reissued or failed. -/
def execCommandTimeout (ch tag : Nat) (s : State) : Host.Outcome State Fault Refusal := done (commandAbandon s ch tag)

/-- BLOCK_ERASE_COMPLETE (R252): A block erase ends; an erase failure marks the block bad, and the wear table is written every 1,024 erases. -/
def execBlockEraseComplete (ch tag epoch : Nat) (pass : Bool) (s : State) : Host.Outcome State Fault Refusal := done (eraseStatus s ch tag epoch pass)

/-- FLASH_CHANNEL_TRAINING (R212): A channel trains at its rate or steps down, or is marked lost. -/
def execFlashChannelTraining (ch : Nat) (reach : Option Nat) (readId : Word) (laneOk : Bool) (s : State) : Host.Outcome State Fault Refusal := done (flashTrain s ch reach readId laneOk)

/-- STRIKE_RELOCATION (R246): Strike relays a live frame copy into the open band, updates the map and appends a relocation entry. -/
def execStrikeRelocation (n : Fin 4) (s : State) : Host.Outcome State Fault Refusal := done (whenS (mainOn s) (fun s => strikeStep s n) s)

/-- MAP_CHECKPOINT_DUE (R239): After 64 GiB of trickle or 600 s a background map checkpoint begins. -/
def execMapCheckpointDue (n : Fin 4) (s : State) : Host.Outcome State Fault Refusal := done (ckptWindow s n)

/-- FL_INJECT_ARM (R231): A write arming FL_INJECT corrupts one future codeword, and is ignored on the program path outside Dressing. -/
def execFlInjectArm (p : Path) (w : Word) (s : State) : Host.Outcome State Fault Refusal := done (regArm s p F.FL_INJECT_ARM w)

/-- MP_CMD (R221): Micro-program instruction that issues a command cycle. -/
def execMpCmd (ch : Nat) (s : State) : Host.Outcome State Fault Refusal := done (Sys2Proof.Machine.mpCmd s ch)

/-- MP_ADDR (R221): Micro-program instruction that issues address cycles from the chosen source. -/
def execMpAddr (ch : Nat) (s : State) : Host.Outcome State Fault Refusal := done (mpAddrOp s ch)

/-- MP_DIN (R221): Micro-program instruction that writes bytes from a buffer to the NAND. -/
def execMpDin (ch : Nat) (s : State) : Host.Outcome State Fault Refusal := done (Sys2Proof.Machine.mpDin s ch)

/-- MP_DOUT (R221): Micro-program instruction that reads bytes into a buffer. -/
def execMpDout (ch : Nat) (bytes : List Byte) (s : State) : Host.Outcome State Fault Refusal := done (Sys2Proof.Machine.mpDout s ch bytes)

/-- MP_WAIT_RDY (R221): Micro-program instruction that waits for ready. -/
def execMpWaitRdy (ch : Nat) (s : State) : Host.Outcome State Fault Refusal := done (Sys2Proof.Machine.mpWaitRdy s ch)

/-- MP_WAIT_RDY_TIMEOUT (R221): The ready wait times out and the run ends with failure code 0x01. -/
def execMpWaitRdyTimeout (ch : Nat) (s : State) : Host.Outcome State Fault Refusal := done (mpWaitTimeout s ch)

/-- MP_DELAY (R221): Micro-program instruction that waits a number of ns. -/
def execMpDelay (ch : Nat) (s : State) : Host.Outcome State Fault Refusal := done (Sys2Proof.Machine.mpDelay s ch)

/-- MP_DELAY_EXPIRY (R221): A micro-program delay ends and the run continues. -/
def execMpDelayExpiry (ch : Nat) (s : State) : Host.Outcome State Fault Refusal := done (mpDelayOver s ch)

/-- MP_STATUS (R221): Micro-program instruction that issues a status command and latches the byte. -/
def execMpStatus (ch status : Nat) (s : State) : Host.Outcome State Fault Refusal := done (Sys2Proof.Machine.mpStatus s ch status)

/-- MP_BRANCH (R221): Micro-program instruction that jumps on a status comparison. -/
def execMpBranch (ch : Nat) (s : State) : Host.Outcome State Fault Refusal := done (Sys2Proof.Machine.mpBranch s ch)

/-- MP_SETFEAT (R221): Micro-program instruction that issues Set Features with four parameter bytes. -/
def execMpSetfeat (ch : Nat) (s : State) : Host.Outcome State Fault Refusal := done (Sys2Proof.Machine.mpSetfeat s ch)

/-- MP_LOOP (R221): Micro-program instruction that decrements a loop counter and jumps while it is non-zero. -/
def execMpLoop (ch : Nat) (s : State) : Host.Outcome State Fault Refusal := done (Sys2Proof.Machine.mpLoop s ch)

/-- MP_END (R223): Micro-program instruction that ends the run, reporting a failure to the issuing engine. -/
def execMpEnd (ch : Nat) (s : State) : Host.Outcome State Fault Refusal := done (Sys2Proof.Machine.mpEnd s ch)

/-- MP_RUN_TIMEOUT (R222): A micro-program run exceeding CMD_TIMEOUT_US is abandoned. -/
def execMpRunTimeout (ch : Nat) (s : State) : Host.Outcome State Fault Refusal := done (Sys2Proof.Machine.mpRunTimeout s ch)

/-- LUN_READY (R221): A NAND LUN reports ready, which ends a micro-program WAIT_RDY so that the run continues. -/
def execLunReady (lun : Nat) (s : State) : Host.Outcome State Fault Refusal := done (mpReady s lun)

/-- LANE_ENCRYPT (R402): A lane encrypts one codeword with the stage media key. -/
def execLaneEncrypt (ch : Nat) (s : State) : Host.Outcome State Fault Refusal := done (Sys2Proof.Machine.laneEncrypt s ch)

/-- LANE_DECRYPT (R403): A lane decrypts and releases plaintext only on a tag match. -/
def execLaneDecrypt (ch : Nat) (s : State) : Host.Outcome State Fault Refusal := done (Sys2Proof.Machine.laneDecrypt s ch)

/-- LANE_RELAY (R404): A lane checks a relocated codeword's tag and passes it on unchanged. -/
def execLaneRelay (ch : Nat) (s : State) : Host.Outcome State Fault Refusal := done (Sys2Proof.Machine.laneRelay s ch)

/-- CIPH_LANE_TEST_ARM (R407): Arms a tag-inverted check of the next Decrypt or Relay on a lane. -/
def execCiphLaneTestArm (p : Path) (w : Word) (s : State) : Host.Outcome State Fault Refusal := done (regArm s p F.CIPH_LANE_TEST_ARM w)

end Sys2Proof.Machine
end

