-- ==== Sys2Proof/Machine/ExecGauge.lean ====
section
/-! DEFINITION. The meanings of the commands: the battery gauge (chapter 13). -/

namespace Sys2Proof.Machine

/-- GAUGE_CONVERSION (R485): Each tick the sense and BAT_V are converted and current enters the charge count. -/
def execGaugeConversion (senseNv : Int) (batUv : Nat) (s : State) : Host.Outcome State Fault Refusal := done (conversionTick s senseNv batUv)

/-- BATTERY_PRESENT (R491): 33 low samples of BAT_PRES_N; the gauge becomes unanchored with learned capacity reset. -/
def execBatteryPresent (s : State) : Host.Outcome State Fault Refusal := done (batteryIn s)

/-- BATTERY_ABSENT (R486): 33 high samples of BAT_PRES_N; cap limit 2 and event 0x909. -/
def execBatteryAbsent (s : State) : Host.Outcome State Fault Refusal := done (batteryOut s)

/-- BATTERY_FAULT (R487): A fault cause held for 33 ticks enters the fault. -/
def execBatteryFault (cause : Nat) (s : State) : Host.Outcome State Fault Refusal := done (faultIn s cause)

/-- BATTERY_FAULT_CLEARED (R487): A fault cause absent for 32,768 ticks ends. -/
def execBatteryFaultCleared (cause : Nat) (s : State) : Host.Outcome State Fault Refusal := done (faultOut s cause)

/-- GAUGE_UPDATE (R488): Each update window the state of charge, anchors, uncertainty and flags are computed and published. -/
def execGaugeUpdate (s : State) : Host.Outcome State Fault Refusal := done (updateWindow s)

/-- CHG_DONE_EDGE (R489): A rising edge of CHG_DONE is registered for the next update, or ignored with CHG_EN low. -/
def execChgDoneEdge (high : Bool) (s : State) : Host.Outcome State Fault Refusal := done (Sys2Proof.Machine.chgDoneEdge s high)

/-- NEW_PACK (R491): A write of GAUGE_CTRL.NEW_PACK makes the gauge unanchored. -/
def execNewPack (p : Path) (s : State) : Host.Outcome State Fault Refusal := done (regField s p F.GAUGE_CTRL_NEW_PACK 1)

/-- REHEARSAL_TIMEOUT (R502): MAX_MIN minutes after the charge leg began, the rehearsal ends with reason 5. -/
def execRehearsalTimeout (s : State) : Host.Outcome State Fault Refusal := done (rehTimeout s)

end Sys2Proof.Machine
end

