-- ==== Sys2Proof/Machine/ExecHost.lean ====
section
/-! DEFINITION. The meanings of the commands: mailbox commands of the host (chapter 10). -/

namespace Sys2Proof.Machine

/-- GET_HEALTH_INFO (R387): Reports Health Status, Media Status, Life Used, temperature, error counts and Dirty Shutdown Count. -/
def execGetHealthInfo (port ld : Nat) (s : State) : Host.Outcome State Fault Refusal := done (getHealth s port ld)

/-- GET_ALERT_CONFIGURATION (R388): Returns the alert thresholds. -/
def execGetAlertConfiguration (port ld : Nat) (s : State) : Host.Outcome State Fault Refusal := done (getAlerts s port ld)

/-- SET_ALERT_CONFIGURATION (R388): Sets warning thresholds for Life Used, temperature and corrected errors. -/
def execSetAlertConfiguration (port ld : Nat) (life temp errors : Option Nat) (s : State) : Host.Outcome State Fault Refusal := done (setAlerts s port ld life temp errors)

/-- GET_SHUTDOWN_STATE (R386): Returns the stored shutdown state. -/
def execGetShutdownState (port ld : Nat) (s : State) : Host.Outcome State Fault Refusal := done (getShutdown s port ld)

/-- SET_SHUTDOWN_STATE (R386): Stores the shutdown state per stage without changing behaviour. -/
def execSetShutdownState (port ld : Nat) (dirty : Nat) (s : State) : Host.Outcome State Fault Refusal := done (setShutdown s port ld dirty)

/-- GET_POISON_LIST (R389): Returns the stage's poison list. -/
def execGetPoisonList (port ld : Nat) (addr len : Nat) (s : State) : Host.Outcome State Fault Refusal := done (getPoison s port ld addr len)

/-- INJECT_POISON (R390): Stores the poison pattern in one line as a host write. -/
def execInjectPoison (port ld : Nat) (addr : Nat) (s : State) : Host.Outcome State Fault Refusal := done (poisonCommand s port ld addr 0#512 false)

/-- CLEAR_POISON (R390): Writes 64 supplied bytes to a line and removes its poison-list entry. -/
def execClearPoison (port ld : Nat) (addr : Nat) (data : BitVec 512) (s : State) : Host.Outcome State Fault Refusal := done (poisonCommand s port ld addr data true)

/-- SCAN_MEDIA (R391): Background read of a DPA range listing uncorrectable or poisoned lines. -/
def execScanMedia (port ld : Nat) (addr len : Nat) (s : State) : Host.Outcome State Fault Refusal := done (Sys2Proof.Machine.scanMedia s port ld addr len)

/-- GET_SCAN_MEDIA_RESULTS (R391): Returns the scan results. -/
def execGetScanMediaResults (port ld : Nat) (s : State) : Host.Outcome State Fault Refusal := done (scanResults s port ld)

/-- SECURE_ERASE (R392): Seals the stage if Live, crypto-erases, erases seal logs, makes a new key and zeroes DRAM. -/
def execSecureErase (port ld : Nat) (s : State) : Host.Outcome State Fault Refusal := done (eraseCommand s port ld false)

/-- SANITIZE (R392): As Secure Erase, but every block of the flash set is erased. -/
def execSanitize (port ld : Nat) (s : State) : Host.Outcome State Fault Refusal := done (eraseCommand s port ld true)

/-- GET_LSA (R394): Returns label storage area contents. -/
def execGetLsa (port ld : Nat) (offset len : Nat) (s : State) : Host.Outcome State Fault Refusal := done (Sys2Proof.Machine.getLsa s port ld offset len)

/-- SET_LSA (R394): Writes the alternate LSA copy and its valid mark last. -/
def execSetLsa (port ld : Nat) (offset : Nat) (data : List Byte) (s : State) : Host.Outcome State Fault Refusal := done (Sys2Proof.Machine.setLsa s port ld offset data)

/-- SET_PARTITION_INFO (R372): Completes with Unsupported. -/
def execSetPartitionInfo (port ld : Nat) (s : State) : Host.Outcome State Fault Refusal := done (unsupported s port ld)

/-- GET_LD_INFO (R374): Reports the fixed LD allocation. -/
def execGetLdInfo (port ld : Nat) (s : State) : Host.Outcome State Fault Refusal := done (ldInfo s port ld)

/-- GET_LD_ALLOCATIONS (R374): Reports the stage-to-LD-ID allocation. -/
def execGetLdAllocations (port ld : Nat) (s : State) : Host.Outcome State Fault Refusal := done (ldAllocations s port ld)

/-- SET_LD_ALLOCATIONS (R374): Completes with Unsupported. -/
def execSetLdAllocations (port ld : Nat) (s : State) : Host.Outcome State Fault Refusal := done (unsupported s port ld)

/-- GET_TIMESTAMP (R372): Returns the timestamp. -/
def execGetTimestamp (port ld : Nat) (s : State) : Host.Outcome State Fault Refusal := done (Sys2Proof.Machine.getTimestamp s port ld)

/-- SET_TIMESTAMP (R372): Sets the timestamp. -/
def execSetTimestamp (port ld : Nat) (time : Nat) (s : State) : Host.Outcome State Fault Refusal := done (Sys2Proof.Machine.setTimestamp s port ld time)

/-- SET_EVENT_INTERRUPT_POLICY (R395): Sets the event interrupt policy of the CXL event logs. -/
def execSetEventInterruptPolicy (port ld : Nat) (policy : Nat) (s : State) : Host.Outcome State Fault Refusal := done (setPolicy s port ld policy)

/-- CLEAR_EVENT_RECORDS (R395): The host clears records from a logical device's Informational, Warning, Failure or Fatal event log, freeing room and its overflow state. -/
def execClearEventRecords (port ld : Nat) (log : Nat) (all : Bool) (handles : List Nat) (s : State) : Host.Outcome State Fault Refusal := done (clearEvents s port ld log all handles)

/-- GET_FW_INFO (R396): Reports firmware slots A and B. -/
def execGetFwInfo (port ld : Nat) (s : State) : Host.Outcome State Fault Refusal := done (fwInfo s port ld)

/-- TRANSFER_FW (R583): Writes a part of a firmware container into the inactive slot; the last part starts the checks. -/
def execTransferFw (port ld : Nat) (action slot offset : Nat) (data : List Byte) (s : State) : Host.Outcome State Fault Refusal := done (Sys2Proof.Machine.transferFw s port ld action slot offset data)

/-- ACTIVATE_FW_OFFLINE (R585): Activates a slot to take effect at the next transition from Dark to Standby. -/
def execActivateFwOffline (port ld : Nat) (slot : Nat) (s : State) : Host.Outcome State Fault Refusal := done (activateFw s port ld slot false)

/-- ACTIVATE_FW_ONLINE (R586): Activates a slot and starts the understudy handover series. -/
def execActivateFwOnline (port ld : Nat) (slot : Nat) (s : State) : Host.Outcome State Fault Refusal := done (activateFw s port ld slot true)

/-- GET_STAGE_STATUS (R399): Returns the stage's state, generations, residue, caps and flags. -/
def execGetStageStatus (port ld : Nat) (s : State) : Host.Outcome State Fault Refusal := done (stageStatus s port ld)

/-- SET_RESIDUE_CAP (R399): Writes LDG_DEV_CAP.CAP_MIB and returns the derived cap. -/
def execSetResidueCap (port ld : Nat) (mib : Nat) (s : State) : Host.Outcome State Fault Refusal := done (residueCap s port ld mib)

/-- PLANNED_SAVE (R399): Completes Success and registers a gate instant of cause 0x09 on the next clock. -/
def execPlannedSave (port ld : Nat) (action resv : Nat) (s : State) : Host.Outcome State Fault Refusal := done (Sys2Proof.Machine.plannedSave s port ld action resv)

/-- GET_GAUGE_REPORT (R399): Returns the gauge quantities and flags. -/
def execGetGaugeReport (port ld : Nat) (s : State) : Host.Outcome State Fault Refusal := done (gaugeReport s port ld)

/-- START_REHEARSAL (R502): Starts a rehearsal or asks the stage manager for a grant. -/
def execStartRehearsal (port ld : Nat) (op : Nat) (s : State) : Host.Outcome State Fault Refusal := done (rehearsalCommand s port ld op)

/-- CANCEL_REHEARSAL (R502): Cancels an active or pending rehearsal (OP 2). -/
def execCancelRehearsal (port ld : Nat) (s : State) : Host.Outcome State Fault Refusal := done (rehearsalCommand s port ld 2)

/-- READ_PROMPT_BOOK (R399): Returns records from the ring or the script-store area from FROM_SEQ. -/
def execReadPromptBook (port ld : Nat) (fromSeq area resv max : Nat) (s : State) : Host.Outcome State Fault Refusal := done (readBook s port ld fromSeq area resv max)

/-- CLEAR_PROMPT_BOOK (R636): Clears the records up to UP_TO_SEQ in the selected areas. -/
def execClearPromptBook (port ld : Nat) (areas resv upTo : Nat) (s : State) : Host.Outcome State Fault Refusal := done (clearBookCommand s port ld areas resv upTo)

/-- GET_BLOCK_WEAR (R399): Returns wear-table entries for a LUN. -/
def execGetBlockWear (port ld : Nat) (lun resv first max : Nat) (s : State) : Host.Outcome State Fault Refusal := done (blockWear s port ld lun resv first max)

/-- LOAD_IMAGE_SECTION (R399): Stages one part of a container; the last part starts the checks. -/
def execLoadImageSection (port ld : Nat) (offset : Nat) (first last : Bool) (resv : Nat) (data : List Byte) (s : State) : Host.Outcome State Fault Refusal := done (imageSection s port ld offset first last resv data)

/-- LOAD_IMAGE_SECTION_ABORT (R399): FLAGS bit 2 discards the staged section. -/
def execLoadImageSectionAbort (port ld : Nat) (resv : Nat) (s : State) : Host.Outcome State Fault Refusal := done (imageSectionAbort s port ld resv)

/-- APPLY_STAGE_SECTION (R531): Requests a re-dress of the named stage with the staged section. -/
def execApplyStageSection (port ld : Nat) (stage resv : Nat) (s : State) : Host.Outcome State Fault Refusal := done (applySection s port ld stage resv false)

/-- APPLY_STAGE_SECTION_UNBIND (R532): Requests an unbind of the named stage (OP 1). -/
def execApplyStageSectionUnbind (port ld : Nat) (stage resv : Nat) (s : State) : Host.Outcome State Fault Refusal := done (applySection s port ld stage resv true)

/-- ATTEST (R430): Signs the nonce and report with the next attestation leaf. -/
def execAttest (port ld : Nat) (nonce : List Byte) (s : State) : Host.Outcome State Fault Refusal := done (attestCommand s port ld nonce)

/-- GET_HEAT_STATISTICS (R399): Returns ranked heat-region entries. -/
def execGetHeatStatistics (port ld : Nat) (first max : Nat) (s : State) : Host.Outcome State Fault Refusal := done (heatStatistics s port ld first max)

/-- USER_AREA_READ (R399): Script Store User Area Access read of up to 2,048 words. -/
def execUserAreaRead (port ld : Nat) (resv count word : Nat) (s : State) : Host.Outcome State Fault Refusal := done (userRead s port ld resv count word)

/-- USER_AREA_PROGRAM (R399): Script Store User Area Access program of up to 2,729 words. -/
def execUserAreaProgram (port ld : Nat) (resv word : Nat) (data : List Word) (s : State) : Host.Outcome State Fault Refusal := done (userProgram s port ld resv word data)

/-- USER_AREA_ERASE_SECTOR (R399): Script Store User Area Access background erase of a sector. -/
def execUserAreaEraseSector (port ld : Nat) (resv word : Nat) (s : State) : Host.Outcome State Fault Refusal := done (userErase s port ld resv word)

/-- USER_AREA_SECTOR_STATUS (R399): Script Store User Area Access returns a sector's status and erase count. -/
def execUserAreaSectorStatus (port ld : Nat) (resv word : Nat) (s : State) : Host.Outcome State Fault Refusal := done (userStatus s port ld resv word)

/-- INTERMISSION_RESUME (R202): Resumes each named stage that waits under MANUAL_RESUME. -/
def execIntermissionResume (port ld : Nat) (mask : Nat) (s : State) : Host.Outcome State Fault Refusal := done (interResumeCommand s port ld mask)

/-- GET_POWER_REPORT (R399): Returns the mode, rails, monitors, power estimate and last save. -/
def execGetPowerReport (port ld : Nat) (s : State) : Host.Outcome State Fault Refusal := done (powerReport s port ld)

end Sys2Proof.Machine
end

