-- ==== Sys2Proof/Machine/ExecLink.lean ====
section
/-! DEFINITION. The meanings of the commands: the Mbaham link (chapter 12). -/

namespace Sys2Proof.Machine

/-- LINK_FRAME_DROPPED (R464): A frame with bad CRC, length or reserved bit is dropped. -/
def execLinkFrameDropped (s : State) : Host.Outcome State Fault Refusal := done (linkDropped s)

/-- POLL (R469): A follower answers POLL with STATUS. -/
def execPoll (h : LinkHdr) (s : State) : Host.Outcome State Fault Refusal := done (linkPoll s h)

/-- STATUS (R470): The stage manager receives a STATUS response, completing the command and updating grants. -/
def execStatus (src id epoch : Nat) (awaiting active : Bool) (shelf : Nat) (s : State) : Host.Outcome State Fault Refusal := done (linkStatus s src id epoch awaiting active shelf)

/-- ACK (R467): The stage manager receives an ACK, completing or discarding by ID and epoch. -/
def execAck (src id epoch result : Nat) (s : State) : Host.Outcome State Fault Refusal := done (linkAck s src id epoch result)

/-- CUE_SAVE (R469): In Service or Restore a gate instant of cause 0x0B, then ACK. -/
def execCueSave (h : LinkHdr) (action : Nat) (s : State) : Host.Outcome State Fault Refusal := done (linkCueSave s h action)

/-- WAKE (R472): In Dark the wake matcher takes WAKE as a power-up request of cause 0x03. -/
def execWake (h : LinkHdr) (s : State) : Host.Outcome State Fault Refusal := done (linkWake s h)

/-- TIME (R473): The follower stamps its tick and sets LINK_TIME.OFFSET and TIME_VALID. -/
def execTime (h : LinkHdr) (tick : Nat) (restart : Bool) (s : State) : Host.Outcome State Fault Refusal := done (linkTime s h tick restart)

/-- GRANT (R474): GRANT OP 1 starts the pending rehearsal. -/
def execGrant (h : LinkHdr) (s : State) : Host.Outcome State Fault Refusal := done (linkGrant s h grantTake)

/-- ORDER_START (R474): GRANT OP 2 starts a rehearsal as if C005h were granted. -/
def execOrderStart (h : LinkHdr) (s : State) : Host.Outcome State Fault Refusal := done (linkGrant s h orderTake)

/-- REVOKE (R474): GRANT OP 3 cancels an active or pending rehearsal. -/
def execRevoke (h : LinkHdr) (s : State) : Host.Outcome State Fault Refusal := done (linkGrant s h revokeTake)

/-- READ_REG (R469): Answered with ACK carrying the register value. -/
def execReadReg (h : LinkHdr) (index : Nat) (s : State) : Host.Outcome State Fault Refusal := done (linkReadReg s h index)

/-- RESERVED_MESSAGE (R469): A reserved type is answered with ACK 3. -/
def execReservedMessage (h : LinkHdr) (type : Nat) (s : State) : Host.Outcome State Fault Refusal := done (reservedType s h type)

/-- LINK_TIMEOUT (R467): A link timeout ends without acknowledgement; the command is retransmitted or fails. -/
def execLinkTimeout (id : Nat) (s : State) : Host.Outcome State Fault Refusal := done (Sys2Proof.Machine.linkTimeout s id)

/-- POLL_WINDOW (R475): The stage manager polls the next node address. -/
def execPollWindow (s : State) : Host.Outcome State Fault Refusal := done (Sys2Proof.Machine.pollWindow s)

/-- TIME_WINDOW (R473): Every 32,768 ticks the stage manager sends TIME. -/
def execTimeWindow (s : State) : Host.Outcome State Fault Refusal := done (Sys2Proof.Machine.timeWindow s)

/-- GRANT_LIMIT (R476): A grant reaches GRANT_LIMIT_S and the stage manager sends OP 3. -/
def execGrantLimit (shelf : Nat) (s : State) : Host.Outcome State Fault Refusal := done (Sys2Proof.Machine.grantLimit s shelf)

/-- LEAD_LOST (R477): No stage-manager frame for LEAD_LOST ticks sets LEAD_LOST and clears TIME_VALID. -/
def execLeadLost (s : State) : Host.Outcome State Fault Refusal := done (Sys2Proof.Machine.leadLost s)

/-- LINK_CMD_GO (R478): A write of GO sends a command through LINK_CMD, or is refused. -/
def execLinkCmdGo (p : Path) (w : Word) (s : State) : Host.Outcome State Fault Refusal := done (regArm s p F.LINK_CMD_GO w)

end Sys2Proof.Machine
end

