-- ==== Sys2Proof/Machine/ExecMem.lean ====
section
/-! DEFINITION. The meanings of the commands: CXL.mem, the ledger and trickle, ports and power messages (chapters 03, 10). -/

namespace Sys2Proof.Machine

/-- MEM_WR (R74): A full-line CXL.mem write is stamped against the gate, checked for cap and touch, passes the ledger tap and is queued to DRAM. -/
def execMemWr (port ld tag : Nat) (line : Option Nat) (data : BitVec 512) (poison : Bool) (s : State) : Host.Outcome State Fault Refusal := done (memWrite s port ld tag line data none poison)

/-- MEM_WR_PTL (R315): A partial CXL.mem write passes the ledger tap and is issued as a read-modify-write pair. -/
def execMemWrPtl (port ld tag : Nat) (line : Option Nat) (data : BitVec 512) (mask : BitVec 64) (poison : Bool) (s : State) : Host.Outcome State Fault Refusal := done (memWrite s port ld tag line data (some mask) poison)

/-- HELD_WRITE_RELEASE (R93): When the residue falls below the cap and space allows, the oldest releasable held write passes the tap again. -/
def execHeldWriteRelease (n : Fin 4) (s : State) : Host.Outcome State Fault Refusal := done (Sys2Proof.Machine.heldWriteRelease s n)

/-- MEM_RD (R380): A CXL.mem read passes the held-write and restore checks and enters the crossbar, or is held for a touch fetch. -/
def execMemRd (port ld tag : Nat) (line : Option Nat) (s : State) : Host.Outcome State Fault Refusal := done (memRead s port ld tag line)

/-- MEM_RD_DATA (R372): A MemRdData request is served as a read. -/
def execMemRdData (port ld tag : Nat) (line : Option Nat) (s : State) : Host.Outcome State Fault Refusal := done (memRead s port ld tag line)

/-- MEM_SPEC_RD (R372): A MemSpecRd is accepted and may be dropped. -/
def execMemSpecRd (port ld : Nat) (line : Option Nat) (s : State) : Host.Outcome State Fault Refusal := done (specRead s port ld line)

/-- MEM_INV (R372): A MemInv is completed with no effect. -/
def execMemInv (port ld : Nat) (req : InvReq) (s : State) : Host.Outcome State Fault Refusal := done (memInvalid s port ld req)

/-- MEM_INV_NT (R372): A MemInvNT is completed with no effect. -/
def execMemInvNt (port ld : Nat) (req : InvReq) (s : State) : Host.Outcome State Fault Refusal := done (memInvalid s port ld req)

/-- EFFECTIVE_CAP_RECOMPUTE (R86): At each 33-tick period the device and stage effective caps, watermarks, save reserve and pending playbill settings are computed or applied. -/
def execEffectiveCapRecompute (s : State) : Host.Outcome State Fault Refusal := done (capsWindow s)

/-- SWEEP_START (R101): At the opening of each sweep window a sweep starts, or overrun is flagged if one is still running. -/
def execSweepStart (n : Fin 4) (s : State) : Host.Outcome State Fault Refusal := done (sweepWindow s n)

/-- SWEEP_VISIT (R104): A sweep visits one ledger line, bumps its settle counter and selects the eligible dirty frames into the trickle queue. -/
def execSweepVisit (n : Fin 4) (s : State) : Host.Outcome State Fault Refusal := done (Sys2Proof.Machine.sweepVisit s n)

/-- LEDGER_LINE_FILL (R80): A ledger line read from backstage enters the ledger cache, with an eviction where needed, and waiting writes proceed. -/
def execLedgerLineFill (n : Fin 4) (line victim : Nat) (s : State) : Host.Outcome State Fault Refusal := done (Sys2Proof.Machine.ledgerLineFill s n line victim)

/-- TRICKLE_FRAME (R106): An in-flight frame in the trickle queue is read at class 3, encrypted and placed into the open band. -/
def execTrickleFrame (n : Fin 4) (s : State) : Host.Outcome State Fault Refusal := done (Sys2Proof.Machine.trickleFrame s n)

/-- TRICKLE_BUDGET_TICK (R110): At each tick's opening edge the trickle byte budget becomes min(B, 0) + r × T. -/
def execTrickleBudgetTick (n : Fin 4) (s : State) : Host.Outcome State Fault Refusal := done (window s (timerBudget n.val) 1 (fun s _ => budgetTick s n))

/-- LDG_HOLD_MAX_CLEAR (R125): A write of CLEAR sets LDG_HOLD_MAX.MAX_US to 0. -/
def execLdgHoldMaxClear (p : Path) (n : Fin 4) (s : State) : Host.Outcome State Fault Refusal := done (regField s p (F.LDG_HOLD_MAX_CLEAR n.val) 1)

/-- LINK_UP (R373): A port reaches L0 and event 0x601 is logged. -/
def execLinkUp (port speed width : Nat) (s : State) : Host.Outcome State Fault Refusal := done (Sys2Proof.Machine.linkUp s port speed width)

/-- LINK_DOWN (R375): A port link goes down; stages keep their states and event 0x602 is logged. -/
def execLinkDown (port : Nat) (s : State) : Host.Outcome State Fault Refusal := done (Sys2Proof.Machine.linkDown s port)

/-- DEVLOAD_UPDATE (R381): Every microsecond DevLoad is recomputed from the mean read-queue depth. -/
def execDevloadUpdate (s : State) : Host.Outcome State Fault Refusal := done (devLoadUpdate s)

/-- GPF_PHASE1 (R382): GPF Phase 1 requires no action. -/
def execGpfPhase1 (port : Nat) (s : State) : Host.Outcome State Fault Refusal := done (gpf1 s port)

/-- GPF_PHASE2 (R382): GPF Phase 2 waits until every earlier write has passed the ledger tap. -/
def execGpfPhase2 (port : Nat) (s : State) : Host.Outcome State Fault Refusal := done (gpf2 s port)

/-- GPF_PHASE2_COMPLETE (R383): Phase 2 completes and the port's flush flag is set. -/
def execGpfPhase2Complete (port : Nat) (s : State) : Host.Outcome State Fault Refusal := done (gpf2Done s port)

/-- PME_TURN_OFF (R383): PME_Turn_Off is acknowledged and, when every port is flushed and none runs MLD, gives a gate instant of cause 0x0A. -/
def execPmeTurnOff (port : Nat) (s : State) : Host.Outcome State Fault Refusal := done (pmeOff s port)

end Sys2Proof.Machine
end

