-- ==== Sys2Proof/Machine/ExecPower.lean ====
section
/-! DEFINITION. The meanings of the commands: power supervision, the save, buttons and modes (chapters 02, 04, 12). -/

namespace Sys2Proof.Machine

/-- VAON_APPLIED (R439): VAON is applied: the tick counter starts at 0, straps are read, the comparator starts as failed, and the learned values are loaded from the script store. -/
def execVaonApplied (sel0 sel1 sel2 : Nat) (strapFault : Bool) (s : State) : Host.Outcome State Fault Refusal := done (vaonApply s sel0 sel1 sel2 strapFault)

/-- VAON_LOSS (R33): Loss of VAON discards every RS register, the prompt-book ring, the cue memory and pending records. -/
def execVaonLoss (s : State) : Host.Outcome State Fault Refusal := done (vaonReset s)

/-- VIN_FALL (R439): VIN_SENSE falls below FAIL_MV; the deglitch timer starts and any supply-good window closes. -/
def execVinFall (s : State) : Host.Outcome State Fault Refusal := done (Sys2Proof.Machine.vinFall s)

/-- VIN_RISE (R441): VIN_SENSE rises above GOOD_MV; the deglitch stops and a supply-good window opens. -/
def execVinRise (s : State) : Host.Outcome State Fault Refusal := done (Sys2Proof.Machine.vinRise s)

/-- MAIN_INPUT_FAILURE (R440): The deglitch expires: a gate instant of cause 0x08 in Service or Restore, the POWER_DOWN cue in Standby, and only event 0x00B otherwise. -/
def execMainInputFailure (s : State) : Host.Outcome State Fault Refusal := done (deglitchOver s)

/-- SUPPLY_GOOD (R441): The supply debounce window ends; this gives a power-up request in Dark, an abort during a save, or intermission in Hold. -/
def execSupplyGood (s : State) : Host.Outcome State Fault Refusal := done (supplyWindow s)

/-- DRAIN_COMPLETE (R132): The writes received before the gate have passed the ledger tap; held writes are admitted, touch fetches are issued for held writes, and SAVE_RAILS starts. -/
def execDrainComplete (s : State) : Host.Outcome State Fault Refusal := done (drainEnd s)

/-- POST_SEAL_DECISION (R148): Once every saving stage is done and its DRAM is in self-refresh, the controller chooses power down, intermission or Hold. -/
def execPostSealDecision (s : State) : Host.Outcome State Fault Refusal := done (postSeal s)

/-- HOLD_DEADLINE (R56): The hold deadline tick is reached; the POWER_DOWN cue is committed and the device goes to Dark. -/
def execHoldDeadline (s : State) : Host.Outcome State Fault Refusal := done (Sys2Proof.Machine.holdDeadline s)

/-- ABORT_PROGRAMS_DRAINED (R153): Every program issued before the abort has ended: R85 is applied and the resume run starts, or the abort is withdrawn if a stage tore. -/
def execAbortProgramsDrained (s : State) : Host.Outcome State Fault Refusal := done (abortDrained s)

/-- RAIL_FAILURE (R446): A watched rail fails; it is marked faulted and handled by mode and critical mark. -/
def execRailFailure (rail : Nat) (s : State) : Host.Outcome State Fault Refusal := done (railFailure s rail)

/-- RAIL_PG_HIGH (R453): A deglitched RAIL_PG input rises, so a waiting WAIT_GOOD or dependency-table pass finds its rails good and the rails enter the watch. -/
def execRailPgHigh (rail : Nat) (s : State) : Host.Outcome State Fault Refusal := done (pgRise s (rail % 16))

/-- RAIL_PG_LOW (R453): A deglitched RAIL_PG input of a rail that is not watched falls, so a waiting WAIT_OFF can find its rails off. -/
def execRailPgLow (rail : Nat) (s : State) : Host.Outcome State Fault Refusal := done (pgFall s (rail % 16))

/-- VMON_UPDATE (R444): Every 128 µs a monitor channel updates and may go out of window. -/
def execVmonUpdate (ch code : Nat) (s : State) : Host.Outcome State Fault Refusal := done (Sys2Proof.Machine.vmonUpdate s (ch % 8) (code % 4096))

/-- THERMAL_SAMPLE (R445): Every 33 ticks the junction temperature is sampled; four hot samples register the trip. -/
def execThermalSample (temp : Nat) (s : State) : Host.Outcome State Fault Refusal := done (thermalWindow s temp)

/-- BTN_PRESS (R461): BTN_N low for DEBOUNCE ticks stamps a press and opens the long-press window. -/
def execBtnPress (s : State) : Host.Outcome State Fault Refusal := done (btnDown s)

/-- BTN_RELEASE (R55): A release within the window is a short press: power-up request in Dark, save trigger in Service or Restore. -/
def execBtnRelease (s : State) : Host.Outcome State Fault Refusal := done (btnUp s)

/-- BTN_LONG_PRESS (R44): The long-press window ends; the long-press action of the mode is committed. -/
def execBtnLongPress (s : State) : Host.Outcome State Fault Refusal := done (pressLong s)

/-- MR_ASSERT (R462): MR_N low for 33 ticks resets cores and fabric, tears stages, or is latched in Save and Hold. -/
def execMrAssert (s : State) : Host.Outcome State Fault Refusal := done (Sys2Proof.Machine.mrAssert s)

/-- MR_RELEASE (R462): MR_N high for 33 ticks releases reset and the device enters Standby. -/
def execMrRelease (s : State) : Host.Outcome State Fault Refusal := done (Sys2Proof.Machine.mrRelease s)

/-- MODE_REQUEST_POWER_UP (R71): Writing POWER_UP in Dark with main input good requests a power-up. -/
def execModeRequestPowerUp (p : Path) (s : State) : Host.Outcome State Fault Refusal := done (regField s p F.MODE_REQUEST_POWER_UP 1)

/-- MODE_REQUEST_POWER_DOWN (R71): Writing POWER_DOWN in Standby runs the POWER_DOWN cue and enters Dark. -/
def execModeRequestPowerDown (p : Path) (s : State) : Host.Outcome State Fault Refusal := done (regField s p F.MODE_REQUEST_POWER_DOWN 1)

/-- MODE_PLAYBILL_APPLY (R63): Applies, defers, records or refuses the requested playbill. -/
def execModePlaybillApply (p : Path) (w : Word) (s : State) : Host.Outcome State Fault Refusal := done (regArm s p F.MODE_PLAYBILL_APPLY w)

/-- CRYSTAL_START (R670): After 2,048 crystal cycles the tick passes from the RC oscillator to the crystal. -/
def execCrystalStart (s : State) : Host.Outcome State Fault Refusal := done (Sys2Proof.Machine.crystalStart s)

/-- CRYSTAL_STOP (R670): No crystal edge for 4 RC periods returns the tick to the RC oscillator and sets FAILED. -/
def execCrystalStop (s : State) : Host.Outcome State Fault Refusal := done (Sys2Proof.Machine.crystalStop s)

/-- PLL_UNLOCK (R672): A core PLL loss of lock counts as a critical rail failure; a CXL PHY PLL loss takes its port down. -/
def execPllUnlock (pll : Nat) (s : State) : Host.Outcome State Fault Refusal := done (Sys2Proof.Machine.pllUnlock s pll)

/-- DOMAIN_POWER_UP (R675): A power domain switched on for a waiting request becomes ready within 2 µs. -/
def execDomainPowerUp (domain : Nat) (s : State) : Host.Outcome State Fault Refusal := done (domainUp s domain)

end Sys2Proof.Machine
end

