-- ==== Sys2Proof/Machine/ExecRestore.lean ====
section
/-! DEFINITION. The meanings of the commands: restore, touch service and heat (chapter 05). -/

namespace Sys2Proof.Machine

/-- FRAME_RESTORED (R180): The last line write of a frame enters the DRAM queue; the bitmap bit is set and the held accesses are released. -/
def execFrameRestored (n : Fin 4) (frame : Nat) (s : State) : Host.Outcome State Fault Refusal := done (frameDone s n frame)

/-- TOUCH_FETCH_START (R189): A queued touch fetch pre-empts background restore at the next codeword boundary on its LUN. -/
def execTouchFetchStart (n : Fin 4) (s : State) : Host.Outcome State Fault Refusal := done (touchStart s n)

/-- BITMAP_LINE_FILL (R188): A restore-bitmap line read from backstage resolves the touch check of the waiting requests. -/
def execBitmapLineFill (n : Fin 4) (line : Nat) (s : State) : Host.Outcome State Fault Refusal := done (bitmapFill s n line)

/-- TOUCH_HOLD_WARNING (R195): An access held longer than TOUCH_WARN logs event 0x30A. -/
def execTouchHoldWarning (n : Fin 4) (s : State) : Host.Outcome State Fault Refusal := done (touchWarn s n)

/-- HEAT_DRAIN (R196): Every 10 ms the stage core drains the heat ring into the backstage heat region. -/
def execHeatDrain (n : Fin 4) (s : State) : Host.Outcome State Fault Refusal := done (Sys2Proof.Machine.heatDrain s n)

/-- HEAT_HALVING (R685): Every HALF_LIFE_S seconds every heat count is halved. -/
def execHeatHalving (n : Fin 4) (s : State) : Host.Outcome State Fault Refusal := done (Sys2Proof.Machine.heatHalving s n)

/-- RESTORE_CTRL_START (R205): A write of START on a Sealed stage starts its restore. -/
def execRestoreCtrlStart (p : Path) (n : Fin 4) (s : State) : Host.Outcome State Fault Refusal := done (regField s p (F.RESTORE_CTRL_START n.val) 1)

/-- RESTORE_CTRL_RESUME (R202): A write of RESUME resumes a stage that waits under MANUAL_RESUME. -/
def execRestoreCtrlResume (p : Path) (n : Fin 4) (s : State) : Host.Outcome State Fault Refusal := done (regField s p (F.RESTORE_CTRL_RESUME n.val) 1)

/-- RESTORE_TOUCH_MAX_CLEAR (R208): A write of CLEAR sets MAX_US to 0. -/
def execRestoreTouchMaxClear (p : Path) (n : Fin 4) (s : State) : Host.Outcome State Fault Refusal := done (regField s p (F.RESTORE_TOUCH_MAX_CLEAR n.val) 1)

end Sys2Proof.Machine
end

