-- ==== Sys2Proof/Machine/ExecSide.lean ====
section
/-! DEFINITION. The meanings of the commands: sideband, prompt book, performance counters and registers (chapters 17 to 20). -/

namespace Sys2Proof.Machine

/-- SIDEBAND_REGISTER_WRITE (R605): A sideband write transfer commits all 48 bits, or is discarded as short, PEC-failed or refused. -/
def execSidebandRegisterWrite (bytes : List Byte) (wakeUs : Nat) (s : State) : Host.Outcome State Fault Refusal := done (sideWriteTransfer s bytes wakeUs)

/-- SIDEBAND_REGISTER_READ (R606): A sideband read samples 48 bits at the A1 acknowledge and sends them with PEC. -/
def execSidebandRegisterRead (bytes : List Byte) (wakeUs : Nat) (s : State) : Host.Outcome State Fault Refusal := done (sideReadTransfer s bytes wakeUs)

/-- SCL_LOW_TIMEOUT (R614): SCL low for 1,147 ticks resets the interface. -/
def execSclLowTimeout (inWrite : Bool) (s : State) : Host.Outcome State Fault Refusal := done (sideReset s 0xC03 (b2n inWrite))

/-- SDA_LOW_TIMEOUT (R614): SDA low with SCL high for 1,147 ticks resets the interface. -/
def execSdaLowTimeout (s : State) : Host.Outcome State Fault Refusal := done (sideReset s 0xC04 0)

/-- IN_BAND_REQUEST (R617): After the bus is free for IBR_FREE_US the controller pulls SDA and arbitrates. -/
def execInBandRequest (s : State) : Host.Outcome State Fault Refusal := done (ibrStart s)

/-- IN_BAND_REQUEST_TIMEOUT (R618): No SCL edge or acknowledge within IBR_WAIT_US fails the attempt. -/
def execInBandRequestTimeout (s : State) : Host.Outcome State Fault Refusal := done (ibrTimeout s)

/-- IN_BAND_REQUEST_ACCEPTED (R617): A bus controller clocks the arbitration field, acknowledges and ends with a STOP, so the request is accepted or lost and LAST_SENT or a retry follows. -/
def execInBandRequestAccepted (won : Bool) (s : State) : Host.Outcome State Fault Refusal := done (ibrAccepted s won)

/-- SIDEBAND_IDLE (R610): In Standby, 10 ms pass without a sideband transfer, and the address matcher falls back to running from SCL alone with the wake stretch of R608 (CLOCK_STOPPED set). -/
def execSidebandIdle (s : State) : Host.Outcome State Fault Refusal := done (sideIdle s)

/-- RATE_LIMIT_WINDOW (R633): At the opening of a window after suppression, a summary record 0xFFF is accepted. -/
def execRateLimitWindow (s : State) : Host.Outcome State Fault Refusal := done (rateWindow s)

/-- PROMPT_BOOK_COPY (R629): The house role copies an eligible ring record into the script-store area. -/
def execPromptBookCopy (s : State) : Host.Outcome State Fault Refusal := done (bookCopy s)

/-- PBOOK_CURSOR_WRITE (R634): Selects an area and sequence; the cursor moves to the oldest valid record at or after it. -/
def execPbookCursorWrite (p : Path) (set : Fin 2) (w : Word) (s : State) : Host.Outcome State Fault Refusal := done (regWord s p (F.PBOOK_CURSOR_SEQ set.val).idx w)

/-- PBOOK_WIN_READ (R634): Reading window word 2 advances the cursor. -/
def execPbookWinRead (p : Path) (set : Fin 2) (word : Fin 3) (s : State) : Host.Outcome State Fault Refusal := done (busRead s p (F.PBOOK_WIN_WORD (3 * set.val + word.val)).idx)

/-- PBOOK_CLEAR (R636): GO clears records up to UP_TO_SEQ, deferring the area part in Dark and Hold. -/
def execPbookClear (p : Path) (upTo areas : Nat) (s : State) : Host.Outcome State Fault Refusal := done (regWord s p F.PBOOK_CLEAR_GO.idx (oneField F.PBOOK_CLEAR_UP_TO_SEQ upTo ||| oneField F.PBOOK_CLEAR_AREAS areas ||| oneField F.PBOOK_CLEAR_GO 1))

/-- PMON_FREEZE (R640): Setting or clearing FREEZE stops or restarts every counter on one clock. -/
def execPmonFreeze (p : Path) (w : Word) (s : State) : Host.Outcome State Fault Refusal := done (regWord s p F.PMON_CTRL_FREEZE.idx w)

/-- PMON_CLEAR (R643): Writes every counter to 0 on one clock. -/
def execPmonClear (p : Path) (s : State) : Host.Outcome State Fault Refusal := done (regField s p F.PMON_CTRL_CLEAR 1)

/-- GLB_ACCESS_CLEAR (R658): A write of CLEAR sets COUNT and KIND to 0. -/
def execGlbAccessClear (p : Path) (s : State) : Host.Outcome State Fault Refusal := done (regField s p F.GLB_ACCESS_CLEAR 1)

/-- CPD_POWER_CLEAR_PEAK (R680): A write of CLEAR_PEAK sets PEAK_MW to 0. -/
def execCpdPowerClearPeak (p : Path) (s : State) : Host.Outcome State Fault Refusal := done (regField s p F.CPD_POWER_CLEAR_PEAK 1)

/-- REGISTER_WRITE (R647): A write to a register with no behaviour of its own commits under the access, lock and path rules. -/
def execRegisterWrite (p : Path) (index : Nat) (w : Word) (full : Bool) (s : State) : Host.Outcome State Fault Refusal := done (busWrite s p index w full s.fw.recoveryLow)

end Sys2Proof.Machine
end

