-- ==== Sys2Proof/Machine/ExecStage.lean ====
section
/-! DEFINITION. The meanings of the commands: boot, Dressing, images and firmware (chapters 14, 16). -/

namespace Sys2Proof.Machine

/-- BOOT (R579): The core 0 ROM recovers the directory, derives keys, picks a slot, verifies and copies firmware, or enters recovery. -/
def execBoot (train : TrainIn) (recoveryLow : Bool) (ms : Nat) (s : State) : Host.Outcome State Fault Refusal := done (Sys2Proof.Machine.boot s train recoveryLow ms)

/-- DRESSING_COMPLETE (R48): A stage's Dressing ends: it becomes Sealed or Live, or fails, and a Sealed stage starts its restore. -/
def execDressingComplete (n : Fin 4) (marks : List Nat) (s : State) : Host.Outcome State Fault Refusal := done (dressComplete s n marks)

/-- REDRESS_COMMIT (R532): The new stage section is stored with its valid mark and the stage enters Dressing. -/
def execRedressCommit (train : TrainIn) (s : State) : Host.Outcome State Fault Refusal := done (Sys2Proof.Machine.redressCommit s train)

/-- STAGE_CTRL_REDRESS (R531): STAGE_CTRL GO with OP 0 requests a re-dress. -/
def execStageCtrlRedress (p : Path) (n : Fin 4) (s : State) : Host.Outcome State Fault Refusal := done (regWord s p F.STAGE_CTRL_GO.idx (oneField F.STAGE_CTRL_STAGE n.val ||| oneField F.STAGE_CTRL_GO 1))

/-- STAGE_CTRL_UNBIND (R532): STAGE_CTRL GO with OP 1 requests an unbind. -/
def execStageCtrlUnbind (p : Path) (n : Fin 4) (s : State) : Host.Outcome State Fault Refusal := done (regWord s p F.STAGE_CTRL_GO.idx (oneField F.STAGE_CTRL_STAGE n.val ||| oneField F.STAGE_CTRL_OP 1 ||| oneField F.STAGE_CTRL_GO 1))

/-- STAGE_XBAR_FAULT_CLEAR (R539): A write of CLEAR sets COUNT to 0. -/
def execStageXbarFaultClear (p : Path) (s : State) : Host.Outcome State Fault Refusal := done (regField s p F.STAGE_XBAR_FAULT_CLEAR 1)

/-- IMG_LOAD_START (R540): IMG_LOAD_CTRL START begins a load and discards any staged container. -/
def execImgLoadStart (p : Path) (s : State) : Host.Outcome State Fault Refusal := done (regField s p F.IMG_LOAD_CTRL_START 1)

/-- IMG_LOAD_DATA (R540): Takes the next 6 bytes of the container. -/
def execImgLoadData (p : Path) (w : Word) (s : State) : Host.Outcome State Fault Refusal := done (regWord s p F.IMG_LOAD_DATA_DATA.idx w)

/-- IMG_LOAD_END (R540): END starts the container checks. -/
def execImgLoadEnd (p : Path) (s : State) : Host.Outcome State Fault Refusal := done (regField s p F.IMG_LOAD_CTRL_END 1)

/-- IMG_LOAD_ABORT (R540): ABORT discards the load. -/
def execImgLoadAbort (p : Path) (s : State) : Host.Outcome State Fault Refusal := done (regField s p F.IMG_LOAD_CTRL_ABORT 1)

/-- CONTAINER_CHECK_DONE (R521): The container checks end with acceptance or a rejection reason. -/
def execContainerCheckDone (s : State) : Host.Outcome State Fault Refusal := done (containerDone s)

/-- IMG_HASH_DATA_READ (R540): Reads six bytes of the image hash and advances WORD. -/
def execImgHashDataRead (p : Path) (s : State) : Host.Outcome State Fault Refusal := done (busRead s p F.IMG_HASH_DATA_DATA.idx)

/-- FUSE_RAISE (R591): The house role programs fuse bits up to the target security version. -/
def execFuseRaise (stuck : Option Nat) (s : State) : Host.Outcome State Fault Refusal := done (Sys2Proof.Machine.fuseRaise s stuck)

/-- WATCHDOG_RESET (R582): The house role resets the watchdog. -/
def execWatchdogReset (s : State) : Host.Outcome State Fault Refusal := done (wdogReset s)

/-- WATCHDOG_EXPIRY (R582): 65,536 ticks without reset act as MR_N assertion and release. -/
def execWatchdogExpiry (s : State) : Host.Outcome State Fault Refusal := done (wdogExpire (untilTick s (s.fw.wdogTick + 65536)))

/-- FW_CTRL_ACTIVATE_OFFLINE (R585): ACTIVATE with ONLINE 0 activates a slot for next power-up. -/
def execFwCtrlActivateOffline (p : Path) (slotB : Bool) (s : State) : Host.Outcome State Fault Refusal := done (regWord s p F.FW_CTRL_ACTIVATE.idx (oneField F.FW_CTRL_ACTIVATE 1 ||| oneField F.FW_CTRL_SLOT (b2n slotB)))

/-- FW_CTRL_ACTIVATE_ONLINE (R586): ACTIVATE with ONLINE 1 starts an online handover series. -/
def execFwCtrlActivateOnline (p : Path) (slotB : Bool) (s : State) : Host.Outcome State Fault Refusal := done (regWord s p F.FW_CTRL_ACTIVATE.idx (oneField F.FW_CTRL_ACTIVATE 1 ||| oneField F.FW_CTRL_ONLINE 1 ||| oneField F.FW_CTRL_SLOT (b2n slotB)))

/-- FW_CTRL_REBOOT (R594): In recovery with RECOVERY_N high, resets the cores and reruns boot. -/
def execFwCtrlReboot (p : Path) (recoveryLow : Bool) (s : State) : Host.Outcome State Fault Refusal := done (busWrite s p F.FW_CTRL_REBOOT.idx (oneField F.FW_CTRL_REBOOT 1) true recoveryLow)

/-- FW_LOAD_START (R583): FW_LOAD_CTRL START begins a firmware load into the inactive slot. -/
def execFwLoadStart (p : Path) (s : State) : Host.Outcome State Fault Refusal := done (regField s p F.FW_LOAD_CTRL_START 1)

/-- FW_LOAD_DATA (R583): Takes the next 6 bytes of the firmware container. -/
def execFwLoadData (p : Path) (w : Word) (s : State) : Host.Outcome State Fault Refusal := done (regWord s p F.FW_LOAD_DATA_DATA.idx w)

/-- FW_LOAD_END (R583): END starts the checks of R575 on the written slot. -/
def execFwLoadEnd (p : Path) (s : State) : Host.Outcome State Fault Refusal := done (regField s p F.FW_LOAD_CTRL_END 1)

/-- FW_LOAD_ABORT (R583): ABORT discards the firmware load. -/
def execFwLoadAbort (p : Path) (s : State) : Host.Outcome State Fault Refusal := done (regField s p F.FW_LOAD_CTRL_ABORT 1)

/-- FIRMWARE_LOAD_ENDED (R583): The background checks of R575 on a written firmware slot end, and Transfer FW or FW_LOAD_CTRL.RESULT reports acceptance or the error, with event 0x713. -/
def execFirmwareLoadEnded (s : State) : Host.Outcome State Fault Refusal := done (loadEnded s)

/-- HANDOVER_LOAD (R587): The understudy's ROM has read and verified the new body; shadow begins. -/
def execHandoverLoad (ok : Bool) (s : State) : Host.Outcome State Fault Refusal := done (Sys2Proof.Machine.handoverLoad s ok)

/-- HANDOVER_SHADOW (R587): The new firmware has read the role's state; prepare begins. -/
def execHandoverShadow (s : State) : Host.Outcome State Fault Refusal := done (Sys2Proof.Machine.handoverShadow s)

/-- HANDOVER_QUIESCE (R587): After prepare, the old core writes the handover record and the new core resumes the role. -/
def execHandoverQuiesce (time10ns : Nat) (s : State) : Host.Outcome State Fault Refusal := done (Sys2Proof.Machine.handoverQuiesce s time10ns)

/-- PREPARE_TIMEOUT (R589): Prepare exceeds PREP_MS; the handover is cancelled and the series ends. -/
def execPrepareTimeout (s : State) : Host.Outcome State Fault Refusal := done (Sys2Proof.Machine.prepareTimeout s)

/-- MAKER_HASH_PROGRAM (R595): In recovery, fuses the module maker's image-signer key hash. -/
def execMakerHashProgram (hash : List Byte) (s : State) : Host.Outcome State Fault Refusal := done (makerProgram s hash)

/-- DEBUG_TOKEN (R596): A signed token over the JTAG nonce opens the debug port, or is refused. -/
def execDebugToken (perms : Nat) (pub sig : List Byte) (s : State) : Host.Outcome State Fault Refusal := done (Sys2Proof.Machine.debugToken s perms pub sig)

end Sys2Proof.Machine
end

