-- ==== Sys2Proof/Machine/ExecStore.lean ====
section
/-! DEFINITION. The meanings of the commands: the script store (chapter 15). -/

namespace Sys2Proof.Machine

/-- STORE_READ (R551): ROM READ routine returns words with their ECC outcomes, suspending any erase. -/
def execStoreRead (who : StoreCaller) (addr count : Nat) (decay : List (Nat × Nat)) (s : State) : Host.Outcome State Fault Refusal := done (callFrom s who (fun s => storeCall (storeDecay s decay) (.read who addr count)))

/-- STORE_PROGRAM (R553): ROM PROGRAM routine checks every word and programs lines of 64. -/
def execStoreProgram (who : StoreCaller) (addr : Nat) (words : List Word) (s : State) : Host.Outcome State Fault Refusal := done (callFrom s who (fun s => storeCall s (.program who addr words)))

/-- PROGRAM_LINE_DONE (R557): A line program of the script store ends. -/
def execProgramLineDone (s : State) : Host.Outcome State Fault Refusal := done (progLine s)

/-- STORE_ERASE (R558): ROM ERASE routine records the intent and starts the erase pulses. -/
def execStoreErase (who : StoreCaller) (sector : Nat) (s : State) : Host.Outcome State Fault Refusal := done (callFrom s who (fun s => storeCall s (.erase who sector)))

/-- ERASE_PULSE (R558): A 1 ms pulse and verify completes; on pass the erase record and erased entry are written. -/
def execErasePulse (verify : Bool) (s : State) : Host.Outcome State Fault Refusal := done (Sys2Proof.Machine.erasePulse s verify)

/-- ERASE_RESUME (R562): With no queued read or program, a suspended erase resumes with a new pulse. -/
def execEraseResume (s : State) : Host.Outcome State Fault Refusal := done (Sys2Proof.Machine.eraseResume s)

/-- STORE_STATUS (R551): ROM STATUS routine returns a sector's erase record, state and protection. -/
def execStoreStatus (who : StoreCaller) (sector : Nat) (s : State) : Host.Outcome State Fault Refusal := done (callFrom s who (fun s => Sys2Proof.Machine.storeStatus s who sector))

/-- STORE_PROTECT (R565): ROM PROTECT routine presents the password and sets or clears a group's protection. -/
def execStoreProtect (group : Nat) (on pwdOk : Bool) (s : State) : Host.Outcome State Fault Refusal := done (callFrom s .house (fun s => Sys2Proof.Machine.storeProtect s group on pwdOk))

end Sys2Proof.Machine
end

