-- ==== Sys2Proof/Machine/Dispatch.lean ====
section
/-! DEFINITION. Which meaning each command has: one arm per constructor. -/

namespace Sys2Proof.Machine

/-- The effect of a command on everything but the queue of commands. -/
def exec (i : Instr) (s : State) : Host.Outcome State Fault Refusal :=
  match i with
  | .vaonApplied sel0 sel1 sel2 strapFault => Sys2Proof.Machine.execVaonApplied sel0 sel1 sel2 strapFault s
  | .vaonLoss => Sys2Proof.Machine.execVaonLoss s
  | .vinFall => Sys2Proof.Machine.execVinFall s
  | .vinRise => Sys2Proof.Machine.execVinRise s
  | .mainInputFailure => Sys2Proof.Machine.execMainInputFailure s
  | .supplyGood => Sys2Proof.Machine.execSupplyGood s
  | .drainComplete => Sys2Proof.Machine.execDrainComplete s
  | .postSealDecision => Sys2Proof.Machine.execPostSealDecision s
  | .holdDeadline => Sys2Proof.Machine.execHoldDeadline s
  | .abortProgramsDrained => Sys2Proof.Machine.execAbortProgramsDrained s
  | .memWr port ld tag line data poison => Sys2Proof.Machine.execMemWr port ld tag line data poison s
  | .memWrPtl port ld tag line data mask poison => Sys2Proof.Machine.execMemWrPtl port ld tag line data mask poison s
  | .heldWriteRelease n => Sys2Proof.Machine.execHeldWriteRelease n s
  | .memRd port ld tag line => Sys2Proof.Machine.execMemRd port ld tag line s
  | .memRdData port ld tag line => Sys2Proof.Machine.execMemRdData port ld tag line s
  | .memSpecRd port ld line => Sys2Proof.Machine.execMemSpecRd port ld line s
  | .memInv port ld req => Sys2Proof.Machine.execMemInv port ld req s
  | .memInvNt port ld req => Sys2Proof.Machine.execMemInvNt port ld req s
  | .effectiveCapRecompute => Sys2Proof.Machine.execEffectiveCapRecompute s
  | .sweepStart n => Sys2Proof.Machine.execSweepStart n s
  | .sweepVisit n => Sys2Proof.Machine.execSweepVisit n s
  | .ledgerLineFill n line victim => Sys2Proof.Machine.execLedgerLineFill n line victim s
  | .trickleFrame n => Sys2Proof.Machine.execTrickleFrame n s
  | .trickleBudgetTick n => Sys2Proof.Machine.execTrickleBudgetTick n s
  | .pageProgramIssue lun => Sys2Proof.Machine.execPageProgramIssue lun s
  | .pageProgramStatus ch tag epoch pass pct => Sys2Proof.Machine.execPageProgramStatus ch tag epoch pass pct s
  | .pageReadIssue lun => Sys2Proof.Machine.execPageReadIssue lun s
  | .pageReadComplete ch tag epoch ok iters => Sys2Proof.Machine.execPageReadComplete ch tag epoch ok iters s
  | .commandTimeout ch tag => Sys2Proof.Machine.execCommandTimeout ch tag s
  | .blockEraseComplete ch tag epoch pass => Sys2Proof.Machine.execBlockEraseComplete ch tag epoch pass s
  | .flashChannelTraining ch reach readId laneOk => Sys2Proof.Machine.execFlashChannelTraining ch reach readId laneOk s
  | .strikeRelocation n => Sys2Proof.Machine.execStrikeRelocation n s
  | .mapCheckpointDue n => Sys2Proof.Machine.execMapCheckpointDue n s
  | .flInjectArm p w => Sys2Proof.Machine.execFlInjectArm p w s
  | .mpCmd ch => Sys2Proof.Machine.execMpCmd ch s
  | .mpAddr ch => Sys2Proof.Machine.execMpAddr ch s
  | .mpDin ch => Sys2Proof.Machine.execMpDin ch s
  | .mpDout ch bytes => Sys2Proof.Machine.execMpDout ch bytes s
  | .mpWaitRdy ch => Sys2Proof.Machine.execMpWaitRdy ch s
  | .mpWaitRdyTimeout ch => Sys2Proof.Machine.execMpWaitRdyTimeout ch s
  | .mpDelay ch => Sys2Proof.Machine.execMpDelay ch s
  | .mpDelayExpiry ch => Sys2Proof.Machine.execMpDelayExpiry ch s
  | .mpStatus ch status => Sys2Proof.Machine.execMpStatus ch status s
  | .mpBranch ch => Sys2Proof.Machine.execMpBranch ch s
  | .mpSetfeat ch => Sys2Proof.Machine.execMpSetfeat ch s
  | .mpLoop ch => Sys2Proof.Machine.execMpLoop ch s
  | .mpEnd ch => Sys2Proof.Machine.execMpEnd ch s
  | .mpRunTimeout ch => Sys2Proof.Machine.execMpRunTimeout ch s
  | .frameRestored n frame => Sys2Proof.Machine.execFrameRestored n frame s
  | .touchFetchStart n => Sys2Proof.Machine.execTouchFetchStart n s
  | .bitmapLineFill n line => Sys2Proof.Machine.execBitmapLineFill n line s
  | .touchHoldWarning n => Sys2Proof.Machine.execTouchHoldWarning n s
  | .heatDrain n => Sys2Proof.Machine.execHeatDrain n s
  | .heatHalving n => Sys2Proof.Machine.execHeatHalving n s
  | .restoreCtrlStart p n => Sys2Proof.Machine.execRestoreCtrlStart p n s
  | .restoreCtrlResume p n => Sys2Proof.Machine.execRestoreCtrlResume p n s
  | .restoreTouchMaxClear p n => Sys2Proof.Machine.execRestoreTouchMaxClear p n s
  | .ldgHoldMaxClear p n => Sys2Proof.Machine.execLdgHoldMaxClear p n s
  | .dramRequestEnqueue c sub port => Sys2Proof.Machine.execDramRequestEnqueue c sub port s
  | .dramCommandIssue c sub bar pullIn => Sys2Proof.Machine.execDramCommandIssue c sub bar pullIn s
  | .ageLimitExpiry c sub => Sys2Proof.Machine.execAgeLimitExpiry c sub s
  | .refreshInterval c sub rank => Sys2Proof.Machine.execRefreshInterval c sub rank s
  | .rowIdleClose c sub bank => Sys2Proof.Machine.execRowIdleClose c sub bank s
  | .rankPowerDown c sub rank => Sys2Proof.Machine.execRankPowerDown c sub rank s
  | .idleSelfRefresh c sub => Sys2Proof.Machine.execIdleSelfRefresh c sub s
  | .selfRefreshExit c sub => Sys2Proof.Machine.execSelfRefreshExit c sub s
  | .selfRefreshMaxExit c sub => Sys2Proof.Machine.execSelfRefreshMaxExit c sub s
  | .dramReadComplete c sub raw => Sys2Proof.Machine.execDramReadComplete c sub raw s
  | .remapCopyDone entry => Sys2Proof.Machine.execRemapCopyDone entry s
  | .scrubInterval c => Sys2Proof.Machine.execScrubInterval c s
  | .refreshWindow c => Sys2Proof.Machine.execRefreshWindow c s
  | .dcInjectArm p c w => Sys2Proof.Machine.execDcInjectArm p c w s
  | .dcErrCaptureRead p c => Sys2Proof.Machine.execDcErrCaptureRead p c s
  | .scrubPositionWrite p c w => Sys2Proof.Machine.execScrubPositionWrite p c w s
  | .dcDlyDataWrite p c w => Sys2Proof.Machine.execDcDlyDataWrite p c w s
  | .dcDlyDataRead p c => Sys2Proof.Machine.execDcDlyDataRead p c s
  | .dcTrnCtrlStart p c w => Sys2Proof.Machine.execDcTrnCtrlStart p c w s
  | .trainingRunDone c lanes errors => Sys2Proof.Machine.execTrainingRunDone c lanes errors s
  | .driftTracking reads => Sys2Proof.Machine.execDriftTracking reads s
  | .i3cTransfer p w => Sys2Proof.Machine.execI3cTransfer p w s
  | .i3cTransferDone result data => Sys2Proof.Machine.execI3cTransferDone result data s
  | .dramSensorPoll reads => Sys2Proof.Machine.execDramSensorPoll reads s
  | .linkUp port speed width => Sys2Proof.Machine.execLinkUp port speed width s
  | .linkDown port => Sys2Proof.Machine.execLinkDown port s
  | .devloadUpdate => Sys2Proof.Machine.execDevloadUpdate s
  | .gpfPhase1 port => Sys2Proof.Machine.execGpfPhase1 port s
  | .gpfPhase2 port => Sys2Proof.Machine.execGpfPhase2 port s
  | .gpfPhase2Complete port => Sys2Proof.Machine.execGpfPhase2Complete port s
  | .pmeTurnOff port => Sys2Proof.Machine.execPmeTurnOff port s
  | .getHealthInfo port ld => Sys2Proof.Machine.execGetHealthInfo port ld s
  | .getAlertConfiguration port ld => Sys2Proof.Machine.execGetAlertConfiguration port ld s
  | .setAlertConfiguration port ld life temp errors => Sys2Proof.Machine.execSetAlertConfiguration port ld life temp errors s
  | .getShutdownState port ld => Sys2Proof.Machine.execGetShutdownState port ld s
  | .setShutdownState port ld dirty => Sys2Proof.Machine.execSetShutdownState port ld dirty s
  | .getPoisonList port ld addr len => Sys2Proof.Machine.execGetPoisonList port ld addr len s
  | .injectPoison port ld addr => Sys2Proof.Machine.execInjectPoison port ld addr s
  | .clearPoison port ld addr data => Sys2Proof.Machine.execClearPoison port ld addr data s
  | .scanMedia port ld addr len => Sys2Proof.Machine.execScanMedia port ld addr len s
  | .getScanMediaResults port ld => Sys2Proof.Machine.execGetScanMediaResults port ld s
  | .secureErase port ld => Sys2Proof.Machine.execSecureErase port ld s
  | .sanitize port ld => Sys2Proof.Machine.execSanitize port ld s
  | .getLsa port ld offset len => Sys2Proof.Machine.execGetLsa port ld offset len s
  | .setLsa port ld offset data => Sys2Proof.Machine.execSetLsa port ld offset data s
  | .setPartitionInfo port ld => Sys2Proof.Machine.execSetPartitionInfo port ld s
  | .getLdInfo port ld => Sys2Proof.Machine.execGetLdInfo port ld s
  | .getLdAllocations port ld => Sys2Proof.Machine.execGetLdAllocations port ld s
  | .setLdAllocations port ld => Sys2Proof.Machine.execSetLdAllocations port ld s
  | .getTimestamp port ld => Sys2Proof.Machine.execGetTimestamp port ld s
  | .setTimestamp port ld time => Sys2Proof.Machine.execSetTimestamp port ld time s
  | .setEventInterruptPolicy port ld policy => Sys2Proof.Machine.execSetEventInterruptPolicy port ld policy s
  | .getFwInfo port ld => Sys2Proof.Machine.execGetFwInfo port ld s
  | .transferFw port ld action slot offset data => Sys2Proof.Machine.execTransferFw port ld action slot offset data s
  | .activateFwOffline port ld slot => Sys2Proof.Machine.execActivateFwOffline port ld slot s
  | .activateFwOnline port ld slot => Sys2Proof.Machine.execActivateFwOnline port ld slot s
  | .getStageStatus port ld => Sys2Proof.Machine.execGetStageStatus port ld s
  | .setResidueCap port ld mib => Sys2Proof.Machine.execSetResidueCap port ld mib s
  | .plannedSave port ld action resv => Sys2Proof.Machine.execPlannedSave port ld action resv s
  | .getGaugeReport port ld => Sys2Proof.Machine.execGetGaugeReport port ld s
  | .startRehearsal port ld op => Sys2Proof.Machine.execStartRehearsal port ld op s
  | .cancelRehearsal port ld => Sys2Proof.Machine.execCancelRehearsal port ld s
  | .readPromptBook port ld fromSeq area resv max => Sys2Proof.Machine.execReadPromptBook port ld fromSeq area resv max s
  | .clearPromptBook port ld areas resv upTo => Sys2Proof.Machine.execClearPromptBook port ld areas resv upTo s
  | .getBlockWear port ld lun resv first max => Sys2Proof.Machine.execGetBlockWear port ld lun resv first max s
  | .loadImageSection port ld offset first last resv data => Sys2Proof.Machine.execLoadImageSection port ld offset first last resv data s
  | .loadImageSectionAbort port ld resv => Sys2Proof.Machine.execLoadImageSectionAbort port ld resv s
  | .applyStageSection port ld stage resv => Sys2Proof.Machine.execApplyStageSection port ld stage resv s
  | .applyStageSectionUnbind port ld stage resv => Sys2Proof.Machine.execApplyStageSectionUnbind port ld stage resv s
  | .attest port ld nonce => Sys2Proof.Machine.execAttest port ld nonce s
  | .getHeatStatistics port ld first max => Sys2Proof.Machine.execGetHeatStatistics port ld first max s
  | .userAreaRead port ld resv count word => Sys2Proof.Machine.execUserAreaRead port ld resv count word s
  | .userAreaProgram port ld resv word data => Sys2Proof.Machine.execUserAreaProgram port ld resv word data s
  | .userAreaEraseSector port ld resv word => Sys2Proof.Machine.execUserAreaEraseSector port ld resv word s
  | .userAreaSectorStatus port ld resv word => Sys2Proof.Machine.execUserAreaSectorStatus port ld resv word s
  | .intermissionResume port ld mask => Sys2Proof.Machine.execIntermissionResume port ld mask s
  | .getPowerReport port ld => Sys2Proof.Machine.execGetPowerReport port ld s
  | .laneEncrypt ch => Sys2Proof.Machine.execLaneEncrypt ch s
  | .laneDecrypt ch => Sys2Proof.Machine.execLaneDecrypt ch s
  | .laneRelay ch => Sys2Proof.Machine.execLaneRelay ch s
  | .ciphLaneTestArm p w => Sys2Proof.Machine.execCiphLaneTestArm p w s
  | .houseGcmEncrypt role slot key iv aad text => Sys2Proof.Machine.execHouseGcmEncrypt role slot key iv aad text s
  | .houseGcmDecrypt role slot key iv aad text tag region => Sys2Proof.Machine.execHouseGcmDecrypt role slot key iv aad text tag region s
  | .houseGmac role slot key iv aad => Sys2Proof.Machine.execHouseGmac role slot key iv aad s
  | .keyWrap role kek data => Sys2Proof.Machine.execKeyWrap role kek data s
  | .keyUnwrap role kek dest data => Sys2Proof.Machine.execKeyUnwrap role kek dest data s
  | .houseEngineUnit => Sys2Proof.Machine.execHouseEngineUnit s
  | .contextSave role slot wrapped => Sys2Proof.Machine.execContextSave role slot wrapped s
  | .contextRestore role slot wrapped bytes => Sys2Proof.Machine.execContextRestore role slot wrapped bytes s
  | .sha256Call role use msg => Sys2Proof.Machine.execSha256Call role use msg s
  | .signatureVerify signer pub sig msg => Sys2Proof.Machine.execSignatureVerify signer pub sig msg s
  | .randomRequest role count => Sys2Proof.Machine.execRandomRequest role count s
  | .entropyHealthFail adaptive => Sys2Proof.Machine.execEntropyHealthFail adaptive s
  | .nextTreeGeneration => Sys2Proof.Machine.execNextTreeGeneration s
  | .ciphCertDataRead p => Sys2Proof.Machine.execCiphCertDataRead p s
  | .railFailure rail => Sys2Proof.Machine.execRailFailure rail s
  | .vmonUpdate ch code => Sys2Proof.Machine.execVmonUpdate ch code s
  | .thermalSample temp => Sys2Proof.Machine.execThermalSample temp s
  | .cueEnable => Sys2Proof.Machine.execCueEnable s
  | .cueDisable => Sys2Proof.Machine.execCueDisable s
  | .cueWaitGood => Sys2Proof.Machine.execCueWaitGood s
  | .cueWaitGoodTimeout => Sys2Proof.Machine.execCueWaitGoodTimeout s
  | .cueWaitOff => Sys2Proof.Machine.execCueWaitOff s
  | .cueWaitOffTimeout => Sys2Proof.Machine.execCueWaitOffTimeout s
  | .cueDelay => Sys2Proof.Machine.execCueDelay s
  | .cueDelayExpiry => Sys2Proof.Machine.execCueDelayExpiry s
  | .cueSignal => Sys2Proof.Machine.execCueSignal s
  | .cueSkipIf => Sys2Proof.Machine.execCueSkipIf s
  | .cueEnd => Sys2Proof.Machine.execCueEnd s
  | .dependencyPass => Sys2Proof.Machine.execDependencyPass s
  | .backoffExpiry => Sys2Proof.Machine.execBackoffExpiry s
  | .resumeRunRetry => Sys2Proof.Machine.execResumeRunRetry s
  | .cueMemDataRead p => Sys2Proof.Machine.execCueMemDataRead p s
  | .btnPress => Sys2Proof.Machine.execBtnPress s
  | .btnRelease => Sys2Proof.Machine.execBtnRelease s
  | .btnLongPress => Sys2Proof.Machine.execBtnLongPress s
  | .mrAssert => Sys2Proof.Machine.execMrAssert s
  | .mrRelease => Sys2Proof.Machine.execMrRelease s
  | .modeRequestPowerUp p => Sys2Proof.Machine.execModeRequestPowerUp p s
  | .modeRequestPowerDown p => Sys2Proof.Machine.execModeRequestPowerDown p s
  | .modePlaybillApply p w => Sys2Proof.Machine.execModePlaybillApply p w s
  | .linkFrameDropped => Sys2Proof.Machine.execLinkFrameDropped s
  | .poll h => Sys2Proof.Machine.execPoll h s
  | .status src id epoch awaiting active shelf => Sys2Proof.Machine.execStatus src id epoch awaiting active shelf s
  | .ack src id epoch result => Sys2Proof.Machine.execAck src id epoch result s
  | .cueSave h action => Sys2Proof.Machine.execCueSave h action s
  | .wake h => Sys2Proof.Machine.execWake h s
  | .time h tick restart => Sys2Proof.Machine.execTime h tick restart s
  | .grant h => Sys2Proof.Machine.execGrant h s
  | .orderStart h => Sys2Proof.Machine.execOrderStart h s
  | .revoke h => Sys2Proof.Machine.execRevoke h s
  | .readReg h index => Sys2Proof.Machine.execReadReg h index s
  | .reservedMessage h type => Sys2Proof.Machine.execReservedMessage h type s
  | .linkTimeout id => Sys2Proof.Machine.execLinkTimeout id s
  | .pollWindow => Sys2Proof.Machine.execPollWindow s
  | .timeWindow => Sys2Proof.Machine.execTimeWindow s
  | .grantLimit shelf => Sys2Proof.Machine.execGrantLimit shelf s
  | .leadLost => Sys2Proof.Machine.execLeadLost s
  | .linkCmdGo p w => Sys2Proof.Machine.execLinkCmdGo p w s
  | .gaugeConversion senseNv batUv => Sys2Proof.Machine.execGaugeConversion senseNv batUv s
  | .batteryPresent => Sys2Proof.Machine.execBatteryPresent s
  | .batteryAbsent => Sys2Proof.Machine.execBatteryAbsent s
  | .batteryFault cause => Sys2Proof.Machine.execBatteryFault cause s
  | .batteryFaultCleared cause => Sys2Proof.Machine.execBatteryFaultCleared cause s
  | .gaugeUpdate => Sys2Proof.Machine.execGaugeUpdate s
  | .chgDoneEdge high => Sys2Proof.Machine.execChgDoneEdge high s
  | .newPack p => Sys2Proof.Machine.execNewPack p s
  | .rehearsalTimeout => Sys2Proof.Machine.execRehearsalTimeout s
  | .boot train recoveryLow ms => Sys2Proof.Machine.execBoot train recoveryLow ms s
  | .dressingComplete n marks => Sys2Proof.Machine.execDressingComplete n marks s
  | .redressCommit train => Sys2Proof.Machine.execRedressCommit train s
  | .stageCtrlRedress p n => Sys2Proof.Machine.execStageCtrlRedress p n s
  | .stageCtrlUnbind p n => Sys2Proof.Machine.execStageCtrlUnbind p n s
  | .stageXbarFaultClear p => Sys2Proof.Machine.execStageXbarFaultClear p s
  | .imgLoadStart p => Sys2Proof.Machine.execImgLoadStart p s
  | .imgLoadData p w => Sys2Proof.Machine.execImgLoadData p w s
  | .imgLoadEnd p => Sys2Proof.Machine.execImgLoadEnd p s
  | .imgLoadAbort p => Sys2Proof.Machine.execImgLoadAbort p s
  | .containerCheckDone => Sys2Proof.Machine.execContainerCheckDone s
  | .imgHashDataRead p => Sys2Proof.Machine.execImgHashDataRead p s
  | .fuseRaise stuck => Sys2Proof.Machine.execFuseRaise stuck s
  | .storeRead who addr count decay => Sys2Proof.Machine.execStoreRead who addr count decay s
  | .storeProgram who addr words => Sys2Proof.Machine.execStoreProgram who addr words s
  | .programLineDone => Sys2Proof.Machine.execProgramLineDone s
  | .storeErase who sector => Sys2Proof.Machine.execStoreErase who sector s
  | .erasePulse verify => Sys2Proof.Machine.execErasePulse verify s
  | .eraseResume => Sys2Proof.Machine.execEraseResume s
  | .storeStatus who sector => Sys2Proof.Machine.execStoreStatus who sector s
  | .storeProtect group on pwdOk => Sys2Proof.Machine.execStoreProtect group on pwdOk s
  | .watchdogReset => Sys2Proof.Machine.execWatchdogReset s
  | .watchdogExpiry => Sys2Proof.Machine.execWatchdogExpiry s
  | .fwCtrlActivateOffline p slotB => Sys2Proof.Machine.execFwCtrlActivateOffline p slotB s
  | .fwCtrlActivateOnline p slotB => Sys2Proof.Machine.execFwCtrlActivateOnline p slotB s
  | .fwCtrlReboot p recoveryLow => Sys2Proof.Machine.execFwCtrlReboot p recoveryLow s
  | .fwLoadStart p => Sys2Proof.Machine.execFwLoadStart p s
  | .fwLoadData p w => Sys2Proof.Machine.execFwLoadData p w s
  | .fwLoadEnd p => Sys2Proof.Machine.execFwLoadEnd p s
  | .fwLoadAbort p => Sys2Proof.Machine.execFwLoadAbort p s
  | .handoverLoad ok => Sys2Proof.Machine.execHandoverLoad ok s
  | .handoverShadow => Sys2Proof.Machine.execHandoverShadow s
  | .handoverQuiesce time10ns => Sys2Proof.Machine.execHandoverQuiesce time10ns s
  | .prepareTimeout => Sys2Proof.Machine.execPrepareTimeout s
  | .makerHashProgram hash => Sys2Proof.Machine.execMakerHashProgram hash s
  | .debugToken perms pub sig => Sys2Proof.Machine.execDebugToken perms pub sig s
  | .sidebandRegisterWrite bytes wakeUs => Sys2Proof.Machine.execSidebandRegisterWrite bytes wakeUs s
  | .sidebandRegisterRead bytes wakeUs => Sys2Proof.Machine.execSidebandRegisterRead bytes wakeUs s
  | .sclLowTimeout inWrite => Sys2Proof.Machine.execSclLowTimeout inWrite s
  | .sdaLowTimeout => Sys2Proof.Machine.execSdaLowTimeout s
  | .inBandRequest => Sys2Proof.Machine.execInBandRequest s
  | .inBandRequestTimeout => Sys2Proof.Machine.execInBandRequestTimeout s
  | .rateLimitWindow => Sys2Proof.Machine.execRateLimitWindow s
  | .promptBookCopy => Sys2Proof.Machine.execPromptBookCopy s
  | .pbookCursorWrite p set w => Sys2Proof.Machine.execPbookCursorWrite p set w s
  | .pbookWinRead p set word => Sys2Proof.Machine.execPbookWinRead p set word s
  | .pbookClear p upTo areas => Sys2Proof.Machine.execPbookClear p upTo areas s
  | .pmonFreeze p w => Sys2Proof.Machine.execPmonFreeze p w s
  | .pmonClear p => Sys2Proof.Machine.execPmonClear p s
  | .glbAccessClear p => Sys2Proof.Machine.execGlbAccessClear p s
  | .cpdPowerClearPeak p => Sys2Proof.Machine.execCpdPowerClearPeak p s
  | .registerWrite p index w full => Sys2Proof.Machine.execRegisterWrite p index w full s
  | .crystalStart => Sys2Proof.Machine.execCrystalStart s
  | .crystalStop => Sys2Proof.Machine.execCrystalStop s
  | .pllUnlock pll => Sys2Proof.Machine.execPllUnlock pll s
  | .domainPowerUp domain => Sys2Proof.Machine.execDomainPowerUp domain s
  | .railPgHigh rail => Sys2Proof.Machine.execRailPgHigh rail s
  | .railPgLow rail => Sys2Proof.Machine.execRailPgLow rail s
  | .lunReady lun => Sys2Proof.Machine.execLunReady lun s
  | .builtInSequenceWaitEnd => Sys2Proof.Machine.execBuiltInSequenceWaitEnd s
  | .sidebandIdle => Sys2Proof.Machine.execSidebandIdle s
  | .inBandRequestAccepted won => Sys2Proof.Machine.execInBandRequestAccepted won s
  | .firmwareLoadEnded => Sys2Proof.Machine.execFirmwareLoadEnded s
  | .clearEventRecords port ld log all handles => Sys2Proof.Machine.execClearEventRecords port ld log all handles s

end Sys2Proof.Machine
end

