-- ==== Sys2Proof/WellFormed.lean ====
section
/-! DEFINITION. Which terms of Instr are commands a sender can send: every operand lies in the range that the spec gives its field. The meanings are total: they answer for ill-formed terms too. -/

namespace Sys2Proof

/-- A DPA line number, where a decoder maps the address: below 2^41 bytes (R376). -/
def lineOk (line : Option Nat) : Bool := line.elim true (fun l => decide (l < 2 ^ 35))
/-- The fields of a frame's header fit (R464). -/
def hdrOk (h : LinkHdr) : Bool := decide (h.src < 512) && decide (h.id < 256) && decide (h.epoch < 4) && decide (h.dest < 512)

/-- The operands of a command lie in their ranges: ports (R4), logical devices, tags and epochs (R224), channels, LUNs (R213), rails (R443), monitors (R444), PLLs and domains (R672, R673), roles and context slots (R412), keys (R418), register indices (R12), nodes (R464), sectors and groups (R542). -/
def wellFormed (i : Instr) : Bool :=
  match i with
  | .vaonApplied sel0 sel1 sel2 _ => decide (sel0 < 8) && decide (sel1 < 8) && decide (sel2 < 8)
  | .vaonLoss => true
  | .vinFall => true
  | .vinRise => true
  | .mainInputFailure => true
  | .supplyGood => true
  | .drainComplete => true
  | .postSealDecision => true
  | .holdDeadline => true
  | .abortProgramsDrained => true
  | .memWr port ld tag line _ _ => decide (port < 2) && decide (ld < 16) && decide (tag < 65536) && lineOk line
  | .memWrPtl port ld tag line _ _ _ => decide (port < 2) && decide (ld < 16) && decide (tag < 65536) && lineOk line
  | .heldWriteRelease _ => true
  | .memRd port ld tag line => decide (port < 2) && decide (ld < 16) && decide (tag < 65536) && lineOk line
  | .memRdData port ld tag line => decide (port < 2) && decide (ld < 16) && decide (tag < 65536) && lineOk line
  | .memSpecRd port ld line => decide (port < 2) && decide (ld < 16) && lineOk line
  | .memInv port ld req => decide (port < 2) && decide (ld < 16) && decide (req.tag < 65536) && lineOk req.line
  | .memInvNt port ld req => decide (port < 2) && decide (ld < 16) && decide (req.tag < 65536) && lineOk req.line
  | .effectiveCapRecompute => true
  | .sweepStart _ => true
  | .sweepVisit _ => true
  | .ledgerLineFill _ _ _ => true
  | .trickleFrame _ => true
  | .trickleBudgetTick _ => true
  | .pageProgramIssue lun => decide (lun < 256)
  | .pageProgramStatus ch tag epoch _ _ => decide (ch < 16) && decide (tag < 64) && decide (epoch < 4)
  | .pageReadIssue lun => decide (lun < 256)
  | .pageReadComplete ch tag epoch _ _ => decide (ch < 16) && decide (tag < 64) && decide (epoch < 4)
  | .commandTimeout ch tag => decide (ch < 16) && decide (tag < 64)
  | .blockEraseComplete ch tag epoch _ => decide (ch < 16) && decide (tag < 64) && decide (epoch < 4)
  | .flashChannelTraining ch _ _ _ => decide (ch < 16)
  | .strikeRelocation _ => true
  | .mapCheckpointDue _ => true
  | .flInjectArm _ _ => true
  | .mpCmd ch => decide (ch < 16)
  | .mpAddr ch => decide (ch < 16)
  | .mpDin ch => decide (ch < 16)
  | .mpDout ch _ => decide (ch < 16)
  | .mpWaitRdy ch => decide (ch < 16)
  | .mpWaitRdyTimeout ch => decide (ch < 16)
  | .mpDelay ch => decide (ch < 16)
  | .mpDelayExpiry ch => decide (ch < 16)
  | .mpStatus ch status => decide (ch < 16) && decide (status < 256)
  | .mpBranch ch => decide (ch < 16)
  | .mpSetfeat ch => decide (ch < 16)
  | .mpLoop ch => decide (ch < 16)
  | .mpEnd ch => decide (ch < 16)
  | .mpRunTimeout ch => decide (ch < 16)
  | .frameRestored _ _ => true
  | .touchFetchStart _ => true
  | .bitmapLineFill _ _ => true
  | .touchHoldWarning _ => true
  | .heatDrain _ => true
  | .heatHalving _ => true
  | .restoreCtrlStart _ _ => true
  | .restoreCtrlResume _ _ => true
  | .restoreTouchMaxClear _ _ => true
  | .ldgHoldMaxClear _ _ => true
  | .dramRequestEnqueue _ _ port => decide (port < 8)
  | .dramCommandIssue _ _ _ _ => true
  | .ageLimitExpiry _ _ => true
  | .refreshInterval _ _ rank => decide (rank < 2)
  | .rowIdleClose _ _ _ => true
  | .rankPowerDown _ _ rank => decide (rank < 2)
  | .idleSelfRefresh _ _ => true
  | .selfRefreshExit _ _ => true
  | .selfRefreshMaxExit _ _ => true
  | .dramReadComplete _ _ _ => true
  | .remapCopyDone entry => decide (entry < 2048)
  | .scrubInterval _ => true
  | .refreshWindow _ => true
  | .dcInjectArm _ _ _ => true
  | .dcErrCaptureRead _ _ => true
  | .scrubPositionWrite _ _ _ => true
  | .dcDlyDataWrite _ _ _ => true
  | .dcDlyDataRead _ _ => true
  | .dcTrnCtrlStart _ _ _ => true
  | .trainingRunDone _ _ _ => true
  | .driftTracking _ => true
  | .i3cTransfer _ _ => true
  | .i3cTransferDone _ _ => true
  | .dramSensorPoll _ => true
  | .linkUp port _ _ => decide (port < 2)
  | .linkDown port => decide (port < 2)
  | .devloadUpdate => true
  | .gpfPhase1 port => decide (port < 2)
  | .gpfPhase2 port => decide (port < 2)
  | .gpfPhase2Complete port => decide (port < 2)
  | .pmeTurnOff port => decide (port < 2)
  | .getHealthInfo port ld => decide (port < 2) && decide (ld < 16)
  | .getAlertConfiguration port ld => decide (port < 2) && decide (ld < 16)
  | .setAlertConfiguration port ld _ _ _ => decide (port < 2) && decide (ld < 16)
  | .getShutdownState port ld => decide (port < 2) && decide (ld < 16)
  | .setShutdownState port ld _ => decide (port < 2) && decide (ld < 16)
  | .getPoisonList port ld _ _ => decide (port < 2) && decide (ld < 16)
  | .injectPoison port ld _ => decide (port < 2) && decide (ld < 16)
  | .clearPoison port ld _ _ => decide (port < 2) && decide (ld < 16)
  | .scanMedia port ld _ _ => decide (port < 2) && decide (ld < 16)
  | .getScanMediaResults port ld => decide (port < 2) && decide (ld < 16)
  | .secureErase port ld => decide (port < 2) && decide (ld < 16)
  | .sanitize port ld => decide (port < 2) && decide (ld < 16)
  | .getLsa port ld _ _ => decide (port < 2) && decide (ld < 16)
  | .setLsa port ld _ _ => decide (port < 2) && decide (ld < 16)
  | .setPartitionInfo port ld => decide (port < 2) && decide (ld < 16)
  | .getLdInfo port ld => decide (port < 2) && decide (ld < 16)
  | .getLdAllocations port ld => decide (port < 2) && decide (ld < 16)
  | .setLdAllocations port ld => decide (port < 2) && decide (ld < 16)
  | .getTimestamp port ld => decide (port < 2) && decide (ld < 16)
  | .setTimestamp port ld _ => decide (port < 2) && decide (ld < 16)
  | .setEventInterruptPolicy port ld _ => decide (port < 2) && decide (ld < 16)
  | .getFwInfo port ld => decide (port < 2) && decide (ld < 16)
  | .transferFw port ld _ _ _ _ => decide (port < 2) && decide (ld < 16)
  | .activateFwOffline port ld _ => decide (port < 2) && decide (ld < 16)
  | .activateFwOnline port ld _ => decide (port < 2) && decide (ld < 16)
  | .getStageStatus port ld => decide (port < 2) && decide (ld < 16)
  | .setResidueCap port ld _ => decide (port < 2) && decide (ld < 16)
  | .plannedSave port ld _ _ => decide (port < 2) && decide (ld < 16)
  | .getGaugeReport port ld => decide (port < 2) && decide (ld < 16)
  | .startRehearsal port ld _ => decide (port < 2) && decide (ld < 16)
  | .cancelRehearsal port ld => decide (port < 2) && decide (ld < 16)
  | .readPromptBook port ld _ _ _ _ => decide (port < 2) && decide (ld < 16)
  | .clearPromptBook port ld _ _ _ => decide (port < 2) && decide (ld < 16)
  | .getBlockWear port ld lun _ _ _ => decide (port < 2) && decide (ld < 16) && decide (lun < 256)
  | .loadImageSection port ld _ _ _ _ _ => decide (port < 2) && decide (ld < 16)
  | .loadImageSectionAbort port ld _ => decide (port < 2) && decide (ld < 16)
  | .applyStageSection port ld _ _ => decide (port < 2) && decide (ld < 16)
  | .applyStageSectionUnbind port ld _ _ => decide (port < 2) && decide (ld < 16)
  | .attest port ld _ => decide (port < 2) && decide (ld < 16)
  | .getHeatStatistics port ld _ _ => decide (port < 2) && decide (ld < 16)
  | .userAreaRead port ld _ _ _ => decide (port < 2) && decide (ld < 16)
  | .userAreaProgram port ld _ _ _ => decide (port < 2) && decide (ld < 16)
  | .userAreaEraseSector port ld _ _ => decide (port < 2) && decide (ld < 16)
  | .userAreaSectorStatus port ld _ _ => decide (port < 2) && decide (ld < 16)
  | .intermissionResume port ld _ => decide (port < 2) && decide (ld < 16)
  | .getPowerReport port ld => decide (port < 2) && decide (ld < 16)
  | .laneEncrypt ch => decide (ch < 16)
  | .laneDecrypt ch => decide (ch < 16)
  | .laneRelay ch => decide (ch < 16)
  | .ciphLaneTestArm _ _ => true
  | .houseGcmEncrypt role slot key _ _ _ => decide (role < 5) && decide (slot < 64) && decide (key < 16)
  | .houseGcmDecrypt role slot key _ _ _ _ _ => decide (role < 5) && decide (slot < 64) && decide (key < 16)
  | .houseGmac role slot key _ _ => decide (role < 5) && decide (slot < 64) && decide (key < 16)
  | .keyWrap role kek _ => decide (role < 5) && decide (kek < 16)
  | .keyUnwrap role kek dest _ => decide (role < 5) && decide (kek < 16) && decide (dest < 16)
  | .houseEngineUnit => true
  | .contextSave role slot _ => decide (role < 5) && decide (slot < 64)
  | .contextRestore role slot _ _ => decide (role < 5) && decide (slot < 64)
  | .sha256Call role _ _ => decide (role < 5)
  | .signatureVerify signer _ _ _ => decide (signer < 3)
  | .randomRequest role _ => decide (role < 5)
  | .entropyHealthFail _ => true
  | .nextTreeGeneration => true
  | .ciphCertDataRead _ => true
  | .railFailure rail => decide (rail < 16)
  | .vmonUpdate ch code => decide (ch < 8) && decide (code < 4096)
  | .thermalSample _ => true
  | .cueEnable => true
  | .cueDisable => true
  | .cueWaitGood => true
  | .cueWaitGoodTimeout => true
  | .cueWaitOff => true
  | .cueWaitOffTimeout => true
  | .cueDelay => true
  | .cueDelayExpiry => true
  | .cueSignal => true
  | .cueSkipIf => true
  | .cueEnd => true
  | .dependencyPass => true
  | .backoffExpiry => true
  | .resumeRunRetry => true
  | .cueMemDataRead _ => true
  | .btnPress => true
  | .btnRelease => true
  | .btnLongPress => true
  | .mrAssert => true
  | .mrRelease => true
  | .modeRequestPowerUp _ => true
  | .modeRequestPowerDown _ => true
  | .modePlaybillApply _ _ => true
  | .linkFrameDropped => true
  | .poll h => hdrOk h
  | .status src id epoch _ _ shelf => decide (src < 512) && decide (id < 256) && decide (epoch < 4) && decide (shelf < 64)
  | .ack src id epoch _ => decide (src < 512) && decide (id < 256) && decide (epoch < 4)
  | .cueSave h _ => hdrOk h
  | .wake h => hdrOk h
  | .time h _ _ => hdrOk h
  | .grant h => hdrOk h
  | .orderStart h => hdrOk h
  | .revoke h => hdrOk h
  | .readReg h index => hdrOk h && decide (index < 65536)
  | .reservedMessage h _ => hdrOk h
  | .linkTimeout id => decide (id < 256)
  | .pollWindow => true
  | .timeWindow => true
  | .grantLimit shelf => decide (shelf < 64)
  | .leadLost => true
  | .linkCmdGo _ _ => true
  | .gaugeConversion _ _ => true
  | .batteryPresent => true
  | .batteryAbsent => true
  | .batteryFault cause => decide (1 ≤ cause ∧ cause ≤ 3)
  | .batteryFaultCleared cause => decide (1 ≤ cause ∧ cause ≤ 3)
  | .gaugeUpdate => true
  | .chgDoneEdge _ => true
  | .newPack _ => true
  | .rehearsalTimeout => true
  | .boot _ _ _ => true
  | .dressingComplete _ _ => true
  | .redressCommit _ => true
  | .stageCtrlRedress _ _ => true
  | .stageCtrlUnbind _ _ => true
  | .stageXbarFaultClear _ => true
  | .imgLoadStart _ => true
  | .imgLoadData _ _ => true
  | .imgLoadEnd _ => true
  | .imgLoadAbort _ => true
  | .containerCheckDone => true
  | .imgHashDataRead _ => true
  | .fuseRaise _ => true
  | .storeRead _ _ _ _ => true
  | .storeProgram _ _ _ => true
  | .programLineDone => true
  | .storeErase _ sector => decide (sector < 8192)
  | .erasePulse _ => true
  | .eraseResume => true
  | .storeStatus _ sector => decide (sector < 8192)
  | .storeProtect group _ _ => decide (group < 128)
  | .watchdogReset => true
  | .watchdogExpiry => true
  | .fwCtrlActivateOffline _ _ => true
  | .fwCtrlActivateOnline _ _ => true
  | .fwCtrlReboot _ _ => true
  | .fwLoadStart _ => true
  | .fwLoadData _ _ => true
  | .fwLoadEnd _ => true
  | .fwLoadAbort _ => true
  | .handoverLoad _ => true
  | .handoverShadow => true
  | .handoverQuiesce _ => true
  | .prepareTimeout => true
  | .makerHashProgram _ => true
  | .debugToken _ _ _ => true
  | .sidebandRegisterWrite _ _ => true
  | .sidebandRegisterRead _ _ => true
  | .sclLowTimeout _ => true
  | .sdaLowTimeout => true
  | .inBandRequest => true
  | .inBandRequestTimeout => true
  | .rateLimitWindow => true
  | .promptBookCopy => true
  | .pbookCursorWrite _ _ _ => true
  | .pbookWinRead _ _ _ => true
  | .pbookClear _ _ _ => true
  | .pmonFreeze _ _ => true
  | .pmonClear _ => true
  | .glbAccessClear _ => true
  | .cpdPowerClearPeak _ => true
  | .registerWrite _ index _ _ => decide (index < 65536)
  | .crystalStart => true
  | .crystalStop => true
  | .pllUnlock pll => decide (pll < 5)
  | .domainPowerUp domain => decide (domain < 56)
  | .railPgHigh rail => decide (rail < 16)
  | .railPgLow rail => decide (rail < 16)
  | .lunReady lun => decide (lun < 256)
  | .builtInSequenceWaitEnd => true
  | .sidebandIdle => true
  | .inBandRequestAccepted _ => true
  | .firmwareLoadEnded => true
  | .clearEventRecords port ld _ _ _ => decide (port < 2) && decide (ld < 16)

end Sys2Proof
end

