-- ==== Sys2Proof/Safety.lean ====
section
/-! DEFINITION. The words the statements use: a command that completes, what the end of every command leaves alone, and a settled state. -/

namespace Sys2Proof.Machine

/-- The command completes: it answers a next state `t`, the end of a command (`finish`) over the state `u` that the command's own effect leaves. `u.evs` holds the events that the command hands to the recorder (R623, R625). `post` says what `u` and `t` hold. -/
def Answers (c : Instr) (s : State) (post : State → State → Prop) : Prop :=
  ∃ u, exec c s = .next (finish u) ∧ post u (finish u)

/-- The command's own effect sends one message. -/
abbrev Sends (s u : State) (o : Output) : Prop := u.out = s.out ++ [o]
/-- The command's own effect hands one event to the recorder. -/
abbrev Logs (s u : State) (e : Ev) : Prop := u.evs = s.evs ++ [e]

/-- Two fields share no bit: they lie in different registers, or in different bits of one register. -/
def apart (f g : Fld) : Bool :=
  decide (homeIdx f.idx ≠ homeIdx g.idx) || (decide (f.idx = g.idx) && (decide (f.lo + f.width ≤ g.lo) || decide (g.lo + g.width ≤ f.lo)))
/-- A channel but for what the end of a command follows: the levels of the real-time ports' buffers and their panic (R272). -/
def calmChannel (x : Channel) : Channel := { x with level0 := 0, level1 := 0, panic0 := false, panic1 := false, panicSince := 0, panicTime := 0 }
/-- The DRAM of two states is the same but for the levels and the panic of its channels. -/
abbrev SameDram (s t : State) : Prop := { t.dram with ch := qmap calmChannel t.dram.ch } = { s.dram with ch := qmap calmChannel s.dram.ch }
/-- The fields that the end of a command may change: CHG_EN (R500), the panics counted (R272), the recorder's next sequence number and the alert sources its codes set (R615, R625), the performance counters and their overflow bits (R639). -/
def endFields : List Fld :=
  [F.GAUGE_STATUS_CHG_EN, F.PBOOK_STATUS_NEXT_SEQ, F.SB_ALERT_STATUS_SOURCES, F.PMON_STATUS_OVERFLOW] ++ (List.range 32).map F.PMON_CNT_COUNT
    ++ (List.range 4).map F.DC_PANIC_COUNT_PANICS
/-- A field that lies in a 48-bit register and that the end of a command leaves alone. -/
def steadyField (f : Fld) : Bool := decide (f.lo + f.width ≤ 48) && endFields.all (fun e => apart e f)

/-- What the end of a command leaves alone: time, modes, memories, engines, queues, and every field of a register but `endFields`; of a DRAM channel all but levels and panic. -/
structure Quiet (s t : State) : Prop where
  now : t.now = s.now
  modes : t.modes = s.modes
  store : t.store = s.store
  cipher : t.cipher = s.cipher
  dram : SameDram s t
  flash : t.flash = s.flash
  ledger : t.ledger = s.ledger
  saves : t.saves = s.saves
  saveDev : t.saveDev = s.saveDev
  restore : t.restore = s.restore
  heat : t.heat = s.heat
  power : t.power = s.power
  link : t.link = s.link
  side : t.side = s.side
  pack : t.pack = s.pack
  timers : t.timers = s.timers
  pending : t.pending = s.pending
  freeIdx : t.freeIdx = s.freeIdx
  image : { t.image with fuseTarget := s.image.fuseTarget } = s.image
  fw : { t.fw with raises := s.fw.raises } = s.fw
  gauge : { t.gauge with learning := s.gauge.learning } = s.gauge
  cxl : { t.cxl with logs := s.cxl.logs, lastHealth := s.cxl.lastHealth, alerted := s.cxl.alerted, background := s.cxl.background, depthSum := s.cxl.depthSum } = s.cxl
  fields : ∀ f, steadyField f = true → rd t f = rd s f
  outKept : ∃ more, t.out = s.out ++ more

/-- The engines and memories stand: everything of the state but the register file, the prompt book, the sideband, what was sent, and what the end of a command follows, the panic of a DRAM channel among it. -/
structure Still (s t : State) : Prop where
  now : t.now = s.now
  modes : t.modes = s.modes
  store : t.store = s.store
  cipher : t.cipher = s.cipher
  dram : SameDram s t
  flash : t.flash = s.flash
  ledger : t.ledger = s.ledger
  saves : t.saves = s.saves
  saveDev : t.saveDev = s.saveDev
  restore : t.restore = s.restore
  heat : t.heat = s.heat
  power : t.power = s.power
  link : t.link = s.link
  pack : t.pack = s.pack
  timers : t.timers = s.timers
  pending : t.pending = s.pending
  freeIdx : t.freeIdx = s.freeIdx
  image : { t.image with fuseTarget := s.image.fuseTarget } = s.image
  fw : { t.fw with raises := s.fw.raises } = s.fw
  gauge : { t.gauge with learning := s.gauge.learning } = s.gauge
  cxl : { t.cxl with logs := s.cxl.logs, lastHealth := s.cxl.lastHealth, alerted := s.cxl.alerted, background := s.cxl.background, depthSum := s.cxl.depthSum } = s.cxl

/-- A write of a path reaches the register: the path exists now, the index is allocated and open to the path (R608, R609, R646, R647, R655). -/
def pathWrites (s : State) (p : Path) (i : Nat) : Bool :=
  pathOpen s p && (if p = .sideband then regExists i && !isI3c i && !notServed s i && sideGroup s i else (writeAllowed s (wpath p) i true).1)
/-- A field that no register access on the way to its register changes: not those of SB_LAST, which the sideband keeps (R621). -/
def pathField (f : Fld) : Bool := steadyField f && apart F.SB_LAST_INDEX f && apart F.SB_LAST_RESULT f

/-- The state in which a write of a path reaches its register: a sideband transfer has been counted by then (R641). -/
def atRegister (s : State) (p : Path) : State := if p = .sideband then sideHit s else s

/-- A state between commands: the recorder has taken every event (R625), CHG_EN stands as R500 gives it, and the level counters are counted up to the present (R640). -/
structure Settled (s : State) : Prop where
  evs : s.evs = []
  charge : rdb s F.GAUGE_STATUS_CHG_EN = chgWanted s
  counted : s.pmonAt = s.now
  levels : s.pmonLevels = rates s

end Sys2Proof.Machine
end

