-- ==== Sys2Proof/Certificates/Slice0/Obligations.lean ====
section
/-! DEFINITION. The statements for the provers, from the numbered rules of spec/. -/

open Sys2Proof Sys2Proof.Machine

/-- For every state and every command c: where c stands at the front of the waiting commands, one step is exec of c on the state with the queue's rest. -/
def Obligations.StepTakesFront : Prop :=
  ∀ (s : State) (c : Instr) (cs : List Instr), step { s with pending := c :: cs } = exec c { s with pending := cs }

/-- The model's choice of log entry 1: with no command waiting, a step is the end of a command over idleClock, in which one data-path clock passes: time
moves by eight eighths of a clock, the slots whose writing has ended get their valid marks, write-through operation queues its dirty frames and
requests whose credits are back come in. Where no slot is due, no stage has a dirty frame to queue and no request waits at a port, time is all that
changes. -/
def Obligations.IdleStep : Prop :=
  (∀ s : State, step { s with pending := [] } = .next (finish (idleClock { s with pending := [] })))
  ∧ (∀ s : State, s.store.writing.all (fun e => decide (s.now + 8 < e.done)) = true →
    (∀ n : Stage, wtDirty s n = [] ∧ (led s n).stallW = [] ∧ (led s n).stallR = []) → idleClock s = { s with now := s.now + 8 })

/-- For every command and every state, well-formed or not, exec answers a next state, and that state is the end of a command, finish, over the state its
own effect leaves. -/
def Obligations.EveryCommandCompletes : Prop :=
  ∀ (c : Instr) (s : State), ∃ u, exec c s = .next (finish u)

/-- For every state, what ends a command (finish) leaves time, modes, script store, keys, flash, ledger, saves, restores, heat, power, link, sideband,
package, timers, the queue and the free-value counter as they are. Of the DRAM it changes only the levels of the channels' real-time buffers and their
panic (R272). Of the image, firmware, gauge and CXL state it changes only what follows a command: the fuse target and raises, the chance of learning,
the event logs, health and background records and depth sums. Of the registers it changes only CHG_EN, NEXT_SEQ, the alert sources, the panics counted
(DC_PANIC_COUNT), and the performance counters with their overflow bits. What was sent before stays sent, in order. -/
def Obligations.CommandEndIsQuiet : Prop :=
  ∀ s : State, Quiet s (finish s)

/-- For every state s and t, settled or not: if a step from s answers next t, then in t the recorder has taken every event of the command, CHG_EN is 1
exactly where the condition of R500 holds, the level counters are counted up to the present time, and the levels they count from are those of t. So
settledness is an invariant that every step establishes. That CHG_EN is evaluated at the end of every command and not between is the model's choice
(log entry 108). -/
def Obligations.StepSettles : Prop :=
  ∀ s t : State, step s = .next t → Settled t

/-- In the state after reset: every allocated register but the three serial registers holds in each field of its table row the field's reset value; the
device mode is Dark, every stage is Unbound, no recovery and no intermission is set, and no command waits. The state is settled but for the counters'
rates: no event waits for the recorder, CHG_EN is 0 and its condition does not hold, and the counters are counted up to the present; the first step
settles the rates, which State.reset leaves empty (model's own field). -/
def Obligations.ResetState : Prop :=
  (∀ i : Nat, i ≠ 2 → i ≠ 3 → i ≠ 4 → ∀ f ∈ regFields i, rd State.reset ⟨i, f.lo, f.width⟩ = f.reset % 2 ^ f.width)
  ∧ State.reset.modes.mode = .dark ∧ (∀ n : Stage, stageSt State.reset n = .unbound)
  ∧ State.reset.modes.recovery = false ∧ State.reset.modes.intermission = false ∧ State.reset.pending = []
  ∧ State.reset.evs = [] ∧ rdb State.reset F.GAUGE_STATUS_CHG_EN = chgWanted State.reset ∧ State.reset.pmonAt = State.reset.now

/-- For every state, path, index and word: where the path writes the register (it exists now and the index is open to it), the main domain serves the
register, the register has no behaviour of its own and no rule ignores the write, REGISTER_WRITE completes, and in each field of the register's row:
RW and RS read the word's bits, RWK reads them unless the lock of the register's scope holds and else stands, RW1C is cleared where the word has ones,
RO and WO stand. Every field of another register but GLB_ACCESS and the sideband's SB_LAST stands, and so do the engines and memories. The fields that
the end of a command follows (CHG_EN, NEXT_SEQ, alert sources, performance counters) are left out. -/
def Obligations.RegisterWriteByAccessType : Prop :=
  ∀ (s : State) (p : Path) (i : Nat) (w : Word), pathWrites s p i = true → (mainOff s && regDomain i = .main) = false →
    writeIgnored (atRegister s p) i w = false → (∀ x : State, trigger x i w s.fw.recoveryLow = x) →
    Answers (.registerWrite p i w true) s (fun _ t =>
      (∀ f ∈ regFields i, pathField ⟨i, f.lo, f.width⟩ = true →
        rd t ⟨i, f.lo, f.width⟩ = (match f.access with
          | .rw | .rs => fldOf w ⟨i, f.lo, f.width⟩
          | .rwk => if regLocked s i then rd s ⟨i, f.lo, f.width⟩ else fldOf w ⟨i, f.lo, f.width⟩
          | .rw1c => fldOf (rawReg s i &&& ~~~w) ⟨i, f.lo, f.width⟩
          | .ro | .wo => rd s ⟨i, f.lo, f.width⟩))
      ∧ (∀ g : Fld, pathField g = true → homeIdx g.idx ≠ homeIdx i → homeIdx g.idx ≠ 8 → rd t g = rd s g)
      ∧ Still s t)

/-- On every path that writes the register: LDG_HOLD_MAX_CLEAR leaves the stage's LDG_HOLD_MAX.MAX_US at 0, RESTORE_TOUCH_MAX_CLEAR the stage's
RESTORE_TOUCH_MAX.MAX_US, GLB_ACCESS_CLEAR leaves GLB_ACCESS.COUNT and KIND at 0, STAGE_XBAR_FAULT_CLEAR leaves STAGE_XBAR_FAULT.COUNT at 0, and
CPD_POWER_CLEAR_PEAK makes CPD_POWER.PEAK_MW read 0. Every other field of a register stands but SB_LAST on the sideband and what the end of every
command follows, and the engines and memories stand. PMON_CLEAR leaves every one of the 32 performance counters at 0 when its own effect ends, before
the end of the command counts anything new, and every other field stands; PMON_FREEZE leaves FREEZE and WRAP_EVENT as its word says, so the counters
run exactly where FREEZE is 0 and the device is outside Dark and Hold. -/
def Obligations.RegisterClears : Prop :=
  ∀ (s : State) (p : Path) (n : Stage),
    (pathWrites s p (F.LDG_HOLD_MAX_MAX_US n.val).idx = true → Answers (.ldgHoldMaxClear p n) s (fun _ t => rd t (F.LDG_HOLD_MAX_MAX_US n.val) = 0 ∧
      (∀ g, pathField g = true → apart (F.LDG_HOLD_MAX_MAX_US n.val) g = true → rd t g = rd s g) ∧ Still s t))
    ∧ (pathWrites s p (F.RESTORE_TOUCH_MAX_MAX_US n.val).idx = true → Answers (.restoreTouchMaxClear p n) s (fun _ t => rd t (F.RESTORE_TOUCH_MAX_MAX_US n.val) = 0 ∧
      (∀ g, pathField g = true → apart (F.RESTORE_TOUCH_MAX_MAX_US n.val) g = true → rd t g = rd s g) ∧ Still s t))
    ∧ (pathWrites s p F.GLB_ACCESS_COUNT.idx = true → Answers (.glbAccessClear p) s (fun _ t => rd t F.GLB_ACCESS_COUNT = 0 ∧ rd t F.GLB_ACCESS_KIND = 0 ∧
      (∀ g, pathField g = true → apart F.GLB_ACCESS_COUNT g = true → apart F.GLB_ACCESS_KIND g = true → rd t g = rd s g) ∧ Still s t))
    ∧ (pathWrites s p F.STAGE_XBAR_FAULT_COUNT.idx = true → Answers (.stageXbarFaultClear p) s (fun _ t => rd t F.STAGE_XBAR_FAULT_COUNT = 0 ∧
      (∀ g, pathField g = true → apart F.STAGE_XBAR_FAULT_COUNT g = true → rd t g = rd s g) ∧ Still s t))
    ∧ (pathWrites s p F.CPD_POWER_PEAK_MW.idx = true → Answers (.cpdPowerClearPeak p) s (fun _ t => fldOf (regView t F.CPD_POWER_PEAK_MW.idx) F.CPD_POWER_PEAK_MW = 0 ∧
      (∀ g, pathField g = true → rd t g = rd s g) ∧ Still { s with pack := { s.pack with peakSince := tickOf s } } t))
    ∧ (∀ w : Word, pathWrites s p F.PMON_CTRL_FREEZE.idx = true →
      Answers (.pmonClear p) s (fun u t => (∀ k, k < 32 → rawReg u (F.PMON_CNT_COUNT k).idx = 0#48) ∧ (∀ g, pathField g = true → rd t g = rd s g) ∧ Still s t)
      ∧ Answers (.pmonFreeze p w) s (fun _ t => rd t F.PMON_CTRL_FREEZE = fldOf w F.PMON_CTRL_FREEZE ∧ rd t F.PMON_CTRL_WRAP_EVENT = fldOf w F.PMON_CTRL_WRAP_EVENT
        ∧ (pmonRuns t = true ↔ fldOf w F.PMON_CTRL_FREEZE = 0 ∧ s.modes.mode ≠ .dark ∧ s.modes.mode ≠ .hold) ∧ Still s t))

/-- On every path that writes the register, where no rule ignores the write: DC_INJECT_ARM leaves ARM of the channel's DC_INJECT at 1 and MODE, DEVICE,
SUBCHANNEL and ANY as its word gives them; FL_INJECT_ARM leaves ARM of FL_INJECT at 1 and CHANNEL, BITS, UNCORRECTABLE and ON_READ as its word gives
them; CIPH_LANE_TEST_ARM leaves ARM at 1 and arms the tag test of the word's lane. SCRUB_POSITION_WRITE leaves the channel's POSITION, PASSES and
PASS_TIME_H as its word gives them. DRAM contents, flash, keys and modes stand. -/
def Obligations.ArmRows : Prop :=
  ∀ (s : State) (p : Path) (c : DramCh) (w : Word),
    (pathWrites s p (F.DC_INJECT_ARM c.val).idx = true → writeIgnored (atRegister s p) (F.DC_INJECT_ARM c.val).idx (w ||| oneField (F.DC_INJECT_ARM c.val) 1) = false →
      Answers (.dcInjectArm p c w) s (fun _ t => rd t (F.DC_INJECT_ARM c.val) = 1 ∧ rd t (F.DC_INJECT_MODE c.val) = fldOf w (F.DC_INJECT_MODE c.val)
        ∧ rd t (F.DC_INJECT_DEVICE c.val) = fldOf w (F.DC_INJECT_DEVICE c.val) ∧ rd t (F.DC_INJECT_SUBCHANNEL c.val) = fldOf w (F.DC_INJECT_SUBCHANNEL c.val)
        ∧ rd t (F.DC_INJECT_ANY c.val) = fldOf w (F.DC_INJECT_ANY c.val) ∧ Still s t))
    ∧ (pathWrites s p F.FL_INJECT_ARM.idx = true → writeIgnored (atRegister s p) F.FL_INJECT_ARM.idx (w ||| oneField F.FL_INJECT_ARM 1) = false →
      Answers (.flInjectArm p w) s (fun _ t => rd t F.FL_INJECT_ARM = 1 ∧ rd t F.FL_INJECT_CHANNEL = fldOf w F.FL_INJECT_CHANNEL
        ∧ rd t F.FL_INJECT_BITS = fldOf w F.FL_INJECT_BITS ∧ rd t F.FL_INJECT_UNCORRECTABLE = fldOf w F.FL_INJECT_UNCORRECTABLE
        ∧ rd t F.FL_INJECT_ON_READ = fldOf w F.FL_INJECT_ON_READ ∧ Still s t))
    ∧ (pathWrites s p F.CIPH_LANE_TEST_ARM.idx = true → writeIgnored (atRegister s p) F.CIPH_LANE_TEST_ARM.idx (w ||| oneField F.CIPH_LANE_TEST_ARM 1) = false →
      Answers (.ciphLaneTestArm p w) s (fun _ t => rd t F.CIPH_LANE_TEST_ARM = 1 ∧ rd t F.CIPH_LANE_TEST_LANE = fldOf w F.CIPH_LANE_TEST_LANE
        ∧ Still { s with cipher := { s.cipher with laneTest := some (fldOf w F.CIPH_LANE_TEST_LANE) } } t))
    ∧ (pathWrites s p (F.DC_SCRUB_STATUS_POSITION c.val).idx = true →
      Answers (.scrubPositionWrite p c w) s (fun _ t => rd t (F.DC_SCRUB_STATUS_POSITION c.val) = fldOf w (F.DC_SCRUB_STATUS_POSITION c.val)
        ∧ rd t (F.DC_SCRUB_STATUS_PASSES c.val) = fldOf w (F.DC_SCRUB_STATUS_PASSES c.val)
        ∧ rd t (F.DC_SCRUB_STATUS_PASS_TIME_H c.val) = fldOf w (F.DC_SCRUB_STATUS_PASS_TIME_H c.val) ∧ Still s t))

/-- VAON_LOSS: the time is 0, the device is Dark, every stage Unbound, every register field that the end of a command does not follow holds its reset
value, no key is loaded, no DRAM line is listed, and the script store's cells, but for the valid marks that were due, the NAND pages and blocks and
the fuses are as before. VAON_APPLIED: the same of time, modes, cells and fuses; SB_STATUS shows the straps and the node address 64 SEL2 + 8 SEL1 +
SEL0 (R602), the comparator starts as failed, and event 0xC08 with node and strap fault is handed to the recorder. That VAON_APPLIED first resets what
a loss of VAON loses is the model's choice (log entry 100). -/
def Obligations.VaonCommands : Prop :=
  ∀ s : State,
    Answers .vaonLoss s (fun _ t => t.now = 0 ∧ t.modes = State.reset.modes ∧ t.cipher.keys = [] ∧ t.dram.lines = []
      ∧ (∀ g, steadyField g = true → rd t g = rd State.reset g)
      ∧ t.store.nor = (slotsFollow s).store.nor ∧ t.store.prot = s.store.prot ∧ t.flash.pages = s.flash.pages ∧ t.flash.blocks = s.flash.blocks
      ∧ t.fw.fuseFw = s.fw.fuseFw ∧ t.fw.fuseImg = s.fw.fuseImg ∧ t.fw.makerHash = s.fw.makerHash ∧ t.pending = s.pending)
    ∧ (∀ (a b c : Nat) (fault : Bool), a < 8 → b < 8 → c < 8 → Answers (.vaonApplied a b c fault) s (fun u t => t.now = 0 ∧ t.modes = State.reset.modes
      ∧ t.power.failed = true ∧ rd t F.SB_STATUS_NODE = 64 * c + 8 * b + a ∧ rd t F.SB_STATUS_SEL0 = a ∧ rd t F.SB_STATUS_SEL1 = b
      ∧ rd t F.SB_STATUS_SEL2 = c ∧ rd t F.SB_STATUS_STRAP_FAULT = b2n fault
      ∧ (⟨0xC08, 0, 0, 64 * c + 8 * b + a + 512 * b2n fault⟩ : Ev) ∈ u.evs
      ∧ t.store.nor = (slotsFollow s).store.nor ∧ t.flash.pages = s.flash.pages ∧ t.fw.fuseFw = s.fw.fuseFw ∧ t.fw.fuseImg = s.fw.fuseImg))

/-- VIN_FALL while no debounce window is over: BELOW_FAIL reads 1 and ABOVE_GOOD 0, a debounce window is given up, and unless the comparator's output has
already failed a deglitch window runs that ends DEGLITCH_US (taken as 1 to 20) after the first fall. VIN_RISE while no deglitch window is over:
ABOVE_GOOD reads 1 and BELOW_FAIL 0, the deglitch window is given up, the failed output clears, and unless supply good already stands a debounce
window runs that ends DEBOUNCE ticks (at least 1) after the first rise. Nothing else of the engines changes and no other register field but those the
end of a command follows. Where the other window is over at the present time it acts first: VIN_FALL then does what it does on the state in which
supply good has been observed, VIN_RISE on the state in which the main input has failed. -/
def Obligations.VinCrossings : Prop :=
  ∀ s : State,
    (debounceOver s = false → Answers .vinFall s (fun _ t => rd t F.PWR_VIN_STATUS_BELOW_FAIL = 1 ∧ rd t F.PWR_VIN_STATUS_ABOVE_GOOD = 0
      ∧ (∀ g, steadyField g = true → apart F.PWR_VIN_STATUS_BELOW_FAIL g = true → apart F.PWR_VIN_STATUS_ABOVE_GOOD g = true → rd t g = rd s g)
      ∧ Still { s with power := { s.power with
          debounce := none
          deglitch := if s.power.failed then none else some (s.power.deglitch.getD (s.now + min 20 (max 1 (rd s F.PWR_VIN_CFG_DEGLITCH_US)) * unitsPerUs)) } } t))
    ∧ (debounceOver s = true → exec .vinFall s = exec .vinFall (supplyWindow s) ∧ debounceOver (supplyWindow s) = false)
    ∧ (deglitchDue s = false → Answers .vinRise s (fun _ t => rd t F.PWR_VIN_STATUS_BELOW_FAIL = 0 ∧ rd t F.PWR_VIN_STATUS_ABOVE_GOOD = 1
      ∧ (∀ g, steadyField g = true → apart F.PWR_VIN_STATUS_BELOW_FAIL g = true → apart F.PWR_VIN_STATUS_ABOVE_GOOD g = true → rd t g = rd s g)
      ∧ Still { s with power := { s.power with
          deglitch := none
          failed := false
          debounce := if rdb s F.PWR_VIN_STATUS_SUPPLY_GOOD then none else some (s.power.debounce.getD (tickOf s + max 1 (rd s F.PWR_VIN_CFG_DEBOUNCE))) } } t))
    ∧ (deglitchDue s = true → exec .vinRise s = exec .vinRise (inputFailed s) ∧ deglitchDue (inputFailed s) = false)

/-- Where a deglitch window runs, MAIN_INPUT_FAILURE comes at its end and logs 0x809 with the mode. In Service or Restore, outside recovery, core reset
and a committed POWER_DOWN, it is the gate instant of cause 8 with action Hold: the mode is Save. In Save and Hold the mode stands, the failure is
kept for the decision after the save, SUPPLY_GOOD reads 0, and, unless a gate instant of a higher cause stands on the same clock edge (R58), 0x00B is
logged. In Standby with nothing running, an image in effect and a valid cue table POWER_DOWN starts. In Dark with no power-up running it clears
SUPPLY_GOOD and logs 0x00B. Where a debounce window runs and no hold deadline is due before its end, SUPPLY_GOOD comes at its end and logs 0x80A with
the mode; in Service, Restore and Standby SUPPLY_GOOD reads 1 and nothing else of modes changes; in Save with the abort window open the abort begins;
in Hold with HOLD_RAILS still running and a stage waiting the device is in Standby and intermission; in Dark, with the input absent before and AUTO_ON
1, no power-up under way and no run, POWER_UP runs. -/
def Obligations.MainInputWindows : Prop :=
  ∀ s : State,
    (∀ d, s.power.deglitch = some d →
      ((serving s && !s.modes.recovery && !s.modes.mrReset && !downRuns s) = true →
        Answers .mainInputFailure s (fun u t => t.modes.mode = .save ∧ t.saveDev.cause = 8 ∧ t.saveDev.action = 1 ∧ max s.now d ≤ t.now
          ∧ (⟨0x809, 0, 0, modeCode s.modes.mode⟩ : Ev) ∈ u.evs))
      ∧ ((s.modes.mode = .save ∨ s.modes.mode = .hold) → Answers .mainInputFailure s (fun u t => t.modes.mode = s.modes.mode ∧ max s.now d ≤ t.now
          ∧ t.power.deglitch = none ∧ t.power.debounce = none ∧ t.power.failed = true ∧ t.power.absent = true ∧ t.power.failedInSave = true
          ∧ rd t F.PWR_VIN_STATUS_SUPPLY_GOOD = 0 ∧ (⟨0x809, 0, 0, modeCode s.modes.mode⟩ : Ev) ∈ u.evs
          ∧ (edgeShared (until_ s d) 8 = false → (⟨0x00B, 0, 0, modeCode s.modes.mode + 64⟩ : Ev) ∈ u.evs)))
      ∧ (s.modes.mode = .standby → s.power.run = none → tableValid s = true → noImage s = false → Answers .mainInputFailure s (fun u t =>
          t.modes.mode = .standby ∧ t.power.run.elim false (fun r => r.prog == 1) = true ∧ t.power.downCause = 0x12 ∧ rd t F.PWR_VIN_STATUS_SUPPLY_GOOD = 0
          ∧ (⟨0x809, 0, 0, 1⟩ : Ev) ∈ u.evs))
      ∧ (s.modes.mode = .dark → s.power.run = none → Answers .mainInputFailure s (fun u t => t.modes = { s.modes with powerUp := none }
          ∧ rd t F.PWR_VIN_STATUS_SUPPLY_GOOD = 0 ∧ t.power.failed = true ∧ t.power.absent = true
          ∧ u.evs = s.evs ++ [⟨0x809, 0, 0, 0⟩, ⟨0x00B, 0, 0, 64⟩])))
    ∧ (∀ k, s.power.debounce = some k → (holdTick s).elim false (fun d => decide (d ≤ k)) = false →
      ((serving s = true ∨ s.modes.mode = .standby) → Answers .supplyGood s (fun u t => rd t F.PWR_VIN_STATUS_SUPPLY_GOOD = 1 ∧ t.modes = s.modes
          ∧ t.now = max s.now (k * unitsPerTick) ∧ t.power.debounce = none ∧ Logs s u (⟨0x80A, 0, 0, modeCode s.modes.mode⟩)))
      ∧ (s.modes.mode = .save → abortWindow s = true → Answers .supplyGood s (fun u t => rd t F.PWR_VIN_STATUS_SUPPLY_GOOD = 1 ∧ t.modes = s.modes
          ∧ t.saveDev.abort = 1 ∧ t.now = max s.now (k * unitsPerTick) ∧ Logs s u (⟨0x80A, 0, 0, modeCode s.modes.mode⟩)))
      ∧ (s.modes.mode = .hold → s.modes.mrLatched = false → downRuns s = false → s.power.run.isSome = true → (∃ n, qget s.modes.interWait n = true) →
          Answers .supplyGood s (fun u t => t.modes.mode = .standby ∧ t.modes.intermission = true ∧ (∃ g, (⟨0x005, 0, 0, g⟩ : Ev) ∈ u.evs)
            ∧ (⟨0x80A, 0, 0, modeCode s.modes.mode⟩ : Ev) ∈ u.evs))
      ∧ (s.modes.mode = .dark → s.power.absent = true → rdb s F.PWR_VIN_CFG_AUTO_ON = true → s.modes.powerUp = none → s.power.run = none →
          Answers .supplyGood s (fun u t => t.modes.powerUp = some ⟨0, 0, none⟩ ∧ t.power.run.elim false (fun r => r.prog == 0) = true
          ∧ (⟨0x80A, 0, 0, 0⟩ : Ev) ∈ u.evs)))

/-- With no cue run under way: RAIL_PG_HIGH sets the rail's bit of PWR_RAIL_STATUS.PG and nothing else; RAIL_PG_LOW of a rail that is not watched clears
it and nothing else. RAIL_FAILURE of a watched rail is its RAIL_PG_LOW, which, unless the window of a cue run's wait is over by now and ends first
(R7), logs event 0x806 with the rail, the mode and whether it is critical; in Standby with no run under way and a rail that is not critical both leave
PG and the watch without the rail, the rail marked FAULTED with LAST_RAIL naming it, and modes as they were. RAIL_FAILURE of a rail that is not
watched changes nothing. VMON_UPDATE of a channel in Dark or Standby with no run under way leaves its 12-bit code in RAW and the scaled millivolts in
MV. -/
def Obligations.RailPowerGood : Prop :=
  ∀ (s : State) (r : Nat), r < 16 →
    (s.power.run = none →
      Answers (.railPgHigh r) s (fun _ t => rd t F.PWR_RAIL_STATUS_PG = rd s F.PWR_RAIL_STATUS_PG ||| 2 ^ r
        ∧ (∀ g, steadyField g = true → apart F.PWR_RAIL_STATUS_PG g = true → rd t g = rd s g) ∧ Still s t)
      ∧ (bitOf (rd s F.PWR_RAIL_STATUS_WATCHED) r = false → Answers (.railPgLow r) s (fun _ t => rd t F.PWR_RAIL_STATUS_PG = rd s F.PWR_RAIL_STATUS_PG &&& (65535 - 2 ^ r)
        ∧ (∀ g, steadyField g = true → apart F.PWR_RAIL_STATUS_PG g = true → rd t g = rd s g) ∧ Still s t)))
    ∧ (bitOf (rd s F.PWR_RAIL_STATUS_WATCHED) r = true → ∀ e : Ev, e = ⟨0x806, 2, 0, r + 16 * modeCode s.modes.mode + 128 * b2n (railCritical s r)⟩ →
      exec (.railFailure r) s = exec (.railPgLow r) s ∧ (waitEnded s = false → Answers (.railPgLow r) s (fun u _ => e ∈ u.evs))
      ∧ (s.modes.mode = .standby → s.power.run = none → railCritical s r = false → ∀ c ∈ [Instr.railPgLow r, Instr.railFailure r], Answers c s (fun u t =>
        Logs s u (e) ∧ t.modes = s.modes ∧ rd t F.PWR_RAIL_STATUS_PG = rd s F.PWR_RAIL_STATUS_PG &&& (65535 - 2 ^ r)
        ∧ rd t F.PWR_RAIL_STATUS_WATCHED = rd s F.PWR_RAIL_STATUS_WATCHED &&& (65535 - 2 ^ r)
        ∧ rd t F.PWR_RAIL_FAULT_FAULTED = rd s F.PWR_RAIL_FAULT_FAULTED ||| 2 ^ r ∧ rd t F.PWR_RAIL_FAULT_LAST_RAIL = r)))
    ∧ (bitOf (rd s F.PWR_RAIL_STATUS_WATCHED) r = false → exec (.railFailure r) s = .next (finish s))
    ∧ (∀ ch code, ch < 8 → code < 4096 → (s.modes.mode = .dark ∨ s.modes.mode = .standby) → s.power.run = none →
      Answers (.vmonUpdate ch code) s (fun _ t => rd t (F.PWR_VMON_DATA_RAW ch) = code
        ∧ rd t (F.PWR_VMON_DATA_MV ch) = min (code * rd s (F.PWR_VMON_CFG_SCALE ch) / 2048) 65535))

/-- BTN_PRESS stamps the press of a button that was up and nothing of modes. BTN_RELEASE before the long-press window's end, in Service or Restore and
outside recovery, core reset and a committed POWER_DOWN, is the gate instant of cause 0x0C: the mode is Save; in Dark with supply good and nothing
running it starts POWER_UP with cause 1. BTN_LONG_PRESS in Dark has no effect but that the press is over; in Standby, and in Service and Restore, with
nothing running, an image in effect and a valid cue table, it logs 0x009 and POWER_DOWN starts with cause 0x15. MR_ASSERT in Dark sets MR_LOW and logs
0x80E; in Save and Hold it is latched; in Standby, Service and Restore the cores are held in reset. MR_RELEASE sets MR_LOW to 0, and where MR_N held
the cores in reset and main input has not failed the device is in Standby and boots. THERMAL_SAMPLE in Standby stores the sample in JUNCTION_C; four
samples in a row at or above TRIP_C set TRIPPED and log 0x80B. -/
def Obligations.ButtonsAndResets : Prop :=
  ∀ s : State,
    (rdb s F.PWR_BTN_BTN_LOW = false → Answers .btnPress s (fun _ t => rd t F.PWR_BTN_BTN_LOW = 1 ∧ t.power = { s.power with press := some (tickOf s) } ∧ t.modes = s.modes))
    ∧ (∀ k, pressEnd s = some k → tickOf s < k →
      ((serving s && !s.modes.recovery && !s.modes.mrReset && !downRuns s) = true →
        Answers .btnRelease s (fun _ t => t.modes.mode = .save ∧ t.saveDev.cause = 0x0C ∧ rd t F.PWR_BTN_BTN_LOW = 0))
      ∧ (s.modes.mode = .dark → rdb s F.PWR_VIN_STATUS_SUPPLY_GOOD = true → s.modes.powerUp = none → s.power.run = none →
        Answers .btnRelease s (fun _ t => t.modes.powerUp = some ⟨1, 0, none⟩ ∧ t.power.run.elim false (fun r => r.prog == 0) = true ∧ rd t F.PWR_BTN_BTN_LOW = 0)))
    ∧ (∀ k, pressEnd s = some k → s.modes.mode = .dark → downRuns s = false → Answers .btnLongPress s (fun _ t => t.modes = s.modes ∧ t.power = { s.power with press := none }
      ∧ t.now = max s.now (k * unitsPerTick)))
    ∧ (∀ k, pressEnd s = some k → (s.modes.mode = .standby ∨ serving s = true) → s.power.run = none → tableValid s = true → noImage s = false →
      Answers .btnLongPress s (fun u t => t.modes.mode = s.modes.mode ∧ t.power.run.elim false (fun r => r.prog == 1) = true ∧ t.power.downCause = 0x15
        ∧ t.power.press = none ∧ max s.now (k * unitsPerTick) ≤ t.now ∧ (∃ m, (⟨0x009, 2, 0, m⟩ : Ev) ∈ u.evs)))
    ∧ (s.modes.mode = .dark → Answers .mrAssert s (fun u t => rd t F.PWR_BTN_MR_LOW = 1 ∧ t.modes = s.modes ∧ Logs s u (⟨0x80E, 0, 0, 0⟩)))
    ∧ ((s.modes.mode = .save ∨ s.modes.mode = .hold) → Answers .mrAssert s (fun _ t => rd t F.PWR_BTN_MR_LOW = 1 ∧ rd t F.PWR_BTN_MR_LATCHED = 1
      ∧ t.modes = { s.modes with mrLatched := true }))
    ∧ ((s.modes.mode = .standby ∨ serving s = true) → Answers .mrAssert s (fun u t => rd t F.PWR_BTN_MR_LOW = 1 ∧ t.modes.mrReset = true ∧ t.modes.mode = s.modes.mode
      ∧ (⟨0x80E, 0, 0, modeCode s.modes.mode⟩ : Ev) ∈ u.evs))
    ∧ (s.modes.mrReset = true → s.power.failed = false → Answers .mrRelease s (fun _ t => rd t F.PWR_BTN_MR_LOW = 0 ∧ t.modes.mode = .standby ∧ t.modes.booting = true
      ∧ t.modes.mrReset = false))
    ∧ (s.modes.mrReset = false → Answers .mrRelease s (fun _ t => rd t F.PWR_BTN_MR_LOW = 0 ∧ t.modes = s.modes))
    ∧ (∀ temp, temp < 256 → s.modes.mode = .standby → Answers (.thermalSample temp) s (fun u t => rd t F.PWR_THERM_JUNCTION_C = temp ∧ t.modes = s.modes
      ∧ (rd s F.PWR_THERM_TRIP_C ≤ temp → 3 ≤ s.power.hot → rd s F.PWR_THERM_TRIPPED = 0 → rd t F.PWR_THERM_TRIPPED = 1 ∧ Logs s u (⟨0x80B, 1, 0, temp⟩))))

/-- DRAIN_COMPLETE after a gate instant with no abort under way, once every draining stage's tap has passed what it received, with nothing running, an
image in effect and a cue table whose SAVE_RAILS is a valid program: the drain is done, each draining stage waits for its held writes or for the
rails, and SAVE_RAILS runs from its first word. POST_SEAL_DECISION once every saving stage has ended and its DRAM requests have issued, with none
torn, action Hold and no latched MR_N: with supply good and another run still under way the device leaves Save for Standby in the intermission, with
event 0x005; without it, with a hold deadline, a valid cue table and a run still under way, it is in Hold with the deadline latched and HOLD_RAILS
queued. With action power-down, nothing running, an image in effect and a valid cue table POWER_DOWN starts. ABORT_PROGRAMS_DRAINED, with the abort's
programs all ended, no stage torn and another run under way: the abort is in its last step and the resume run is queued. HOLD_DEADLINE in Hold with
nothing running, and a valid cue table: time moves to the deadline, 0x006 is logged and POWER_DOWN starts with cause 0x13; it changes nothing where no
deadline runs. -/
def Obligations.SavePhaseCommands : Prop :=
  ∀ s : State,
    (s.saveDev.gate = true → s.saveDev.drained = false → s.saveDev.abort = 0 → s.power.run = none → tableValid s = true → noImage s = false → rdb s F.CUE_CFG_FORCE_TABLE = false →
      progValid s 2 = true → (∀ n, (sav s n).phase = .drain → drainDone s n = true) →
      Answers .drainComplete s (fun _ t => t.saveDev.drained = true ∧ t.power.run = some ⟨2, 0, false, 0, .none, 0⟩ ∧ t.power.queued = []
        ∧ ∀ n, (sav s n).phase = .drain → (sav t n).phase = if (led s n).held.isEmpty then .waitRails else .touch))
    ∧ (savesEnded s = true → requestsOut s = true → s.saveDev.anyTorn = false → s.modes.mrLatched = false →
      (s.saveDev.action = 1 → rdb s F.PWR_VIN_STATUS_SUPPLY_GOOD = true → s.power.run.isSome = true → savingStages s ≠ [] →
        Answers .postSealDecision s (fun u t => t.modes.mode = .standby ∧ t.modes.intermission = true ∧ t.saveDev.gate = false ∧ ∃ g, (⟨0x005, 0, 0, g⟩ : Ev) ∈ u.evs))
      ∧ (s.saveDev.action = 1 → rdb s F.PWR_VIN_STATUS_SUPPLY_GOOD = false → rd s F.MODE_HOLD_HOLD_DEADLINE ≠ 0 → tableValid s = true → s.power.run.isSome = true →
        Answers .postSealDecision s (fun _ t => t.modes.mode = .hold ∧ t.modes.holdLen = rd s F.MODE_HOLD_HOLD_DEADLINE ∧ t.modes.holdEntry = tickOf s
          ∧ t.saveDev.gate = false ∧ t.power.queued = s.power.queued ++ [3]))
      ∧ (s.saveDev.action ≠ 1 → s.power.run = none → tableValid s = true → noImage s = false →
        Answers .postSealDecision s (fun _ t => t.modes.mode = .save ∧ t.power.run.elim false (fun r => r.prog == 1) = true ∧ t.power.downCause = 0x12)))
    ∧ (s.saveDev.abort = 1 → programsOut s = false → s.saveDev.anyTorn = false → s.power.run.isSome = true → downRuns s = false →
      Answers .abortProgramsDrained s (fun _ t => t.saveDev.abort = 2 ∧ t.power.queued = s.power.queued ++ [4]))
    ∧ (∀ k, holdTick s = some k → s.power.run = none → tableValid s = true →
      Answers .holdDeadline s (fun u t => (⟨0x006, 0, 0, 0⟩ : Ev) ∈ u.evs ∧ t.now = max s.now (k * unitsPerTick) ∧ t.modes = s.modes
        ∧ t.power.run.elim false (fun r => r.prog == 1) = true ∧ t.power.downCause = 0x13))
    ∧ (holdTick s = none → exec .holdDeadline s = .next (finish s))

/-- On every path that writes the register: MODE_REQUEST_POWER_UP in Dark with supply good and nothing running starts POWER_UP with cause 2, and in every
other mode, or without supply good, is ignored with event 0x00B (source 0x1FF). MODE_REQUEST_POWER_DOWN outside Standby is ignored with 0x00B; in
Standby with nothing running, an image in effect and a valid cue table it starts POWER_DOWN with cause 0x12. MODE_PLAYBILL_APPLY with a reserved
playbill code is refused with RESULT 3, in Save and Hold with RESULT 2, each with event 0x004; in Dark an allowed code is recorded with RESULT 1; in
Standby, Service and Restore a code that the image does not allow is refused with RESULT 3, and an allowed one waits for the next recompute, with
RESULT 1 where its DRAM speed or flash rate is not in use and 0 where both are. -/
def Obligations.ModeRequests : Prop :=
  ∀ (s : State) (p : Path), pathWrites s p F.MODE_REQUEST_POWER_UP.idx = true →
    (s.modes.mode = .dark → rdb s F.PWR_VIN_STATUS_SUPPLY_GOOD = true → s.modes.powerUp = none → s.power.run = none →
      Answers (.modeRequestPowerUp p) s (fun _ t => t.modes.powerUp = some ⟨2, 0, none⟩ ∧ t.power.run.elim false (fun r => r.prog == 0) = true))
    ∧ ((s.modes.mode ≠ .dark ∨ rdb s F.PWR_VIN_STATUS_SUPPLY_GOOD = false) →
      Answers (.modeRequestPowerUp p) s (fun u t => t.modes = s.modes ∧ t.power = s.power ∧ (⟨0x00B, 0, 0, modeCode s.modes.mode + 4088⟩ : Ev) ∈ u.evs))
    ∧ (s.modes.mode ≠ .standby → Answers (.modeRequestPowerDown p) s (fun u t => t.modes = s.modes ∧ t.power = s.power ∧ (⟨0x00B, 0, 0, modeCode s.modes.mode + 4088⟩ : Ev) ∈ u.evs))
    ∧ (s.modes.mode = .standby → s.power.run = none → tableValid s = true → noImage s = false →
      Answers (.modeRequestPowerDown p) s (fun _ t => t.power.run.elim false (fun r => r.prog == 1) = true ∧ t.power.downCause = 0x12 ∧ t.modes.mode = .standby))
    ∧ (∀ w : Word, regLocked s F.MODE_PLAYBILL_APPLY.idx = false →
      (6 ≤ fldOf w F.MODE_PLAYBILL_PLAYBILL → Answers (.modePlaybillApply p w) s (fun u t => rd t F.MODE_PLAYBILL_RESULT = 3 ∧ t.modes = s.modes ∧ (⟨0x004, 1, 0, 3⟩ : Ev) ∈ u.evs))
      ∧ (fldOf w F.MODE_PLAYBILL_PLAYBILL < 6 → (s.modes.mode = .save ∨ s.modes.mode = .hold) →
        Answers (.modePlaybillApply p w) s (fun u t => rd t F.MODE_PLAYBILL_RESULT = 2 ∧ t.modes = s.modes ∧ (⟨0x004, 1, 0, 2⟩ : Ev) ∈ u.evs))
      ∧ (∀ b, billOf (fldOf w F.MODE_PLAYBILL_PLAYBILL) = some b →
        (s.modes.mode = .dark → Answers (.modePlaybillApply p w) s (fun _ t => rd t F.MODE_PLAYBILL_RESULT = 1
          ∧ t.modes = { s.modes with recorded := some ⟨b, decide (fldOf w F.MODE_PLAYBILL_COMPAT_QOS = 1)⟩ }))
        ∧ ((serving s = true ∨ s.modes.mode = .standby) →
          (s.modes.allowed.getLsbD (billCode b) = false →
            Answers (.modePlaybillApply p w) s (fun u t => rd t F.MODE_PLAYBILL_RESULT = 3 ∧ t.modes = s.modes ∧ (⟨0x004, 1, 0, 3⟩ : Ev) ∈ u.evs))
          ∧ (s.modes.allowed.getLsbD (billCode b) = true → Answers (.modePlaybillApply p w) s (fun _ t =>
            t.modes.applying = some ⟨b, decide (fldOf w F.MODE_PLAYBILL_COMPAT_QOS = 1)⟩ ∧ t.modes.mode = s.modes.mode
            ∧ rd t F.MODE_PLAYBILL_RESULT = b2n (!billInUse s b)
            ∧ (t.modes.recorded.isSome = true ↔ billInUse s b = false))))))

/-- Each of the four commands completes: its answer is next of the state named. CRYSTAL_START, in every state, leaves RC_ACTIVE 0 and nothing else
changed. CRYSTAL_STOP while the crystal gives the tick leaves RC_ACTIVE and FAILED 1 and counts FAILS once; while the RC oscillator gives it nothing
changes. PLL_UNLOCK of a core PLL that was locked, in Standby with no stage in Dressing, counts UNLOCKS, leaves it unlocked and blocks every stage
until the next power-up; of the PLL of a CXL PHY whose port is in L0 outside the combined mode, it takes the port down with event 0x602; of a PLL that
has no lock, or of no PLL, it changes nothing. DOMAIN_POWER_UP of one of the 56 domains while the main domain is on wakes the domain, which then is
on; while it is off nothing changes. -/
def Obligations.ClocksAndDomains : Prop :=
  ∀ s : State,
    (exec .crystalStart s = .next (finish (wr s F.CPD_XTAL_RC_ACTIVE 0))
      ∧ rd (finish (wr s F.CPD_XTAL_RC_ACTIVE 0)) F.CPD_XTAL_RC_ACTIVE = 0 ∧ Still s (finish (wr s F.CPD_XTAL_RC_ACTIVE 0)))
    ∧ (rdb s F.CPD_XTAL_RC_ACTIVE = false → ∃ t, exec .crystalStop s = .next t ∧ rd t F.CPD_XTAL_RC_ACTIVE = 1 ∧ rd t F.CPD_XTAL_FAILED = 1
      ∧ rd t F.CPD_XTAL_FAILS = min (rd s F.CPD_XTAL_FAILS + 1) (2 ^ F.CPD_XTAL_FAILS.width - 1) ∧ Still s t)
    ∧ (rdb s F.CPD_XTAL_RC_ACTIVE = true → exec .crystalStop s = .next (finish s))
    ∧ (∀ k, k < 3 → pllLocked s k = true → s.modes.mode = .standby → anyStage s .dressing = false → ∃ t, exec (.pllUnlock k) s = .next t ∧ pllLocked t k = false
      ∧ rd t F.CPD_PLL_UNLOCKS = min (rd s F.CPD_PLL_UNLOCKS + 1) (2 ^ F.CPD_PLL_UNLOCKS.width - 1) ∧ t.modes = s.modes
      ∧ t.power = { s.power with blocked := s.power.blocked ||| 2 ^ pllRail } ∧ ∀ n, stageBlocked t n = true)
    ∧ (∀ k, k < 2 → pllLocked s (k + 3) = true → s.cxl.combined = false → (portOf s k).inL0 = true → Answers (.pllUnlock (k + 3)) s (fun u t =>
      pllLocked t (k + 3) = false ∧ (portOf t k).inL0 = false ∧ t.modes = s.modes ∧ (⟨0x602, 1, 0, k⟩ : Ev) ∈ u.evs
      ∧ rd t F.CPD_PLL_UNLOCKS = min (rd s F.CPD_PLL_UNLOCKS + 1) (2 ^ F.CPD_PLL_UNLOCKS.width - 1)))
    ∧ (∀ k, (5 ≤ k ∨ pllLocked s k = false) → exec (.pllUnlock k) s = .next (finish s))
    ∧ (∀ k, k < 56 → mainOn s = true →
      exec (.domainPowerUp k) s = .next (finish { s with pack := { s.pack with woken := s.pack.woken ||| BitVec.ofNat 56 (2 ^ k) } })
      ∧ domainOn (finish { s with pack := { s.pack with woken := s.pack.woken ||| BitVec.ofNat 56 (2 ^ k) } }) k = true)
    ∧ (∀ k, mainOn s = false → exec (.domainPowerUp k) s = .next (finish s))

/-- Where the running program stands at a legal instruction of the command's opcode and waits for nothing: CUE_ENABLE ors the mask (in a restricted resume
run, its LINK rails) but the rehearsal rail into RAIL_EN; CUE_DISABLE clears its rails from RAIL_EN and from the watch; both go on with the next word.
CUE_WAIT_GOOD goes on where every rail of its mask is good, else waits until the tick its time gives (0 stands for PG_TIMEOUT), and the rails found
good are watched; CUE_WAIT_OFF waits alike for rails that are off (0 stands for DISCHARGE). CUE_DELAY waits its microseconds. CUE_SIGNAL goes on, and
value 0 in SAVE_RAILS marks the link rails off. CUE_SKIP_IF goes on with the next word, or the one after where its condition holds: 0 battery present,
1 supply good. -/
def Obligations.CueInstructions : Prop :=
  ∀ (s : State) (r : CueRun) (w : Nat), cueIllegal s = false →
    (cueAt s 1 = some (r, w) → Answers .cueEnable s (fun _ t => rd t F.PWR_RAIL_STATUS_EN = rd s F.PWR_RAIL_STATUS_EN ||| (cueMask s r (w % 65536) &&& (65535 - rehMask s))
      ∧ t.power.run = some { r with pc := r.pc + 1, wait := .none } ∧ t.modes = s.modes))
    ∧ (cueAt s 2 = some (r, w) → Answers .cueDisable s (fun _ t => rd t F.PWR_RAIL_STATUS_EN = rd s F.PWR_RAIL_STATUS_EN &&& (65535 - w % 65536)
      ∧ rd t F.PWR_RAIL_STATUS_WATCHED = rd s F.PWR_RAIL_STATUS_WATCHED &&& (65535 - w % 65536)
      ∧ t.power.run = some { r with pc := r.pc + 1, wait := .none } ∧ t.modes = s.modes))
    ∧ (cueAt s 3 = some (r, w) → Answers .cueWaitGood s (fun _ t =>
      t.power.run = some (if (railsOf (cueMask s r (w % 65536))).all (railGood s) then { r with pc := r.pc + 1, wait := .none }
        else { r with wait := .good (cueMask s r (w % 65536)) (tickOf s + if bits w 16 16 = 0 then pgTimeout s else bits w 16 16) })
      ∧ (∀ q ∈ railsOf (cueMask s r (w % 65536)), railGood s q = true → bitOf (rd t F.PWR_RAIL_STATUS_WATCHED) q = true) ∧ t.modes = s.modes))
    ∧ (cueAt s 4 = some (r, w) → Answers .cueWaitOff s (fun _ t =>
      t.power.run = some (if (railsOf (w % 65536)).all (railOff s) then { r with pc := r.pc + 1, wait := .none }
        else { r with wait := .off (w % 65536) (tickOf s + if bits w 16 16 = 0 then dischargeTicks s else bits w 16 16) }) ∧ t.modes = s.modes))
    ∧ (cueAt s 5 = some (r, w) → Answers .cueDelay s (fun _ t => t.power.run = some { r with wait := .delay (s.now + w % 2 ^ 24 * unitsPerUs) } ∧ t.modes = s.modes))
    ∧ (cueAt s 6 = some (r, w) → Answers .cueSignal s (fun _ t =>
      (w % 16 = 0 → r.prog = 2 → t.saveDev.railsOff = true) ∧ ((w % 16 ≠ 0 ∨ r.prog ≠ 2) → t.power.run = some { r with pc := r.pc + 1, wait := .none } ∧ t.saveDev = s.saveDev)))
    ∧ (cueAt s 7 = some (r, w) → Answers .cueSkipIf s (fun _ t => t.modes = s.modes
      ∧ t.power.run = some { r with pc := r.pc + (if (if w % 16 = 0 then rdb s F.GAUGE_STATUS_PRESENT else rdb s F.PWR_VIN_STATUS_SUPPLY_GOOD) then 2 else 1), wait := .none }))

/-- CUE_END with the pass bit in POWER_UP, and BUILT_IN_SEQUENCE_WAIT_END in the built-in POWER_UP: event 0x801 is logged and the device is in Standby
with the house core booting; CUE_END without the pass bit logs 0x802 with kind 3. CUE_WAIT_GOOD_TIMEOUT comes no earlier than the wait's end and logs
0x802 with kind 0 and the lowest rail that is not good. CUE_WAIT_OFF_TIMEOUT logs 0x807 with the rails still high, and a program goes on with the next
word. CUE_DELAY_EXPIRY of a program goes on with the next word. -/
def Obligations.CueEndsAndTimeouts : Prop :=
  ∀ (s : State) (r : CueRun) (w : Nat), s.power.run = some r →
    (cueIllegal s = false → cueAt s 11 = some (r, w) → w % 2 = 1 → r.prog = 0 → Answers .cueEnd s (fun u t => t.modes.mode = .standby ∧ t.modes.booting = true
      ∧ t.modes.powerUp = none ∧ (⟨0x801, 0, 0, 5⟩ : Ev) ∈ u.evs))
    ∧ (cueIllegal s = false → cueAt s 11 = some (r, w) → w % 2 = 0 → Answers .cueEnd s (fun u _ =>
      (⟨0x802, 2, 0, reportCode r.prog + r.pc % 256 * 8 + 3 * 2 ^ 15⟩ : Ev) ∈ u.evs))
    ∧ (∀ m k, r.wait = .good m k → Answers .cueWaitGoodTimeout s (fun u t => max s.now (k * unitsPerTick) ≤ t.now
      ∧ (⟨0x802, 2, 0, reportCode r.prog + r.pc % 256 * 8 + ((railsOf m).filter (fun q => !railGood s q)).headD 0 * 2048⟩ : Ev) ∈ u.evs))
    ∧ (∀ m k, r.wait = .off m k → Answers .cueWaitOffTimeout s (fun u t => max s.now (k * unitsPerTick) ≤ t.now
      ∧ (r.source = 0 → t.power.run = some { r with pc := r.pc + 1, wait := .none } ∧ t.modes = s.modes)
      ∧ ∃ stuck, (⟨0x807, 1, 0, stuck⟩ : Ev) ∈ u.evs ∧ ∀ q, q < 16 → (bitOf stuck q = true ↔ bitOf m q = true ∧ railOff s q = false)))
    ∧ (∀ e, r.wait = .delay e → r.source = 0 → Answers .cueDelayExpiry s (fun _ t => t.now = max s.now e ∧ t.power.run = some { r with pc := r.pc + 1, wait := .none } ∧ t.modes = s.modes))
    ∧ (∀ k, r.wait = .builtIn k → r.prog = 0 → Answers .builtInSequenceWaitEnd s (fun u t => (∃ a, (⟨0x801, 0, 0, a⟩ : Ev) ∈ u.evs) ∧ t.modes.mode = .standby ∧ t.modes.booting = true ∧ t.now = max s.now (k * unitsPerTick)))

/-- BACKOFF_EXPIRY while a power-up retry waits moves time to the window's end and POWER_UP runs again; RESUME_RUN_RETRY while one waits, with nothing
running, an image in effect and a valid cue table, runs the resume run and counts its try. DEPENDENCY_PASS of a sequence that switches rails on, with
rails left whose turn it is and not all of them good yet: RAIL_EN gains them (but never the rehearsal rail) and the run waits for them PG_TIMEOUT
ticks; of a sequence that switches rails off (but SAVE_RAILS, whose last LINK rail gives SIGNAL 0), with rails whose turn it is not all off yet:
RAIL_EN and the watch lose them and the run waits DISCHARGE ticks; with no rail left, POWER_UP has passed and the device is in Standby with the house
core booting. -/
def Obligations.SequencerRetriesAndPasses : Prop :=
  ∀ s : State,
    (∀ a k, s.modes.powerUp = some a → a.backoffEnd = some k → Answers .backoffExpiry s (fun _ t => t.now = max s.now (k * unitsPerTick)
      ∧ t.modes.powerUp = some { a with backoffEnd := none } ∧ t.power.run.elim false (fun r => r.prog == 0) = true))
    ∧ (∀ k, s.power.resumeRetry = some k → s.power.run = none → tableValid s = true → noImage s = false → Answers .resumeRunRetry s (fun _ t => t.now = max s.now (k * unitsPerTick)
      ∧ t.power.run.elim false (fun r => r.prog == 4) = true ∧ t.power.resumeTries = s.power.resumeTries + 1 ∧ t.power.resumeRetry = none))
    ∧ (∀ r, s.power.run = some r → r.source = 1 → r.wait = .none → depLeft s r.prog ≠ 0 → depPass s r.prog ≠ 0 →
      (depUp r.prog = true → (railsOf (depPass s r.prog)).all (railGood s) = false → Answers .dependencyPass s (fun _ t =>
        rd t F.PWR_RAIL_STATUS_EN = rd s F.PWR_RAIL_STATUS_EN ||| (depPass s r.prog &&& (65535 - rehMask s))
        ∧ t.power.run = some { r with wait := .good (depPass s r.prog) (tickOf s + pgTimeout s) } ∧ t.modes = s.modes))
      ∧ (depUp r.prog = false → r.prog ≠ 2 → (railsOf (depPass s r.prog)).all (railOff s) = false → Answers .dependencyPass s (fun _ t =>
        rd t F.PWR_RAIL_STATUS_EN = rd s F.PWR_RAIL_STATUS_EN &&& (65535 - depPass s r.prog)
        ∧ rd t F.PWR_RAIL_STATUS_WATCHED = rd s F.PWR_RAIL_STATUS_WATCHED &&& (65535 - depPass s r.prog)
        ∧ t.power.run = some { r with wait := .off (depPass s r.prog) (tickOf s + dischargeTicks s) } ∧ t.modes = s.modes)))
    ∧ (∀ r, s.power.run = some r → r.source = 1 → r.wait = .none → r.prog = 0 → depLeft s 0 = 0 → Answers .dependencyPass s (fun u t =>
      t.modes.mode = .standby ∧ t.modes.booting = true ∧ t.modes.powerUp = none ∧ (⟨0x801, 0, 0, 13⟩ : Ev) ∈ u.evs))

/-- On every path but the sideband that exists and is open to the register (whose reads SIDEBAND_REGISTER_READ gives): CUE_MEM_DATA_READ sends the
cue-memory word that CUE_MEM_SEL.WORD selects, CIPH_CERT_DATA_READ the certificate word that CIPH_CERT_SEL.WORD selects and IMG_HASH_DATA_READ the
hash word that IMG_HASH_SEL.WORD selects, and each advances its selection by one; DC_ERR_CAPTURE_READ sends the channel's oldest error record and
removes it; DC_DLY_DATA_READ sends the delay that DC_DLY_SEL selects; PBOOK_WIN_READ sends the word of the record at the cursor. -/
def Obligations.ReadCommands : Prop :=
  ∀ (s : State) (p : Path) (c : DramCh), p ≠ .sideband → p ≠ .recovery → pathOpen s p = true →
    Answers (.cueMemDataRead p) s (fun u t => Sends s u (.regData (cueWord s (rd s F.CUE_MEM_SEL_WORD))) ∧ rd t F.CUE_MEM_SEL_WORD = (rd s F.CUE_MEM_SEL_WORD + 1) % 2 ^ F.CUE_MEM_SEL_WORD.width ∧ Still s t)
    ∧ Answers (.ciphCertDataRead p) s (fun u t => Sends s u (.regData (certView s)) ∧ rd t F.CIPH_CERT_SEL_WORD = (rd s F.CIPH_CERT_SEL_WORD + 1) % 2 ^ F.CIPH_CERT_SEL_WORD.width ∧ Still s t)
    ∧ Answers (.imgHashDataRead p) s (fun u t => Sends s u (.regData (hashView s)) ∧ rd t F.IMG_HASH_SEL_WORD = (rd s F.IMG_HASH_SEL_WORD + 1) % 2 ^ F.IMG_HASH_SEL_WORD.width ∧ Still s t)
    ∧ Answers (.dcErrCaptureRead p c) s (fun u t => Sends s u (.regData (captureView s c)) ∧ (chan t c).captures = (chan s c).captures.drop 1)
    ∧ Answers (.dcDlyDataRead p c) s (fun u t => Sends s u (.regData (delayView s c)) ∧ SameDram s t)
    ∧ (∀ (k : Fin 2) (x : Fin 3), Answers (.pbookWinRead p k x) s (fun u t => Sends s u (.regData (windowWord s k.val x.val)) ∧ Still s t))

/-- With the two address bytes of the controller, in every mode and with or without PEC. SIDEBAND_REGISTER_WRITE of two index bytes, six data bytes and,
with PEC_EN 1, the CRC-8 of what was sent: to an index that exists, is served and may be written it commits (RESULT 0); to one that exists and is not
served it is discarded with 0xC06 (RESULT 4); to one that does not exist or may not be written, with 0xC05 (RESULT 3); SB_LAST.INDEX is the index.
With another PEC byte it logs 0xC01 and counts PEC_ERRORS once (RESULT 1); with fewer bytes it logs 0xC02 and counts SHORT_WRITES once (RESULT 2);
neither changes anything else but what an address match and the end of every command do. SIDEBAND_REGISTER_READ with its index phase of an index that
is served or does not exist sends what the register shows to the sideband and, with PEC_EN 1, the CRC-8 of the whole transfer (RESULT 5), and six zero
bytes (RESULT 4, 0xC06) of one that is not served; without an index phase it reads at the last index. A transfer to another address leaves the state
as it is. -/
def Obligations.SidebandTransfers : Prop :=
  ∀ (s : State) (i : Nat) (w : Word) (us : Nat), i < 65536 →
    let x := { sideWake s us with side := { s.side with index := i } }
    let sent := sideAddr s ++ leBytes 2 i ++ wordBytes w
    let pec := fun (bytes : List Byte) => if rdb s F.SB_CFG_PEC_EN then [BitVec.ofNat 8 (crc8 bytes)] else []
    (regExists i = true → notServed s i = false → isI3c i = false → sideGroup s i = true →
      Answers (.sidebandRegisterWrite (sent ++ pec sent) us) s (fun u t => rd t F.SB_LAST_INDEX = i ∧ rd t F.SB_LAST_RESULT = 0
        ∧ (∀ g, pathField g = true → rd t g = rd (commitGo (sideHit x) .sideband i w s.fw.recoveryLow) g) ∧ t.side.lastTime = u.now))
    ∧ (regExists i = true → notServed s i = true → Answers (.sidebandRegisterWrite (sent ++ pec sent) us) s (fun u t => rd t F.SB_LAST_INDEX = i ∧ rd t F.SB_LAST_RESULT = 4
        ∧ (⟨0xC06, 0, 0, i + modeCode s.modes.mode * 65536⟩ : Ev) ∈ u.evs ∧ Still s t))
    ∧ ((regExists i = false ∨ (notServed s i = false ∧ (isI3c i = true ∨ sideGroup s i = false))) →
      Answers (.sidebandRegisterWrite (sent ++ pec sent) us) s (fun u t => rd t F.SB_LAST_INDEX = i ∧ rd t F.SB_LAST_RESULT = 3 ∧ (⟨0xC05, 0, 0, i⟩ : Ev) ∈ u.evs ∧ Still s t))
    ∧ (rdb s F.SB_CFG_PEC_EN = true → ∀ b : Byte, b.toNat ≠ crc8 sent → Answers (.sidebandRegisterWrite (sent ++ [b]) us) s (fun u t =>
        rd t F.SB_LAST_RESULT = 1 ∧ (⟨0xC01, 1, 0, i⟩ : Ev) ∈ u.evs ∧ rd t F.SB_COUNT_PEC_ERRORS = min (rd s F.SB_COUNT_PEC_ERRORS + 1) (2 ^ F.SB_COUNT_PEC_ERRORS.width - 1) ∧ Still s t))
    ∧ (∀ body : List Byte, body.length < 8 + rd s F.SB_CFG_PEC_EN → Answers (.sidebandRegisterWrite (sideAddr s ++ body) us) s (fun u t =>
        (∃ a, (⟨0xC02, 1, 0, a⟩ : Ev) ∈ u.evs) ∧ rd t F.SB_COUNT_SHORT_WRITES = min (rd s F.SB_COUNT_SHORT_WRITES + 1) (2 ^ F.SB_COUNT_SHORT_WRITES.width - 1)
        ∧ rd t F.SB_LAST_RESULT = 2 ∧ (∀ g, pathField g = true → homeIdx g.idx ≠ homeIdx F.SB_COUNT_SHORT_WRITES.idx → rd t g = rd (sideWake s us) g) ∧ Still s t))
    ∧ ((regExists i = false ∨ notServed s i = false) →
      let bytes := sideAddr s ++ leBytes 2 i ++ [(sideAddr s).headD 0#8 ||| 1#8]
      let d := wordBytes (sideRead (sideHit x) i).1
      Answers (.sidebandRegisterRead bytes us) s (fun u t => (.sideband (d ++ pec (bytes ++ d)) : Output) ∈ u.out ∧ rd t F.SB_LAST_INDEX = i ∧ rd t F.SB_LAST_RESULT = 5))
    ∧ (regExists i = true → notServed s i = true → rdb s F.SB_CFG_PEC_EN = false →
      Answers (.sidebandRegisterRead (sideAddr s ++ leBytes 2 i ++ [(sideAddr s).headD 0#8 ||| 1#8]) us) s (fun u t => (.sideband (List.replicate 6 0#8) : Output) ∈ u.out
        ∧ rd t F.SB_LAST_INDEX = i ∧ rd t F.SB_LAST_RESULT = 4 ∧ (⟨0xC06, 0, 0, i + modeCode s.modes.mode * 65536⟩ : Ev) ∈ u.evs ∧ Still s t))
    ∧ ((regExists s.side.index = false ∨ notServed s s.side.index = false) → s.side.index < 65536 →
      let bytes := sideAddr s ++ [(sideAddr s).headD 0#8 ||| 1#8]
      let d := wordBytes (sideRead (sideHit (sideWake s us)) s.side.index).1
      Answers (.sidebandRegisterRead bytes us) s (fun u t => (.sideband (d ++ pec (bytes ++ d)) : Output) ∈ u.out ∧ rd t F.SB_LAST_INDEX = s.side.index ∧ rd t F.SB_LAST_RESULT = 5))
    ∧ (∀ bytes : List Byte, bytes.take 2 ≠ sideAddr s → exec (.sidebandRegisterWrite bytes us) s = .next (finish s) ∧ exec (.sidebandRegisterRead bytes us) s = .next (finish s))

/-- SCL_LOW_TIMEOUT and SDA_LOW_TIMEOUT log 0xC03 (with whether a write was in progress) and 0xC04, count TIMEOUTS once and release the bus.
IN_BAND_REQUEST while a request is pending and none is driven pulls SDA low once the bus has been free for IBR_FREE_US (0 taken as 1); while none is
pending it does nothing. IN_BAND_REQUEST_ACCEPTED of a driven request that won sends one byte of the masked sources, keeps them as accepted and leaves
LAST_SENT at them and FAILS at 0; one that lost only withdraws. IN_BAND_REQUEST_TIMEOUT of a driven request moves time to the end of IBR_WAIT_US and
counts FAILS once; the third in a row disables requests and logs 0xC07. SIDEBAND_IDLE in Standby stops the matcher's clock 10 ms after the last
transfer. -/
def Obligations.SidebandBusEvents : Prop :=
  ∀ s : State,
    (∀ inWrite : Bool, Answers (.sclLowTimeout inWrite) s (fun u t => Logs s u (⟨0xC03, 1, 0, b2n inWrite⟩) ∧ t.side = { s.side with driving := none }
      ∧ rd t F.SB_COUNT_TIMEOUTS = min (rd s F.SB_COUNT_TIMEOUTS + 1) (2 ^ F.SB_COUNT_TIMEOUTS.width - 1) ∧ (.sidebandLine 0 : Output) ∈ u.out ∧ Still s t))
    ∧ Answers .sdaLowTimeout s (fun u t => Logs s u (⟨0xC04, 1, 0, 0⟩) ∧ t.side = { s.side with driving := none }
      ∧ rd t F.SB_COUNT_TIMEOUTS = min (rd s F.SB_COUNT_TIMEOUTS + 1) (2 ^ F.SB_COUNT_TIMEOUTS.width - 1) ∧ (.sidebandLine 0 : Output) ∈ u.out ∧ Still s t)
    ∧ (ibrPending s = true → s.side.driving = none → Answers .inBandRequest s (fun u t => t.now = max s.now (s.side.lastTime + max 1 (rd s F.SB_CFG_IBR_FREE_US) * unitsPerUs)
      ∧ t.side = { s.side with driving := some t.now } ∧ Sends s u (.sidebandLine 2) ∧ Still { s with now := t.now } t))
    ∧ (ibrPending s = false → exec .inBandRequest s = .next (finish s))
    ∧ (∀ d, s.side.driving = some d →
      Answers (.inBandRequestAccepted true) s (fun u t => t.side = { s.side with driving := none, accepted := alertBits s } ∧ Sends s u (.sideband [BitVec.ofNat 8 (alertBits s)])
        ∧ rd t F.SB_IBR_LAST_SENT = alertBits s ∧ rd t F.SB_IBR_FAILS = 0 ∧ Still s t)
      ∧ Answers (.inBandRequestAccepted false) s (fun u t => t.side = { s.side with driving := none } ∧ u.out = s.out ∧ Still s t)
      ∧ Answers .inBandRequestTimeout s (fun u t => t.side = { s.side with driving := none }
        ∧ t.now = max s.now (d + max 1 (rd s F.SB_CFG_IBR_WAIT_US) * unitsPerUs)
        ∧ rd t F.SB_IBR_FAILS = min (rd s F.SB_IBR_FAILS + 1) (2 ^ F.SB_IBR_FAILS.width - 1)
        ∧ (2 ≤ rd s F.SB_IBR_FAILS → rd t F.SB_IBR_DISABLED = 1 ∧ (⟨0xC07, 1, 0, alertBits s⟩ : Ev) ∈ u.evs)))
    ∧ (s.modes.mode = .standby → Answers .sidebandIdle s (fun _ t => rd t F.SB_STATUS_CLOCK_STOPPED = 1 ∧ t.now = max s.now (s.side.lastTime + 10000 * unitsPerUs)
      ∧ Still { s with now := t.now } t))

/-- On every path that writes the register: PBOOK_CURSOR_WRITE leaves the cursor at the oldest record of its word's area that does not precede the word's
SEQ, or at SEQ itself where there is none, with EMPTY saying which. PBOOK_CLEAR of the ring leaves no valid record in the ring that does not follow
its bound, and logs 0xD01; of the script-store area in Dark or Hold it keeps the bound until the store is powered. RATE_LIMIT_WINDOW after a window in
which records were suppressed moves time to the next window's opening, a summary record of code 0xFFF is stored, nothing stays suppressed, and the
limiter stands in the window of that time; with nothing suppressed it does nothing. PROMPT_BOOK_COPY with no record to copy and lost ones owed logs
0xD02 with their number and clears it; with a record to copy, room in the sector and a die that holds what is programmed, words 0 and 1 and then word
2 of the record are programmed at the next position and the record counts as copied. -/
def Obligations.PromptBookCommands : Prop :=
  ∀ s : State,
    (∀ (p : Path) (k : Fin 2) (w : Word), pathWrites s p (F.PBOOK_CURSOR_SEQ k.val).idx = true → Answers (.pbookCursorWrite p k w) s (fun _ t =>
      rdb t (F.PBOOK_CURSOR_AREA k.val) = decide (fldOf w (F.PBOOK_CURSOR_AREA k.val) = 1)
      ∧ rd t (F.PBOOK_CURSOR_SEQ k.val) = ((oldestFrom (areaOfBook s (decide (fldOf w (F.PBOOK_CURSOR_AREA k.val) = 1))) (fldOf w (F.PBOOK_CURSOR_SEQ k.val))).getD (fldOf w (F.PBOOK_CURSOR_SEQ k.val))) % 2 ^ 32
      ∧ (rd t (F.PBOOK_CURSOR_EMPTY k.val) = 1 ↔ oldestFrom (areaOfBook s (decide (fldOf w (F.PBOOK_CURSOR_AREA k.val) = 1))) (fldOf w (F.PBOOK_CURSOR_SEQ k.val)) = none) ∧ Still s t))
    ∧ (∀ (p : Path) (bound : Nat), pathWrites s p F.PBOOK_CLEAR_GO.idx = true → bound < 2 ^ 32 →
      Answers (.pbookClear p bound 1) s (fun u _ => (∀ r ∈ ringRecs u.pbook, seqBefore bound (recSeq r) = true) ∧ ∃ a, (⟨0xD01, 0, 0, a⟩ : Ev) ∈ u.evs)
      ∧ (storePowered s = false → Answers (.pbookClear p bound 2) s (fun u t => u.pbook = { s.pbook with clearPending := some bound } ∧ Still s t)))
    ∧ (s.pbook.suppressed ≠ 0 → Answers .rateLimitWindow s (fun u _ =>
      u.now = max s.now (rlOpening s * unitsPerTick) ∧ u.pbook.suppressed = 0 ∧ u.pbook.counts = [] ∧ u.pbook.window = (tickOf u / rlWindow u + 1) * rlWindow u
      ∧ bits (ringAt u.pbook (nextSeq s)).w1.toNat 0 12 = 0xFFF))
    ∧ (s.pbook.suppressed = 0 → exec .rateLimitWindow s = .next (finish s))
    ∧ ((s.modes.mode = .standby ∨ serving s = true ∨ s.modes.mode = .save) → s.modes.booting = false → roleRuns s 0 = true → s.store.prog = none → s.store.erase = none → s.store.calls = [] →
      (copyNext s = none → 0 < s.pbook.lost → Answers .promptBookCopy s (fun u _ => u.pbook = { s.pbook with lost := 0 } ∧ Logs s u (⟨0xD02, 1, 0, s.pbook.lost⟩)))
      ∧ (∀ r, copyNext s = some r → s.pbook.areaPos < 512 → s.pbook.unusable = false →
        let a := 2048 * (24 + s.pbook.areaSector) + 3 + 3 * s.pbook.areaPos
        let st := progWords s.store a [r.w0, r.w1]
        readBack st a [r.w0, r.w1] = true → readBack (progWord st (a + 2) r.w2) (a + 2) [r.w2] = true →
        Answers .promptBookCopy s (fun u t => u.pbook = { s.pbook with lastCopied := recSeq r, copyDone := recSeq r, areaPos := s.pbook.areaPos + 1, retrying := false } ∧ u.evs = s.evs
          ∧ t.store = progWord st (a + 2) r.w2)))

/-- For every state whose next sequence number is not beyond 32 bits: an event taken outside the rate limit is stored in the ring at its sequence number
modulo 256 as a record that is valid, carries that number, and whose severity, code, stage and argument are the event's; the other ring places stand,
and NEXT_SEQ is the number that follows, after 0xFFFF_FFFF again 1. A record's mark is valid whatever its fields are. -/
def Obligations.RecordsInOrder : Prop :=
  (∀ tick q code sev stage arg : Nat, 0 < q → q < 2 ^ 32 → recValid (mkRec tick q code sev stage arg) = true ∧ recSeq (mkRec tick q code sev stage arg) = q
      ∧ recSev (mkRec tick q code sev stage arg) = sev % 4 ∧ bits (mkRec tick q code sev stage arg).w1.toNat 0 12 = code % 4096
      ∧ bits (mkRec tick q code sev stage arg).w1.toNat 14 2 = stage % 4 ∧ bits (mkRec tick q code sev stage arg).w1.toNat 16 32 = arg % 2 ^ 32
      ∧ bits (mkRec tick q code sev stage arg).w0.toNat 0 40 = tick % 2 ^ 40)
  ∧ (∀ (s : State) (tick code sev stage arg : Nat),
      ringAt (acceptRec s tick code sev stage arg).pbook (nextSeq s) = mkRec tick (nextSeq s) code sev stage arg
      ∧ (∀ q, q % 256 ≠ nextSeq s % 256 → ringAt (acceptRec s tick code sev stage arg).pbook q = ringAt s.pbook q)
      ∧ rd (acceptRec s tick code sev stage arg) F.PBOOK_STATUS_NEXT_SEQ = (if nextSeq s = 2 ^ 32 - 1 then 1 else nextSeq s + 1))

/-- For every three words: the record is valid exactly where SEQ (word 2 [31:0]) is not 0, word 2 bits [47:40] are zero, SEQ_LO (word 0 [47:40]) equals
SEQ bits [7:0], and MARK (word 2 [39:32]) is the CRC-8 of words 0 and 1 and SEQ. A record whose word 2 reads all ones is not valid, whatever its other
words are. -/
def Obligations.RecordValidity : Prop :=
  (∀ r : Rec, recValid r = true ↔ r.w2.toNat % 2 ^ 32 ≠ 0 ∧ r.w2.toNat / 2 ^ 40 = 0 ∧ r.w0.toNat / 2 ^ 40 = r.w2.toNat % 256
      ∧ r.w2.toNat / 2 ^ 32 % 256 = crc8 (wordBytes r.w0 ++ wordBytes r.w1 ++ leBytes 4 (r.w2.toNat % 2 ^ 32)))
  ∧ ∀ a b : Word, recValid ⟨a, b, BitVec.allOnes 48⟩ = false

/-- A MEM_WR or MEM_WR_PTL of a mapped line of a Live stage, its port up, its gate open, no write waiting before it at the port or in the buffer to go, no
ledger event of this clock before it. Where no restore is pending, its ledger line is cached and the stage is not in write-through operation: if its
frame is not clean or no cap holds it, the frame goes from clean to dirty and from in-flight to dirty-again and keeps any other state, no other frame
changes, the completion goes to the port and tag, the flush flag of the port clears, and no stored DRAM line changes yet; if the frame is clean and
the cap holds, with room in the buffer, no frame changes state, the write is the last of the held writes, holding has begun, and no completion is
sent. Where its frame is known not to be restored yet, with room in both, the write is the last of the held writes, its frame stands in the touch
queue, no frame changes state and nothing is sent. -/
def Obligations.HostWritesAtTheTap : Prop :=
  ∀ (s : State) (port ld tag l : Nat) (data : BitVec 512) (mask : BitVec 64) (poison : Bool) (n : Stage),
    portUp s port = true → portExists s port = true → ldStage s port ld = some n → l < hostLines s n → (led s n).gated = false → stageSt s n = .live →
    (mapLine s n l).isSome = true → (led s n).stallW = [] → (led s n).stallR = [] → noCredit s n true = false → releasable s n = none →
    (led s n).marks.edge ≠ edgeOf s.now →
    ∀ c : Instr, (c = .memWr port ld tag (some l) data poison ∨ c = .memWrPtl port ld tag (some l) data mask poison) →
      ((rst s n).pending = false → (led s n).cached.contains (l / 64 / 256) = true → (led s n).writeThrough = false →
        (frameState s n (l / 64) ≠ 0 ∨ capHolds s n = false → Answers c s (fun u t =>
          frameState t n (l / 64) = (if frameState s n (l / 64) = 0 then 1 else if frameState s n (l / 64) = 2 then 3 else frameState s n (l / 64))
          ∧ (∀ m f, (m ≠ n ∨ f ≠ l / 64) → frameState t m f = frameState s m f)
          ∧ (∃ load, (.memDone port tag load : Output) ∈ u.out) ∧ (portOf t port).flushFlag = false
          ∧ (led t n).held = (led s n).held ∧ t.dram.lines = s.dram.lines ∧ t.modes = s.modes ∧ t.now = s.now))
        ∧ (frameState s n (l / 64) = 0 → capHolds s n = true → (led s n).held.length < 255 → Answers c s (fun u t =>
          (∀ m f, frameState t m f = frameState s m f)
          ∧ (led t n).held.map (fun w => w.line) = (led s n).held.map (fun w => w.line) ++ [l] ∧ (led t n).holdSince.isSome = true
          ∧ u.out = s.out ∧ SameDram s t ∧ t.modes = s.modes ∧ t.now = s.now)))
      ∧ (isRestored s n (l / 64) = false → touchKnown s n (l / 64) = true → (led s n).held.length < 255 → (rst s n).touchQ.length < 32 → Answers c s (fun u t =>
        (∀ m f, frameState t m f = frameState s m f)
        ∧ (led t n).held.map (fun w => w.line) = (led s n).held.map (fun w => w.line) ++ [l] ∧ (∃ q ∈ (rst t n).touchQ, q.frame = l / 64)
        ∧ u.out = s.out ∧ SameDram s t ∧ t.modes = s.modes ∧ t.now = s.now))

/-- No request stands at the port before it and read credits are not withheld. MEM_RD and MEM_RD_DATA of a mapped line of a Live stage that no restore
holds back: where no held write writes the line, one read of class 1 of the crossbar's host-read port waits at the subchannel that the line maps to,
and ledger, modes, time and stored lines stand; where one does, the read waits behind it and DRAM stands. A read to a stage that is not Live, or
beyond the stage's capacity, completes with poison and leaves DRAM and modes alone. MEM_INV and MEM_INV_NT complete, to a port that carries no stage
with Light Load, and change nothing else of the engines; MEM_SPEC_RD is dropped and changes nothing. One of the three that reaches no stage or a line
no decoder maps logs event 0x608 and is else the same. -/
def Obligations.HostReadsAndInvalidates : Prop :=
  ∀ (s : State) (port ld tag l : Nat), portUp s port = true → portExists s port = true →
    (∀ n k, ldStage s port ld = some n → l < hostLines s n → l < rawLines s n → stageSt s n = .live → mapLine s n l = some k → (rst s n).pending = false →
      (led s n).stallW = [] → (led s n).stallR = [] → noCredit s n false = false →
      ∀ c : Instr, (c = .memRd port ld tag (some l) ∨ c = .memRdData port ld tag (some l)) →
      ((led s n).held.any (fun w => w.line == l) = true → Answers c s (fun u t =>
        (led t n).waitReads = (led s n).waitReads ++ [⟨port, tag, l, s.now, false⟩] ∧ u.out = s.out ∧ SameDram s t ∧ t.modes = s.modes ∧ t.now = s.now))
      ∧ ((led s n).held.any (fun w => w.line == l) = false → Answers c s (fun _ t =>
        (∃ r ∈ (subch t k.ch k.sub).waiting, r.use = .hostRead port tag ∧ r.line = l ∧ r.stage = n ∧ r.cls = 1 ∧ r.port = 2 ∧ r.write = false ∧ r.id = s.dram.nextId)
        ∧ t.dram.lines = s.dram.lines ∧ t.ledger = s.ledger ∧ t.modes = s.modes ∧ t.now = s.now)))
    ∧ (∀ n, ldStage s port ld = some n → (hostLines s n ≤ l ∨ (stageSt s n ≠ .live ∧ (led s n).stallW = [] ∧ (led s n).stallR = [])) →
      ∀ c : Instr, (c = .memRd port ld tag (some l) ∨ c = .memRdData port ld tag (some l)) → Answers c s (fun u t =>
        (∃ d load, (.memData port tag d true load : Output) ∈ u.out) ∧ SameDram s t ∧ t.modes = s.modes ∧ (∀ m f, frameState t m f = frameState s m f)))
    ∧ (∀ (req : InvReq) (c : Instr), (c = .memInv port ld req ∨ c = .memInvNt port ld req) →
      (ldStage s port ld = none → Answers c s (fun u t => (⟨0x608, 1, 0, ldArg s port ld⟩ : Ev) ∈ u.evs ∧ Sends s u (.memDone port req.tag 0)
        ∧ (∀ g, steadyField g = true → rd t g = rd s g) ∧ Still s t))
      ∧ (∀ n, ldStage s port ld = some n → Answers c s (fun u t => ((mapped s n req.line).isNone = true → (⟨0x608, 1, n.val, ldArg s port ld⟩ : Ev) ∈ u.evs)
        ∧ (portIn s port = true → ∃ load, Sends s u (.memDone port req.tag load)) ∧ (∀ g, steadyField g = true → rd t g = rd s g) ∧ Still s t)))
    ∧ (ldStage s port ld = none → exec (.memSpecRd port ld (some l)) s = .next (finish (event s 0x608 1 0 (ldArg s port ld))))
    ∧ (∀ n, ldStage s port ld = some n → hostLines s n ≤ l → exec (.memSpecRd port ld (some l)) s = .next (finish (event s 0x608 1 n.val (ldArg s port ld))))
    ∧ (∀ n, ldStage s port ld = some n → l < hostLines s n → exec (.memSpecRd port ld (some l)) s = .next (finish s))

/-- MEM_WR and MEM_WR_PTL on a port that is up, no request of the stage standing before them: where the port carries no stage for the logical device,
event 0x608 is logged and the write completes with Light Load; where the stage's capacity ends below the line, 0x608 is logged with the stage; where
the stage is neither Live nor behind a closed gate, 0x603 is logged once for the stage's state. In these cases no frame changes state and DRAM stands.
Where a save holds the gate of the stage, the write is kept behind the gate after those before it, and nothing is sent. -/
def Obligations.WritesThatReachNoStage : Prop :=
  ∀ (s : State) (port ld tag l : Nat) (data : BitVec 512) (mask : BitVec 64) (poison : Bool), portUp s port = true → portExists s port = true →
    ∀ c : Instr, (c = .memWr port ld tag (some l) data poison ∨ c = .memWrPtl port ld tag (some l) data mask poison) →
      (ldStage s port ld = none → Answers c s (fun u t => (⟨0x608, 1, 0, ldArg s port ld⟩ : Ev) ∈ u.evs ∧ (.memDone port tag 0 : Output) ∈ u.out
        ∧ t.ledger = s.ledger ∧ SameDram s t ∧ t.modes = s.modes))
      ∧ (∀ n, ldStage s port ld = some n → hostLines s n ≤ l → Answers c s (fun u t => (⟨0x608, 1, n.val, ldArg s port ld⟩ : Ev) ∈ u.evs
        ∧ (∃ load, (.memDone port tag load : Output) ∈ u.out) ∧ t.ledger = s.ledger ∧ SameDram s t ∧ t.modes = s.modes))
      ∧ (∀ n, ldStage s port ld = some n → l < hostLines s n → (led s n).stallW = [] → (led s n).stallR = [] → gateHolds s n = false → stageSt s n ≠ .live → Answers c s (fun u t =>
        ((led s n).notLiveLogged = false → (⟨0x603, 1, n.val, ldArg s port ld + 16⟩ : Ev) ∈ u.evs) ∧ (led t n).notLiveLogged = true
        ∧ (∃ load, (.memDone port tag load : Output) ∈ u.out) ∧ (∀ m f, frameState t m f = frameState s m f) ∧ SameDram s t ∧ t.modes = s.modes))
      ∧ (∀ n, ldStage s port ld = some n → l < hostLines s n → (led s n).stallW = [] → (led s n).stallR = [] → gateHolds s n = true → Answers c s (fun u t =>
        (led t n).afterGate.map (fun w => w.line) = (led s n).afterGate.map (fun w => w.line) ++ [l] ∧ u.out = s.out
        ∧ (∀ m f, frameState t m f = frameState s m f) ∧ SameDram s t ∧ t.modes = s.modes))

/-- EFFECTIVE_CAP_RECOMPUTE with the main domain on comes at the next opening of its 33-tick period: afterwards every stage's cap is its share of the
device cap EFF_CAP by weight, at most its host frames, and 0 for a stage that is not Live; its soft watermark is SOFT_PCT of that share; the stamp is
the opening tick. With no playbill being applied EFF_CAP is the cap that configuration and the usable energy stamped before that tick give.
TRICKLE_BUDGET_TICK comes at the next tick: the budget of the stage is min(B, 0) plus the rate times one tick, and no other stage's budget, no
register that stands and no other engine changes. -/
def Obligations.CapsAndBudget : Prop :=
  ∀ s : State,
    (mainOn s = true → Answers .effectiveCapRecompute s (fun _ t => t.now = max s.now (nextOpening s timerCaps 33 * unitsPerTick)
      ∧ rd t F.LDG_DEV_USABLE_STAMP = nextOpening s timerCaps 33 % 65536
      ∧ (∀ n : Stage, stageCap t n = stageShare t n % 2 ^ 30 ∧ softMark t n = (stageShare t n * softPct t n / 100) % 2 ^ 30)
      ∧ (∀ n : Stage, stageSt t n ≠ .live → stageCap t n = 0)
      ∧ (s.modes.applying = none → rd t F.LDG_DEV_EFF_EFF_CAP = (deviceCap s (usableAt s (nextOpening s timerCaps 33))).1 % 2 ^ 30) ∧ t.modes.stages = s.modes.stages))
    ∧ (∀ n : Stage, Answers (.trickleBudgetTick n) s (fun _ t => t.now = max s.now (nextOpening s (timerBudget n.val) 1 * unitsPerTick)
      ∧ t.flash = { s.flash with sys := qset s.flash.sys n { fsys s n with budget := min (fsys s n).budget 0 + trickleRate s n / 32768 } }
      ∧ (∀ g, steadyField g = true → rd t g = rd s g) ∧ t.ledger = s.ledger ∧ SameDram s t ∧ t.modes = s.modes))

/-- SWEEP_START of a Live stage whose gate is open: with no sweep running one starts at line 0, ACTIVE is 1 and SWEEPS one more; with one running OVERRUN
is 1, event 0x10B is logged and a sweep waits; of another stage it does nothing. SWEEP_VISIT with no line left ends the sweep, and one that waits
starts at once. A visit of a line above the soft watermark, with trickle allowed, room in the queue and the line not visited before: every dirty frame
of the line is in-flight and in the queue, frames of other lines stand, and the settle counter of the line is one more, at most 15. TRICKLE_FRAME
outside write-through operation gathers the frame of the first waiting entry; an entry whose frame is no longer in-flight is dropped. -/
def Obligations.SweepsAndTrickle : Prop :=
  ∀ (s : State) (n : Stage),
    (stageSt s n = .live → (led s n).gated = false → s.saveDev.gate = false →
      ((led s n).sweep = none → Answers (.sweepStart n) s (fun _ t => (led t n).sweep = some 0 ∧ rd t (F.LDG_SWEEP_STATUS_ACTIVE n.val) = 1
        ∧ rd t (F.LDG_SWEEP_STATUS_SWEEPS n.val) = (rd s (F.LDG_SWEEP_STATUS_SWEEPS n.val) + 1) % 2 ^ 32 ∧ t.modes = s.modes ∧ SameDram s t ∧ t.flash = s.flash))
      ∧ (∀ k, (led s n).sweep = some k → Answers (.sweepStart n) s (fun u t => (led t n).sweep = some k ∧ (led t n).sweepDue = true
        ∧ rd t (F.LDG_SWEEP_STATUS_OVERRUN n.val) = 1 ∧ (⟨0x10B, 0, n.val, rd s (F.LDG_SWEEP_STATUS_SWEEPS n.val)⟩ : Ev) ∈ u.evs ∧ t.modes = s.modes)))
    ∧ ((stageSt s n ≠ .live ∨ (led s n).gated = true ∨ s.saveDev.gate = true) → exec (.sweepStart n) s = .next (finish s))
    ∧ (∀ k, (led s n).sweep = some k → sweepNext (led s n) k = none → Answers (.sweepVisit n) s (fun _ t =>
      ((led s n).sweepDue = false → (led t n).sweep = none ∧ rd t (F.LDG_SWEEP_STATUS_ACTIVE n.val) = 0)
      ∧ ((led s n).sweepDue = true → (led t n).sweep = some 0 ∧ (led t n).sweepDue = false ∧ rd t (F.LDG_SWEEP_STATUS_ACTIVE n.val) = 1)
      ∧ (∀ m f, frameState t m f = frameState s m f) ∧ t.modes = s.modes))
    ∧ (∀ k line, (led s n).sweep = some k → sweepNext (led s n) k = some line → softMark s n < residue s n → trickleRuns s n = true → (led s n).sweepPaused = false →
      (led s n).queue.length + (led s n).ledger.length ≤ 4096 → Answers (.sweepVisit n) s (fun _ t =>
        (∀ f, f / 256 = line → frameState s n f = 1 →
          frameState t n f = 2 ∧ (led t n).queue.any (fun q => q.frame == f) = true ∧ mget 0 (led t n).settle line = min 15 (mget 0 (led s n).settle line + 1))
        ∧ (∀ m f, (m ≠ n ∨ f / 256 ≠ line) → frameState t m f = frameState s m f) ∧ t.modes = s.modes ∧ SameDram s t))
    ∧ (∀ e, trickleRuns s n = true → (led s n).writeThrough = false → (led s n).queue.find? (fun q => q.progress == 0) = some e →
      (led s n).gathers.any (fun g => g.frame == e.frame) = false →
      (2 ≤ frameState s n e.frame → Answers (.trickleFrame n) s (fun _ t => (⟨e.frame, false, [], false⟩ : Gather) ∈ (led t n).gathers
        ∧ (⟨e.frame, 1⟩ : TrickleEntry) ∈ (led t n).queue ∧ (∀ m f, frameState t m f = frameState s m f) ∧ t.modes = s.modes ∧ t.dram.lines = s.dram.lines))
      ∧ (frameState s n e.frame < 2 → Answers (.trickleFrame n) s (fun _ t => (led t n).queue = (led s n).queue.erase e ∧ SameDram s t
        ∧ (∀ m f, frameState t m f = frameState s m f) ∧ t.modes = s.modes)))

/-- HELD_WRITE_RELEASE with the gate open, nothing waiting at the tap and no ledger event of this clock before it: the oldest held write that may go
leaves the buffer and its frame changes state as an admitted write's does; no other frame changes. With the gate closed nothing happens.
LEDGER_LINE_FILL of a line that has arrived with no write waiting at the tap, outside write-through operation: the line is in the cache and no longer
filling; read without fault no frame changes state, read with a fault every frame of the line below the host capacity is dirty and event 0x10C is
logged with the line's first frame. -/
def Obligations.HeldWritesAndLineFills : Prop :=
  ∀ (s : State) (n : Stage), (led s n).tap = [] →
    (∀ w, (led s n).marks.edge ≠ edgeOf s.now → releasable s n = some w → (led s n).gated = false → s.saveDev.gate = false → (led s n).cached.contains (w.line / 64 / 256) = true →
      Answers (.heldWriteRelease n) s (fun _ t => (led t n).held = (led s n).held.erase w
        ∧ frameState t n (w.line / 64) = (if frameState s n (w.line / 64) = 0 then 1 else if frameState s n (w.line / 64) = 2 then 3 else frameState s n (w.line / 64))
        ∧ (∀ m f, (m ≠ n ∨ f ≠ w.line / 64) → frameState t m f = frameState s m f) ∧ t.modes = s.modes ∧ t.dram.lines = s.dram.lines))
    ∧ (((led s n).gated = true ∨ s.saveDev.gate = true) → Answers (.heldWriteRelease n) s (fun _ t => (led t n).held = (led s n).held
        ∧ (∀ m f, frameState t m f = frameState s m f) ∧ t.modes = s.modes))
    ∧ (∀ line victim e, (led s n).writeThrough = false → (led s n).arrived.find? (fun a => a.1 == line) = some e → Answers (.ledgerLineFill n line victim) s (fun u t =>
        (led t n).cached.contains line = true ∧ (led t n).filling.contains line = false ∧ t.modes = s.modes ∧ t.dram.lines = s.dram.lines
        ∧ (e.2 = false → ∀ m f, frameState t m f = frameState s m f)
        ∧ (e.2 = true → (⟨0x10C, 2, n.val, 256 * line⟩ : Ev) ∈ u.evs ∧ (∀ f, f / 256 = line → f < hostFrames s n → frameState t n f = 1)
          ∧ ∀ m f, (m ≠ n ∨ f / 256 ≠ line ∨ hostFrames s n ≤ f) → frameState t m f = frameState s m f)))

/-- LINK_UP of a port that may train, at a speed and a width of its arrangement, leaves it in L0 with its speed and width and the flush flag as it was,
and logs 0x601; at another speed or width it does nothing; LINK_DOWN of a port in L0 leaves it down, the flush flag as it was, logs 0x602 and leaves
stage states, time and stored lines. On a port that is up: GPF_PHASE1 only answers; GPF_PHASE2 opens phase 2, which waits for exactly the writes of
the port that stand in front of the tap; GPF_PHASE2_COMPLETE with phase 2 open and none of those left sets the flush flag, logs 0x606 and answers;
PME_TURN_OFF is acknowledged, and logs 0x607 while its port is not flushed; in Service or Restore with every port in L0 flushed, no MLD, no recovery,
reset or POWER_DOWN, it is the gate instant of cause 0x0A: the mode is Save. DEVLOAD_UPDATE comes a microsecond after the last and counts queue depth
anew. -/
def Obligations.PortsAndFlush : Prop :=
  ∀ (s : State) (k : Nat), portExists s k = true →
    (∀ speed width, linkTrains s speed width = false → exec (.linkUp k speed width) s = .next (finish s))
    ∧ (∀ speed width, linkTrains s speed width = true → (portOf s k).inL0 = false → mainOn s = true → s.modes.booting = false → s.modes.mrReset = false → linkCut s = false → domainOn s (13 + k) = true →
      rd s F.PWR_RAIL_STATUS_EN &&& linkMask s = linkMask s → Answers (.linkUp k speed width) s (fun u t =>
        (portOf t k).inL0 = true ∧ (portOf t k).speed = speed ∧ (portOf t k).width = width ∧ (portOf t k).flushFlag = (portOf s k).flushFlag ∧ t.modes = s.modes ∧ SameDram s t
        ∧ Logs s u (⟨0x601, 0, 0, portNo s k + 4 * (if speed = 64 then 0 else if speed = 32 then 1 else if speed = 16 then 2 else 3) + 16 * width⟩)))
    ∧ ((portOf s k).inL0 = true → Answers (.linkDown k) s (fun u t => (portOf t k).inL0 = false ∧ (portOf t k).flushFlag = (portOf s k).flushFlag ∧ t.modes = s.modes ∧ t.now = s.now
        ∧ t.dram.lines = s.dram.lines ∧ (∀ m f, frameState t m f = frameState s m f) ∧ Logs s u (⟨0x602, 1, 0, portNo s k⟩)))
    ∧ (portUp s k = true →
      Answers (.gpfPhase1 k) s (fun u t => Sends s u (.gpf k 1) ∧ (∀ g, steadyField g = true → rd t g = rd s g) ∧ Still s t)
      ∧ Answers (.gpfPhase2 k) s (fun u t => (portOf t k) = { portOf s k with gpf2 := true } ∧ u.out = s.out ∧ t.modes = s.modes ∧ (∀ m f, frameState t m f = frameState s m f)
        ∧ (tapWaits t k = true ↔ ∃ m : Stage, ∃ w ∈ (led s m).tap ++ (led s m).held ++ (rst s m).bitWaitW, w.port = k))
      ∧ ((portOf s k).gpf2 = true → tapWaits s k = false → Answers (.gpfPhase2Complete k) s (fun u t =>
        (portOf t k) = { portOf s k with gpf2 := false, flushFlag := true } ∧ Logs s u (⟨0x606, 0, 0, portNo s k⟩) ∧ Sends s u (.gpf k 2) ∧ t.modes = s.modes))
      ∧ ((portOf s k).flushFlag = false → Answers (.pmeTurnOff k) s (fun u t => Sends s u (.pmeAck k) ∧ Logs s u (⟨0x607, 0, 0, portNo s k⟩)
        ∧ t.modes = s.modes ∧ t.saveDev = s.saveDev))
      ∧ ((portOf s k).flushFlag = true → (∀ j, j < 2 → j ≠ k → portExists s j = true → (portOf s j).inL0 = true → (portOf s j).pmeOff = true) →
        s.cxl.mld0 = false → s.cxl.mld1 = false → (serving s && !s.modes.recovery && !s.modes.mrReset && !downRuns s) = true →
        Answers (.pmeTurnOff k) s (fun u t => (.pmeAck k : Output) ∈ u.out ∧ t.modes.mode = .save ∧ t.saveDev.cause = 0x0A)))
    ∧ Answers .devloadUpdate s (fun u t => t.now = max s.now (s.cxl.depthSince + unitsPerUs) ∧ t.cxl.depthSince = u.now ∧ u.cxl.depthSum = qall 0
        ∧ (∀ n, qget t.cxl.devLoad n ≤ 1) ∧ t.modes = s.modes ∧ SameDram s t ∧ t.ledger = s.ledger)

/-- Where a channel's run stands at an instruction of the command's opcode: MP_CMD issues its command byte, MP_ADDR the address bytes of its source,
MP_SETFEAT its address and four parameters, each as a cycle of the channel's bus, and the run goes on at the next word. MP_DIN writes bytes of the
chosen buffer, for a page under program at most as many as it names; MP_DOUT fills the chosen buffer. MP_WAIT_RDY and MP_DELAY leave the run waiting
until their time. MP_STATUS latches the byte. MP_BRANCH jumps where the comparison says, MP_LOOP while its counter is not yet 0. Stored pages, stages,
DRAM and ledger stand. -/
def Obligations.MicroInstructions : Prop :=
  ∀ (s : State) (c : Nat) (r : MpRun) (w : Nat),
    let runs := fun (r' : MpRun) => (fch s c).runs.map (fun q => if q.tag == r.tag && q.entry == r.entry && q.soft == r.soft then r' else q)
    let next : MpRun := { r with word := r.word + 1, wait := .none }
    let calm := fun (t : State) => t.flash.pages = s.flash.pages ∧ t.modes = s.modes ∧ SameDram s t ∧ t.ledger = s.ledger ∧ t.now = s.now
    (mpAt s c 0x01 = some (r, w) → Answers (.mpCmd c) s (fun u t => Sends s u (.flashCycle c 1 (leBytes 1 w)) ∧ (fch t c).runs = runs next ∧ calm t))
    ∧ (mpAt s c 0x02 = some (r, w) → Answers (.mpAddr c) s (fun u t => Sends s u (.flashCycle c 2 (mpAddr r w)) ∧ (fch t c).runs = runs next ∧ calm t))
    ∧ (mpAt s c 0x03 = some (r, w) → bits w 0 3 ≠ 0 → Answers (.mpDin c) s (fun u t =>
        Sends s u (.flashCycle c 3 ((fch s c).featureBuf.take (bits w 3 21))) ∧ (fch t c).runs = runs next ∧ calm t))
    ∧ (mpAt s c 0x03 = some (r, w) → bits w 0 3 = 0 → Answers (.mpDin c) s (fun u t =>
        (∃ bs : List Byte, bs.length ≤ bits w 3 21 ∧ Sends s u (.flashCycle c 3 bs)) ∧ (fch t c).runs = runs next ∧ calm t))
    ∧ (∀ bs : List Byte, mpAt s c 0x04 = some (r, w) → Answers (.mpDout c bs) s (fun _ t => (fch t c).runs = runs next ∧ calm t
        ∧ (if bits w 0 3 = 0 then (fch t c).pageBuf = bs.take (bits w 3 21) ∧ (fch t c).featureBuf = (fch s c).featureBuf
          else (fch t c).featureBuf = bs.take (bits w 3 21) ∧ (fch t c).pageBuf = (fch s c).pageBuf)))
    ∧ (mpAt s c 0x05 = some (r, w) → Answers (.mpWaitRdy c) s (fun u t => u.out = s.out ∧ (fch t c).runs = runs { r with wait := .ready (s.now + nsUnits (100 * bits w 0 24)) } ∧ calm t))
    ∧ (mpAt s c 0x06 = some (r, w) → Answers (.mpDelay c) s (fun u t => u.out = s.out ∧ (fch t c).runs = runs { r with wait := .delay (s.now + nsUnits (bits w 0 24)) } ∧ calm t))
    ∧ (∀ status, mpAt s c 0x07 = some (r, w) → Answers (.mpStatus c status) s (fun u t =>
        Sends s u (.flashCycle c 7 (leBytes 1 w)) ∧ (fch t c).runs = runs { next with status := status % 256 } ∧ calm t))
    ∧ (mpAt s c 0x08 = some (r, w) → Answers (.mpBranch c) s (fun u t => u.out = s.out ∧ calm t
        ∧ (fch t c).runs = runs (if (decide (r.status &&& bits w 0 8 = bits w 8 8) != bitOf w 28) then mpJump s r (bits w 16 12) else next)))
    ∧ (mpAt s c 0x09 = some (r, w) → Answers (.mpSetfeat c) s (fun u t => Sends s u (.flashCycle c 9 (leBytes 1 w ++ leBytes 4 (w / 256))) ∧ (fch t c).runs = runs next ∧ calm t))
    ∧ (∀ k, mpAt s c 0x0A = some (r, w) → (mfind r.loops (mpWord s r).1).getD (bits w 0 8) = k + 1 → Answers (.mpLoop c) s (fun u t => u.out = s.out ∧ calm t
        ∧ (fch t c).runs = runs (if k = 0 then { next with loops := mdel r.loops (mpWord s r).1 } else mpJump s { r with loops := mput r.loops (mpWord s r).1 k } (bits w 8 12))))

/-- MP_DELAY_EXPIRY where one run of the channel waits for a delay: time is at the delay's end and the run stands at the next word. LUN_READY where one
run waits for its LUN: the run stands at the next word. MP_WAIT_RDY_TIMEOUT of the one waiting run logs 0x40F with code 1, and MP_END without the pass
bit logs it with the code of its word; with the pass bit a run that resets nothing leaves its channel. MP_RUN_TIMEOUT is COMMAND_TIMEOUT of the oldest
run's tag; of an INIT run it loses the channel with event 0x403. COMMAND_TIMEOUT of a read logs 0x404 at the end of its time and, a tag being free,
issues a reset of its LUN that carries the read to be done again. -/
def Obligations.MicroProgramEnds : Prop :=
  ∀ (s : State) (c : Nat) (r : MpRun), r ∈ (fch s c).runs →
    let runs := fun (r' : MpRun) => (fch s c).runs.map (fun q => if q.tag == r.tag && q.entry == r.entry && q.soft == r.soft then r' else q)
    (∀ e, r.wait = .delay e → (∀ q ∈ (fch s c).runs, q ≠ r → ∀ e', q.wait ≠ .delay e') → Answers (.mpDelayExpiry c) s (fun _ t =>
        t.now = max s.now e ∧ (fch t c).runs = runs { r with word := r.word + 1, wait := .none } ∧ t.modes = s.modes ∧ t.flash.pages = s.flash.pages))
    ∧ (∀ e lun, r.wait = .ready e → r.lun = lun → lunCh lun = c → (∀ q ∈ (fch s c).runs, q ≠ r → q.lun = lun → ∀ e', q.wait ≠ .ready e') → Answers (.lunReady lun) s (fun _ t =>
        t.now = s.now ∧ (fch t c).runs = runs { r with word := r.word + 1, wait := .none } ∧ t.modes = s.modes ∧ t.flash.pages = s.flash.pages))
    ∧ (∀ e, r.wait = .ready e → (∀ q ∈ (fch s c).runs, q ≠ r → ∀ e', q.wait ≠ .ready e') → Answers (.mpWaitRdyTimeout c) s (fun u _ =>
        (⟨0x40F, 2, r.stage.val, c + r.entry * 16 + 256⟩ : Ev) ∈ u.evs))
    ∧ (∀ w, mpAt s c 0x0B = some (r, w) → bitOf w 0 = false → Answers (.mpEnd c) s (fun u _ => (⟨0x40F, 2, r.stage.val, c + r.entry * 16 + bits w 1 8 * 256⟩ : Ev) ∈ u.evs))
    ∧ (∀ w, mpAt s c 0x0B = some (r, w) → bitOf w 0 = true → (fch s c).ops.any (fun o => o.tag == r.tag && flashKind o.act == 3) = false → Answers (.mpEnd c) s (fun u t =>
        (fch t c).runs = (fch s c).runs.filter (fun q => !(q.tag == r.tag && q.entry == r.entry && q.soft == r.soft)) ∧ (fch t c).ops = (fch s c).ops ∧ u.evs = s.evs ∧ t.modes = s.modes ∧ t.flash.pages = s.flash.pages))
    ∧ ((fch s c).runs.head? = some r → r.tag ≠ initTag → exec (.mpRunTimeout c) s = exec (.commandTimeout c r.tag) s)
    ∧ ((fch s c).runs.head? = some r → r.tag = initTag → c < 16 → Answers (.mpRunTimeout c) s (fun u t => rd t (F.FL_CH_STATUS_LOST c) = 1 ∧ rd t (F.FL_CH_STATUS_TRAINED c) = 0
        ∧ Logs s u (⟨0x403, 2, r.stage.val, c⟩) ∧ (∀ q ∈ (fch t c).runs, q.tag ≠ initTag) ∧ t.modes = s.modes ∧ t.flash.pages = s.flash.pages))
    ∧ (∀ o rd_ d free, (fch s c).ops.find? (fun x => x.tag == r.tag) = some o → o.act = .read rd_ d → lunCh o.lun = c → free < 64 → free ≠ r.tag →
        (∀ x ∈ (fch s c).ops, x.tag ≠ free) → free ∉ (fch s c).awaiting → Answers (.commandTimeout c r.tag) s (fun u t => t.now = max s.now (o.issued + cmdTimeout s c)
        ∧ (⟨0x404, 1, ((flashStage s c).getD 0).val, c + r.tag % 64 * 16 + o.epoch % 4 * 1024⟩ : Ev) ∈ u.evs
        ∧ (∃ q ∈ (fch t c).ops, q.act = .reset r.tag (some rd_) ∧ q.lun = o.lun) ∧ (∀ x ∈ (fch t c).ops, x.tag ≠ r.tag) ∧ t.modes = s.modes ∧ t.flash.pages = s.flash.pages))

/-- With the main domain on and a LUN of a stage that has no command outstanding, its channel not lost and a tag free: PAGE_PROGRAM_ISSUE with no system
page for the LUN and a ready page of the open band whose turn it is issues the program of that page, takes the page from the waiting ones and 4,096
bytes for each of its trickle codewords from the budget. PAGE_READ_ISSUE of a LUN for which a read is queued (no record read behind a closed gate)
issues the first such read and takes it from the queue. No stored page changes. STRIKE_RELOCATION, where strike has its turn and its victim has a live
copy on an idle LUN that is not moving, issues that copy's read and marks it as moving. -/
def Obligations.PagesIssued : Prop :=
  ∀ (s : State) (n : Stage) (lun free : Nat), mainOn s = true → free < 64 →
    (∀ x ∈ (fch s (lunCh lun)).ops, x.tag ≠ free) → free ∉ (fch s (lunCh lun)).awaiting →
    (∀ p, lunStage s lun = some n → lunBusy s lun = false → chLost s (lunCh lun) = false → programsOn s n = true →
      (fset s n).sysQ.find? (fun q => q.lun == lun) = none → (fset s n).pages.find? (fun p => p.lun == lun && pageReady s n p && trickleTurn s n p && !strikeYield s n p) = some p →
      Answers (.pageProgramIssue lun) s (fun u t => (∃ o ∈ (fch t (lunCh lun)).ops, o.lun = lun ∧ o.page = p.page ∧ o.act = .program p.slots false ∧ o.issued = s.now)
        ∧ (fset t n).pages = (fset s n).pages.erase p ∧ (fsys t n).budget = (fsys s n).budget - (4096 * trickleIn p : Nat)
        ∧ (.nand lun 0 p.page 15 : Output) ∈ u.out ∧ t.flash.pages = s.flash.pages ∧ t.modes = s.modes ∧ t.ledger = s.ledger))
    ∧ (∀ r, lunStage s lun = some n → lunBusy s lun = false → chLost s (lunCh lun) = false → (qget s.flash.readQ n).find? (fun r => entryLun r.entry == lun && !(((led s n).gated || s.saveDev.gate) && r.use == .record)) = some r →
      Answers (.pageReadIssue lun) s (fun u t => (∃ o ∈ (fch t (lunCh lun)).ops, o.lun = lun ∧ o.page = entryPage r.entry ∧ o.act = .read r false ∧ o.issued = s.now)
        ∧ qget t.flash.readQ n = (qget s.flash.readQ n).erase r ∧ (.nand lun 1 (entryPage r.entry) 15 : Output) ∈ u.out
        ∧ t.flash.pages = s.flash.pages ∧ t.modes = s.modes ∧ t.ledger = s.ledger))
    ∧ (∀ b q, strikeTurn (strikeFollow s n) n = true → (fsys (strikeFollow s n) n).victim = some b → entryLun q.1 = lun →
      ((bandLive (strikeFollow s n) n b).filter (fun q => !(fsys (strikeFollow s n) n).moving.contains q.1)).find? (fun q => !lunBusy (strikeFollow s n) (entryLun q.1)) = some q →
      Answers (.strikeRelocation n) s (fun _ t => (∃ o ∈ (fch t (lunCh lun)).ops, o.lun = lun ∧ o.page = entryPage q.1 ∧ o.act = .read ⟨.strike (hNumber q.2.header), q.1, 1, 0⟩ false)
        ∧ (fsys t n).moving.contains q.1 = true ∧ t.flash.pages = s.flash.pages ∧ t.modes = s.modes ∧ t.ledger = s.ledger))

/-- PAGE_PROGRAM_STATUS of an outstanding program of one trickle codeword whose frame is in-flight or dirty-again, its gate open, no write-through
operation, no other codeword of the frame on its way and no ledger event of this clock before: on pass, no program-path injection armed and the
program no slower than the worn limit, the NAND holds the codeword in slot 0 of the page, the frame map names that copy and the frame is clean (dirty
if it was dirty-again); on fail of a page whose block is not yet bad, with no other page waiting, event 0x406 names the block, event 0x108 the frame,
and the frame is dirty. The tag is free again. -/
def Obligations.PageProgramsEnd : Prop :=
  ∀ (s : State) (n : Stage) (ch tag epoch pct f : Nat) (o : FlashOp) (j : Job) (cw : Codeword),
    flashOp s ch tag epoch = some o → flashStage s ch = some n → lunCh o.lun = ch → o.act = .program [⟨j, cw⟩] false → j.use = .trickle f →
    (frameState s n f = 2 ∨ frameState s n f = 3) → (led s n).gated = false → s.saveDev.gate = false → (led s n).writeThrough = false →
    (led s n).marks.edge ≠ edgeOf s.now → ((led s n).queue.filter (fun q => q.frame == f)).length ≤ 1 →
    (rd s F.FL_INJECT_ARM = 0 → pct ≤ rd s F.FL_CFG_PROG_WORN_PCT → Answers (.pageProgramStatus ch tag epoch true pct) s (fun _ t =>
        mget pageInit t.flash.pages (pageKey o.lun o.page) = ⟨[some cw], [], []⟩
        ∧ mget noCopy (fset t n).fmap f = mkEntry o.lun o.page 0 (hGen cw.header) (hSeq cw.header)
        ∧ frameState t n f = (if frameState s n f = 2 then 0 else 1) ∧ (∀ m g, (m ≠ n ∨ g ≠ f) → frameState t m g = frameState s m g)
        ∧ (∀ x ∈ (fch t ch).ops, x.tag ≠ tag) ∧ t.modes = s.modes ∧ SameDram s t))
    ∧ ((blockAt s o.lun (o.page / pagesPer s n)).state ≠ 2 → (fset s n).pages = [] → Answers (.pageProgramStatus ch tag epoch false pct) s (fun u t =>
        (⟨0x406, 1, n.val, o.lun + o.page / pagesPer s n * 256⟩ : Ev) ∈ u.evs ∧ (⟨0x108, 1, n.val, f⟩ : Ev) ∈ u.evs
        ∧ frameState t n f = 1 ∧ (∀ x ∈ (fch t ch).ops, x.tag ≠ tag) ∧ t.flash.pages = s.flash.pages))

/-- PAGE_READ_COMPLETE of an outstanding read with no read-path injection armed: decoded within the decoder's limit, its codeword is the last of those
that wait for their lane; not decoded, or with more bits flipped than the limit, and a step left, the read is first in the queue again at its next
step. BLOCK_ERASE_COMPLETE of an outstanding erase: on pass, of a block of a band or of the house record, every page of the block holds nothing, the
block counts as erased and its erase count is one more, at most 16,777,215; on fail of a block not yet bad event 0x407 names it. The tag is free
again. PAGE_PROGRAM_STATUS, PAGE_READ_COMPLETE and BLOCK_ERASE_COMPLETE of a tag and epoch that no outstanding command of the channel has: event 0x405
is logged with channel, tag and epoch, the stale count of the channel is one more, at most its highest value, and the flash sets, stored pages,
ledger, modes and queues all stand. -/
def Obligations.ReadsAndErasesEnd : Prop :=
  (∀ (s : State) (ch tag epoch : Nat) (pass : Bool) (k : Nat), ch < 16 → flashOp s ch tag epoch = none →
    ∀ c : Instr, (c = .pageProgramStatus ch tag epoch pass k ∨ c = .pageReadComplete ch tag epoch pass k ∨ c = .blockEraseComplete ch tag epoch pass) →
      Answers c s (fun u t => (⟨0x405, 0, (flashStage s ch).elim 0 (fun n => n.val), ch + tag % 64 * 16 + epoch % 4 * 1024⟩ : Ev) ∈ u.evs
        ∧ rd t (F.FL_CH_CMD_STALE ch) = min (rd s (F.FL_CH_CMD_STALE ch) + 1) (2 ^ (F.FL_CH_CMD_STALE ch).width - 1) ∧ Still s t))
  ∧ ∀ (s : State) (n : Stage) (ch tag epoch : Nat) (o : FlashOp), flashOp s ch tag epoch = some o → flashStage s ch = some n →
    (∀ r d iters cw, o.act = .read r d → rd s F.FL_INJECT_ARM = 0 → entryCw s r.entry = some cw → r.inject + entryFlips s r.entry ≤ decodeLimit (softStep s n r.step) →
      Answers (.pageReadComplete ch tag epoch true iters) s (fun _ t => qget t.flash.laneQ n = qget s.flash.laneQ n ++ [(r, some cw)]
        ∧ (∀ x ∈ (fch t ch).ops, x.tag ≠ tag) ∧ t.flash.pages = s.flash.pages ∧ t.modes = s.modes ∧ SameDram s t ∧ t.ledger = s.ledger))
    ∧ (∀ r d iters k ok, o.act = .read r d → rd s F.FL_INJECT_ARM = 0 → nextStep s n r.step = some k →
      (ok = false ∨ decodeLimit (softStep s n r.step) < r.inject + entryFlips s r.entry) → Answers (.pageReadComplete ch tag epoch ok iters) s (fun _ t => qget t.flash.readQ n = { r with step := k } :: qget s.flash.readQ n
        ∧ (∀ x ∈ (fch t ch).ops, x.tag ≠ tag) ∧ t.flash.pages = s.flash.pages ∧ t.modes = s.modes ∧ SameDram s t ∧ t.ledger = s.ledger))
    ∧ (∀ b, o.act = .erase b → (sysBlock s n o.lun b = false ∨ houseBlock (fsys s n) (houseCopy s n o.lun) = b) → Answers (.blockEraseComplete ch tag epoch true) s (fun _ t =>
        (∀ page, page < 2 ^ 20 → page / pagesPer s n = b → mget pageInit t.flash.pages (pageKey o.lun page) = pageInit)
        ∧ (blockAt t o.lun b).erased = true ∧ (blockAt t o.lun b).erases = min ((blockAt s o.lun b).erases + 1) (2 ^ 24 - 1)
        ∧ (∀ x ∈ (fch t ch).ops, x.tag ≠ tag) ∧ t.modes = s.modes ∧ t.ledger = s.ledger))
    ∧ (∀ b, o.act = .erase b → (blockAt s o.lun b).state ≠ 2 → Answers (.blockEraseComplete ch tag epoch false) s (fun u t =>
        (⟨0x407, 1, n.val, o.lun + b * 256⟩ : Ev) ∈ u.evs ∧ (blockAt t o.lun b).state = 2 ∧ (∀ x ∈ (fch t ch).ops, x.tag ≠ tag)
        ∧ t.flash.pages = s.flash.pages ∧ t.modes = s.modes ∧ t.ledger = s.ledger))

/-- FLASH_CHANNEL_TRAINING of an enabled channel of a Dressing stage: its lane marked failed neither before nor by a test due now, with the Read ID that
its micro-programs name: where a rate trains the channel is trained and not lost at that rate, at or below its set rate, with event 0x401 at the set
rate and 0x402 below, and its INIT runs; where none trains it is lost with event 0x403; with another Read ID INIT fails (0x40F) and it is lost; where
the lane's test is due and fails LANE_FAILED gains the channel's bit, event 0x705 is logged and the channel is lost, of a stage of another state too,
and the test is due no more. Where no test is due and the stage is not Dressing nothing changes. MAP_CHECKPOINT_DUE of a Live stage outside a save
comes at once after 16,777,216 frames, else 600 s after the last: a checkpoint runs then and its counters start again; of another stage it does
nothing. -/
def Obligations.FlashTrainingAndCheckpoints : Prop :=
  ∀ (s : State) (n : Stage),
    (∀ c readId, c < 16 → flashStage s c = some n → stageSt s n = .dressing → rdb s (F.FL_CH_CFG_ENABLE c) = true → bitOf (rd s F.CIPH_STATUS_LANE_FAILED) c = false →
      ∀ ok, (s.cipher.laneDue.getLsbD c = true → ok = true) →
      ((microOf s n).getD 1 0#48 = readId →
        (∀ k, Answers (.flashChannelTraining c (some k) readId ok) s (fun u t => rd t (F.FL_CH_STATUS_TRAINED c) = 1 ∧ rd t (F.FL_CH_STATUS_LOST c) = 0
          ∧ rd t (F.FL_CH_STATUS_RATE_ACTIVE c) = max (rd s (F.FL_CH_CFG_RATE c)) (min 3 k) % 2 ^ (F.FL_CH_STATUS_RATE_ACTIVE c).width
          ∧ Logs s u (if max (rd s (F.FL_CH_CFG_RATE c)) (min 3 k) = rd s (F.FL_CH_CFG_RATE c) then ⟨0x401, 0, n.val, c + max (rd s (F.FL_CH_CFG_RATE c)) (min 3 k) * 16⟩
            else ⟨0x402, 1, n.val, c + max (rd s (F.FL_CH_CFG_RATE c)) (min 3 k) * 16⟩)
          ∧ (∃ r ∈ (fch t c).runs, r.entry = 1 ∧ r.stage = n) ∧ t.flash.pages = s.flash.pages ∧ t.flash.sets = s.flash.sets ∧ t.modes = s.modes ∧ SameDram s t ∧ t.ledger = s.ledger))
        ∧ Answers (.flashChannelTraining c none readId ok) s (fun u t => rd t (F.FL_CH_STATUS_TRAINED c) = 0 ∧ rd t (F.FL_CH_STATUS_LOST c) = 1
          ∧ Logs s u (⟨0x403, 2, n.val, c⟩) ∧ t.modes = s.modes ∧ SameDram s t ∧ t.ledger = s.ledger))
      ∧ ((microOf s n).getD 1 0#48 ≠ readId → ∀ reach, Answers (.flashChannelTraining c reach readId ok) s (fun u t => rd t (F.FL_CH_STATUS_TRAINED c) = 0
          ∧ rd t (F.FL_CH_STATUS_LOST c) = 1 ∧ rd t F.FL_MP_STATUS_CHANNEL = c ∧ rd t F.FL_MP_STATUS_ENTRY = 1
          ∧ (∃ a, u.evs = s.evs ++ [⟨0x40F, 2, n.val, a⟩, ⟨0x403, 2, n.val, c⟩]) ∧ t.flash = s.flash ∧ t.modes = s.modes ∧ SameDram s t ∧ t.ledger = s.ledger)))
    ∧ (∀ c reach readId, c < 16 → flashStage s c = some n → rdb s (F.FL_CH_CFG_ENABLE c) = true → s.cipher.laneDue.getLsbD c = true →
      Answers (.flashChannelTraining c reach readId false) s (fun u t => rd t (F.FL_CH_STATUS_LOST c) = 1 ∧ bitOf (rd t F.CIPH_STATUS_LANE_FAILED) c = true
        ∧ t.cipher.laneDue.getLsbD c = false ∧ u.evs = s.evs ++ [⟨0x705, 2, n.val, c⟩, ⟨0x403, 2, n.val, c⟩] ∧ t.modes = s.modes ∧ SameDram s t ∧ t.ledger = s.ledger))
    ∧ (∀ c reach readId ok, flashStage s c = some n → stageSt s n ≠ .dressing → s.cipher.laneDue.getLsbD c = false →
      exec (.flashChannelTraining c reach readId ok) s = .next (finish s))
    ∧ ((stageSt s n ≠ .live ∨ (led s n).gated = true ∨ s.saveDev.gate = true) → exec (.mapCheckpointDue n) s = .next (finish s))
    ∧ (stageSt s n = .live → (led s n).gated = false → s.saveDev.gate = false → Answers (.mapCheckpointDue n) s (fun u t =>
        (fset t n).ckptFrames = 0 ∧ (fset t n).ckpt.isSome = true ∧ (fset t n).ckptTick = tickOf u
        ∧ t.now = (if 16777216 ≤ (fset s n).ckptFrames then s.now else max s.now (((fset s n).ckptTick + 19660800) * unitsPerTick))
        ∧ t.flash.pages = s.flash.pages ∧ t.modes = s.modes ∧ SameDram s t ∧ t.ledger = s.ledger))

/-- LANE_ENCRYPT of a channel where the cursor of its stage stands, with a payload of bytes at the head of the queue: the payload leaves the queue, the
sequence value advances by one, and the codeword of the payload under the stage's media key with that sequence value and the open generation is in a
page that waits for its program. LANE_RELAY of a relocated codeword at the head, its tag intact and no lane test armed, places that very codeword; the
sequence value stands. LANE_DECRYPT with nothing waiting for the lane changes nothing; a record codeword is taken from the lane's queue, a tag that
fails counted; a touch-fetched frame is on its way to DRAM, as poison with event 0x305 where its tag fails. -/
def Obligations.LanesEncryptAndDecrypt : Prop :=
  ∀ (s : State) (n : Stage) (ch : Nat), flashStage s ch = some n →
    (∀ j rest bs, (fset s n).jobs = j :: rest → j.body = .bytes bs → cursorLane s n j = some ch → (fset s n).ckpt = none → Answers (.laneEncrypt ch) s (fun _ t =>
        (fset t n).jobs = rest ∧ (fset t n).seq = (fset s n).seq + 1
        ∧ (∃ p ∈ (fset t n).pages, lunCh p.lun = ch ∧ ⟨j, mkCodeword s n j.kind j.number (openGen s n) (fset s n).seq j.flags bs⟩ ∈ p.slots)
        ∧ t.flash.pages = s.flash.pages ∧ t.modes = s.modes ∧ SameDram s t ∧ t.ledger = s.ledger))
    ∧ (∀ j f src cw rest, (fset s n).jobs = j :: rest → j.use = .relocate f src → j.body = .relay cw → cursorLane s n j = some ch →
        s.cipher.laneTest = none → (openCodeword s n cw).isSome = true → Answers (.laneRelay ch) s (fun _ t =>
        (fset t n).jobs = rest ∧ (fset t n).seq = (fset s n).seq ∧ (∃ p ∈ (fset t n).pages, lunCh p.lun = ch ∧ ⟨j, cw⟩ ∈ p.slots)
        ∧ t.flash.pages = s.flash.pages ∧ t.modes = s.modes ∧ SameDram s t ∧ t.ledger = s.ledger))
    ∧ (qget s.flash.laneQ n = [] → exec (.laneDecrypt ch) s = .next (finish s))
    ∧ (∀ r cw, qget s.flash.laneQ n = [(r, some cw)] → lunCh (entryLun r.entry) = ch → r.use = .record → (rst s n).outstanding = 0 → s.cipher.laneTest = none →
        Answers (.laneDecrypt ch) s (fun _ t => qget t.flash.laneQ n = [] ∧ t.flash.pages = s.flash.pages ∧ t.modes = s.modes ∧ SameDram s t ∧ t.ledger = s.ledger
          ∧ rd t (F.CIPH_LANE_FAIL_TAG_FAILS ch) = (if (openCodeword s n cw).isSome then rd s (F.CIPH_LANE_FAIL_TAG_FAILS ch)
            else min (rd s (F.CIPH_LANE_FAIL_TAG_FAILS ch) + 1) (2 ^ (F.CIPH_LANE_FAIL_TAG_FAILS ch).width - 1))))
    ∧ (∀ r cw f, qget s.flash.laneQ n = [(r, some cw)] → lunCh (entryLun r.entry) = ch → r.use = .touch f → s.cipher.laneTest = none →
        Answers (.laneDecrypt ch) s (fun u t => qget t.flash.laneQ n = [] ∧ (rst t n).writing.contains f = true ∧ (rst t n).reading.contains f = false
          ∧ (openCodeword s n cw = none → (⟨0x305, 1, n.val, f⟩ : Ev) ∈ u.evs) ∧ t.flash.pages = s.flash.pages ∧ t.modes = s.modes ∧ t.dram.lines = s.dram.lines ∧ t.ledger = s.ledger))

/-- For every state in which the stage's media key is loaded, every kind, number, generation, sequence value and flags, and every payload: the codeword
built of them decrypts under the same key, its tag verifies and the plaintext is the payload. Its header passes its check and reads back each field:
the number modulo 2^29, the stage, the generation and sequence modulo 2^32, the kind and the flags modulo 256. Against another stage's key no claim is
made. -/
def Obligations.CodewordRoundTrip : Prop :=
  ∀ (s : State) (n : Stage) (k : BitVec 256) (kind number gen seq flags : Nat) (payload : List Byte), keyAt s (1 + n.val) = some k →
    openCodeword s n (mkCodeword s n kind number gen seq flags payload) = some payload
    ∧ hOk (mkCodeword s n kind number gen seq flags payload).header = true
    ∧ hNumber (mkCodeword s n kind number gen seq flags payload).header = number % 2 ^ 29 ∧ hStage (mkCodeword s n kind number gen seq flags payload).header = n.val
    ∧ hGen (mkCodeword s n kind number gen seq flags payload).header = gen % 2 ^ 32 ∧ hSeq (mkCodeword s n kind number gen seq flags payload).header = seq % 2 ^ 32
    ∧ hKind (mkCodeword s n kind number gen seq flags payload).header = kind % 256 ∧ hFlags (mkCodeword s n kind number gen seq flags payload).header = flags % 256

/-- For every two lists of verified seal-log records and every generation: the generation counts as sealed exactly where no record of kind void (sub 3)
exists for it and either both lists hold a record of kind sealed (sub 1) for it, or one of them does and a record of kind open (sub 2) exists for a
later generation. -/
def Obligations.GenerationSealed : Prop :=
  ∀ (a b : List SealRec) (g : Nat), genSealed a b g = true ↔
    (∀ r ∈ a ++ b, r.sub = 3 → r.gen ≠ g)
    ∧ (((∃ r ∈ a, r.sub = 1 ∧ r.gen = g) ∧ (∃ r ∈ b, r.sub = 1 ∧ r.gen = g))
      ∨ ((∃ r ∈ a ++ b, r.sub = 1 ∧ r.gen = g) ∧ (∃ r ∈ a ++ b, r.sub = 2 ∧ g < r.gen)))

/-- FRAME_RESTORED of a frame on its way, none of its line writes waiting any more, its stage Live and in no save: the frame is restored and no longer on
its way, no read stays held for it, and the progress count is one more, at most its highest value; where a write still waits nothing happens.
TOUCH_FETCH_START of the oldest waiting touch entry joins the background read of its frame, or puts its read into the read queue, or the zeros of a
frame with no copy on their way, or its poison (0x306) where its flash channel cannot serve it. BITMAP_LINE_FILL of a line that has come puts it into
the cache. TOUCH_HOLD_WARNING of the access held longest moves time past the threshold and logs 0x30A with the time held. -/
def Obligations.RestoreService : Prop :=
  ∀ (s : State) (n : Stage) (f : Nat),
    (∀ waits : Bool, waits = ((stageChans s n).any (fun c => [false, true].any (fun b => (subch s c b).waiting.any (isFrameWrite n f))) || s.dram.remap.any (fun e => e.2.waiting.any (isFrameWrite n f))) →
      (waits = true → exec (.frameRestored n f) s = .next (finish s))
      ∧ (waits = false → (rst s n).writing.contains f = true → stageSt s n = .live → qget s.saveDev.saving n = false → (sav s n).alone = false →
        Answers (.frameRestored n f) s (fun _ t => (rst t n).restored.contains f = true ∧ (rst t n).writing.contains f = false ∧ (∀ h ∈ (rst t n).heldReads, h.line / 64 ≠ f)
          ∧ rd t (F.RESTORE_PROGRESS_FRAMES n.val) = min (rd s (F.RESTORE_PROGRESS_FRAMES n.val) + 1) (2 ^ 30 - 1) ∧ t.modes = s.modes ∧ t.now = s.now ∧ t.dram.lines = s.dram.lines)))
    ∧ (∀ e, (rst s n).touchQ.find? (fun x => x.progress == 0) = some e →
      let m := mget noCopy (fset s n).fmap e.frame
      let fetched := (rst s n).reading.contains e.frame || (rst s n).writing.contains e.frame
      (fetched = true → Answers (.touchFetchStart n) s (fun _ t => (∃ x ∈ (rst t n).touchQ, x.frame = e.frame ∧ x.progress = 2)
        ∧ t.flash = s.flash ∧ SameDram s t ∧ t.modes = s.modes ∧ t.ledger = s.ledger))
      ∧ (fetched = false → m ≠ noCopy → flashMine s n m = true → chLost s (lunCh (entryLun m)) = false → Answers (.touchFetchStart n) s (fun _ t =>
        (⟨.touch e.frame, m, 1, 0⟩ : ReadReq) ∈ qget t.flash.readQ n ∧ (∃ x ∈ (rst t n).touchQ, x.frame = e.frame ∧ x.progress = 1)
        ∧ SameDram s t ∧ t.modes = s.modes ∧ t.ledger = s.ledger))
      ∧ (fetched = false → m ≠ noCopy → (flashMine s n m = false ∨ chLost s (lunCh (entryLun m)) = true) → Answers (.touchFetchStart n) s (fun u t =>
        (⟨0x306, 1, n.val, e.frame⟩ : Ev) ∈ u.evs ∧ (rst t n).writing.contains e.frame = true ∧ t.flash = s.flash ∧ t.dram.lines = s.dram.lines ∧ t.modes = s.modes ∧ t.ledger = s.ledger))
      ∧ (fetched = false → m = noCopy → Answers (.touchFetchStart n) s (fun _ t => (rst t n).writing.contains e.frame = true
        ∧ (∃ x ∈ (rst t n).touchQ, x.frame = e.frame ∧ x.progress = 1) ∧ t.flash = s.flash ∧ t.dram.lines = s.dram.lines ∧ t.modes = s.modes ∧ t.ledger = s.ledger)))
    ∧ (∀ line, (rst s n).bitArrived.contains line = true → Answers (.bitmapLineFill n line) s (fun _ t => (rst t n).bitLines.contains line = true
        ∧ (rst t n).bitFilling.contains line = false ∧ (rst t n).bitArrived = (rst s n).bitArrived.erase line ∧ t.modes = s.modes ∧ t.now = s.now ∧ t.dram.lines = s.dram.lines))
    ∧ (∀ since w, touchOldest s n = some (since, w) → rd s (F.RESTORE_CFG_TOUCH_WARN n.val) ≠ 0 → Answers (.touchHoldWarning n) s (fun u t =>
        t.now = max s.now (since + (rd s (F.RESTORE_CFG_TOUCH_WARN n.val) * 100 + 1) * unitsPerUs)
        ∧ Logs s u (⟨0x30A, 1, n.val, min ((u.now - since) / unitsPerUs) (2 ^ 32 - 1)⟩) ∧ t.modes = s.modes ∧ SameDram s t ∧ t.flash = s.flash))

/-- HEAT_DRAIN of a Live stage comes at its next 10 ms window: the ring is empty and the count of each sampled frame is higher by its samples, at most
0xFFFF_FFFF, the others as before. HEAT_HALVING with a half-life comes at its window: every count is halved and those at 0 leave. RESTORE_CTRL_START
on a path that writes the register and with the domain on: of a stage that may be restored, the stage goes from Sealed to Restoring (event 0x002), and
with pages in a house block the house record is being read; of another, event 0x00B is logged and modes stand. RESTORE_CTRL_RESUME of a stage that
waits ends its wait; of another it logs 0x00B. -/
def Obligations.HeatAndRestoreControl : Prop :=
  ∀ (s : State) (n : Stage),
    (stageSt s n = .live → Answers (.heatDrain n) s (fun _ t => t.now = max s.now (nextOpening s (timerHeat n.val) (msTicks 10) * unitsPerTick) ∧ (qget t.heat n).ring = []
      ∧ (∀ f, mget 0 (qget t.heat n).counts f = (if (qget s.heat n).ring.count f = 0 then mget 0 (qget s.heat n).counts f
        else min (mget 0 (qget s.heat n).counts f + (qget s.heat n).ring.count f) (2 ^ 32 - 1))) ∧ t.modes = s.modes ∧ t.dram.lines = s.dram.lines ∧ t.ledger = s.ledger))
    ∧ (stageSt s n = .live → rd s F.RESTORE_HEAT_HALF_LIFE_S ≠ 0 → Answers (.heatHalving n) s (fun _ t =>
      t.now = max s.now (nextOpening s (timerHalf n.val) (rd s F.RESTORE_HEAT_HALF_LIFE_S * 32768) * unitsPerTick)
      ∧ (qget t.heat n).counts = ((qget s.heat n).counts.map (fun e => (e.1, e.2 / 2))).filter (fun e => e.2 != 0) ∧ (qget t.heat n).ring = (qget s.heat n).ring
      ∧ (∀ m, m ≠ n → qget t.heat m = qget s.heat m) ∧ t.modes = s.modes ∧ SameDram s t ∧ t.ledger = s.ledger))
    ∧ (∀ p : Path, pathWrites s p (F.RESTORE_CTRL_START n.val).idx = true → mainOff s = false →
      (startable s n = true → Answers (.restoreCtrlStart p n) s (fun u t => (⟨0x002, 0, n.val, 28⟩ : Ev) ∈ u.evs
        ∧ ((blockEntries s n (houseLun s n 0) (fsys s n).houseA ++ blockEntries s n (houseLun s n 1) (fsys s n).houseB).any (flashMine s n) = true → stageSt t n = .restoring ∧ (rst t n).phase = .house) ∧ t.dram.lines = s.dram.lines))
      ∧ (startable s n = false → Answers (.restoreCtrlStart p n) s (fun u t => (⟨0x00B, 0, 0, modeCode s.modes.mode + 4088⟩ : Ev) ∈ u.evs ∧ t.modes = s.modes ∧ t.flash = s.flash ∧ t.ledger = s.ledger))
      ∧ ((rst s n).waitResume = true → Answers (.restoreCtrlResume p n) s (fun _ t => (rst t n).waitResume = false ∧ rd t (F.RESTORE_STATUS_WAIT_RESUME n.val) = 0))
      ∧ ((rst s n).waitResume = false → Answers (.restoreCtrlResume p n) s (fun u t => (⟨0x00B, 0, 0, modeCode s.modes.mode + 4088⟩ : Ev) ∈ u.evs ∧ t.modes = s.modes ∧ t.flash = s.flash ∧ t.ledger = s.ledger)))

/-- DRAM_REQUEST_ENQUEUE of a port whose first waiting request may enter: where no entry maps its line, for the copy of a remap, and for a write whose
read has passed the lookup, it is in the queue of its direction, and one of no pair leaves the waiting requests with its age beginning now; where its
line has moved to a spare of the same subchannel it is queued for that line; where its line is being copied it waits at the entry; where the entry is
invalid event 0x50E names it. With no request that may enter, nothing happens. REMAP_COPY_DONE of an entry in copying none of whose copy requests is
left makes the entry valid, logs 0x508 and frees what waited at it; of another entry it does nothing. No stored line changes. -/
def Obligations.DramQueueEntry : Prop :=
  ∀ (s : State) (c : DramCh) (b : Bool) (port : Nat),
    (entrant (subch s c b) port = none → exec (.dramRequestEnqueue c b port) s = .next (finish s))
    ∧ (∀ r, entrant (subch s c b) port = some r →
      let here := fun (l : Nat) => (mapLine s r.stage l).elim false (fun k => k.ch == c && k.sub == b)
      let look := remapLookup s r.stage r.origLine
      let calm := fun (t : State) => t.dram.lines = s.dram.lines ∧ t.modes = s.modes ∧ t.ledger = s.ledger ∧ t.now = s.now
      let queuedAt := fun (t : State) (l : Nat) => ∃ q ∈ (if r.write then (subch t c b).wq else (subch t c b).rq), q.id = r.id ∧ q.line = l ∧ q.use = r.use ∧ (r.pair = 0 → q.age = s.now)
      (((∃ k, r.use = .remapCopy k) ∨ (r.passed = true ∧ here r.line = true) ∨ ((∀ k, r.use ≠ .remapCopy k) ∧ r.passed = false ∧ look = .direct)) → Answers (.dramRequestEnqueue c b port) s (fun _ t =>
        queuedAt t r.line ∧ (r.pair = 0 → (subch t c b).waiting = (subch s c b).waiting.erase r) ∧ calm t))
      ∧ ((∀ k, r.use ≠ .remapCopy k) → r.passed = false →
        (∀ l, look = .redirect l → here l = true → Answers (.dramRequestEnqueue c b port) s (fun _ t => queuedAt t l ∧ calm t))
        ∧ (∀ k, look = .wait k → Answers (.dramRequestEnqueue c b port) s (fun _ t => (∃ mates, (remapAt t k).waiting = (remapAt s k).waiting ++ r :: mates ∧ (r.pair = 0 → mates = []))
          ∧ (r.pair = 0 → (subch t c b).waiting = (subch s c b).waiting.erase r) ∧ calm t))
        ∧ (∀ k, look = .invalid k → Answers (.dramRequestEnqueue c b port) s (fun u t => (⟨0x50E, 2, r.stage.val, k⟩ : Ev) ∈ u.evs
          ∧ t.dram.lines = s.dram.lines ∧ t.now = s.now))))
    ∧ (∀ k, (remapAt s k).state = 1 → (∀ (d : DramCh) (e : Bool), ∀ q ∈ (subch s d e).rq ++ (subch s d e).wq ++ (subch s d e).waiting ++ (subch s d e).inFlight, q.use ≠ .remapCopy k) →
      Answers (.remapCopyDone k) s (fun u t => (remapAt t k).state = 2 ∧ (remapAt t k).waiting = [] ∧ (remapAt t k).spare = (remapAt s k).spare
        ∧ (∃ a, (⟨0x508, 0, (remapAt s k).stage.val, a⟩ : Ev) ∈ u.evs) ∧ t.dram.lines = s.dram.lines ∧ t.modes = s.modes ∧ t.ledger = s.ledger))
    ∧ (∀ k, (remapAt s k).state ≠ 1 → exec (.remapCopyDone k) s = .next (finish s))

/-- DRAM_COMMAND_ISSUE on an awake subchannel with nothing due and no refresh at its limit, where the service order gives a request of class 0 to 2: with
the row of its line open, a write whose channel has no injection armed leaves the queue and its line, and no other, holds its data or, for a poisoned
write, the poison pattern, and a read is in flight with what its line holds; with another row open in the bank that row is closed; with no row open
the row of the line is open. No stage, no ledger, no time and, but for the write, no stored line changes. On a channel whose scheduler does not work
nothing happens. -/
def Obligations.DramCommandOfARequest : Prop :=
  ∀ (s : State) (c : DramCh) (b : Bool) (bar : TimingBar) (pullIn : Bool),
    (schedOn s c = false → exec (.dramCommandIssue c b bar pullIn) s = .next (finish s))
    ∧ (∀ r k, schedOn s c = true → (subch s c b).sr = .awake → (subch s c b).due = [] → (∀ j, (rankOf (subch s c b) j).owed < postponeMax s c) → nextReq (panicFollow s c) c b bar.requests = some r → r.cls < 3 →
      mapLine s r.stage r.line = some k →
      ((bankOf (subch s c b) (bankNo k)).openRow = some k.row → r.write = true → rd s (F.DC_INJECT_ARM k.ch.val) = 0 → Answers (.dramCommandIssue c b bar pullIn) s (fun _ t =>
        dramCell t r.stage r.line = (if r.poison then poisonCell else ⟨r.data, .clean⟩)
        ∧ (∀ m l, lineKey m l ≠ lineKey r.stage r.line → dramCell t m l = dramCell s m l) ∧ (∀ q ∈ (subch t c b).rq ++ (subch t c b).wq, q.id ≠ r.id)
        ∧ t.modes = s.modes ∧ t.ledger = s.ledger ∧ t.now = s.now))
      ∧ ((bankOf (subch s c b) (bankNo k)).openRow = some k.row → r.write = false → Answers (.dramCommandIssue c b bar pullIn) s (fun _ t =>
        (∃ q ∈ (subch t c b).inFlight, q.id = r.id ∧ q.use = r.use ∧ q.got = some (dramCell s r.stage r.line)) ∧ (∀ q ∈ (subch t c b).rq ++ (subch t c b).wq, q.id ≠ r.id)
        ∧ t.dram.lines = s.dram.lines ∧ t.modes = s.modes ∧ t.ledger = s.ledger ∧ t.now = s.now))
      ∧ (∀ row, (bankOf (subch s c b) (bankNo k)).openRow = some row → row ≠ k.row → Answers (.dramCommandIssue c b bar pullIn) s (fun u t =>
        (bankOf (subch t c b) (bankNo k)).openRow = none ∧ (.ddr c.val (b2n b) 3 k.prank (bankNo k) 0 : Output) ∈ u.out ∧ t.dram.lines = s.dram.lines
        ∧ t.modes = s.modes ∧ t.ledger = s.ledger ∧ t.now = s.now))
      ∧ ((bankOf (subch s c b) (bankNo k)).openRow = none → Answers (.dramCommandIssue c b bar pullIn) s (fun u t =>
        (bankOf (subch t c b) (bankNo k)).openRow = some k.row ∧ (.ddr c.val (b2n b) 0 k.prank (bankNo k) k.row : Output) ∈ u.out ∧ t.dram.lines = s.dram.lines
        ∧ t.modes = s.modes ∧ t.ledger = s.ledger ∧ t.now = s.now)))

/-- AGE_LIMIT_EXPIRY promotes the request whose limit ends first, at that time, and counts it. REFRESH_INTERVAL of a rank in use and awake comes an
interval after the last: one more refresh is owed, and at the postponement limit a forced one is due. ROW_IDLE_CLOSE closes an open row that no queued
request uses after IDLE_CLOSE clocks. RANK_POWER_DOWN puts a rank with nothing queued, due or owed to the limit into power-down after PD_TIMER clocks.
REFRESH_WINDOW clears every activation table of the channel. SCRUB_INTERVAL, where scrub runs, moves the position on and around, or notes the reads as
owed while the last ones wait. -/
def Obligations.DramTimers : Prop :=
  ∀ (s : State) (c : DramCh) (b : Bool),
    (∀ r, nextAged s c (subch s c b) = some r → Answers (.ageLimitExpiry c b) s (fun _ t => t.now = max s.now (r.age + ageLimit s c r.cls + 1)
      ∧ (∀ q ∈ (subch t c b).rq ++ (subch t c b).wq, q.id = r.id → q.promoted = true) ∧ rd t (F.DC_PROMOTE_COUNT_COUNT c.val) = (rd s (F.DC_PROMOTE_COUNT_COUNT c.val) + 1) % 2 ^ 48
      ∧ t.dram.lines = s.dram.lines ∧ t.modes = s.modes ∧ t.ledger = s.ledger))
    ∧ (∀ k, schedOn s c = true → (ranksOf s c).contains k = true → k < 2 → refreshInterval s c (rankOf (subch s c b) k).highTemp ≠ 0 → inSr (subch s c b) = false →
      Answers (.refreshInterval c b k) s (fun _ t => t.now = max s.now ((rankOf (subch s c b) k).refAt + refreshInterval s c (rankOf (subch s c b) k).highTemp)
        ∧ (rankOf (subch t c b) k).owed = (rankOf (subch s c b) k).owed + 1
        ∧ ((rankOf (subch s c b) k).owed + 1 ≥ postponeMax s c → (subch t c b).due.contains (.forcedRefresh k) = true) ∧ t.dram.lines = s.dram.lines ∧ t.modes = s.modes ∧ t.ledger = s.ledger))
    ∧ (∀ bank row, schedOn s c = true → (bankOf (subch s c b) bank).openRow = some row → rd s (F.DC_PAGE_CFG_IDLE_CLOSE c.val) ≠ 0 →
      ((subch s c b).rq ++ (subch s c b).wq).any (fun q => (mapLine s q.stage q.line).elim false (fun j => bankNo j == bank && some j.row == some row)) = false →
      Answers (.rowIdleClose c b bank) s (fun _ t => t.now = max s.now ((bankOf (subch s c b) bank).lastUse + rd s (F.DC_PAGE_CFG_IDLE_CLOSE c.val) * unitsPerClock)
        ∧ (bankOf (subch t c b) bank).openRow = none ∧ t.dram.lines = s.dram.lines ∧ t.modes = s.modes ∧ t.ledger = s.ledger))
    ∧ (∀ k, schedOn s c = true → (ranksOf s c).contains k = true → k < 2 → rd s (F.DC_LP_CFG_PD_TIMER c.val) ≠ 0 → (subch s c b).rq = [] → (subch s c b).wq = [] → (subch s c b).due = [] →
      (rankOf (subch s c b) k).owed < postponeMax s c → anyPanic s c = false → (rankOf (subch s c b) k).powerDown = false → (subch s c b).sr = .awake →
      Answers (.rankPowerDown c b k) s (fun _ t => t.now = max s.now ((rankOf (subch s c b) k).lastCmd + rd s (F.DC_LP_CFG_PD_TIMER c.val) * unitsPerClock)
        ∧ (rankOf (subch t c b) k).powerDown = true ∧ t.dram.lines = s.dram.lines ∧ t.modes = s.modes ∧ t.ledger = s.ledger))
    ∧ (schedOn s c = true → Answers (.refreshWindow c) s (fun u t => t.now = max s.now ((chan s c).window + 51200000 * unitsPerClock) ∧ (chan t c).window = u.now
        ∧ (∀ e ∈ (subch t c b).banks, e.2.spill = 0 ∧ e.2.table = List.replicate 32 (0, 0)) ∧ t.dram.lines = s.dram.lines ∧ t.modes = s.modes ∧ t.ledger = s.ledger))
    ∧ (schedOn s c = true → scrubRuns s c = true → Answers (.scrubInterval c) s (fun _ t =>
        t.now = max s.now (mget 0 s.timers (timerScrub c) + Sys2Proof.Machine.scrubInterval s c * unitsPerClock) ∧ t.dram.lines = s.dram.lines ∧ t.modes = s.modes
        ∧ (scrubOut s c = true → (chan t c).subA.scrubOwed = true ∧ rd t (F.DC_SCRUB_STATUS_POSITION c.val) = rd s (F.DC_SCRUB_STATUS_POSITION c.val))
        ∧ (scrubOut s c = false → rd s (F.DC_SCRUB_STATUS_POSITION c.val) + 1 < subLines s c → rd t (F.DC_SCRUB_STATUS_POSITION c.val) = (rd s (F.DC_SCRUB_STATUS_POSITION c.val) + 1) % 2 ^ 32)
        ∧ (scrubOut s c = false → subLines s c ≤ rd s (F.DC_SCRUB_STATUS_POSITION c.val) + 1 → 1 < subLines s c → rd t (F.DC_SCRUB_STATUS_POSITION c.val) = (if subLines s c ≤ rd s (F.DC_SCRUB_STATUS_POSITION c.val) then 1 else 0) % 2 ^ 32)))

/-- IDLE_SELF_REFRESH of an awake subchannel with nothing queued, due or in flight, no panic and no save, begins entry after SR_IDLE_US. SELF_REFRESH_EXIT
with a request of class 0 to 3 waiting, and SELF_REFRESH_MAX_EXIT of idle self-refresh with class 4 requests held at the end of SR_MAX_MS (event
0x503), leave self-refresh no earlier than the minimum residency and make a refresh of rank 0 due. DRAM_READ_COMPLETE of the oldest read in flight, a
host read whose port is up: the line's data, quarantined bytes as zeros, or poison where it is poisoned or uncorrectable, goes to port and tag; a
corrected one logs 0x505, an uncorrectable one 0x506. No stored line changes. -/
def Obligations.SelfRefreshAndReads : Prop :=
  ∀ (s : State) (c : DramCh) (b : Bool),
    (schedOn s c = true → rd s (F.DC_LP_CFG_SR_IDLE_US c.val) ≠ 0 → (subch s c b).rq = [] → (subch s c b).wq = [] → (subch s c b).inFlight = [] → (subch s c b).waiting = [] → (subch s c b).due = [] →
      (subch s c b).sr = .awake → anyPanic s c = false → saveKeepsAwake s c = false → Answers (.idleSelfRefresh c b) s (fun _ t =>
        t.now = max s.now ((subch s c b).idleSince + rd s (F.DC_LP_CFG_SR_IDLE_US c.val) * unitsPerUs) ∧ (subch t c b).sr = .entering ∧ t.dram.lines = s.dram.lines ∧ t.modes = s.modes))
    ∧ (∀ since idle, schedOn s c = true → (subch s c b).sr = .committed since idle →
      (((subch s c b).rq ++ (subch s c b).wq ++ (subch s c b).waiting).any (fun r => decide (r.cls ≤ 3)) = true → Answers (.selfRefreshExit c b) s (fun u t =>
        t.now = max s.now (since + srResidency s) ∧ (subch t c b).sr = .awake ∧ (subch t c b).due.contains (.exitRefresh 0) = true ∧ (.ddr c.val (b2n b) 9 0 0 0 : Output) ∈ u.out
        ∧ t.dram.lines = s.dram.lines ∧ t.modes = s.modes))
      ∧ (idle = true → ((subch s c b).rq ++ (subch s c b).wq ++ (subch s c b).waiting).any (fun r => r.cls == 4) = true → Answers (.selfRefreshMaxExit c b) s (fun u t =>
        t.now = max (max s.now (since + max 1 (rd s (F.DC_LP_CFG_SR_MAX_MS c.val)) * 1000 * unitsPerUs)) (since + srResidency s) ∧ (subch t c b).sr = .awake
        ∧ (subch t c b).due.contains (.exitRefresh 0) = true ∧ (⟨0x503, 0, (chanStage s c).elim 0 (fun n => n.val), c.val + 4 * b2n b⟩ : Ev) ∈ u.evs ∧ t.dram.lines = s.dram.lines ∧ t.modes = s.modes)))
    ∧ (∀ raw r rest port tag cell o dev, (chanStage s c).isSome = true → (subch s c b).inFlight = r :: rest → r.use = .hostRead port tag → portIn s port = true → r.got = some cell →
      outcomeOf (wideDev s c) cell raw = some (o, dev) → Answers (.dramReadComplete c b raw) s (fun u t =>
        (∃ load, (.memData port tag (if o = .clean ∨ o = .corrected then (if r.pair = 0 then lineSeen s r.stage r.origLine cell.data else cell.data) else 0#512) (decide (o = .poisoned ∨ o = .uncorrectable)) load : Output) ∈ u.out)
        ∧ (subch t c b).inFlight = rest ∧ t.dram.lines = s.dram.lines ∧ t.modes = s.modes ∧ t.ledger = s.ledger ∧ t.now = s.now
        ∧ (o = .corrected → (⟨0x505, 0, r.stage.val, r.origLine / 64 % 2 ^ 29 + min dev 7 * 2 ^ 29⟩ : Ev) ∈ u.evs)
        ∧ (o = .uncorrectable → (⟨0x506, 2, r.stage.val, r.origLine / 64 % 2 ^ 29⟩ : Ev) ∈ u.evs)))

/-- On a path that writes the register, the domain on: DC_DLY_DATA_WRITE of an existing delay stores its taps at once, or staged, and AUTO_INC advances
the lane; DC_TRN_CTRL_START runs the pattern that its word names where training is allowed and is ignored elsewhere, its register as before.
TRAINING_RUN_DONE of a run leaves fail lanes, errors and DONE. DRIFT_TRACKING comes at its window; in Service and Restore a trained, awake rank takes
the new count and its correction, clamped to the step. I3C_TRANSFER by the cores with the bus idle sends the command; I3C_TRANSFER_DONE leaves its
result, and logs 0x51B where no acknowledge came. DRAM_SENSOR_POLL publishes the temperature read and logs 0x51B for a sensor that does not answer. -/
def Obligations.DramInterfaceCommands : Prop :=
  ∀ (s : State) (c : DramCh),
    (∀ (p : Path) (w : Word), pathWrites s p (F.DC_DLY_DATA_TAPS c.val).idx = true → mainOff s = false → (delaySel s c).2 = true → Answers (.dcDlyDataWrite p c w) s (fun _ t =>
      (bitOf w.toNat 12 = false → mget 0 t.dram.delays (delaySel s c).1 = w.toNat % 4096) ∧ (bitOf w.toNat 12 = true → mget 0 t.dram.staged (delaySel s c).1 = w.toNat % 4096 ∧ t.dram.delays = s.dram.delays)
      ∧ rd t (F.DC_DLY_SEL_LANE c.val) = (if rdb s (F.DC_DLY_SEL_AUTO_INC c.val) then (rd s (F.DC_DLY_SEL_LANE c.val) + 1) % 64 else rd s (F.DC_DLY_SEL_LANE c.val)) ∧ t.dram.lines = s.dram.lines ∧ t.modes = s.modes))
    ∧ (∀ (p : Path) (w : Word), pathWrites s p (F.DC_TRN_CTRL_START c.val).idx = true → mainOff s = false →
      (trainAllowed s c = true → Answers (.dcTrnCtrlStart p c w) s (fun u t => (chan t c).training = true ∧ (.train c.val (fldOf w (F.DC_TRN_CTRL_SUBCH c.val)) (fldOf w (F.DC_TRN_CTRL_RANK c.val)) (fldOf w (F.DC_TRN_CTRL_MODE c.val)) (fldOf w (F.DC_TRN_CTRL_PATTERN c.val)) (max 1 (fldOf w (F.DC_TRN_CTRL_BURSTS c.val))) (rd s (F.DC_TRN_PATTERN_USER c.val)) : Output) ∈ u.out ∧ rd t (F.DC_TRN_CTRL_DONE c.val) = 0 ∧ t.dram.lines = s.dram.lines ∧ t.modes = s.modes))
      ∧ (trainAllowed s c = false → Answers (.dcTrnCtrlStart p c w) s (fun _ t => SameDram s t ∧ (∀ g, pathField g = true → rd t g = rd s g) ∧ t.modes = s.modes)))
    ∧ (∀ (lanes : BitVec 40) (errors : Nat), (chan s c).training = true → Answers (.trainingRunDone c lanes errors) s (fun _ t => (chan t c).training = false
      ∧ rd t (F.DC_TRN_RESULT_FAIL_LANES c.val) = lanes.toNat ∧ rd t (F.DC_TRN_RESULT_ERRORS c.val) = min errors 255 ∧ rd t (F.DC_TRN_CTRL_DONE c.val) = 1 ∧ t.dram.lines = s.dram.lines ∧ t.modes = s.modes))
    ∧ (∀ d : DriftRead, (serving s = false → Answers (.driftTracking [d]) s (fun _ t => t.now = max s.now (nextOpening s timerDrift 328 * unitsPerTick) ∧ SameDram s t ∧ t.modes = s.modes))
      ∧ (serving s = true → rd s (F.DC_PHY_STATUS_TRAINED d.ch.val) ≠ 0 → inSr (subch s d.ch d.sub) = false → Answers (.driftTracking [d]) s (fun _ t =>
        t.now = max s.now (nextOpening s timerDrift 328 * unitsPerTick) ∧ (rankOf (subch t d.ch d.sub) d.rank.val).oscCount = d.count
        ∧ (rankOf (subch t d.ch d.sub) d.rank.val).drift = (rankOf (subch s d.ch d.sub) d.rank.val).drift
          + clampInt (driftTaps (if rd s (F.DC_TRACK_OSC_RUNTIME d.ch.val) = 0 then 256 else rd s (F.DC_TRACK_OSC_RUNTIME d.ch.val)) (rankOf (subch s d.ch d.sub) d.rank.val).oscCount d.count)
            (max 1 (rd s (F.DC_TRACK_MAX_STEP d.ch.val)))
        ∧ t.dram.delays = s.dram.delays ∧ t.dram.lines = s.dram.lines ∧ t.modes = s.modes)))
    ∧ (∀ w : Word, pathWrites s .core F.DC_I3C_CMD_GO.idx = true → s.dram.i3cBusy = false → Answers (.i3cTransfer .core w) s (fun u t => SameDram { s with dram := { s.dram with i3cBusy := true } } t ∧ rd t F.DC_I3C_CMD_BUSY = 1
      ∧ rd t F.DC_I3C_CMD_ADDR = fldOf w F.DC_I3C_CMD_ADDR ∧ (∃ cmd : Word, Sends s u (.i3c (rd s F.DC_I3C_CFG_RATE) cmd (rawReg s 0x1183)) ∧ fldOf cmd F.DC_I3C_CMD_ADDR = fldOf w F.DC_I3C_CMD_ADDR ∧ fldOf cmd F.DC_I3C_CMD_READ = fldOf w F.DC_I3C_CMD_READ ∧ fldOf cmd F.DC_I3C_CMD_LENGTH = fldOf w F.DC_I3C_CMD_LENGTH ∧ fldOf cmd F.DC_I3C_CMD_OFFSET = fldOf w F.DC_I3C_CMD_OFFSET) ∧ t.modes = s.modes))
    ∧ (∀ (result : Nat) (data : Word), s.dram.i3cBusy = true → Answers (.i3cTransferDone result data) s (fun u t => SameDram { s with dram := { s.dram with i3cBusy := false } } t ∧ rd t F.DC_I3C_CMD_BUSY = 0
      ∧ rd t F.DC_I3C_CMD_RESULT = result % 4 ∧ (result = 1 → (⟨0x51B, 1, 0, rd s F.DC_I3C_CMD_ADDR⟩ : Ev) ∈ u.evs) ∧ t.modes = s.modes))
    ∧ (∀ addr temp, roleRuns s 0 = true →
      Answers (.dramSensorPoll [(addr, some temp)]) s (fun _ t => t.now = max s.now (nextOpening s timerI3c (msTicks 100) * unitsPerTick) ∧ SameDram { s with dram := { s.dram with dramTemp := temp } } t ∧ t.modes = s.modes)
      ∧ Answers (.dramSensorPoll [(addr, none)]) s (fun u t => SameDram s t ∧ Logs s u (⟨0x51B, 1, 0, addr⟩) ∧ t.modes = s.modes))

/-- On a mailbox that exists with its link up: Get Health Info, Alert Configuration, Shutdown State, Poison List, Scan Media Results and LSA of a stage's
logical device, Get LD Info, LD Allocations, Timestamp and FW Info, and in Standby, Service and Restore Get Stage Status, Block Wear, Gauge Report,
Power Report, Read Prompt Book and the user area's sector status (Heat Statistics in Service and Restore) send exactly one completion, Success with
the payload of their rule, and no engine changes (LSA while no slot mark is due, sector status while no C00Dh erase runs). Set Partition Info and Set
LD Allocations complete with Unsupported, as stage-scope commands do where the logical device carries no stage. Layouts and return codes that the spec
leaves to CXL 3.1 are the model's choice (log entry 70). -/
def Obligations.MailboxReports : Prop :=
  ∀ (s : State) (port ld : Nat), boxUp s port ld = true →
    ∀ tells : Instr → Nat → List Byte → Prop, (∀ c code payload, tells c code payload ↔ Answers c s (fun u t => Sends s u (.mailbox port ld code payload) ∧ Still s t)) →
    (∀ c ∈ ([.setPartitionInfo port ld, .setLdAllocations port ld] : List Instr), tells c 3 [])
    ∧ (ldStage s port ld = none → ∀ c ∈ ([.getHealthInfo port ld, .getAlertConfiguration port ld, .getShutdownState port ld, .getScanMediaResults port ld, .getStageStatus port ld] : List Instr), tells c 3 [])
    ∧ tells (.getLdInfo port ld) 0 (leBytes 8 (((portLds s port).map (fun x => x.elim 0 (fun n => hostLines s n * 64))).sum) ++ leBytes 2 (portLds s port).length)
    ∧ tells (.getLdAllocations port ld) 0 (leBytes 1 (portLds s port).length ++ leBytes 1 0 ++ leBytes 2 0
        ++ (portLds s port).flatMap (fun x => leBytes 8 (x.elim 0 (fun n => rd s (F.STAGE_SIZE_HOST_256MIB n.val))) ++ leBytes 8 (x.elim 255 (fun n => n.val))))
    ∧ tells (.getTimestamp port ld) 0 (leBytes 8 (if s.cxl.timestamp.2 = 0 then 0 else s.cxl.timestamp.1 + (tickOf s + 1 - s.cxl.timestamp.2) * 1000000000 / 32768))
    ∧ (∃ rest, tells (.getFwInfo port ld) 0 ([2#8] ++ leBytes 1 (1 + b2n (s.fw.roleSlotB.headD false)) ++ [1#8] ++ rest))
    ∧ (∀ n, ldStage s port ld = some n →
      tells (.getHealthInfo port ld) 0 (healthInfo s n) ∧ tells (.getAlertConfiguration port ld) 0 (alertBytes (qget s.cxl.alerts n))
      ∧ tells (.getShutdownState port ld) 0 (leBytes 1 (b2n (dscShutdown s n)))
      ∧ tells (.getScanMediaResults port ld) 0 (leBytes 4 (qget s.cxl.scanResults n).length ++ ((qget s.cxl.scanResults n).take 1022).flatMap (fun l => poisonBytes ⟨l, 1, false⟩))
      ∧ (∀ a k, rangeOk s n a k = true → ∃ head, head.length = 32 ∧ tells (.getPoisonList port ld a k) 0
        (head ++ (((qget s.cxl.poison n).filter (fun e => decide (e.line < a + k) && decide (a < e.line + e.lines))).take 1022).flatMap poisonBytes))
      ∧ (∀ offset len, s.store.writing.all (fun e => decide (s.now < e.done)) = true → offset + len ≤ 131072 → len ≤ 16384 → tells (.getLsa port ld offset len) 0 (slice (lsaRead s n) offset len))
      ∧ (modesAll.contains s.modes.mode = true → tells (.getStageStatus port ld) 0 (stageReport s n))
      ∧ (∀ lun first k, modesAll.contains s.modes.mode = true → (stageLuns s n).contains lun = true → k ≤ 2046 → first < blocksPer s n →
        ∀ es, es = ((wearEntries s n).drop ((stageLuns s n).findIdx (· == lun) * blocksPer s n + first)).take (min k (blocksPer s n - first)) →
        tells (.getBlockWear port ld lun 0 first k) 0 (leBytes 2 es.length ++ List.replicate 14 0#8 ++ es.flatten))
      ∧ (∀ first k, (s.modes.mode = .service ∨ s.modes.mode = .restore) → k ≤ 2046 → ∃ head, head.length = 16 ∧ tells (.getHeatStatistics port ld first k) 0
        (head ++ (((heatOrder (qget s.heat n).counts).drop first).take k).flatMap (fun f => leBytes 4 (f % 2 ^ 29) ++ leBytes 4 (mget 0 (qget s.heat n).counts f)))))
    ∧ (modesAll.contains s.modes.mode = true →
      (∃ rest, tells (.getPowerReport port ld) 0 (leBytes 1 (modeCode s.modes.mode) ++ rest))
      ∧ (∃ mid, mid.length = 6 ∧ tells (.getGaugeReport port ld) 0 (leBytes 4 (rd s F.GAUGE_SOC_SOC_UAH)
        ++ leBytes 4 (rd s F.GAUGE_UNC_UNC_UAH) ++ leBytes 4 (rd s F.GAUGE_LEARNED_LEARNED_UAH) ++ leBytes 4 (rd s F.LDG_DEV_USABLE_USABLE_MJ) ++ leBytes 2 (rd s F.GAUGE_MEAS_PACK_MV) ++ mid
        ++ leBytes 5 (if rdb s F.GAUGE_FULL_TICK_VALID then ticksSince s (rd s F.GAUGE_FULL_TICK_TICK) else 2 ^ 40 - 1)
        ++ leBytes 5 (if rdb s F.GAUGE_EMPTY_TICK_VALID then ticksSince s (rd s F.GAUGE_EMPTY_TICK_TICK) else 2 ^ 40 - 1)))
      ∧ (∀ fromSeq area k, area ≤ 1 → fromSeq < 2 ^ 32 → ∃ head, head.length = 16 ∧ tells (.readPromptBook port ld fromSeq area 0 k) 0
        (head ++ (recordsFrom (if k = 0 then 909 else min 909 k) (areaOfBook s (area == 1)) fromSeq).flatMap (fun r => wordBytes r.w0 ++ wordBytes r.w1 ++ wordBytes r.w2)))
      ∧ (∀ word, word < 4194304 → userBusy s = false → ∃ erases, tells (.userAreaSectorStatus port ld 0 word) 0
        ([if s.store.failed.contains (4096 + word / 2048) then 2#8 else if isProtected s.store (4096 + word / 2048) then 4#8 else 0#8, 0#8, 0#8, 0#8] ++ word32 erases)))

/-- On a mailbox that exists with its link up: Set Alert Configuration stores thresholds in range for its stage only, Set Timestamp and Set Event
Interrupt Policy what is given, Clear Event Records empties the log or takes out the handles given; Set Shutdown State logs 0x612 and writes only the
script store, without touching modes, ledger, DRAM or flash; each completes. Set LSA writes only the script store: its completion comes with the valid
mark, which waits for the time the erases take, or it is Internal Error where no copy can be written; another Set LSA of the mailbox is Busy until
then. Out-of-range inputs complete with Invalid Input and change nothing. Set Residue Cap writes CAP_MIB and logs 0x604. Clear Prompt Book of the ring
leaves no valid record up to its bound. A start of a rehearsal that need not wait begins a leg, or with the link on awaits its grant; a cancel ends it
with reason 2. Intermission Resume ends the wait of each stage named. -/
def Obligations.MailboxSettings : Prop :=
  ∀ (s : State) (port ld : Nat), boxUp s port ld = true →
    (∀ n, ldStage s port ld = some n →
      (∀ life temp errors : Option Nat, life.elim true (fun v => decide (v ≤ 100)) = true → temp.elim true (fun v => decide (v < 65536)) = true → errors.elim true (fun v => decide (v < 65536)) = true →
        Answers (.setAlertConfiguration port ld life temp errors) s (fun u t => t.cxl.alerts = qset s.cxl.alerts n ⟨life, temp, errors⟩ ∧ Sends s u (.mailbox port ld 0 []) ∧ t.modes = s.modes ∧ SameDram s t))
      ∧ (∀ v temp errors, 100 < v → Answers (.setAlertConfiguration port ld (some v) temp errors) s (fun u t => Sends s u (.mailbox port ld 2 []) ∧ Still s t))
      ∧ (∀ d, (d ≤ 1 → Answers (.setShutdownState port ld d) s (fun u t => Sends s u (.mailbox port ld 0 []) ∧ (⟨0x612, 0, n.val, d⟩ : Ev) ∈ u.evs
          ∧ t.modes = s.modes ∧ t.ledger = s.ledger ∧ SameDram s t ∧ t.flash = s.flash ∧ t.saveDev = s.saveDev))
        ∧ (1 < d → Answers (.setShutdownState port ld d) s (fun u t => Sends s u (.mailbox port ld 2 []) ∧ Still s t)))
      ∧ (∀ offset data, (offset + data.length ≤ 131072 → data.length ≤ 16376 → s.store.writing = [] → Answers (.setLsa port ld offset data) s (fun u t =>
          ((u.out = s.out ∧ ∃ e, t.store.writing = [e] ∧ e.tag = 0x0C ∧ e.arg = offset ∧ e.who = some (port, ld) ∧ s.now ≤ e.done) ∨ Sends s u (.mailbox port ld 4 []))
            ∧ t.modes = s.modes ∧ t.ledger = s.ledger ∧ SameDram s t ∧ t.flash = s.flash ∧ t.cipher = s.cipher))
        ∧ (s.store.writing.all (fun e => decide (s.now < e.done)) = true → 131072 < offset + data.length → Answers (.setLsa port ld offset data) s (fun u t => Sends s u (.mailbox port ld 2 []) ∧ Still s t))
        ∧ (s.store.writing.all (fun e => decide (s.now < e.done)) = true → lsaWaits s port ld = true → offset + data.length ≤ 131072 → data.length ≤ 16376 →
          Answers (.setLsa port ld offset data) s (fun u t => Sends s u (.mailbox port ld 6 []) ∧ Still s t))))
    ∧ (∀ v, Answers (.setEventInterruptPolicy port ld v) s (fun u t => t.cxl.policy = mset 0 s.cxl.policy (ldKey port ld) (v % 2 ^ 32) ∧ Sends s u (.mailbox port ld 0 []) ∧ t.modes = s.modes ∧ SameDram s t))
    ∧ (∀ k handles, k ≤ 3 → (ldLog s (ldKey port ld) k).recs.length ≤ 64 →
      Answers (.clearEventRecords port ld k true handles) s (fun u t => ldLog u (ldKey port ld) k = cxlLogInit ∧ Sends s u (.mailbox port ld 0 []) ∧ t.modes = s.modes ∧ SameDram s t)
      ∧ ((∀ h ∈ handles, 0 < h ∧ h ≤ (ldLog s (ldKey port ld) k).recs.length) → Answers (.clearEventRecords port ld k false handles) s (fun u t =>
        (ldLog u (ldKey port ld) k).recs = ((ldLog s (ldKey port ld) k).recs.zipIdx.filter (fun e => !handles.contains (e.2 + 1))).map (·.1) ∧ Sends s u (.mailbox port ld 0 []) ∧ t.modes = s.modes ∧ SameDram s t)))
    ∧ (∀ v, Answers (.setTimestamp port ld v) s (fun u t => t.cxl.timestamp = (v % 2 ^ 64, tickOf s + 1) ∧ Sends s u (.mailbox port ld 0 []) ∧ t.modes = s.modes ∧ SameDram s t))
    ∧ (∀ mib, modesAll.contains s.modes.mode = true → (mib < 2 ^ 24 → Answers (.setResidueCap port ld mib) s (fun u t => rd t F.LDG_DEV_CAP_CAP_MIB = mib ∧ (⟨0x604, 0, 0, mib⟩ : Ev) ∈ u.evs
        ∧ (∃ p, Sends s u (.mailbox port ld 0 p)) ∧ Still s t))
      ∧ (2 ^ 24 ≤ mib → Answers (.setResidueCap port ld mib) s (fun u t => Sends s u (.mailbox port ld 2 []) ∧ Still s t)))
    ∧ (∀ bound, modesAll.contains s.modes.mode = true → bound < 2 ^ 32 → Answers (.clearPromptBook port ld 1 0 bound) s (fun u t => (∀ r ∈ ringRecs u.pbook, seqBefore bound (recSeq r) = true)
        ∧ Sends s u (.mailbox port ld 0 (leBytes 4 (clearCount s bound 1))) ∧ t.modes = s.modes ∧ t.store = s.store))
    ∧ ((s.modes.mode = .standby ∨ s.modes.mode = .service) →
      (rehBusy s = false → rdb s F.LINK_CFG_ENABLE = false → Answers (.startRehearsal port ld 1) s (fun u t => (rd t F.GAUGE_REH_STATE = 2 ∨ rd t F.GAUGE_REH_STATE = 3)
        ∧ (⟨0x90E, 0, 0, rd t F.GAUGE_REH_STATE⟩ : Ev) ∈ u.evs ∧ (.mailbox port ld 0 [0#8] : Output) ∈ u.out ∧ t.modes = s.modes))
      ∧ (rehBusy s = false → rdb s F.LINK_CFG_ENABLE = true → rdb s F.LINK_CFG_LEAD = false → Answers (.startRehearsal port ld 1) s (fun u t => rd t F.GAUGE_REH_STATE = 1
        ∧ rd t F.LINK_STATUS_GRANT_PENDING = 1 ∧ (⟨0x90D, 0, 0, 0⟩ : Ev) ∈ u.evs ∧ Sends s u (.mailbox port ld 0 [1#8]) ∧ Still s t))
      ∧ (rehBusy s = true → Answers (.startRehearsal port ld 1) s (fun u t => Sends s u (.mailbox port ld 6 []) ∧ Still s t))
      ∧ (rd s F.GAUGE_REH_STATE ≠ 0 → Answers (.cancelRehearsal port ld) s (fun u t => rd t F.GAUGE_REH_STATE = 0 ∧ rd t F.GAUGE_REH_LAST_END = 2 ∧ (⟨0x90F, 0, 0, 2⟩ : Ev) ∈ u.evs
        ∧ (.mailbox port ld 0 [2#8] : Output) ∈ u.out ∧ t.modes = s.modes))
      ∧ (∀ mask, mask ≤ 15 → Answers (.intermissionResume port ld mask) s (fun u t => (∀ n : Stage, bitOf mask n.val = true → (rst t n).waitResume = false)
        ∧ (.mailbox port ld 0 (leBytes 1 (mask4 (fun n => bitOf mask n.val && (rst s n).waitResume))) : Output) ∈ u.out)))

/-- On a mailbox that is up, where the command may run: Inject and Clear Poison of a cached line write it through the tap, change the poison list by that
line and log 0x613; Scan Media, Secure Erase, Sanitize, the last part of an image section or firmware, a re-dress or unbind of a Live stage and a
user-area erase start the background command and their engine; other parts are kept in order and an abort discards them; Planned Save is Success and
one clock later the gate instant of cause 9; a firmware activation answers its result, an online one that resumes starts the series; user-area reads
send their words and programs start; Attest signs with the next leaf and uses it up. -/
def Obligations.MailboxEngines : Prop :=
  ∀ (s : State) (port ld : Nat), boxUp s port ld = true →
    (∀ n l, ldStage s port ld = some n → l < hostLines s n → stageSt s n = .live → gateHolds s n = false → (mapLine s n l).isSome = true → (rst s n).pending = false →
      (led s n).cached.contains (l / 64 / 256) = true → (led s n).writeThrough = false → releasable s n = none → (led s n).marks.edge ≠ edgeOf s.now → (frameState s n (l / 64) ≠ 0 ∨ capHolds s n = false) →
      ((qget s.cxl.poison n).length < 1024 → Answers (.injectPoison port ld l) s (fun u t => (⟨l, 1, true⟩ : PoisonEntry) ∈ qget t.cxl.poison n ∧ (⟨0x613, 0, n.val, l / 64 % 2 ^ 29⟩ : Ev) ∈ u.evs
        ∧ (.mailbox port ld 0 [] : Output) ∈ u.out ∧ frameState t n (l / 64) ≠ 0 ∧ t.dram.lines = s.dram.lines ∧ t.modes = s.modes))
      ∧ (∀ data, Answers (.clearPoison port ld l data) s (fun u t => (∀ e ∈ qget t.cxl.poison n, poisonCovers e l = false) ∧ (⟨0x613, 0, n.val, l / 64 % 2 ^ 29 + 2 ^ 31⟩ : Ev) ∈ u.evs
        ∧ (.mailbox port ld 0 [] : Output) ∈ u.out ∧ frameState t n (l / 64) ≠ 0 ∧ t.dram.lines = s.dram.lines ∧ t.modes = s.modes)))
    ∧ (∀ n l k, ldStage s port ld = some n → rangeOk s n l k = true → s.cxl.background = none → stageSt s n = .live → (rst s n).pending = false → (led s n).gated = false →
      Answers (.scanMedia port ld l k) s (fun u t => u.cxl.background = some ⟨port, ld, 0x4304⟩ ∧ t.cxl.scan = some ⟨n, l + 1, l + k, [], 1⟩
        ∧ Sends s u (.mailbox port ld 1 (leBytes 4 (ceilDiv (k * 64) 2000000))) ∧ t.dram.lines = s.dram.lines ∧ t.modes = s.modes))
    ∧ (∀ n all, ldStage s port ld = some n → s.cxl.background = none → s.image.request = none → (led s n).gated = false → s.modes.mode ≠ .save → s.modes.booting = false →
      ∀ c : Instr, c = (if all then .sanitize port ld else .secureErase port ld) →
      (stageSt s n = .live → Answers c s (fun u t => t.cxl.erase = some ⟨n, all, 0⟩ ∧ (led t n).gated = true ∧ (sav t n).phase = .drain ∧ (⟨0x60B, 0, n.val, b2n all⟩ : Ev) ∈ u.evs ∧ (.mailbox port ld 1 [] : Output) ∈ u.out ∧ t.modes = s.modes))
      ∧ (stageSt s n = .sealed → Answers c s (fun u _ => (∃ a, (⟨0x702, 0, n.val, a⟩ : Ev) ∈ u.evs) ∧ (⟨0x60B, 0, n.val, b2n all⟩ : Ev) ∈ u.evs ∧ (.mailbox port ld 1 [] : Output) ∈ u.out)))
    ∧ (modesAll.contains s.modes.mode = true →
      (∀ (first : Bool) bs data, (if first then bs = [] else s.image.loading = some (1, bs)) → data.length ≤ 16376 →
        (data.length % 128 = 0 → Answers (.loadImageSection port ld bs.length first false 0 data) s (fun u t => t.image.loading = some (1, bs ++ data) ∧ (.mailbox port ld 0 [] : Output) ∈ u.out ∧ t.modes = s.modes ∧ t.store = s.store))
        ∧ (s.cxl.background = none → Answers (.loadImageSection port ld bs.length first true 0 data) s (fun u t => t.image.staged = some ⟨bs ++ data, 1, none⟩ ∧ t.image.loading = none
          ∧ t.cxl.background = some ⟨port, ld, 0xC009⟩ ∧ (.mailbox port ld 1 [] : Output) ∈ u.out ∧ t.modes = s.modes ∧ t.store = s.store)))
      ∧ (∀ bs, s.image.loading = some (1, bs) → Answers (.loadImageSectionAbort port ld 0) s (fun u t => t.image.loading = none ∧ (⟨0xA02, 2, 0, 10⟩ : Ev) ∈ u.evs ∧ Sends s u (.mailbox port ld 0 []) ∧ t.modes = s.modes ∧ t.store = s.store))
      ∧ (∀ k, mayName s port ld k = true → ∀ (unbind : Bool) (c : Instr), c = (if unbind then .applyStageSectionUnbind port ld k 0 else .applyStageSection port ld k 0) →
        (redressRefusal s (fin4 k) unbind = 1 → Answers c s (fun u t => Sends s u (.mailbox port ld 6 []) ∧ Still s t))
        ∧ (redressRefusal s (fin4 k) unbind = 0 → stageSt s (fin4 k) = .live → Answers c s (fun u t => t.image.request = some ⟨fin4 k, unbind⟩ ∧ (led t (fin4 k)).gated = true ∧ (sav t (fin4 k)).phase = .drain
          ∧ t.cxl.background = some ⟨port, ld, 0xC00A⟩ ∧ (⟨0xA05, 0, k, b2n unbind⟩ : Ev) ∈ u.evs ∧ (.mailbox port ld 1 [] : Output) ∈ u.out ∧ t.modes = s.modes)))
      ∧ (∀ word k, word + k ≤ 4194304 → 0 < k → userBusy s = false → s.store.prog = none → s.store.calls = [] → s.store.erase = none →
        (k ≤ 2048 → Answers (.userAreaRead port ld 0 k word) s (fun u t => t.store = s.store ∧ t.modes = s.modes ∧ Sends s u (.mailbox port ld 0 ([0#8, 0#8, BitVec.ofNat 8 k, BitVec.ofNat 8 (k / 256)] ++ word32 0
          ++ (List.range k).flatMap (fun i => (List.range 6).map (fun j => (storeWord s.store (8388608 + word + i)).2.extractLsb' (8 * j) 8))))))
        ∧ (∀ data, data.length = k → k ≤ 2729 → data.zipIdx.all (fun e => progCheck s (8388608 + word + e.2) e.1 == 0) = true → Answers (.userAreaProgram port ld 0 word data) s (fun u t =>
          t.store = { s.store with prog := some ⟨.host port ld, 8388608 + word, data, k⟩ } ∧ u.out = s.out ∧ t.modes = s.modes))
        ∧ (s.cxl.background = none → isProtected s.store (4096 + word / 2048) = false → s.store.failed.contains (4096 + word / 2048) = false → Answers (.userAreaEraseSector port ld 0 word) s (fun u t =>
          (∃ e, t.store.erase = some e ∧ e.sector = 4096 + word / 2048 ∧ e.pulses = 0 ∧ e.suspended = false) ∧ u.cxl.background = some ⟨port, ld, 0xC00D⟩ ∧ Sends s u (.mailbox port ld 1 []) ∧ t.modes = s.modes)))
      ∧ (∀ nonce : List Byte, nonce.length = 32 → rdb s F.FW_DEBUG_OPEN = false → s.cipher.exhausted = false → s.cipher.leafBlock = some (s.cipher.leafNext / 1024) → s.cipher.leafNext / 32768 = s.cipher.treeNow →
        ∀ r, r = attestReport s s.cipher.leafNext → Answers (.attest port ld nonce) s (fun u t => t.cipher.leafNext = s.cipher.leafNext + 1 ∧ t.modes = s.modes ∧ t.store = s.store
          ∧ Sends s u (.mailbox port ld 0 (leBytes 2 r.length ++ leBytes 2 3124 ++ r ++ identitySign s.cipher.leafNext (sha256 (nonce ++ r)))))))
    ∧ (∀ a, a ≤ 2 → serving s = true → s.modes.recovery = false → s.modes.mrReset = false → downRuns s = false → (anyStage s .live = true ∨ anyStage s .restoring = true) → Answers (.plannedSave port ld a 0) s (fun u t =>
        t.modes.mode = .save ∧ t.saveDev.cause = 9 ∧ t.saveDev.action = (if a = 0 then actionOf s 9 else a - 1) ∧ s.now + unitsPerClock ≤ t.now ∧ (⟨0x605, 0, 0, a⟩ : Ev) ∈ u.evs ∧ (.mailbox port ld 0 [] : Output) ∈ u.out))
    ∧ (s.fw.series = none → s.cxl.background = none → ∀ data : List Byte, data.length ≤ 16384 →
      (s.fw.load = none → Answers (.transferFw port ld 1 0 0 data) s (fun u t => t.fw.load = some ⟨1, data, loadSlot s, false⟩ ∧ Sends s u (.mailbox port ld 0 []) ∧ t.modes = s.modes))
      ∧ (∀ bs b, s.fw.load = some ⟨1, bs, b, false⟩ →
        Answers (.transferFw port ld 2 0 bs.length data) s (fun u t => t.fw.load = some ⟨1, bs ++ data, b, false⟩ ∧ Sends s u (.mailbox port ld 0 []) ∧ t.modes = s.modes)
        ∧ Answers (.transferFw port ld 3 (slotNo (loadSlot s)) bs.length data) s (fun u t => t.fw.load = some ⟨1, bs ++ data, b, true⟩ ∧ u.cxl.background = some ⟨port, ld, 0x0201⟩ ∧ Sends s u (.mailbox port ld 1 []) ∧ t.modes = s.modes)
        ∧ Answers (.transferFw port ld 4 0 0 []) s (fun u t => t.fw.load = none ∧ (⟨0x713, 0, 0, 2 + 16 * b2n b⟩ : Ev) ∈ u.evs ∧ Sends s u (.mailbox port ld 0 []) ∧ t.modes = s.modes)))
    ∧ (∀ b : Bool, (fwServes s = false → Answers (.activateFwOffline port ld (slotNo b)) s (fun u t => Sends s u (.mailbox port ld 6 []) ∧ Still s t))
      ∧ (fwServes s = true → fwBusy s = false → slotRefusal s b = 0 → ∃ r, Answers (.activateFwOffline port ld (slotNo b)) s (fun u t => Sends s u (.mailbox port ld (activateCode r) []) ∧ (r = 0 → ∃ q, (⟨0x714, 0, 0, q⟩ : Ev) ∈ u.evs) ∧ t.fw.series = none ∧ t.modes = s.modes ∧ SameDram s t))
      ∧ (onlineRefusal s b ≠ 0 → Answers (.activateFwOnline port ld (slotNo b)) s (fun u t => Sends s u (.mailbox port ld (activateCode (onlineRefusal s b)) []) ∧ (⟨0x717, 1, 0, onlineRefusal s b⟩ : Ev) ∈ u.evs ∧ Still s t))
      ∧ (onlineRefusal s b = 0 → seriesResumes s b = true → seriesRoles s b ≠ [] → Answers (.activateFwOnline port ld (slotNo b)) s (fun u t => t.fw.series = some ⟨b, seriesRoles s b, 1, s.now, false⟩ ∧ rd t F.FW_CTRL_BUSY = 1
        ∧ Sends s u (.mailbox port ld 0 []) ∧ t.modes = s.modes ∧ SameDram s t)))

/-- Of a role whose core runs: GCM encryption, decryption and GMAC with a loaded key the role may use and chunks in range join the engine's callers, a
decryption quarantining its region; a call that fails its checks ends with its error and changes no cipher state; key wrap and unwrap answer RFC 3394
under the key named; a key of 32 bytes that the house role unwraps into a working key goes only there, what names no working key goes to the caller
(log entry 157). A unit serves the caller whose turn it is: the call goes on, or ends with tag, or for a decryption whose tags differ with error 4 and
event 0x70A, at once or, for a region in backstage, once its zero writes are done. CONTEXT_SAVE of the slot's owner raises the save count by 1;
CONTEXT_RESTORE takes a context only where slot, save count and boot nonce match, else event 0x709. Of a core that does not run nothing happens. -/
def Obligations.HouseEngineCalls : Prop :=
  ∀ s : State,
    (∀ role slot key iv aad text tag region,
      (roleRuns s role = false → ∀ c ∈ ([.houseGcmEncrypt role slot key iv aad text, .houseGcmDecrypt role slot key iv aad text tag region, .houseGmac role slot key iv aad, .keyWrap role key iv, .keyUnwrap role key slot iv,
        .contextSave role slot true, .contextRestore role slot true iv] : List Instr), exec c s = .next (finish s))
      ∧ (roleRuns s role = true → ∀ e ∈ ([(.houseGcmEncrypt role slot key iv aad text, .gcmEncrypt, text, [], 0, []),
          (.houseGcmDecrypt role slot key iv aad text tag region, .gcmDecrypt, text, tag, region, [⟨role, region, (text.map List.length).sum, none⟩]),
          (.houseGmac role slot key iv aad, .gmac, [], [], 0, [])] : List (Instr × CallKind × List (List Byte) × List Byte × Nat × List Quarantine)),
        ((keyAt s key).isSome = true → (e.2.1 = .gcmDecrypt → regionOk s role region (text.map List.length).sum = true) → callCheck role slot key aad e.2.2.1 = 0 → Answers e.1 s (fun u t =>
          t.cipher.calls = s.cipher.calls ++ [⟨role, slot, ⟨e.2.1, key, iv, 2, 0#128, 0, 0, false, [], []⟩, aad.flatten, e.2.2.1.flatten, e.2.2.2.1, e.2.2.2.2.1, []⟩]
          ∧ t.cipher.quarantine = s.cipher.quarantine ++ e.2.2.2.2.2 ∧ t.cipher.keys = s.cipher.keys ∧ u.out = s.out ∧ u.evs = s.evs ∧ t.modes = s.modes ∧ SameDram s t))
        ∧ ((keyAt s key).isSome = true → (e.2.1 = .gcmDecrypt → regionOk s role region (text.map List.length).sum = true) → callCheck role slot key aad e.2.2.1 ≠ 0 → Answers e.1 s (fun u t => t.cipher = s.cipher ∧ Sends s u (.coreData (callCheck role slot key aad e.2.2.1) [])
          ∧ Logs s u (⟨0x708, 1, 0, callCheck role slot key aad e.2.2.1 + 16 * (slot % 64)⟩) ∧ Still s t))
        ∧ ((keyAt s key = none ∨ (e.2.1 = .gcmDecrypt ∧ regionOk s role region (text.map List.length).sum = false)) → Answers e.1 s (fun u t => t.cipher = s.cipher ∧ Sends s u (.coreData 5 []) ∧ (⟨0x708, 1, 0, 5 + 16 * (slot % 64)⟩ : Ev) ∈ u.evs ∧ Still s t))))
    ∧ (∀ role kek data, roleRuns s role = true → (keyAt s kek = none ∨ keyAllowed role kek = false) → Answers (.keyWrap role kek data) s (fun u t => Sends s u (.coreData 5 []) ∧ Logs s u (⟨0x708, 1, 0, 5⟩) ∧ Still s t))
    ∧ (∀ role kek dest data, roleRuns s role = true → (keyAt s kek = none ∨ keyAllowed role kek = false) → Answers (.keyUnwrap role kek dest data) s (fun u t => Sends s u (.coreData 5 []) ∧ Logs s u (⟨0x708, 1, 0, 5⟩) ∧ Still s t))
    ∧ (∀ role kek k, roleRuns s role = true → keyAt s kek = some k → keyAllowed role kek = true →
      (∀ data : List Byte, (16 ≤ data.length → data.length % 8 = 0 → Answers (.keyWrap role kek data) s (fun u t => Sends s u (.coreData 0 (Sys2Proof.Machine.keyWrap (keyBytes k) data)) ∧ Still s t))
        ∧ ((data.length < 16 ∨ data.length % 8 ≠ 0) → Answers (.keyWrap role kek data) s (fun u t => Sends s u (.coreData 1 []) ∧ Still s t)))
      ∧ (∀ dest data, Answers (.keyUnwrap role kek dest data) s (fun u t =>
          match (if 24 ≤ data.length ∧ data.length % 8 = 0 then Sys2Proof.Machine.keyUnwrap (keyBytes k) data else none) with
          | none => Sends s u (.coreData 7 []) ∧ Logs s u (⟨0x708, 1, 0, 7⟩) ∧ Still s t
          | some bs => if dest < 5 ∨ 15 < dest then Sends s u (.coreData 0 bs) ∧ Still s t
            else if role ≠ 0 then Sends s u (.coreData 5 []) ∧ Logs s u (⟨0x708, 1, 0, 5⟩) ∧ Still s t
            else if bs.length = 32 then keyAt t dest = some (bytesKey bs) ∧ (∀ h, h ≠ dest → keyAt t h = keyAt s h)
              ∧ t.cipher.calls = s.cipher.calls ∧ Sends s u (.coreData 0 []) ∧ t.modes = s.modes ∧ t.store = s.store
            else Sends s u (.coreData 0 bs) ∧ Still s t)))
    ∧ (domainOn s 43 = true → s.modes.mrReset = false → (nextCall s.cipher = none → exec .houseEngineUnit s = .next (finish s))
      ∧ (∀ c, nextCall s.cipher = some c → keyAt s c.ctx.key = none → Answers .houseEngineUnit s (fun u t => t.cipher.calls = s.cipher.calls.filter (fun x => decide (x.slot ≠ c.slot)) ∧ Sends s u (.coreData 5 []) ∧ t.modes = s.modes))
      ∧ (∀ c k, nextCall s.cipher = some c → keyAt s c.ctx.key = some k → ∀ c', c' = callStep (keyBytes k) c →
        ((c'.aad ≠ [] ∨ c'.text ≠ []) → Answers .houseEngineUnit s (fun u t => t.cipher.calls = s.cipher.calls.filter (fun x => decide (x.slot ≠ c.slot)) ++ [c'] ∧ (ctxSlot t c.slot).ctx = some c'.ctx ∧ u.out = s.out ∧ t.modes = s.modes))
        ∧ (c'.aad = [] → c'.text = [] → Answers .houseEngineUnit s (fun u t => t.cipher.calls = s.cipher.calls.filter (fun x => decide (x.slot ≠ c.slot)) ∧ (ctxSlot t c.slot).ctx = none ∧ t.modes = s.modes
          ∧ (c.ctx.kind = .gmac → Sends s u (.coreData 0 (callTag (keyBytes k) c'))) ∧ (c.ctx.kind = .gcmEncrypt → Sends s u (.coreData 0 (c'.out ++ callTag (keyBytes k) c')))
          ∧ (c.ctx.kind = .gcmDecrypt → callTag (keyBytes k) c' = c.tag → (∀ q ∈ t.cipher.quarantine, (q.core == c.core && q.base == c.region) = false) ∧ Sends s u (.coreData 0 []))
          ∧ (c.ctx.kind = .gcmDecrypt → callTag (keyBytes k) c' ≠ c.tag → ((.coreData 4 [] : Output) ∈ u.out ∧ (⟨0x70A, 1, 0, c.slot⟩ : Ev) ∈ u.evs)
            ∨ (backstageAt ≤ c.region ∧ ∃ q ∈ t.cipher.quarantine, q.core = c.core ∧ q.base = c.region ∧ q.ending = some c.slot))))))
    ∧ (∀ role slot nonce, roleRuns s role = true → slotOwner slot = some role → s.cipher.bootNonce = some nonce →
      (∀ c n, (ctxSlot s slot).ctx = some c → n = ((ctxSlot s slot).saveCount + 1) % 2 ^ 32 →
        Answers (.contextSave role slot true) s (fun u t => ctxSlot t slot = ⟨n, some c⟩ ∧ t.cipher.keys = s.cipher.keys
          ∧ Sends s u (.coreData 0 (Sys2Proof.Machine.keyWrap (keyBytes wrappingKey) (ctxBytes slot n nonce.toNat c))) ∧ t.modes = s.modes)
        ∧ Answers (.contextSave role slot false) s (fun u t => if role = 0 then ctxSlot t slot = ⟨n, some c⟩ ∧ Sends s u (.coreData 0 (ctxBytes slot n nonce.toNat c)) ∧ t.modes = s.modes
          else Sends s u (.coreData 5 []) ∧ Still s t))
      ∧ ((ctxSlot s slot).ctx = none → Answers (.contextSave role slot true) s (fun u t => Sends s u (.coreData 6 []) ∧ Still s t))
      ∧ (∀ (wrapped : Bool) bs b, (if wrapped then Sys2Proof.Machine.keyUnwrap (keyBytes wrappingKey) bs else some bs) = some b →
        (∀ c, parseCtx b = some c → leNat (slice b 1 1) = slot → leNat (slice b 4 4) = (ctxSlot s slot).saveCount → leNat (slice b 52 4) = nonce.toNat → b.length = 64 →
          Answers (.contextRestore role slot wrapped bs) s (fun u t => ctxSlot t slot = ⟨(ctxSlot s slot).saveCount, some c⟩ ∧ Sends s u (.coreData 0 []) ∧ u.evs = s.evs ∧ t.modes = s.modes
            ∧ (wrapped = false → t.cipher.calls = s.cipher.calls)))
        ∧ ((leNat (slice b 1 1) ≠ slot ∨ leNat (slice b 4 4) ≠ (ctxSlot s slot).saveCount ∨ leNat (slice b 52 4) ≠ nonce.toNat) →
          Answers (.contextRestore role slot wrapped bs) s (fun u t => Sends s u (.coreData 6 []) ∧ Logs s u (⟨0x709, 1, 0, slot⟩) ∧ Still s t)))
      ∧ (∀ bs, Sys2Proof.Machine.keyUnwrap (keyBytes wrappingKey) bs = none →
          Answers (.contextRestore role slot true bs) s (fun u t => Sends s u (.coreData 6 []) ∧ Logs s u (⟨0x709, 1, 0, slot⟩) ∧ Still s t)))

/-- Of a role whose core runs: SHA256_CALL with a context slot of the role answers SHA-256 of the message, which may come in chunks of whole 64-byte
blocks before the last, the context carried in the slot, or HMAC-SHA-256 under a loaded key the role may use; a slot of another core ends it with
error 5. SIGNATURE_VERIFY by the house core answers 0 for a signature that verifies under the signer's fused key hash, else 1 with event 0x70F.
RANDOM_REQUEST answers as many bytes as asked, a reseed being counted after every 1,024 requests, or refuses after a failed health test.
ENTROPY_HEALTH_FAIL while the generator is powered makes it refuse from then on, counts HEALTH_FAILS and logs 0x707. NEXT_TREE_GENERATION with 4,096
leaves or fewer left, a tree still to come and none ready makes the next ready and logs 0x70D; it is written to the script store. Which bytes are
drawn is free (log entry 3). -/
def Obligations.HashesSignaturesRandom : Prop :=
  ∀ s : State,
    (∀ role slot msg, roleRuns s role = true →
      (slotOwner slot ≠ some role → ∀ key last, Answers (.sha256Call role ⟨key, slot, last⟩ msg) s (fun u t => Sends s u (.coreData 5 []) ∧ Logs s u (⟨0x708, 1, 0, 5 + 16 * (slot % 64)⟩) ∧ Still s t))
      ∧ (slotOwner slot = some role → (ctxSlot s slot).ctx = none → Answers (.sha256Call role ⟨none, slot, true⟩ msg) s (fun u t => Sends s u (.coreData 0 (sha256 msg)) ∧ (ctxSlot t slot).ctx = none
        ∧ t.cipher.keys = s.cipher.keys ∧ t.cipher.calls = s.cipher.calls ∧ t.modes = s.modes ∧ t.store = s.store))
      ∧ (∀ c, slotOwner slot = some role → (ctxSlot s slot).ctx = some c → c.kind = .sha256 → Answers (.sha256Call role ⟨none, slot, true⟩ msg) s (fun u t => Sends s u (.coreData 0 (shaFinish c msg))
        ∧ (ctxSlot t slot).ctx = none ∧ t.cipher.keys = s.cipher.keys ∧ t.cipher.calls = s.cipher.calls ∧ t.modes = s.modes ∧ t.store = s.store))
      ∧ (∀ c, slotOwner slot = some role → c = ((ctxSlot s slot).ctx.filter (fun c => c.kind == .sha256)).getD shaInit →
        (msg.length % 64 = 0 → Answers (.sha256Call role ⟨none, slot, false⟩ msg) s (fun u t => Sends s u (.coreData 0 []) ∧ (ctxSlot t slot).ctx = some (shaMore c msg)
          ∧ (ctxSlot t slot).saveCount = (ctxSlot s slot).saveCount ∧ t.cipher.keys = s.cipher.keys ∧ t.modes = s.modes ∧ t.store = s.store))
        ∧ (msg.length % 64 ≠ 0 → Answers (.sha256Call role ⟨none, slot, false⟩ msg) s (fun u t => Sends s u (.coreData 3 []) ∧ Logs s u (⟨0x708, 1, 0, 3 + 16 * (slot % 64)⟩) ∧ Still s t)))
      ∧ (∀ h last, slotOwner slot = some role →
        (∀ k, keyAt s h = some k → keyAllowed role h = true → Answers (.sha256Call role ⟨some h, slot, last⟩ msg) s (fun u t => Sends s u (.coreData 0 (hmacSha256 (keyBytes k) msg)) ∧ Still s t))
        ∧ ((keyAt s h = none ∨ keyAllowed role h = false) → Answers (.sha256Call role ⟨some h, slot, last⟩ msg) s (fun u t => Sends s u (.coreData 5 []) ∧ Logs s u (⟨0x708, 1, 0, 5⟩) ∧ Still s t))))
    ∧ (∀ signer pub sig msg r, signer ≤ 2 → roleRuns s 0 = true → r = hssVerify (if signer = 1 then s.fw.makerHash.getD [] else Config.pyruaKeyHash) pub sig msg →
      Answers (.signatureVerify signer pub sig msg) s (fun u t => Sends s u (.coreData (if r = .ok then 0 else 1) []) ∧ u.evs = s.evs ++ (if r = .ok then [] else [⟨0x70F, 2, 0, sigArg signer r⟩]) ∧ Still s t))
    ∧ (∀ role count, roleRuns s role = true →
      (s.cipher.drbgFailed = true → Answers (.randomRequest role count) s (fun u t => Sends s u (.coreData 1 []) ∧ Still s t))
      ∧ (s.cipher.drbgFailed = false → ∃ bs : List Byte, bs.length = count ∧ Answers (.randomRequest role count) s (fun u t => Sends s u (.coreData 0 bs)
        ∧ t.cipher = { s.cipher with drbgReqs := if s.cipher.drbgReqs + 1 ≥ 1024 then 0 else s.cipher.drbgReqs + 1 }
        ∧ rd t F.CIPH_TRNG_RESEEDS = (if s.cipher.drbgReqs + 1 ≥ 1024 then (rd s F.CIPH_TRNG_RESEEDS + 1) % 2 ^ F.CIPH_TRNG_RESEEDS.width else rd s F.CIPH_TRNG_RESEEDS) ∧ t.modes = s.modes ∧ t.store = s.store)))
    ∧ (∀ adaptive, domainOn s 50 = true → Answers (.entropyHealthFail adaptive) s (fun u t => t.cipher = { s.cipher with drbgFailed := true }
      ∧ rd t F.CIPH_TRNG_HEALTH_FAILS = min (rd s F.CIPH_TRNG_HEALTH_FAILS + 1) (2 ^ F.CIPH_TRNG_HEALTH_FAILS.width - 1) ∧ Logs s u (⟨0x707, 2, 0, b2n adaptive⟩) ∧ t.modes = s.modes ∧ t.store = s.store))
    ∧ (mainOn s = true → s.modes.booting = false → s.modes.mrReset = false → s.cipher.treeReady = false → s.cipher.treeNow < 1023 →
      (32768 * (s.cipher.treeNow + 1) - s.cipher.leafNext ≤ 4096 → Answers .nextTreeGeneration s (fun u t => t.cipher = { s.cipher with treeReady := true } ∧ t.store = (slotWrite s 0x0B slotsTree.1 slotsTree.2 (bytesWords (treeBytes (s.cipher.treeNow + 1)))).2.store ∧ (⟨0x70D, 0, 0, s.cipher.treeNow + 1⟩ : Ev) ∈ u.evs ∧ t.modes = s.modes))
      ∧ (4096 < 32768 * (s.cipher.treeNow + 1) - s.cipher.leafNext → exec .nextTreeGeneration s = .next (finish s)))

/-- Calls of the ROM or the running house core with the die free: READ answers its words with their outcomes and a running erase of another sector is
suspended; PROGRAM whose words pass begins its lines, PROGRAM_LINE_DONE programs at most a 64-word line, the last one answering; ERASE of a sector it
may erase starts with no pulse; an area the caller may not use gives 4, a program or an erase with event 0xB09, a reserved one 3, a read of the sector
under erase 6. ERASE_PULSE takes 1 ms: a verified one ends the erase, the 600th failure marks the sector failed with event 0xB07. ERASE_RESUME begins
a new pulse where no read or program waits. STATUS answers a sector's record. PROTECT sets or clears its group only with the password; a refusal
counts and logs 0xB0A, and after four nothing more is accepted. Results are numbered as R552. -/
def Obligations.ScriptStoreRoutines : Prop :=
  ∀ s : State, storePowered s = true →
    (∀ who : StoreCaller, (who = .rom ∨ (who = .house ∧ roleRuns s 0 = true)) → s.store.prog = none → s.store.calls = [] →
      (∀ (addr n : Nat) (decay : List (Nat × Nat)), n ≤ 2048 → 0 < n →
        (s.store.erase = none → storeAccess addr n (fun a => mayRead a who) = 0 → Answers (.storeRead who addr n decay) s (fun u t => t.store = (storeDecay s decay).store ∧ t.modes = s.modes
          ∧ Sends s u (.storeData 0 ((List.range n).map (fun i => ((storeWord t.store (addr + i)).2, (storeWord t.store (addr + i)).1))))))
        ∧ (storeAccess addr n (fun a => mayRead a who) = 4 → Answers (.storeRead who addr n decay) s (fun u t => t.store = (storeDecay s decay).store ∧ Sends s u (.storeData 4 []) ∧ u.evs = s.evs ∧ t.modes = s.modes))
        ∧ (storeAccess addr n (fun a => mayRead a who) = 3 → Answers (.storeRead who addr n decay) s (fun u t => t.store = (storeDecay s decay).store ∧ Sends s u (.storeData 3 []) ∧ u.evs = s.evs ∧ t.modes = s.modes))
        ∧ (∀ e : EraseOp, s.store.erase = some e → storeAccess addr n (fun a => mayRead a who) = 0 → (List.range n).any (fun i => e.sector == sectorOf (addr + i)) = true → Answers (.storeRead who addr n decay) s (fun u t => Sends s u (.storeData 6 []) ∧ t.store.nor = (storeDecay s decay).store.nor ∧ t.modes = s.modes))
        ∧ (∀ e : EraseOp, s.store.erase = some e → e.suspended = false → storeAccess addr n (fun a => mayRead a who) = 0 → (List.range n).any (fun i => e.sector == sectorOf (addr + i)) = false → Answers (.storeRead who addr n decay) s (fun u t =>
          (∃ e', t.store.erase = some e' ∧ e'.suspended = true ∧ e'.sector = e.sector ∧ e'.pulses = e.pulses ∧ e'.used = e.used + (s.now - e.pulseStart))
          ∧ rd t F.STORE_ERASE_STATUS_SUSPENDS = min (rd s F.STORE_ERASE_STATUS_SUSPENDS + 1) (2 ^ F.STORE_ERASE_STATUS_SUSPENDS.width - 1) ∧ (∃ ws, Sends s u (.storeData 0 ws)) ∧ t.modes = s.modes)))
      ∧ (∀ (addr : Nat) (ws : List Word), ws.length ≤ 2729 → ws ≠ [] → s.store.erase = none → storeAccess addr ws.length (fun a => mayWrite a who) = 0 →
        (ws.zipIdx.all (fun e => progCheck s (addr + e.2) e.1 == 0) = true → Answers (.storeProgram who addr ws) s (fun u t => t.store = { s.store with prog := some ⟨who, addr, ws, ws.length⟩ } ∧ u.out = s.out ∧ t.modes = s.modes))
        ∧ (ws.zipIdx.all (fun e => progCheck s (addr + e.2) e.1 == 0) = false → Answers (.storeProgram who addr ws) s (fun u t => t.store = s.store ∧ (∃ r, r ≠ 0 ∧ Sends s u (.storeData r [])) ∧ t.modes = s.modes)))
      ∧ (∀ (addr : Nat) (ws : List Word), ws.length ≤ 2729 → ws ≠ [] → storeAccess addr ws.length (fun a => mayWrite a who) = 4 → Answers (.storeProgram who addr ws) s (fun u t => t.store = s.store ∧ Sends s u (.storeData 4 []) ∧ Logs s u (⟨0xB09, 1, 0, sectorOf addr⟩) ∧ t.modes = s.modes))
      ∧ (∀ (addr : Nat) (ws : List Word) (e : EraseOp), ws.length ≤ 2729 → ws ≠ [] → s.store.erase = some e → storeAccess addr ws.length (fun a => mayWrite a who) = 0 → ws.zipIdx.all (fun e => progCheck s (addr + e.2) e.1 == 0) = true → Answers (.storeProgram who addr ws) s (fun u t =>
        t.store.prog = some ⟨who, addr, ws, ws.length⟩ ∧ (∃ e', t.store.erase = some e' ∧ e'.suspended = true ∧ e'.sector = e.sector ∧ e'.pulses = e.pulses) ∧ t.store.nor = s.store.nor ∧ u.out = s.out ∧ t.modes = s.modes))
      ∧ (∀ sec : Nat, s.store.erase = none →
        (areaOf sec = none → Answers (.storeErase who sec) s (fun u t => Sends s u (.storeData 3 []) ∧ Still s t))
        ∧ (∀ a : StoreArea, areaOf sec = some a → (mayWrite a who = false ∨ noErase sec = true ∨ isProtected s.store sec = true) → Answers (.storeErase who sec) s (fun u t => Sends s u (.storeData 4 []) ∧ Logs s u (⟨0xB09, 1, 0, sec⟩) ∧ Still s t))
        ∧ (∀ a : StoreArea, areaOf sec = some a → mayWrite a who = true → noErase sec = false → isProtected s.store sec = false → s.store.failed.contains sec = true → Answers (.storeErase who sec) s (fun u t => Sends s u (.storeData 2 []) ∧ Still s t))
        ∧ (∀ a : StoreArea, areaOf sec = some a → mayWrite a who = true → noErase sec = false → isProtected s.store sec = false → s.store.failed.contains sec = false → Answers (.storeErase who sec) s (fun u t =>
          (∃ e, t.store.erase = some e ∧ e.who = who ∧ e.sector = sec ∧ e.count = eraseCountOf s.store sec + 1 ∧ e.pulses = 0 ∧ e.suspended = false) ∧ rd t F.STORE_ERASE_STATUS_PULSES = 0 ∧ u.out = s.out ∧ t.modes = s.modes))))
    ∧ (∀ p : ProgOp, s.store.prog = some p → s.store.calls = [] → (p.who = .rom ∨ p.who = .house) → ∀ k : Nat, k = min p.words.length (64 - p.addr % 64) → Answers .programLineDone s (fun u t =>
        t.store.nor = (progWords (unship s.store (sectorOf p.addr)) p.addr (p.words.take k)).nor ∧ t.modes = s.modes
        ∧ (k = p.words.length → t.store.prog = none ∧ Sends s u (.storeData 0 [])) ∧ (k < p.words.length → t.store.prog = some { p with addr := p.addr + k, words := p.words.drop k } ∧ u.out = s.out)))
    ∧ (∀ e : EraseOp, s.store.erase = some e →
      (e.suspended = false → s.store.prog = none → s.store.calls = [] → (e.who = .rom ∨ e.who = .house) →
        (e.pulses + 1 < 600 → Answers (.erasePulse false) s (fun u t => t.now = max s.now (e.pulseStart + 1000 * unitsPerUs) ∧ u.out = s.out ∧ rd t F.STORE_ERASE_STATUS_PULSES = (e.pulses + 1) % 2 ^ F.STORE_ERASE_STATUS_PULSES.width
          ∧ (∃ e', t.store.erase = some e' ∧ e'.pulses = e.pulses + 1 ∧ e'.pulseStart = t.now ∧ e'.sector = e.sector ∧ e'.used = e.used + 1000 * unitsPerUs) ∧ t.store.nor = s.store.nor ∧ t.modes = s.modes))
        ∧ (600 ≤ e.pulses + 1 → Answers (.erasePulse false) s (fun u t => t.store.erase = none ∧ t.store.failed.contains e.sector = true ∧ (⟨0xB07, 2, 0, e.sector + 2 ^ 13 * satN 19 e.count⟩ : Ev) ∈ u.evs ∧ Sends s u (.storeData 2 []) ∧ t.modes = s.modes))
        ∧ Answers (.erasePulse true) s (fun u t => t.now = max s.now (e.pulseStart + 1000 * unitsPerUs) ∧ t.store.erase = none ∧ t.store.prot = s.store.prot ∧ Sends s u (.storeData 0 []) ∧ t.modes = s.modes))
      ∧ (e.suspended = true → s.store.prog = none → s.store.calls = [] → Answers .eraseResume s (fun u t => t.store = { s.store with erase := some { e with suspended := false, pulseStart := s.now } } ∧ u.out = s.out ∧ t.modes = s.modes))
      ∧ (e.suspended = false → exec .eraseResume s = .next (finish s)))
    ∧ (∀ (who : StoreCaller) (sec : Nat), (who = .rom ∨ (who = .house ∧ roleRuns s 0 = true)) → (areaOf sec = none → Answers (.storeStatus who sec) s (fun u t => Sends s u (.storeData 3 []) ∧ Still s t))
      ∧ (∀ a : StoreArea, areaOf sec = some a → mayRead a who = true → Answers (.storeStatus who sec) s (fun u t => Sends s u (.storeData 0 [(BitVec.ofNat 48 (sectorStatus s.store sec), 0)]) ∧ Still s t)))
    ∧ (roleRuns s 0 = true → ∀ (g : Nat) (on : Bool), g < 128 →
      (s.store.refusals < 4 → Answers (.storeProtect g on true) s (fun u t => t.store = { s.store with prot := if on then s.store.prot ||| 1#128 <<< g else s.store.prot &&& ~~~(1#128 <<< g) } ∧ Sends s u (.storeData 0 []) ∧ t.now = s.now ∧ t.modes = s.modes)
        ∧ Answers (.storeProtect g on false) s (fun u t => t.store = { s.store with refusals := s.store.refusals + 1 } ∧ Sends s u (.storeData 7 []) ∧ Logs s u (⟨0xB0A, 2, 0, s.store.refusals + 1⟩) ∧ t.now = s.now + 100 * unitsPerUs ∧ t.modes = s.modes))
      ∧ (∀ ok : Bool, 4 ≤ s.store.refusals → Answers (.storeProtect g on ok) s (fun u t => t.store = s.store ∧ Sends s u (.storeData 7 []) ∧ (⟨0xB0A, 2, 0, s.store.refusals⟩ : Ev) ∈ u.evs ∧ t.modes = s.modes)))

/-- Link on, not the stage manager, a new unicast frame for this node: POLL is answered by STATUS with the node's state; CUE_SAVE is the gate instant of
cause 0x0B with ACK 0 in Service and Restore, ACK 2 with event 0x00B elsewhere and under core reset or POWER_DOWN, ACK 3 for a reserved action; WAKE
outside Dark ACK 2; GRANT starts the pending rehearsal with ACK 0, or ends it with ACK 3; ORDER_START starts one that is ready; REVOKE ends one; all
three ACK 2 in Save and Hold; READ_REG answers the value read, ACK 3 for an index not served; a reserved type ACK 3. A duplicate only repeats its
response and is counted. TIME leaves offset and TIME_VALID and is not answered. A frame for another node is not answered. In Dark WAKE is the power-up
request of cause 3. LINK_FRAME_DROPPED counts CRC_ERRORS. -/
def Obligations.LinkFollower : Prop :=
  ∀ (s : State) (h : LinkHdr),
    (linkOn s = true → h.src ≠ ownNode s → rdb s F.LINK_CFG_LEAD = false →
      ∀ ans : Nat → List Byte → Output, (∀ r p, ans r p = .linkFrame (frameBytes h.src false (ownNode s) false r h.id (h.epoch + 16) p)) →
      (h.bcast = false → h.dest = ownNode s → s.link.memory.find? (fun m => m.1 == h.id && m.2.1 == h.epoch) = none →
        Answers (.poll h) s (fun u t => Sends s u (ans 2 (statusPayload s)) ∧ t.modes = s.modes ∧ t.ledger = s.ledger ∧ SameDram s t)
        ∧ (∀ a, a ≤ 2 →
          (serving s = true → s.modes.recovery = false → s.modes.mrReset = false → downRuns s = false → Answers (.cueSave h a) s (fun u t => t.modes.mode = .save ∧ t.saveDev.cause = 0x0B
            ∧ t.saveDev.action = (if a = 0 then actionOf s 0x0B else a - 1) ∧ ans 3 [0#8] ∈ u.out))
          ∧ ((serving s = false ∨ s.modes.mrReset = true ∨ downRuns s = true) → Answers (.cueSave h a) s (fun u t => Sends s u (ans 3 [2#8]) ∧ (⟨0x00B, 0, 0, modeCode s.modes.mode + 88⟩ : Ev) ∈ u.evs ∧ t.modes = s.modes ∧ t.saveDev = s.saveDev)))
        ∧ (∀ a, 2 < a → Answers (.cueSave h a) s (fun u t => Sends s u (ans 3 [3#8]) ∧ t.modes = s.modes ∧ t.saveDev = s.saveDev))
        ∧ Answers (.wake h) s (fun u t => Sends s u (ans 3 [2#8]) ∧ t.modes = s.modes ∧ t.power = s.power)
        ∧ (grantServed s = true →
          (rd s F.GAUGE_REH_STATE = 1 → rehReady s = true → Answers (.grant h) s (fun u t => (rd t F.GAUGE_REH_STATE = 2 ∨ rd t F.GAUGE_REH_STATE = 3) ∧ ans 3 [0#8] ∈ u.out ∧ t.modes = s.modes))
          ∧ (rd s F.GAUGE_REH_STATE = 1 → rehReady s = false → Answers (.grant h) s (fun u t => rd t F.GAUGE_REH_STATE = 0 ∧ rd t F.LINK_STATUS_GRANT_PENDING = 0 ∧ Sends s u (ans 3 [3#8]) ∧ t.modes = s.modes))
          ∧ (rd s F.GAUGE_REH_STATE ≠ 1 → Answers (.grant h) s (fun u t => rd t F.GAUGE_REH_STATE = rd s F.GAUGE_REH_STATE ∧ Sends s u (ans 3 [3#8]) ∧ t.modes = s.modes))
          ∧ (rd s F.GAUGE_REH_STATE ≤ 1 → rehReady s = true → Answers (.orderStart h) s (fun u t => (rd t F.GAUGE_REH_STATE = 2 ∨ rd t F.GAUGE_REH_STATE = 3) ∧ ans 3 [0#8] ∈ u.out ∧ t.modes = s.modes))
          ∧ ((rehReady s = false ∨ 1 < rd s F.GAUGE_REH_STATE) → Answers (.orderStart h) s (fun u t => rd t F.GAUGE_REH_STATE = rd s F.GAUGE_REH_STATE ∧ Sends s u (ans 3 [3#8]) ∧ t.modes = s.modes))
          ∧ Answers (.revoke h) s (fun u t => rd t F.GAUGE_REH_STATE = 0 ∧ ans 3 [0#8] ∈ u.out ∧ t.modes = s.modes))
        ∧ (grantServed s = false → ∀ c ∈ ([.grant h, .orderStart h, .revoke h] : List Instr), Answers c s (fun u t => rd t F.GAUGE_REH_STATE = rd s F.GAUGE_REH_STATE ∧ Sends s u (ans 3 [2#8]) ∧ t.modes = s.modes))
        ∧ (∀ i, (regExists i = false ∨ isI3c i = true ∨ notServed s i = true) → Answers (.readReg h i) s (fun u t => Sends s u (ans 3 [3#8]) ∧ t.modes = s.modes ∧ SameDram s t))
        ∧ (∀ i, regExists i = true → isI3c i = false → notServed s i = false → Answers (.readReg h i) s (fun u t => ans 3 (0#8 :: wordBytes (sideRead (linkHear s h.src) i).1) ∈ u.out ∧ t.modes = s.modes ∧ SameDram s t))
        ∧ (∀ ty, [0x01, 0x02, 0x03, 0x10, 0x11, 0x12, 0x13, 0x14].contains ty = false → Answers (.reservedMessage h ty) s (fun u t => Sends s u (ans 3 [3#8]) ∧ t.modes = s.modes ∧ SameDram s t)))
      ∧ (∀ m, h.bcast = false → h.dest = ownNode s → s.link.memory.find? (fun m => m.1 == h.id && m.2.1 == h.epoch) = some m → m.2.2 ≠ [] →
        ∀ c ∈ ([.poll h, .cueSave h 0, .wake h, .grant h, .orderStart h, .revoke h, .readReg h 0, .reservedMessage h 4] : List Instr), Answers c s (fun u t => Sends s u (ans (replyAgain m.2.2).1 (replyAgain m.2.2).2)
          ∧ rd t F.LINK_COUNT_DUPLICATES = min (rd s F.LINK_COUNT_DUPLICATES + 1) (2 ^ 16 - 1) ∧ rd t F.GAUGE_REH_STATE = rd s F.GAUGE_REH_STATE ∧ t.modes = s.modes))
      ∧ (∀ tick restart, (h.bcast = true ∨ h.dest = ownNode s) → (restart = true ∨ s.link.memory.find? (fun m => m.1 == h.id && m.2.1 == h.epoch) = none) → Answers (.time h tick restart) s (fun u t =>
          rd t F.LINK_TIME_OFFSET = twos 48 ((tick % 2 ^ 40 : Nat) - (tick40 s : Nat) : Int) ∧ rd t F.LINK_STATUS_TIME_VALID = 1 ∧ u.out = s.out ∧ t.now = s.now ∧ t.modes = s.modes))
      ∧ (h.bcast = false → h.dest ≠ ownNode s → ∀ c ∈ ([.poll h, .cueSave h 0, .wake h, .grant h, .orderStart h, .revoke h, .readReg h 0, .reservedMessage h 4, .time h 0 true] : List Instr), Answers c s (fun u t =>
          u.out = s.out ∧ t.modes = s.modes ∧ t.saveDev = s.saveDev ∧ rd t F.GAUGE_REH_STATE = rd s F.GAUGE_REH_STATE)))
    ∧ (s.modes.mode = .dark → rdb s F.LINK_CFG_ENABLE = true → (h.bcast = true ∨ h.dest = ownNode s) → rdb s F.PWR_VIN_STATUS_SUPPLY_GOOD = true → s.modes.powerUp = none → s.power.run = none →
        Answers (.wake h) s (fun _ t => t.modes.powerUp = some ⟨3, 0, none⟩ ∧ t.power.run.elim false (fun r => r.prog == 0) = true))
    ∧ (linkOn s = true → Answers .linkFrameDropped s (fun u t => rd t F.LINK_COUNT_CRC_ERRORS = min (rd s F.LINK_COUNT_CRC_ERRORS + 1) (2 ^ 16 - 1) ∧ u.out = s.out ∧ Still s t))

/-- STATUS and ACK of a command's ID and epoch complete it: LINK_CMD shows the outcome of one that software sent, a STATUS is kept for its node; another
epoch is only counted with event 0x811. LINK_TIMEOUT of an open unicast command sends it again while RETRIES lasts, then logs 0x812 and shows the
failure. POLL_WINDOW sends POLL to the node whose turn it is, TIME_WINDOW a TIME broadcast with the present tick, GRANT_LIMIT OP 3 to the grant's node
or ends the manager's own rehearsal with event 0x816; without leadership none sends. LEAD_LOST of a follower sets LEAD_LOST, clears TIME_VALID and
logs 0x813. LINK_CMD_GO sends its word's command and sets BUSY, or while busy or not leading leaves RESULT 3 and sends nothing. -/
def Obligations.LinkStageManager : Prop :=
  ∀ s : State,
    (∀ src id epoch x, linkOn s = true → rdb s F.LINK_CFG_LEAD = true → s.link.tx.find? (fun y => y.id == id) = some x →
      (x.epoch = epoch →
        (∀ awaiting active shelf, Answers (.status src id epoch awaiting active shelf) s (fun _ t => mget linkNodeInit t.link.nodes src = ⟨0, awaiting, active, shelf % 64⟩ ∧ t.modes = s.modes
          ∧ (x.software = true → rd t F.LINK_CMD_BUSY = 0 ∧ rd t F.LINK_CMD_RESULT = 0 ∧ rd t F.LINK_CMD_ACK = 0)))
        ∧ (∀ result, Answers (.ack src id epoch result) s (fun _ t => t.modes = s.modes ∧ t.link.nodes = s.link.nodes
          ∧ (x.software = true → rd t F.LINK_CMD_BUSY = 0 ∧ rd t F.LINK_CMD_RESULT = 0 ∧ rd t F.LINK_CMD_ACK = result % 256))))
      ∧ (x.epoch ≠ epoch → ∀ c : Instr, (c = .ack src id epoch 0 ∨ c = .status src id epoch false false 0) → Answers c s (fun u t => t.link = s.link ∧ u.out = s.out
          ∧ rd t F.LINK_COUNT_STALE_ACKS = min (rd s F.LINK_COUNT_STALE_ACKS + 1) (2 ^ 16 - 1) ∧ (⟨0x811, 1, 0, id % 256 + 256 * (epoch % 16) + 4096 * (src % 512)⟩ : Ev) ∈ u.evs ∧ t.modes = s.modes)))
    ∧ (∀ id, s.link.tx.find? (fun y => y.id == id) = none → exec (.linkTimeout id) s = .next (finish s))
    ∧ (∀ id x, linkOn s = true → s.link.tx.find? (fun y => y.id == id) = some x → x.closed = false → x.bcast = false →
      (x.sent ≤ rd s F.LINK_CFG_RETRIES → max (tickOf s) (x.lastTick + linkTicks s) < x.firstTick + 4 * linkTicks s → Answers (.linkTimeout id) s (fun u t =>
        t.now = max s.now ((x.lastTick + linkTicks s) * unitsPerTick) ∧ Sends s u (.linkFrame (frameBytes x.dest false (ownNode s) true x.type x.id (x.epoch + x.flags) x.payload))
        ∧ t.link.tx = s.link.tx.map (fun y => if y.id = x.id then { x with sent := x.sent + 1, lastTick := tickOf u } else y) ∧ t.modes = s.modes))
      ∧ (rd s F.LINK_CFG_RETRIES < x.sent → Answers (.linkTimeout id) s (fun u t => (⟨0x812, 1, 0, x.dest % 512 + 512 * (x.type % 256)⟩ : Ev) ∈ u.evs ∧ t.modes = s.modes
        ∧ (x.software = true → rd t F.LINK_CMD_BUSY = 0 ∧ rd t F.LINK_CMD_RESULT = 1))))
    ∧ (linkLeads s = true → s.link.tx = [] →
      (∀ x r, askers s = [] → pollPick s 4200 s.link.pollNode s.link.round = some (x, r) → Answers .pollWindow s (fun u t =>
        t.now = max s.now (nextOpening s timerPoll (rd s F.LINK_POLL_POLL_TICKS) * unitsPerTick) ∧ t.link.pollNode = x + 1 ∧ t.link.round = r
        ∧ (∃ id fl, (.linkFrame (frameBytes x false (ownNode s) true 1 id fl []) : Output) ∈ u.out) ∧ t.modes = s.modes))
      ∧ Answers .timeWindow s (fun u t => t.now = max s.now (nextOpening s timerTime 32768 * unitsPerTick) ∧ t.link.restartSent = true
        ∧ (∃ id fl, Sends s u (.linkFrame (frameBytes 0x1FF true (ownNode s) true 0x12 id fl (leBytes 5 (tick40 u))))) ∧ t.modes = s.modes)
      ∧ (∀ shelf g, s.link.grants.find? (fun g => g.shelf == shelf && g.revoked.isNone) = some g →
        (g.node ≠ ownNode s → Answers (.grantLimit shelf) s (fun u t => (∃ id fl, (.linkFrame (frameBytes g.node false (ownNode s) true 0x13 id fl [3#8]) : Output) ∈ u.out)
          ∧ (∃ y ∈ t.link.grants, y.shelf = shelf ∧ y.node = g.node ∧ y.revoked = some (tickOf u)) ∧ t.now = max s.now ((g.tick + rd s F.LINK_POLL_GRANT_LIMIT_S * 32768) * unitsPerTick) ∧ t.modes = s.modes))
        ∧ (g.node = ownNode s → Answers (.grantLimit shelf) s (fun u t => rd t F.GAUGE_REH_STATE = 0 ∧ (∀ y ∈ t.link.grants, y.node ≠ g.node) ∧ (⟨0x816, 0, 0, g.node + 512⟩ : Ev) ∈ u.evs ∧ t.modes = s.modes))))
    ∧ (linkLeads s = false → ∀ c ∈ ([.pollWindow, .timeWindow] : List Instr), Answers c s (fun u t => u.out = s.out ∧ t.link = s.link ∧ t.modes = s.modes))
    ∧ (linkOn s = true → rdb s F.LINK_CFG_LEAD = false → rdb s F.LINK_STATUS_LEAD_LOST = false → Answers .leadLost s (fun u t => t.now = max s.now ((s.link.heardTick + rd s F.LINK_CFG_LEAD_LOST) * unitsPerTick)
      ∧ rd t F.LINK_STATUS_LEAD_LOST = 1 ∧ rd t F.LINK_STATUS_TIME_VALID = 0 ∧ Logs s u (⟨0x813, 1, 0, rd s F.LINK_STATUS_LEAD_NODE⟩) ∧ t.link = { s.link with sources := [] } ∧ t.modes = s.modes))
    ∧ (∀ (p : Path) (w : Word), pathWrites s p F.LINK_CMD_GO.idx = true →
      ((rdb s F.LINK_CMD_BUSY = true ∨ linkLeads s = false) → Answers (.linkCmdGo p w) s (fun u t => rd t F.LINK_CMD_RESULT = 3 ∧ rd t F.LINK_CMD_BUSY = rd s F.LINK_CMD_BUSY ∧ u.out = s.out ∧ t.link = s.link ∧ t.modes = s.modes))
      ∧ (rdb s F.LINK_CMD_BUSY = false → linkLeads s = true → s.link.tx = [] → fldOf w F.LINK_CMD_BCAST = 0 → Answers (.linkCmdGo p w) s (fun u t => rd t F.LINK_CMD_BUSY = 1 ∧ t.modes = s.modes
        ∧ (∃ id fl, (.linkFrame (frameBytes (fldOf w F.LINK_CMD_DEST) false (ownNode s) true (fldOf w F.LINK_CMD_TYPE) id fl (cmdPayload s (fldOf w F.LINK_CMD_TYPE) (fldOf w F.LINK_CMD_ARG))) : Output) ∈ u.out))))

/-- GAUGE_CONVERSION at the next tick adds the rounded, clamped current and voltage codes. GAUGE_UPDATE outside Hold, or in Hold where no empty condition
holds, at the next window: with no anchor due the charge falls by the counted charge, kept between 0 and the learned capacity, the moved charge grows,
the sums are 0 and SOC publishes it (0 while unanchored); a full anchor sets it to the learned capacity and stamps FULL_TICK; the second empty update
sets it to 0, stamps EMPTY_TICK and sets EXHAUSTED. BATTERY_PRESENT and NEW_PACK leave the gauge unanchored with learned capacity at most MIN_MAH.
BATTERY_ABSENT and BATTERY_FAULT end a rehearsal and CHG_EN is low; a fault cleared is gone. CHG_DONE_EDGE rising is registered with CHG_EN high, else
logged 0x911. REHEARSAL_TIMEOUT ends a leg with reason 5. -/
def Obligations.GaugeCommands : Prop :=
  ∀ s : State,
    (∀ (nv : Int) (uv : Nat), Answers (.gaugeConversion nv uv) s (fun u t => t.now = max s.now (nextOpening s 60 1 * unitsPerTick) ∧ t.gauge.ticks = s.gauge.ticks + 1
      ∧ t.gauge.codes = s.gauge.codes + max (-32768) (min 32767 (codeRound (nv * 32768) 100000000)) ∧ t.gauge.volts = s.gauge.volts + min 4095 (codeRound ((uv : Int) * 4096) 1200000).toNat
      ∧ t.gauge.soc = s.gauge.soc ∧ u.evs = s.evs ∧ t.modes = s.modes))
    ∧ ((s.modes.mode ≠ .hold ∨ (rdb s F.GAUGE_STATUS_EXHAUSTED = false ∧ emptyCond s = false)) → ∀ upd : (State → State → Prop) → Prop, (∀ post, upd post ↔ Answers .gaugeUpdate s (fun u t =>
        t.now = max s.now (nextOpening s timerGauge (gaugeWindow s) * unitsPerTick) ∧ t.gauge.codes = 0 ∧ t.gauge.volts = 0 ∧ t.gauge.ticks = 0 ∧ t.modes = s.modes ∧ SameDram s t ∧ t.ledger = s.ledger ∧ post u t)) →
      ((rdb s F.GAUGE_STATUS_PRESENT && s.gauge.fullDue) = false → emptyCond s = false → upd (fun _ t =>
        t.gauge.soc = max 0 (min (learnedUah s : Rat) (s.gauge.soc - codesUah s s.gauge.codes))
        ∧ t.gauge.moved = s.gauge.moved + (if codesUah s s.gauge.codes < 0 then -(codesUah s s.gauge.codes) else codesUah s s.gauge.codes)
        ∧ rd t F.GAUGE_SOC_SOC_UAH = (if rdb s F.GAUGE_STATUS_UNANCHORED then 0 else min (ratFloor t.gauge.soc) (2 ^ 32 - 1)) ∧ rd t F.GAUGE_REH_STATE = rd s F.GAUGE_REH_STATE))
      ∧ (rdb s F.GAUGE_STATUS_PRESENT = true → s.gauge.fullDue = true → emptyCond s = false → upd (fun u t => t.gauge.soc = learnedUah s ∧ t.gauge.moved = 0 ∧ t.gauge.fullDue = false
        ∧ rd t F.GAUGE_SOC_SOC_UAH = learnedUah s ∧ rd t F.GAUGE_STATUS_UNANCHORED = 0 ∧ rd t F.GAUGE_FULL_TICK_TICK = tickOf u % 2 ^ 40 ∧ rd t F.GAUGE_FULL_TICK_VALID = 1 ∧ (∃ a, (⟨0x901, 0, 0, a⟩ : Ev) ∈ u.evs)))
      ∧ (∀ k, rdb s F.GAUGE_STATUS_PRESENT = true → s.gauge.fullDue = false → emptyCond s = true → s.gauge.emptyFirst = some k → upd (fun u t => t.gauge.soc = 0 ∧ rd t F.GAUGE_SOC_SOC_UAH = 0
        ∧ rd t F.GAUGE_STATUS_EXHAUSTED = 1 ∧ rd t F.GAUGE_EMPTY_TICK_TICK = k % 2 ^ 40 ∧ rd t F.GAUGE_EMPTY_TICK_VALID = 1 ∧ (∃ a, (⟨0x902, 0, 0, a⟩ : Ev) ∈ u.evs) ∧ (rd s F.GAUGE_REH_STATE = 3 → rd t F.GAUGE_REH_STATE = 0))))
    ∧ (rdb s F.GAUGE_STATUS_PRESENT = false → Answers .batteryPresent s (fun u t => rd t F.GAUGE_STATUS_PRESENT = 1 ∧ rd t F.GAUGE_STATUS_UNANCHORED = 1 ∧ rd t F.GAUGE_STATUS_ANCHOR_DUE = 1 ∧ rd t F.GAUGE_SOC_SOC_UAH = 0
      ∧ rd t F.GAUGE_LEARNED_LEARNED_UAH = min (learnedUah s) (1000 * rd s F.GAUGE_PACK_MIN_MAH) ∧ (∃ a, (⟨0x90A, 0, 0, a⟩ : Ev) ∈ u.evs) ∧ t.modes = s.modes))
    ∧ (rdb s F.GAUGE_STATUS_PRESENT = true → Answers .batteryAbsent s (fun u t => rd t F.GAUGE_STATUS_PRESENT = 0 ∧ rd t F.GAUGE_REH_STATE = 0 ∧ rd t F.GAUGE_STATUS_CHG_EN = 0 ∧ (⟨0x909, 1, 0, 0⟩ : Ev) ∈ u.evs
        ∧ (rd s F.GAUGE_REH_STATE ≠ 0 → rd t F.GAUGE_REH_LAST_END = 4) ∧ t.modes = s.modes)
      ∧ exec .batteryPresent s = .next (finish s))
    ∧ (∀ cause, 1 ≤ cause → cause ≤ 3 →
      (s.gauge.faults.contains cause = false → (cause = 1 → rdb s F.GAUGE_STATUS_PRESENT = true) → Answers (.batteryFault cause) s (fun u t => t.gauge.faults.contains cause = true ∧ rd t F.GAUGE_STATUS_FAULT = 1
        ∧ rd t F.GAUGE_REH_STATE = 0 ∧ rd t F.GAUGE_STATUS_CHG_EN = 0 ∧ (⟨0x90B, 2, 0, cause⟩ : Ev) ∈ u.evs ∧ t.modes = s.modes))
      ∧ (s.gauge.faults.contains cause = true → Answers (.batteryFaultCleared cause) s (fun u t => t.gauge.faults = s.gauge.faults.filter (fun c => decide (c ≠ cause))
        ∧ rd t F.GAUGE_STATUS_FAULT = b2n (!t.gauge.faults.isEmpty) ∧ (⟨0x90C, 0, 0, cause⟩ : Ev) ∈ u.evs ∧ t.modes = s.modes)))
    ∧ Answers (.chgDoneEdge false) s (fun u t => rd t F.GAUGE_STATUS_CHG_DONE = 0 ∧ t.gauge.fullDue = s.gauge.fullDue ∧ u.evs = s.evs ∧ t.modes = s.modes)
    ∧ (rdb s F.GAUGE_STATUS_CHG_DONE = false → Answers (.chgDoneEdge true) s (fun u t => rd t F.GAUGE_STATUS_CHG_DONE = 1 ∧ t.modes = s.modes
        ∧ (rdb s F.GAUGE_STATUS_CHG_EN = true → t.gauge.fullDue = true ∧ u.evs = s.evs) ∧ (rdb s F.GAUGE_STATUS_CHG_EN = false → t.gauge.fullDue = s.gauge.fullDue ∧ Logs s u (⟨0x911, 0, 0, 0⟩))))
    ∧ (rdb s F.GAUGE_STATUS_CHG_DONE = true → Answers (.chgDoneEdge true) s (fun u t => rd t F.GAUGE_STATUS_CHG_DONE = 1 ∧ t.gauge.fullDue = s.gauge.fullDue ∧ u.evs = s.evs ∧ t.modes = s.modes))
    ∧ (∀ p : Path, pathWrites s p F.GAUGE_CTRL_NEW_PACK.idx = true → Answers (.newPack p) s (fun _ t => rd t F.GAUGE_STATUS_UNANCHORED = 1 ∧ rd t F.GAUGE_STATUS_ANCHOR_DUE = 1 ∧ rd t F.GAUGE_SOC_SOC_UAH = 0
      ∧ rd t F.GAUGE_LEARNED_LEARNED_UAH = min (learnedUah s) (1000 * rd s F.GAUGE_PACK_MIN_MAH) ∧ t.gauge.fullDue = false ∧ t.modes = s.modes))
    ∧ (2 ≤ rd s F.GAUGE_REH_STATE → Answers .rehearsalTimeout s (fun u t => rd t F.GAUGE_REH_STATE = 0 ∧ rd t F.GAUGE_REH_LAST_END = 5 ∧ (⟨0x90F, 0, 0, 5⟩ : Ev) ∈ u.evs
      ∧ t.now = max s.now ((s.gauge.legStart + max 1 (rd s F.GAUGE_REH_MAX_MIN) * 1966080) * unitsPerTick) ∧ t.modes = s.modes))
    ∧ (rd s F.GAUGE_REH_STATE < 2 → exec .rehearsalTimeout s = .next (finish s))

/-- On a path that writes the register, the domain on: IMG_LOAD_START begins a load and discards a staged container, IMG_LOAD_DATA appends its six bytes,
IMG_LOAD_END stages them for the checks, IMG_LOAD_ABORT ends the load with reason 10; STAGE_CTRL of a refused request leaves RESULT 1, of a Live stage
takes the request and closes its gate, an unbind of a Sealed stage unbinds it. CONTAINER_CHECK_DONE discards a rejected container with event 0xA02 and
its reason, keeps an accepted partial that a re-dress can take with 0xA03, and puts an accepted full container into its slot. REDRESS_COMMIT stores
the section and the stage enters Dressing, or ends the request where it cannot be stored. DRESSING_COMPLETE with a fault ends with that reason and
event 0xA07; of a new set that formats, it starts the open record. -/
def Obligations.StagesAndImages : Prop :=
  ∀ s : State,
    (∀ p : Path, pathWrites s p F.IMG_LOAD_CTRL_START.idx = true → mainOff s = false →
      Answers (.imgLoadStart p) s (fun u t => t.image.loading = some (0, []) ∧ t.image.staged = none ∧ rd t F.IMG_LOAD_CTRL_WORDS = 0 ∧ rd t F.IMG_LOAD_CTRL_BUSY = 0
        ∧ (s.image.staged ≠ none → (⟨0xA04, 1, 0, 1⟩ : Ev) ∈ u.evs) ∧ t.modes = s.modes ∧ t.store = s.store)
      ∧ (∀ bs, s.image.loading = some (0, bs) →
        Answers (.imgLoadEnd p) s (fun _ t => t.image.loading = none ∧ t.image.staged = some ⟨bs, 0, none⟩ ∧ rd t F.IMG_LOAD_CTRL_BUSY = 1 ∧ t.modes = s.modes ∧ t.store = s.store)
        ∧ Answers (.imgLoadAbort p) s (fun u t => t.image.loading = none ∧ t.image.staged = s.image.staged ∧ rd t F.IMG_LOAD_CTRL_RESULT = 10 ∧ rd t F.IMG_STATUS_LAST_REJECT = 10 ∧ (⟨0xA02, 2, 0, 10⟩ : Ev) ∈ u.evs ∧ t.modes = s.modes)))
    ∧ (∀ (p : Path) (w : Word) bs, pathWrites s p F.IMG_LOAD_DATA_DATA.idx = true → mainOff s = false → s.image.loading = some (0, bs) → Answers (.imgLoadData p w) s (fun _ t => t.image.loading = some (0, bs ++ wordBytes w)
        ∧ rd t F.IMG_LOAD_CTRL_WORDS = min (rd s F.IMG_LOAD_CTRL_WORDS + 1) (2 ^ 18 - 1) ∧ t.image.staged = s.image.staged ∧ t.modes = s.modes ∧ t.store = s.store))
    ∧ (s.image.staged = none → exec .containerCheckDone s = .next (finish s))
    ∧ (∀ g reason idx evs, s.image.staged = some g → g.result = none → containerCheck s (imageBase s) g.bytes = (reason, idx, evs) →
      Answers .containerCheckDone s (fun u t => t.image.sections = s.image.sections ∧ t.modes = s.modes ∧
        (if reason ≠ 0 then t.image.staged = none ∧ rd t F.IMG_STATUS_LAST_REJECT = reason % 16 ∧ (⟨0xA02, 2, 0, reason + idx % 16 * 16⟩ : Ev) ∈ u.evs ∧ t.store = s.store
         else if (cHead g.bytes).partial_ = true ∧ fours.any (fun n => onlyStage s n g.bytes) = true then t.image.staged = some { g with result := some 0 } ∧ rd t F.IMG_STATUS_LAST_REJECT = 0
           ∧ rd t F.IMG_STATUS_STAGED_OK = 1 ∧ (⟨0xA03, 0, 0, 1 + (cHead g.bytes).svn % 128 * 2⟩ : Ev) ∈ u.evs ∧ t.store = s.store
         else (cHead g.bytes).partial_ = false → t.image.staged = none ∧ rd t F.IMG_STATUS_STAGED = 0 ∧ (⟨0xA03, 0, 0, (cHead g.bytes).svn % 128 * 2⟩ : Ev) ∈ u.evs)))
    ∧ (∀ (p : Path) (n : Stage) (unbind : Bool) (c : Instr), c = (if unbind then .stageCtrlUnbind p n else .stageCtrlRedress p n) → pathWrites s p F.STAGE_CTRL_GO.idx = true → mainOff s = false →
      (redressRefusal s n unbind = 1 → Answers c s (fun _ t => rd t F.STAGE_CTRL_RESULT = 1 ∧ rd t F.STAGE_CTRL_BUSY = rd s F.STAGE_CTRL_BUSY ∧ Still s t))
      ∧ (redressRefusal s n unbind = 0 → stageSt s n = .live → Answers c s (fun u t => t.image.request = some ⟨n, unbind⟩ ∧ (led t n).gated = true ∧ (sav t n).phase = .drain ∧ (sav t n).alone = true
        ∧ rd t F.STAGE_CTRL_RESULT = 0 ∧ rd t F.STAGE_CTRL_BUSY = 1 ∧ (⟨0xA05, 0, n.val, b2n unbind⟩ : Ev) ∈ u.evs ∧ t.modes = s.modes))
      ∧ (redressRefusal s n unbind = 0 → unbind = true → stageSt s n = .sealed → s.cxl.erase = none → Answers c s (fun u t => stageSt t n = .unbound ∧ t.image.request = none ∧ rd t F.STAGE_CTRL_RESULT = 0 ∧ (⟨0xA08, 0, n.val, 0⟩ : Ev) ∈ u.evs)))
    ∧ (∀ tr : TrainIn, (s.image.request = none → exec (.redressCommit tr) s = .next (finish s))
      ∧ (∀ n g, s.image.request = some ⟨n, false⟩ → s.image.staged = some g → s.saveDev.gate = false → (stageSt s n = .sealed ∨ stageSt s n = .unbound) → (s.modes.mode = .standby ∨ serving s = true) →
        ∀ s1, s1 = partialTake (stagedTaken (storePartial s g.bytes).2) g.bytes → Answers (.redressCommit tr) s (fun u t => t.image.staged = none
          ∧ (if (storePartial s g.bytes).1 = false then t.image.request = none ∧ (⟨0xA02, 2, 0, 9⟩ : Ev) ∈ u.evs ∧ t.modes = s.modes
            else (secFor s1.image.sections 2 n.val).elim false (fun x => (layoutOf x.words).stage == n.val) = true → stageSt t n = .dressing ∧ t.image.sections = s1.image.sections ∧ qget t.image.dressStart n = qget s.image.dressStart n))))
    ∧ (∀ (n : Stage) (marks : List Nat),
      (stageSt s n ≠ .dressing → exec (.dressingComplete n marks) s = .next (finish s))
      ∧ (∀ k, stageSt s n = .dressing → (rst s n).goLive = none → qget s.image.dressFault n = k → 0 < k → k < 16 → Answers (.dressingComplete n marks) s (fun u t => stageSt t n ≠ .dressing
        ∧ rd t (F.STAGE_DRESS_REASON n.val) = k ∧ (⟨0xA07, 2, n.val, k⟩ : Ev) ∈ u.evs ∧ (rst t n).goLive = none))
      ∧ (∀ sec s1, stageSt s n = .dressing → (rst s n).goLive = none → qget s.image.dressFault n = 0 → s.power.blocked = 0 → qget s.image.untrained n = false →
        2 ≤ ((stageFlashChs s n).filter (fun c => rdb s (F.FL_CH_STATUS_TRAINED c) && !chLost s c)).length → (stageFlashChs s n).any (bitOf (rd s F.CIPH_STATUS_LANE_FAILED)) = false →
        secFor s.image.sections 2 n.val = some sec → s1 = setFsys s n { fsys s n with houseBytes := sha256 (sec.words.flatMap wordBytes) } → intentOf s n = 0 → keyStored s n = false → houseNewest (houseReads s1 n).1 = none →
        Answers (.dressingComplete n marks) s (fun u t => (formatSet (houseReads s1 n).2 n marks false).1 = true → (rst t n).goLive = some 1 ∧ rd t (F.STAGE_DRESS_REASON n.val) = 0 ∧ (⟨0xA0A, 0, n.val, 0⟩ : Ev) ∈ u.evs)))

/-- BOOT with RECOVERY_N low or no slot enters recovery with its cause and event 0x00A, else every role runs the chosen slot and 0x710 is logged. FW_CTRL
activations leave RESULT as the refusal or the log gives it, an online one that resumes or is appended starts the series; FW_CTRL_REBOOT in recovery
with RECOVERY_N high resets the cores and boots, else RESULT is 5. FW_LOAD commands begin, extend, check and discard a load; the checks' end reports
with 0x713. The handover steps load, shadow, quiesce follow each other, roles and cores change hands, failures end the series with event 0x716.
FUSE_RAISE fuses the next version. The watchdog's expiry resets the cores in Standby, Service and Restore. The maker's hash is fused once, in
recovery. A debug token opens the port or is counted. -/
def Obligations.BootAndFirmware : Prop :=
  ∀ s : State,
    (∀ tr low ms, (s.modes.booting = false → exec (.boot tr low ms) s = .next (finish s))
      ∧ (s.modes.booting = true → Answers (.boot tr true ms) s (fun u t => t.modes.recovery = true ∧ t.modes.recoveryPin = true ∧ t.modes.booting = false ∧ t.modes.mode = s.modes.mode
        ∧ rd t F.FW_STATUS_RECOVERY_CAUSE = 1 ∧ keyAt t 0 = some wrappingKey ∧ (⟨0x00A, 0, 0, 1⟩ : Ev) ∈ u.evs))
      ∧ (∀ s1, s.modes.booting = true → s1 = slotsRefused (bootStore { s with fw := { s.fw with recoveryLow := false } }) →
        Answers (.boot tr false ms) s (fun u t => t.modes.booting = false ∧ (match (fwPick s1).1 with
          | none => t.modes.recovery = true ∧ rd t F.FW_STATUS_RECOVERY_CAUSE = 2 ∧ (⟨0x00A, 0, 0, 0⟩ : Ev) ∈ u.evs
          | some b => t.fw.roleSlotB = List.replicate 6 b ∧ (⟨0x710, 0, 0, b2n b + 2 * min ms 65535⟩ : Ev) ∈ u.evs))))
    ∧ (∀ (p : Path) (b : Bool), pathWrites s p F.FW_CTRL_ACTIVATE.idx = true → mainOff s = false →
      (fwServes s = false → Answers (.fwCtrlActivateOffline p b) s (fun _ t => rd t F.FW_CTRL_RESULT = 5 ∧ Still s t))
      ∧ (fwServes s = true → fwBusy s = true → Answers (.fwCtrlActivateOffline p b) s (fun _ t => rd t F.FW_CTRL_RESULT = 1 ∧ Still s t))
      ∧ (fwServes s = true → fwBusy s = false → slotRefusal s b = 0 → (64 ≤ fwLogUsed s b → Answers (.fwCtrlActivateOffline p b) s (fun u t => rd t F.FW_CTRL_RESULT = 9 ∧ (⟨0x71F, 1, 0, b2n b⟩ : Ev) ∈ u.evs ∧ Still s t))
        ∧ (fwLogUsed s b < 64 → fwShipped s b = true → Answers (.fwCtrlActivateOffline p b) s (fun u t => rd t F.FW_CTRL_RESULT = 0 ∧ (⟨0x714, 0, 0, max (fwSeq s false) (fwSeq s true) + 1⟩ : Ev) ∈ u.evs
          ∧ t.fw.shipLog = s.fw.shipLog.map (· ++ [(max (fwSeq s false) (fwSeq s true) + 1, false)]) ∧ t.modes = s.modes ∧ t.store = s.store))
        ∧ (fwLogUsed s b < 64 → fwShipped s b = false → Answers (.fwCtrlActivateOffline p b) s (fun u t => ((rd t F.FW_CTRL_RESULT = 0 ∧ (⟨0x714, 0, 0, max (fwSeq s false) (fwSeq s true) + 1⟩ : Ev) ∈ u.evs) ∨ rd t F.FW_CTRL_RESULT = 2) ∧ t.modes = s.modes ∧ SameDram s t)))
      ∧ (fwServes s = true → fwBusy s = false → slotRefusal s b ≠ 0 → Answers (.fwCtrlActivateOffline p b) s (fun _ t => rd t F.FW_CTRL_RESULT = slotRefusal s b ∧ Still s t))
      ∧ (onlineRefusal s b ≠ 0 → Answers (.fwCtrlActivateOnline p b) s (fun u t => rd t F.FW_CTRL_RESULT = onlineRefusal s b ∧ (⟨0x717, 1, 0, onlineRefusal s b⟩ : Ev) ∈ u.evs ∧ Still s t))
      ∧ (onlineRefusal s b = 0 → seriesResumes s b = true → seriesRoles s b ≠ [] → Answers (.fwCtrlActivateOnline p b) s (fun _ t => t.fw.series = some ⟨b, seriesRoles s b, 1, s.now, false⟩
        ∧ rd t F.FW_CTRL_BUSY = 1 ∧ rd t F.FW_CTRL_RESULT = 0 ∧ t.modes = s.modes ∧ t.store = s.store))
      ∧ (onlineRefusal s b = 0 → seriesResumes s b = false → (64 ≤ fwLogUsed s b → Answers (.fwCtrlActivateOnline p b) s (fun u t => rd t F.FW_CTRL_RESULT = 9 ∧ (⟨0x717, 1, 0, 9⟩ : Ev) ∈ u.evs ∧ Still s t))
        ∧ (fwLogUsed s b < 64 → fwShipped s b = true → seriesRoles s b ≠ [] → Answers (.fwCtrlActivateOnline p b) s (fun u t => t.fw.series = some ⟨b, seriesRoles s b, 1, s.now, false⟩ ∧ rd t F.FW_CTRL_BUSY = 1 ∧ (⟨0x714, 0, 0, max (fwSeq s false) (fwSeq s true) + 1⟩ : Ev) ∈ u.evs ∧ t.modes = s.modes)))
      ∧ (∀ low, (s.modes.recovery = false ∨ low = true) → Answers (.fwCtrlReboot p low) s (fun _ t => rd t F.FW_CTRL_RESULT = 5 ∧ Still s t))
      ∧ (s.modes.recovery = true → Answers (.fwCtrlReboot p false) s (fun _ t => t.modes.booting = true ∧ t.modes.recovery = false ∧ t.modes.mode = s.modes.mode ∧ rd t F.GLB_RESET_LAST = 4
        ∧ rd t F.GLB_RESET_CORE_RESETS = min (rd s F.GLB_RESET_CORE_RESETS + 1) (2 ^ 12 - 1) ∧ t.cipher.keys = [] ∧ t.fw.load = none ∧ t.store.nor = s.store.nor)))
    ∧ (∀ p : Path, pathWrites s p F.FW_LOAD_CTRL_START.idx = true → mainOff s = false →
      ((s.fw.series ≠ none ∨ s.fw.load.elim false (·.checking) = true) → Answers (.fwLoadStart p) s (fun _ t => rd t F.FW_LOAD_CTRL_RESULT = 1 ∧ Still s t))
      ∧ (s.fw.series = none → s.fw.load.elim false (·.checking) = false → Answers (.fwLoadStart p) s (fun u t => t.fw.load = some ⟨0, [], loadSlot s, false⟩ ∧ rd t F.FW_LOAD_CTRL_WORDS = 0 ∧ rd t F.FW_LOAD_CTRL_RESULT = 0
        ∧ (s.fw.load ≠ none → (⟨0x713, 0, 0, 2 + 16 * b2n (loadSlot s)⟩ : Ev) ∈ u.evs) ∧ t.modes = s.modes ∧ t.store = s.store))
      ∧ (∀ bs b, s.fw.load = some ⟨0, bs, b, false⟩ → Answers (.fwLoadEnd p) s (fun _ t => t.fw.load = some ⟨0, bs, b, true⟩ ∧ rd t F.FW_LOAD_CTRL_BUSY = 1 ∧ t.modes = s.modes ∧ t.store = s.store)
        ∧ Answers (.fwLoadAbort p) s (fun u t => t.fw.load = none ∧ rd t F.FW_LOAD_CTRL_RESULT = 2 ∧ rd t F.FW_LOAD_CTRL_BUSY = 0 ∧ (⟨0x713, 0, 0, 2 + 16 * b2n b⟩ : Ev) ∈ u.evs ∧ t.modes = s.modes ∧ t.store = s.store)))
    ∧ (∀ (p : Path) (w : Word) bs b, pathWrites s p F.FW_LOAD_DATA_DATA.idx = true → mainOff s = false → s.fw.load = some ⟨0, bs, b, false⟩ → Answers (.fwLoadData p w) s (fun _ t => t.fw.load = some ⟨0, bs ++ wordBytes w, b, false⟩
        ∧ rd t F.FW_LOAD_CTRL_WORDS = min (rd s F.FW_LOAD_CTRL_WORDS + 1) (2 ^ 21 - 1) ∧ t.modes = s.modes))
    ∧ (s.fw.load = none → exec .firmwareLoadEnded s = .next (finish s))
    ∧ (∀ path bs b code sig, s.fw.load = some ⟨path, bs, b, true⟩ → fwCheck s bs = (code, sig) → Answers .firmwareLoadEnded s (fun u t => t.fw.load = none ∧ t.modes = s.modes ∧ (path = 1 → t.cxl.background = none)
        ∧ (if code ≠ 0 then (⟨0x713, 0, 0, code + 16 * b2n b⟩ : Ev) ∈ u.evs ∧ t.store = s.store ∧ (path = 0 → rd t F.FW_LOAD_CTRL_RESULT = code % 16 ∧ rd t F.FW_LOAD_CTRL_BUSY = 0)
          else (⟨0x713, 0, 0, 16 * b2n b⟩ : Ev) ∈ u.evs ∨ (⟨0x713, 0, 0, 2 + 16 * b2n b⟩ : Ev) ∈ u.evs)))
    ∧ (∀ x : FwSeries, s.fw.series = some x →
      (x.step = 1 → Answers (.handoverLoad true) s (fun _ t => t.fw.series = some { x with step := 2, since := s.now } ∧ rd t F.FW_HANDOVER_STEP = 2 ∧ t.modes = s.modes ∧ t.store = s.store)
        ∧ Answers (.handoverLoad false) s (fun u t => t.fw.series = none ∧ rd t F.FW_CTRL_RESULT = 6 ∧ rd t F.FW_CTRL_BUSY = 0 ∧ (⟨0x716, 1, 0, 6 + 16 * x.roles.headD 0⟩ : Ev) ∈ u.evs ∧ t.modes = s.modes))
      ∧ (x.step = 2 → Answers .handoverShadow s (fun _ t => t.fw.series = some { x with step := 3, since := s.now } ∧ rd t F.FW_HANDOVER_STEP = 3 ∧ t.modes = s.modes ∧ t.store = s.store))
      ∧ (x.step = 3 → Answers .prepareTimeout s (fun u t => t.fw.series = none ∧ rd t F.FW_CTRL_RESULT = 7 ∧ (⟨0x716, 1, 0, 7 + 16 * x.roles.headD 0⟩ : Ev) ∈ u.evs
          ∧ t.now = max s.now ((x.since / unitsPerTick + msTicks (max 1 (rd s F.FW_HANDOVER_PREP_MS))) * unitsPerTick) ∧ t.modes = s.modes ∧ t.store = s.store)
        ∧ (∀ q r rest, x.roles = r :: rest → Answers (.handoverQuiesce q) s (fun u t => t.fw.roleCore = (s.fw.roleCore.set r (s.fw.roleCore.getD 5 5)).set 5 (s.fw.roleCore.getD r 0) ∧ (⟨0x715, 0, 0, r + 8 * min q 1023⟩ : Ev) ∈ u.evs
          ∧ (rest ≠ [] → t.fw.series = some { x with roles := rest, step := 1, since := s.now } ∧ t.fw.roleSlotB = s.fw.roleSlotB.set r x.slotB)
          ∧ (rest = [] → t.fw.series = none ∧ t.fw.roleSlotB = List.replicate 6 x.slotB ∧ rd t F.FW_CTRL_RESULT = 0 ∧ rd t F.FW_CTRL_BUSY = 0) ∧ t.modes = s.modes)))
      ∧ (x.step = 2 → exec (.handoverLoad true) s = .next (finish s) ∧ exec .prepareTimeout s = .next (finish s)))
    ∧ (∀ img target rest, s.fw.raises = (img, target) :: rest → (s.modes.mode = .standby ∨ s.modes.mode = .service) → rdb s F.PWR_VIN_STATUS_SUPPLY_GOOD = true →
      Answers (.fuseRaise none) s (fun u t => u.fw.raises = rest ∧ t.modes = s.modes ∧ (⟨0x719, 0, 0, target + 128 * b2n img⟩ : Ev) ∈ u.evs
        ∧ u.fw.fuseImg = (if img then fuseUp s.fw.fuseImg target else s.fw.fuseImg) ∧ u.fw.fuseFw = (if img then s.fw.fuseFw else fuseUp s.fw.fuseFw target))
      ∧ (∀ k, fuseVersion (if img then s.fw.fuseImg else s.fw.fuseFw) ≤ k → k < target → Answers (.fuseRaise (some k)) s (fun u _ => u.fw.raises = rest ∧ (⟨0x71A, 2, 0, k + 64 * b2n img⟩ : Ev) ∈ u.evs)))
    ∧ (s.modes.mode ≠ .dark → tickOf s < s.fw.wdogTick + 65536 → Answers .watchdogReset s (fun u t => t.fw.wdogTick = tickOf u ∧ t.now = s.now ∧ t.modes = s.modes ∧ t.store = s.store ∧ SameDram s t))
    ∧ ((s.modes.mode = .dark ∨ s.fw.wdogTick + 65536 ≤ tickOf s) → exec .watchdogReset s = .next (finish s))
    ∧ ((s.modes.mode = .standby ∨ serving s = true) → Answers .watchdogExpiry s (fun u t => max s.now ((s.fw.wdogTick + 65536) * unitsPerTick) ≤ t.now ∧ t.modes.mode = .standby ∧ t.modes.booting = true
        ∧ rd t F.GLB_RESET_LAST = 3 ∧ t.cipher.keys = [] ∧ (⟨0x71B, 2, 0, modeCode s.modes.mode⟩ : Ev) ∈ u.evs))
    ∧ ((s.modes.mode = .save ∨ s.modes.mode = .hold) → Answers .watchdogExpiry s (fun u t => t.modes = s.modes ∧ t.fw.wdogTick = tickOf u ∧ Logs s u (⟨0x71B, 2, 0, modeCode s.modes.mode⟩) ∧ t.cipher = s.cipher))
    ∧ (∀ hash : List Byte, (s.modes.recovery = true → s.fw.makerHash = none → hash.length = 32 → Answers (.makerHashProgram hash) s (fun _ t => t.fw.makerHash = some hash ∧ rd t F.FW_FUSE_MAKER_HASH_SET = 1 ∧ t.modes = s.modes ∧ t.store = s.store))
      ∧ ((s.modes.recovery = false ∨ s.fw.makerHash ≠ none ∨ hash.length ≠ 32) → exec (.makerHashProgram hash) s = .next (finish s)))
    ∧ (∀ perms pub sig, mainOn s = true → s.modes.booting = false → ∀ r, r = hssVerify Config.pyruaKeyHash pub sig (tokenBytes s perms) →
      Answers (.debugToken perms pub sig) s (fun u t => t.modes = s.modes ∧
        if r = .ok ∧ s.fw.nonce ≠ [] then rd t F.FW_DEBUG_OPEN = 1 ∧ rd t F.FW_DEBUG_PERMS = perms % 4 ∧ (⟨0x71D, 1, 0, perms % 4⟩ : Ev) ∈ u.evs
        else rd t F.FW_DEBUG_OPEN = rd s F.FW_DEBUG_OPEN ∧ rd t F.FW_DEBUG_REFUSALS = min (rd s F.FW_DEBUG_REFUSALS + 1) 255 ∧ (⟨0x71E, 1, 0, min (rd s F.FW_DEBUG_REFUSALS + 1) 255⟩ : Ev) ∈ u.evs))
end

