-- ==== Sys2Proof/Laws/Basic.lean ====
section
/-! SUPPORT. What the shared operations of Machine/Ops.lean do: four-fold data, sparse maps, registers and their fields. -/

namespace Sys2Proof.Machine

/-! Four-fold data. -/

/-- The value put at a number is read back. -/
@[simp] theorem qget_qset_self {α : Type} (q : Quad α) (i : Fin 4) (v : α) : qget (qset q i v) i = v := by
  fin_cases i <;> rfl
/-- The values at other numbers stand. -/
theorem qget_qset_of_ne {α : Type} (q : Quad α) {i j : Fin 4} (v : α) (h : j ≠ i) : qget (qset q i v) j = qget q j := by
  fin_cases i <;> fin_cases j <;> first | rfl | exact absurd rfl h
/-- Both cases of a read after a write. -/
theorem qget_qset {α : Type} (q : Quad α) (i j : Fin 4) (v : α) : qget (qset q i v) j = if j = i then v else qget q j := by
  by_cases h : j = i
  · subst h; simp
  · simp [h, qget_qset_of_ne]
@[simp] theorem qget_qall {α : Type} (v : α) (i : Fin 4) : qget (qall v) i = v := by fin_cases i <;> rfl
@[simp] theorem qget_qtab {α : Type} (f : Fin 4 → α) (i : Fin 4) : qget (qtab f) i = f i := by fin_cases i <;> rfl
@[simp] theorem qget_qmap {α β : Type} (f : α → β) (q : Quad α) (i : Fin 4) : qget (qmap f q) i = f (qget q i) := by
  fin_cases i <;> rfl

/-! Sparse maps. -/

/-- A removed key reads as the default; the others stand. -/
theorem mget_mdel {α : Type} (d : α) (m : NMap α) (i j : Nat) : mget d (mdel m i) j = if j = i then d else mget d m j := by
  induction m with
  | nil => simp [mdel, mget]
  | cons e m ih =>
    obtain ⟨k, v⟩ := e
    simp only [mdel, mget]
    split_ifs with h1 h2 h3 <;> simp_all [mget]
/-- A stored key reads as its value; the others stand. -/
theorem mget_mput {α : Type} (d : α) (m : NMap α) (i j : Nat) (x : α) : mget d (mput m i x) j = if j = i then x else mget d m j := by
  induction m with
  | nil => simp [mput, mget]
  | cons e m ih =>
    obtain ⟨k, v⟩ := e
    simp only [mput]
    split_ifs with h1 h2 h3 <;> simp_all [mget]
/-- A read after a write of a sparse map. -/
theorem mget_mset {α : Type} [DecidableEq α] (d : α) (m : NMap α) (i j : Nat) (x : α) :
    mget d (mset d m i x) j = if j = i then x else mget d m j := by
  unfold mset
  split_ifs with h h2 h3 <;> simp_all [mget_mdel, mget_mput]
@[simp] theorem mget_mset_self {α : Type} [DecidableEq α] (d : α) (m : NMap α) (i : Nat) (x : α) :
    mget d (mset d m i x) i = x := by simp [mget_mset]

/-- Every key of the map is above a bound. -/
theorem rising_cons {α : Type} (a : Nat) (u : α) (m : NMap α) :
    risingKeys ((a, u) :: m) = true ↔ (∀ e ∈ m, a < e.1) ∧ risingKeys m = true := by
  induction m generalizing a u with
  | nil => simp [risingKeys]
  | cons e m ih =>
    obtain ⟨b, v⟩ := e
    simp only [risingKeys, Bool.and_eq_true, decide_eq_true_eq, ih b v]
    constructor
    · rintro ⟨h, h1, h2⟩
      refine ⟨?_, h1, h2⟩
      intro e he
      rcases List.mem_cons.mp he with rfl | he
      · exact h
      · exact lt_trans h (h1 e he)
    · rintro ⟨h, h1, h2⟩
      exact ⟨h _ (List.mem_cons_self ..), h1, h2⟩
theorem mem_mdel {α : Type} (m : NMap α) (i : Nat) (e : Nat × α) (h : e ∈ mdel m i) : e ∈ m := by
  induction m with
  | nil => simp [mdel] at h
  | cons f m ih =>
    obtain ⟨k, v⟩ := f
    simp only [mdel] at h
    split_ifs at h with hk
    · exact List.mem_cons_of_mem _ (ih h)
    · rcases List.mem_cons.mp h with rfl | h
      · exact List.mem_cons_self ..
      · exact List.mem_cons_of_mem _ (ih h)
theorem mem_mput {α : Type} (m : NMap α) (i : Nat) (x : α) (e : Nat × α) (h : e ∈ mput m i x) : e = (i, x) ∨ e ∈ m := by
  induction m with
  | nil => simpa [mput] using h
  | cons f m ih =>
    obtain ⟨k, v⟩ := f
    simp only [mput] at h
    split_ifs at h with h1 h2
    · rcases List.mem_cons.mp h with rfl | h <;> simp_all
    · rcases List.mem_cons.mp h with rfl | h <;> simp_all
    · rcases List.mem_cons.mp h with rfl | h
      · simp
      · rcases ih h with rfl | h <;> simp_all
theorem rising_mdel {α : Type} (m : NMap α) (i : Nat) (h : risingKeys m = true) : risingKeys (mdel m i) = true := by
  induction m with
  | nil => simp [mdel, risingKeys]
  | cons f m ih =>
    obtain ⟨k, v⟩ := f
    obtain ⟨h1, h2⟩ := (rising_cons k v m).mp h
    simp only [mdel]
    split_ifs
    · exact ih h2
    · exact (rising_cons ..).mpr ⟨fun e he => h1 e (mem_mdel m i e he), ih h2⟩
theorem rising_mput {α : Type} (m : NMap α) (i : Nat) (x : α) (h : risingKeys m = true) : risingKeys (mput m i x) = true := by
  induction m with
  | nil => simp [mput, risingKeys]
  | cons f m ih =>
    obtain ⟨k, v⟩ := f
    obtain ⟨h1, h2⟩ := (rising_cons k v m).mp h
    simp only [mput]
    split_ifs with hk hl
    · subst hk; exact (rising_cons ..).mpr ⟨h1, h2⟩
    · exact (rising_cons ..).mpr ⟨by
        intro e he
        rcases List.mem_cons.mp he with rfl | he
        · exact hl
        · exact lt_trans hl (h1 e he), h⟩
    · refine (rising_cons ..).mpr ⟨?_, ih h2⟩
      intro e he
      rcases mem_mput m i x e he with rfl | he
      · omega
      · exact h1 e he
/-- A write keeps the canonical form of a sparse map. -/
theorem mwf_mset {α : Type} [DecidableEq α] (d : α) (m : NMap α) (i : Nat) (x : α) (h : mwf d m = true) :
    mwf d (mset d m i x) = true := by
  simp only [mwf, Bool.and_eq_true, List.all_eq_true, decide_eq_true_eq] at h ⊢
  unfold mset
  split_ifs with hx
  · exact ⟨rising_mdel m i h.1, fun e he => h.2 e (mem_mdel m i e he)⟩
  · refine ⟨rising_mput m i x h.1, fun e he => ?_⟩
    rcases mem_mput m i x e he with rfl | he
    · exact hx
    · exact h.2 e he

/-! Registers. -/

/-- A register written reads back. -/
theorem rawReg_setReg (s : State) (i j : Nat) (w : Word) :
    rawReg (setReg s i w) j = if homeIdx j = homeIdx i then w else rawReg s j := by
  unfold rawReg setReg
  by_cases h : homeIdx j = homeIdx i
  · simp only [h, mget_mset_self, if_true]
  · simp only [h, if_false]
    rw [show regReset (homeIdx i) = regReset (homeIdx i) from rfl]
    generalize hd : regReset (homeIdx i) = d
    generalize regReset (homeIdx j) = d'
    unfold mset
    split_ifs
    · induction s.regs with
      | nil => rfl
      | cons e m ih =>
        obtain ⟨k, v⟩ := e
        simp only [mdel, mget]
        split_ifs <;> simp_all [mget]
    · induction s.regs with
      | nil => simp [mput, mget, h]
      | cons e m ih =>
        obtain ⟨k, v⟩ := e
        simp only [mput]
        split_ifs <;> simp_all [mget]
@[simp] theorem rawReg_setReg_self (s : State) (i : Nat) (w : Word) : rawReg (setReg s i w) i = w := by
  simp [rawReg_setReg]

/-- One bit of a range of bits. -/
theorem testBit_bits (n lo w i : Nat) : (bits n lo w).testBit i = (decide (i < w) && n.testBit (lo + i)) := by
  unfold bits
  rw [Nat.testBit_mod_two_pow, Nat.testBit_div_two_pow, Nat.add_comm]
/-- One bit of a word with a field replaced. -/
theorem testBit_withFld (w : Word) (f : Fld) (v i : Nat) :
    (withFld w f v).toNat.testBit i =
      (decide (i < 48) && (if f.lo ≤ i ∧ i < f.lo + f.width then v.testBit (i - f.lo) else w.toNat.testBit i)) := by
  unfold withFld
  have hl : ∀ x : Word, x.toNat.testBit i = x.getLsbD i := fun _ => rfl
  simp only [hl, BitVec.getLsbD_or, BitVec.getLsbD_and, BitVec.getLsbD_not, BitVec.getLsbD_ofNat,
    Nat.testBit_mul_two_pow, Nat.testBit_two_pow_sub_one, Nat.testBit_mod_two_pow]
  by_cases h : i < 48
  · by_cases h1 : f.lo ≤ i
    · by_cases h2 : i < f.lo + f.width
      · have h3 : i - f.lo < f.width := by omega
        simp [h, h1, h2, h3]
      · have h3 : ¬ i - f.lo < f.width := by omega
        simp [h, h1, h2, h3]
    · simp [h, h1]
  · simp [h, BitVec.getLsbD_of_ge w i (by omega)]
/-- A field read after it is written. -/
theorem fldOf_withFld_self (w : Word) (f : Fld) (v : Nat) (h : f.lo + f.width ≤ 48) : fldOf (withFld w f v) f = v % 2 ^ f.width := by
  apply Nat.eq_of_testBit_eq
  intro i
  unfold fldOf
  rw [testBit_bits, testBit_withFld, Nat.testBit_mod_two_pow]
  by_cases hi : i < f.width
  · have h1 : f.lo + i < 48 := by omega
    simp [hi, h1]
  · simp [hi]
/-- A field that lies elsewhere in the word stands. -/
theorem fldOf_withFld_of_disjoint (w : Word) (f g : Fld) (v : Nat) (h : g.lo + g.width ≤ 48)
    (hd : f.lo + f.width ≤ g.lo ∨ g.lo + g.width ≤ f.lo) : fldOf (withFld w f v) g = fldOf w g := by
  apply Nat.eq_of_testBit_eq
  intro i
  unfold fldOf
  rw [testBit_bits, testBit_bits, testBit_withFld]
  by_cases hi : i < g.width
  · have h1 : g.lo + i < 48 := by omega
    have h2 : ¬ (f.lo ≤ g.lo + i ∧ g.lo + i < f.lo + f.width) := by omega
    simp [hi, h1, h2]
  · simp [hi]

/-- A field read back after it is written. -/
theorem rd_wr_self (s : State) (f : Fld) (v : Nat) (h : f.lo + f.width ≤ 48) : rd (wr s f v) f = v % 2 ^ f.width := by
  simp only [rd, wr, rawReg_setReg_self]
  exact fldOf_withFld_self _ f v h
/-- A field of another register, or other bits of the same register, stand after a write. -/
theorem rd_wr_other (s : State) (f g : Fld) (v : Nat)
    (h : homeIdx g.idx ≠ homeIdx f.idx ∨ (g.idx = f.idx ∧ g.lo + g.width ≤ 48 ∧ (f.lo + f.width ≤ g.lo ∨ g.lo + g.width ≤ f.lo))) :
    rd (wr s f v) g = rd s g := by
  simp only [rd, wr, rawReg_setReg]
  rcases h with h | ⟨h1, h2, h3⟩
  · rw [if_neg h]
  · rw [if_pos (by rw [h1]), h1]
    exact fldOf_withFld_of_disjoint _ f g v h2 h3
/-- Other registers stand after a write of a field. -/
theorem rawReg_wr_other (s : State) (f : Fld) (v j : Nat) (h : homeIdx j ≠ homeIdx f.idx) : rawReg (wr s f v) j = rawReg s j := by
  simp only [wr, rawReg_setReg, if_neg h]

end Sys2Proof.Machine
end

