-- ==== Sys2Proof/Laws/State.lean ====
section
/-! SUPPORT. One lemma per field of State and update: what each single update leaves and gives, all by definition. -/

namespace Sys2Proof.Machine

/-! The update event. -/

@[simp] theorem event_now (s : State) (code sev stage arg : Nat) : (event s code sev stage arg).now = s.now := rfl
@[simp] theorem event_regs (s : State) (code sev stage arg : Nat) : (event s code sev stage arg).regs = s.regs := rfl
@[simp] theorem event_modes (s : State) (code sev stage arg : Nat) : (event s code sev stage arg).modes = s.modes := rfl
@[simp] theorem event_pbook (s : State) (code sev stage arg : Nat) : (event s code sev stage arg).pbook = s.pbook := rfl
@[simp] theorem event_store (s : State) (code sev stage arg : Nat) : (event s code sev stage arg).store = s.store := rfl
@[simp] theorem event_cipher (s : State) (code sev stage arg : Nat) : (event s code sev stage arg).cipher = s.cipher := rfl
@[simp] theorem event_dram (s : State) (code sev stage arg : Nat) : (event s code sev stage arg).dram = s.dram := rfl
@[simp] theorem event_flash (s : State) (code sev stage arg : Nat) : (event s code sev stage arg).flash = s.flash := rfl
@[simp] theorem event_ledger (s : State) (code sev stage arg : Nat) : (event s code sev stage arg).ledger = s.ledger := rfl
@[simp] theorem event_saves (s : State) (code sev stage arg : Nat) : (event s code sev stage arg).saves = s.saves := rfl
@[simp] theorem event_saveDev (s : State) (code sev stage arg : Nat) : (event s code sev stage arg).saveDev = s.saveDev := rfl
@[simp] theorem event_restore (s : State) (code sev stage arg : Nat) : (event s code sev stage arg).restore = s.restore := rfl
@[simp] theorem event_heat (s : State) (code sev stage arg : Nat) : (event s code sev stage arg).heat = s.heat := rfl
@[simp] theorem event_cxl (s : State) (code sev stage arg : Nat) : (event s code sev stage arg).cxl = s.cxl := rfl
@[simp] theorem event_gauge (s : State) (code sev stage arg : Nat) : (event s code sev stage arg).gauge = s.gauge := rfl
@[simp] theorem event_power (s : State) (code sev stage arg : Nat) : (event s code sev stage arg).power = s.power := rfl
@[simp] theorem event_link (s : State) (code sev stage arg : Nat) : (event s code sev stage arg).link = s.link := rfl
@[simp] theorem event_image (s : State) (code sev stage arg : Nat) : (event s code sev stage arg).image = s.image := rfl
@[simp] theorem event_fw (s : State) (code sev stage arg : Nat) : (event s code sev stage arg).fw = s.fw := rfl
@[simp] theorem event_side (s : State) (code sev stage arg : Nat) : (event s code sev stage arg).side = s.side := rfl
@[simp] theorem event_pack (s : State) (code sev stage arg : Nat) : (event s code sev stage arg).pack = s.pack := rfl
@[simp] theorem event_pmonAt (s : State) (code sev stage arg : Nat) : (event s code sev stage arg).pmonAt = s.pmonAt := rfl
@[simp] theorem event_pmonLevels (s : State) (code sev stage arg : Nat) : (event s code sev stage arg).pmonLevels = s.pmonLevels := rfl
@[simp] theorem event_timers (s : State) (code sev stage arg : Nat) : (event s code sev stage arg).timers = s.timers := rfl
@[simp] theorem event_pending (s : State) (code sev stage arg : Nat) : (event s code sev stage arg).pending = s.pending := rfl
@[simp] theorem event_out (s : State) (code sev stage arg : Nat) : (event s code sev stage arg).out = s.out := rfl
@[simp] theorem event_freeIdx (s : State) (code sev stage arg : Nat) : (event s code sev stage arg).freeIdx = s.freeIdx := rfl
@[simp] theorem event_evs (s : State) (code sev stage arg : Nat) : (event s code sev stage arg).evs = s.evs ++ [⟨code, sev, stage, arg⟩] := rfl

/-! The update emit. -/

@[simp] theorem emit_now (s : State) (o : Output) : (emit s o).now = s.now := rfl
@[simp] theorem emit_regs (s : State) (o : Output) : (emit s o).regs = s.regs := rfl
@[simp] theorem emit_modes (s : State) (o : Output) : (emit s o).modes = s.modes := rfl
@[simp] theorem emit_pbook (s : State) (o : Output) : (emit s o).pbook = s.pbook := rfl
@[simp] theorem emit_store (s : State) (o : Output) : (emit s o).store = s.store := rfl
@[simp] theorem emit_cipher (s : State) (o : Output) : (emit s o).cipher = s.cipher := rfl
@[simp] theorem emit_dram (s : State) (o : Output) : (emit s o).dram = s.dram := rfl
@[simp] theorem emit_flash (s : State) (o : Output) : (emit s o).flash = s.flash := rfl
@[simp] theorem emit_ledger (s : State) (o : Output) : (emit s o).ledger = s.ledger := rfl
@[simp] theorem emit_saves (s : State) (o : Output) : (emit s o).saves = s.saves := rfl
@[simp] theorem emit_saveDev (s : State) (o : Output) : (emit s o).saveDev = s.saveDev := rfl
@[simp] theorem emit_restore (s : State) (o : Output) : (emit s o).restore = s.restore := rfl
@[simp] theorem emit_heat (s : State) (o : Output) : (emit s o).heat = s.heat := rfl
@[simp] theorem emit_cxl (s : State) (o : Output) : (emit s o).cxl = s.cxl := rfl
@[simp] theorem emit_gauge (s : State) (o : Output) : (emit s o).gauge = s.gauge := rfl
@[simp] theorem emit_power (s : State) (o : Output) : (emit s o).power = s.power := rfl
@[simp] theorem emit_link (s : State) (o : Output) : (emit s o).link = s.link := rfl
@[simp] theorem emit_image (s : State) (o : Output) : (emit s o).image = s.image := rfl
@[simp] theorem emit_fw (s : State) (o : Output) : (emit s o).fw = s.fw := rfl
@[simp] theorem emit_side (s : State) (o : Output) : (emit s o).side = s.side := rfl
@[simp] theorem emit_pack (s : State) (o : Output) : (emit s o).pack = s.pack := rfl
@[simp] theorem emit_pmonAt (s : State) (o : Output) : (emit s o).pmonAt = s.pmonAt := rfl
@[simp] theorem emit_pmonLevels (s : State) (o : Output) : (emit s o).pmonLevels = s.pmonLevels := rfl
@[simp] theorem emit_timers (s : State) (o : Output) : (emit s o).timers = s.timers := rfl
@[simp] theorem emit_pending (s : State) (o : Output) : (emit s o).pending = s.pending := rfl
@[simp] theorem emit_out (s : State) (o : Output) : (emit s o).out = s.out ++ [o] := rfl
@[simp] theorem emit_freeIdx (s : State) (o : Output) : (emit s o).freeIdx = s.freeIdx := rfl
@[simp] theorem emit_evs (s : State) (o : Output) : (emit s o).evs = s.evs := rfl

/-! The update setReg. -/

@[simp] theorem setReg_now (s : State) (i : Nat) (w : Word) : (setReg s i w).now = s.now := rfl
@[simp] theorem setReg_regs (s : State) (i : Nat) (w : Word) : (setReg s i w).regs = mset (regReset (homeIdx i)) s.regs (homeIdx i) w := rfl
@[simp] theorem setReg_modes (s : State) (i : Nat) (w : Word) : (setReg s i w).modes = s.modes := rfl
@[simp] theorem setReg_pbook (s : State) (i : Nat) (w : Word) : (setReg s i w).pbook = s.pbook := rfl
@[simp] theorem setReg_store (s : State) (i : Nat) (w : Word) : (setReg s i w).store = s.store := rfl
@[simp] theorem setReg_cipher (s : State) (i : Nat) (w : Word) : (setReg s i w).cipher = s.cipher := rfl
@[simp] theorem setReg_dram (s : State) (i : Nat) (w : Word) : (setReg s i w).dram = s.dram := rfl
@[simp] theorem setReg_flash (s : State) (i : Nat) (w : Word) : (setReg s i w).flash = s.flash := rfl
@[simp] theorem setReg_ledger (s : State) (i : Nat) (w : Word) : (setReg s i w).ledger = s.ledger := rfl
@[simp] theorem setReg_saves (s : State) (i : Nat) (w : Word) : (setReg s i w).saves = s.saves := rfl
@[simp] theorem setReg_saveDev (s : State) (i : Nat) (w : Word) : (setReg s i w).saveDev = s.saveDev := rfl
@[simp] theorem setReg_restore (s : State) (i : Nat) (w : Word) : (setReg s i w).restore = s.restore := rfl
@[simp] theorem setReg_heat (s : State) (i : Nat) (w : Word) : (setReg s i w).heat = s.heat := rfl
@[simp] theorem setReg_cxl (s : State) (i : Nat) (w : Word) : (setReg s i w).cxl = s.cxl := rfl
@[simp] theorem setReg_gauge (s : State) (i : Nat) (w : Word) : (setReg s i w).gauge = s.gauge := rfl
@[simp] theorem setReg_power (s : State) (i : Nat) (w : Word) : (setReg s i w).power = s.power := rfl
@[simp] theorem setReg_link (s : State) (i : Nat) (w : Word) : (setReg s i w).link = s.link := rfl
@[simp] theorem setReg_image (s : State) (i : Nat) (w : Word) : (setReg s i w).image = s.image := rfl
@[simp] theorem setReg_fw (s : State) (i : Nat) (w : Word) : (setReg s i w).fw = s.fw := rfl
@[simp] theorem setReg_side (s : State) (i : Nat) (w : Word) : (setReg s i w).side = s.side := rfl
@[simp] theorem setReg_pack (s : State) (i : Nat) (w : Word) : (setReg s i w).pack = s.pack := rfl
@[simp] theorem setReg_pmonAt (s : State) (i : Nat) (w : Word) : (setReg s i w).pmonAt = s.pmonAt := rfl
@[simp] theorem setReg_pmonLevels (s : State) (i : Nat) (w : Word) : (setReg s i w).pmonLevels = s.pmonLevels := rfl
@[simp] theorem setReg_timers (s : State) (i : Nat) (w : Word) : (setReg s i w).timers = s.timers := rfl
@[simp] theorem setReg_pending (s : State) (i : Nat) (w : Word) : (setReg s i w).pending = s.pending := rfl
@[simp] theorem setReg_out (s : State) (i : Nat) (w : Word) : (setReg s i w).out = s.out := rfl
@[simp] theorem setReg_freeIdx (s : State) (i : Nat) (w : Word) : (setReg s i w).freeIdx = s.freeIdx := rfl
@[simp] theorem setReg_evs (s : State) (i : Nat) (w : Word) : (setReg s i w).evs = s.evs := rfl

/-! The update wr. -/

@[simp] theorem wr_now (s : State) (f : Fld) (v : Nat) : (wr s f v).now = s.now := rfl
@[simp] theorem wr_modes (s : State) (f : Fld) (v : Nat) : (wr s f v).modes = s.modes := rfl
@[simp] theorem wr_pbook (s : State) (f : Fld) (v : Nat) : (wr s f v).pbook = s.pbook := rfl
@[simp] theorem wr_store (s : State) (f : Fld) (v : Nat) : (wr s f v).store = s.store := rfl
@[simp] theorem wr_cipher (s : State) (f : Fld) (v : Nat) : (wr s f v).cipher = s.cipher := rfl
@[simp] theorem wr_dram (s : State) (f : Fld) (v : Nat) : (wr s f v).dram = s.dram := rfl
@[simp] theorem wr_flash (s : State) (f : Fld) (v : Nat) : (wr s f v).flash = s.flash := rfl
@[simp] theorem wr_ledger (s : State) (f : Fld) (v : Nat) : (wr s f v).ledger = s.ledger := rfl
@[simp] theorem wr_saves (s : State) (f : Fld) (v : Nat) : (wr s f v).saves = s.saves := rfl
@[simp] theorem wr_saveDev (s : State) (f : Fld) (v : Nat) : (wr s f v).saveDev = s.saveDev := rfl
@[simp] theorem wr_restore (s : State) (f : Fld) (v : Nat) : (wr s f v).restore = s.restore := rfl
@[simp] theorem wr_heat (s : State) (f : Fld) (v : Nat) : (wr s f v).heat = s.heat := rfl
@[simp] theorem wr_cxl (s : State) (f : Fld) (v : Nat) : (wr s f v).cxl = s.cxl := rfl
@[simp] theorem wr_gauge (s : State) (f : Fld) (v : Nat) : (wr s f v).gauge = s.gauge := rfl
@[simp] theorem wr_power (s : State) (f : Fld) (v : Nat) : (wr s f v).power = s.power := rfl
@[simp] theorem wr_link (s : State) (f : Fld) (v : Nat) : (wr s f v).link = s.link := rfl
@[simp] theorem wr_image (s : State) (f : Fld) (v : Nat) : (wr s f v).image = s.image := rfl
@[simp] theorem wr_fw (s : State) (f : Fld) (v : Nat) : (wr s f v).fw = s.fw := rfl
@[simp] theorem wr_side (s : State) (f : Fld) (v : Nat) : (wr s f v).side = s.side := rfl
@[simp] theorem wr_pack (s : State) (f : Fld) (v : Nat) : (wr s f v).pack = s.pack := rfl
@[simp] theorem wr_pmonAt (s : State) (f : Fld) (v : Nat) : (wr s f v).pmonAt = s.pmonAt := rfl
@[simp] theorem wr_pmonLevels (s : State) (f : Fld) (v : Nat) : (wr s f v).pmonLevels = s.pmonLevels := rfl
@[simp] theorem wr_timers (s : State) (f : Fld) (v : Nat) : (wr s f v).timers = s.timers := rfl
@[simp] theorem wr_pending (s : State) (f : Fld) (v : Nat) : (wr s f v).pending = s.pending := rfl
@[simp] theorem wr_out (s : State) (f : Fld) (v : Nat) : (wr s f v).out = s.out := rfl
@[simp] theorem wr_freeIdx (s : State) (f : Fld) (v : Nat) : (wr s f v).freeIdx = s.freeIdx := rfl
@[simp] theorem wr_evs (s : State) (f : Fld) (v : Nat) : (wr s f v).evs = s.evs := rfl

/-! The update incSat. -/

@[simp] theorem incSat_now (s : State) (f : Fld) (v : Nat) : (incSat s f v).now = s.now := rfl
@[simp] theorem incSat_modes (s : State) (f : Fld) (v : Nat) : (incSat s f v).modes = s.modes := rfl
@[simp] theorem incSat_pbook (s : State) (f : Fld) (v : Nat) : (incSat s f v).pbook = s.pbook := rfl
@[simp] theorem incSat_store (s : State) (f : Fld) (v : Nat) : (incSat s f v).store = s.store := rfl
@[simp] theorem incSat_cipher (s : State) (f : Fld) (v : Nat) : (incSat s f v).cipher = s.cipher := rfl
@[simp] theorem incSat_dram (s : State) (f : Fld) (v : Nat) : (incSat s f v).dram = s.dram := rfl
@[simp] theorem incSat_flash (s : State) (f : Fld) (v : Nat) : (incSat s f v).flash = s.flash := rfl
@[simp] theorem incSat_ledger (s : State) (f : Fld) (v : Nat) : (incSat s f v).ledger = s.ledger := rfl
@[simp] theorem incSat_saves (s : State) (f : Fld) (v : Nat) : (incSat s f v).saves = s.saves := rfl
@[simp] theorem incSat_saveDev (s : State) (f : Fld) (v : Nat) : (incSat s f v).saveDev = s.saveDev := rfl
@[simp] theorem incSat_restore (s : State) (f : Fld) (v : Nat) : (incSat s f v).restore = s.restore := rfl
@[simp] theorem incSat_heat (s : State) (f : Fld) (v : Nat) : (incSat s f v).heat = s.heat := rfl
@[simp] theorem incSat_cxl (s : State) (f : Fld) (v : Nat) : (incSat s f v).cxl = s.cxl := rfl
@[simp] theorem incSat_gauge (s : State) (f : Fld) (v : Nat) : (incSat s f v).gauge = s.gauge := rfl
@[simp] theorem incSat_power (s : State) (f : Fld) (v : Nat) : (incSat s f v).power = s.power := rfl
@[simp] theorem incSat_link (s : State) (f : Fld) (v : Nat) : (incSat s f v).link = s.link := rfl
@[simp] theorem incSat_image (s : State) (f : Fld) (v : Nat) : (incSat s f v).image = s.image := rfl
@[simp] theorem incSat_fw (s : State) (f : Fld) (v : Nat) : (incSat s f v).fw = s.fw := rfl
@[simp] theorem incSat_side (s : State) (f : Fld) (v : Nat) : (incSat s f v).side = s.side := rfl
@[simp] theorem incSat_pack (s : State) (f : Fld) (v : Nat) : (incSat s f v).pack = s.pack := rfl
@[simp] theorem incSat_pmonAt (s : State) (f : Fld) (v : Nat) : (incSat s f v).pmonAt = s.pmonAt := rfl
@[simp] theorem incSat_pmonLevels (s : State) (f : Fld) (v : Nat) : (incSat s f v).pmonLevels = s.pmonLevels := rfl
@[simp] theorem incSat_timers (s : State) (f : Fld) (v : Nat) : (incSat s f v).timers = s.timers := rfl
@[simp] theorem incSat_pending (s : State) (f : Fld) (v : Nat) : (incSat s f v).pending = s.pending := rfl
@[simp] theorem incSat_out (s : State) (f : Fld) (v : Nat) : (incSat s f v).out = s.out := rfl
@[simp] theorem incSat_freeIdx (s : State) (f : Fld) (v : Nat) : (incSat s f v).freeIdx = s.freeIdx := rfl
@[simp] theorem incSat_evs (s : State) (f : Fld) (v : Nat) : (incSat s f v).evs = s.evs := rfl

/-! The update incWrap. -/

@[simp] theorem incWrap_now (s : State) (f : Fld) (v : Nat) : (incWrap s f v).now = s.now := rfl
@[simp] theorem incWrap_modes (s : State) (f : Fld) (v : Nat) : (incWrap s f v).modes = s.modes := rfl
@[simp] theorem incWrap_pbook (s : State) (f : Fld) (v : Nat) : (incWrap s f v).pbook = s.pbook := rfl
@[simp] theorem incWrap_store (s : State) (f : Fld) (v : Nat) : (incWrap s f v).store = s.store := rfl
@[simp] theorem incWrap_cipher (s : State) (f : Fld) (v : Nat) : (incWrap s f v).cipher = s.cipher := rfl
@[simp] theorem incWrap_dram (s : State) (f : Fld) (v : Nat) : (incWrap s f v).dram = s.dram := rfl
@[simp] theorem incWrap_flash (s : State) (f : Fld) (v : Nat) : (incWrap s f v).flash = s.flash := rfl
@[simp] theorem incWrap_ledger (s : State) (f : Fld) (v : Nat) : (incWrap s f v).ledger = s.ledger := rfl
@[simp] theorem incWrap_saves (s : State) (f : Fld) (v : Nat) : (incWrap s f v).saves = s.saves := rfl
@[simp] theorem incWrap_saveDev (s : State) (f : Fld) (v : Nat) : (incWrap s f v).saveDev = s.saveDev := rfl
@[simp] theorem incWrap_restore (s : State) (f : Fld) (v : Nat) : (incWrap s f v).restore = s.restore := rfl
@[simp] theorem incWrap_heat (s : State) (f : Fld) (v : Nat) : (incWrap s f v).heat = s.heat := rfl
@[simp] theorem incWrap_cxl (s : State) (f : Fld) (v : Nat) : (incWrap s f v).cxl = s.cxl := rfl
@[simp] theorem incWrap_gauge (s : State) (f : Fld) (v : Nat) : (incWrap s f v).gauge = s.gauge := rfl
@[simp] theorem incWrap_power (s : State) (f : Fld) (v : Nat) : (incWrap s f v).power = s.power := rfl
@[simp] theorem incWrap_link (s : State) (f : Fld) (v : Nat) : (incWrap s f v).link = s.link := rfl
@[simp] theorem incWrap_image (s : State) (f : Fld) (v : Nat) : (incWrap s f v).image = s.image := rfl
@[simp] theorem incWrap_fw (s : State) (f : Fld) (v : Nat) : (incWrap s f v).fw = s.fw := rfl
@[simp] theorem incWrap_side (s : State) (f : Fld) (v : Nat) : (incWrap s f v).side = s.side := rfl
@[simp] theorem incWrap_pack (s : State) (f : Fld) (v : Nat) : (incWrap s f v).pack = s.pack := rfl
@[simp] theorem incWrap_pmonAt (s : State) (f : Fld) (v : Nat) : (incWrap s f v).pmonAt = s.pmonAt := rfl
@[simp] theorem incWrap_pmonLevels (s : State) (f : Fld) (v : Nat) : (incWrap s f v).pmonLevels = s.pmonLevels := rfl
@[simp] theorem incWrap_timers (s : State) (f : Fld) (v : Nat) : (incWrap s f v).timers = s.timers := rfl
@[simp] theorem incWrap_pending (s : State) (f : Fld) (v : Nat) : (incWrap s f v).pending = s.pending := rfl
@[simp] theorem incWrap_out (s : State) (f : Fld) (v : Nat) : (incWrap s f v).out = s.out := rfl
@[simp] theorem incWrap_freeIdx (s : State) (f : Fld) (v : Nat) : (incWrap s f v).freeIdx = s.freeIdx := rfl
@[simp] theorem incWrap_evs (s : State) (f : Fld) (v : Nat) : (incWrap s f v).evs = s.evs := rfl

/-! The update until_. -/

@[simp] theorem until_now (s : State) (t : Nat) : (until_ s t).now = max s.now t := rfl
@[simp] theorem until_regs (s : State) (t : Nat) : (until_ s t).regs = s.regs := rfl
@[simp] theorem until_modes (s : State) (t : Nat) : (until_ s t).modes = s.modes := rfl
@[simp] theorem until_pbook (s : State) (t : Nat) : (until_ s t).pbook = s.pbook := rfl
@[simp] theorem until_store (s : State) (t : Nat) : (until_ s t).store = s.store := rfl
@[simp] theorem until_cipher (s : State) (t : Nat) : (until_ s t).cipher = s.cipher := rfl
@[simp] theorem until_dram (s : State) (t : Nat) : (until_ s t).dram = s.dram := rfl
@[simp] theorem until_flash (s : State) (t : Nat) : (until_ s t).flash = s.flash := rfl
@[simp] theorem until_ledger (s : State) (t : Nat) : (until_ s t).ledger = s.ledger := rfl
@[simp] theorem until_saves (s : State) (t : Nat) : (until_ s t).saves = s.saves := rfl
@[simp] theorem until_saveDev (s : State) (t : Nat) : (until_ s t).saveDev = s.saveDev := rfl
@[simp] theorem until_restore (s : State) (t : Nat) : (until_ s t).restore = s.restore := rfl
@[simp] theorem until_heat (s : State) (t : Nat) : (until_ s t).heat = s.heat := rfl
@[simp] theorem until_cxl (s : State) (t : Nat) : (until_ s t).cxl = s.cxl := rfl
@[simp] theorem until_gauge (s : State) (t : Nat) : (until_ s t).gauge = s.gauge := rfl
@[simp] theorem until_power (s : State) (t : Nat) : (until_ s t).power = s.power := rfl
@[simp] theorem until_link (s : State) (t : Nat) : (until_ s t).link = s.link := rfl
@[simp] theorem until_image (s : State) (t : Nat) : (until_ s t).image = s.image := rfl
@[simp] theorem until_fw (s : State) (t : Nat) : (until_ s t).fw = s.fw := rfl
@[simp] theorem until_side (s : State) (t : Nat) : (until_ s t).side = s.side := rfl
@[simp] theorem until_pack (s : State) (t : Nat) : (until_ s t).pack = s.pack := rfl
@[simp] theorem until_pmonAt (s : State) (t : Nat) : (until_ s t).pmonAt = s.pmonAt := rfl
@[simp] theorem until_pmonLevels (s : State) (t : Nat) : (until_ s t).pmonLevels = s.pmonLevels := rfl
@[simp] theorem until_timers (s : State) (t : Nat) : (until_ s t).timers = s.timers := rfl
@[simp] theorem until_pending (s : State) (t : Nat) : (until_ s t).pending = s.pending := rfl
@[simp] theorem until_out (s : State) (t : Nat) : (until_ s t).out = s.out := rfl
@[simp] theorem until_freeIdx (s : State) (t : Nat) : (until_ s t).freeIdx = s.freeIdx := rfl
@[simp] theorem until_evs (s : State) (t : Nat) : (until_ s t).evs = s.evs := rfl

/-! The update untilTick. -/

@[simp] theorem untilTick_now (s : State) (k : Nat) : (untilTick s k).now = max s.now (k * unitsPerTick) := rfl
@[simp] theorem untilTick_regs (s : State) (k : Nat) : (untilTick s k).regs = s.regs := rfl
@[simp] theorem untilTick_modes (s : State) (k : Nat) : (untilTick s k).modes = s.modes := rfl
@[simp] theorem untilTick_pbook (s : State) (k : Nat) : (untilTick s k).pbook = s.pbook := rfl
@[simp] theorem untilTick_store (s : State) (k : Nat) : (untilTick s k).store = s.store := rfl
@[simp] theorem untilTick_cipher (s : State) (k : Nat) : (untilTick s k).cipher = s.cipher := rfl
@[simp] theorem untilTick_dram (s : State) (k : Nat) : (untilTick s k).dram = s.dram := rfl
@[simp] theorem untilTick_flash (s : State) (k : Nat) : (untilTick s k).flash = s.flash := rfl
@[simp] theorem untilTick_ledger (s : State) (k : Nat) : (untilTick s k).ledger = s.ledger := rfl
@[simp] theorem untilTick_saves (s : State) (k : Nat) : (untilTick s k).saves = s.saves := rfl
@[simp] theorem untilTick_saveDev (s : State) (k : Nat) : (untilTick s k).saveDev = s.saveDev := rfl
@[simp] theorem untilTick_restore (s : State) (k : Nat) : (untilTick s k).restore = s.restore := rfl
@[simp] theorem untilTick_heat (s : State) (k : Nat) : (untilTick s k).heat = s.heat := rfl
@[simp] theorem untilTick_cxl (s : State) (k : Nat) : (untilTick s k).cxl = s.cxl := rfl
@[simp] theorem untilTick_gauge (s : State) (k : Nat) : (untilTick s k).gauge = s.gauge := rfl
@[simp] theorem untilTick_power (s : State) (k : Nat) : (untilTick s k).power = s.power := rfl
@[simp] theorem untilTick_link (s : State) (k : Nat) : (untilTick s k).link = s.link := rfl
@[simp] theorem untilTick_image (s : State) (k : Nat) : (untilTick s k).image = s.image := rfl
@[simp] theorem untilTick_fw (s : State) (k : Nat) : (untilTick s k).fw = s.fw := rfl
@[simp] theorem untilTick_side (s : State) (k : Nat) : (untilTick s k).side = s.side := rfl
@[simp] theorem untilTick_pack (s : State) (k : Nat) : (untilTick s k).pack = s.pack := rfl
@[simp] theorem untilTick_pmonAt (s : State) (k : Nat) : (untilTick s k).pmonAt = s.pmonAt := rfl
@[simp] theorem untilTick_pmonLevels (s : State) (k : Nat) : (untilTick s k).pmonLevels = s.pmonLevels := rfl
@[simp] theorem untilTick_timers (s : State) (k : Nat) : (untilTick s k).timers = s.timers := rfl
@[simp] theorem untilTick_pending (s : State) (k : Nat) : (untilTick s k).pending = s.pending := rfl
@[simp] theorem untilTick_out (s : State) (k : Nat) : (untilTick s k).out = s.out := rfl
@[simp] theorem untilTick_freeIdx (s : State) (k : Nat) : (untilTick s k).freeIdx = s.freeIdx := rfl
@[simp] theorem untilTick_evs (s : State) (k : Nat) : (untilTick s k).evs = s.evs := rfl

/-! The update setKey. -/

@[simp] theorem setKey_now (s : State) (h : Nat) (k : BitVec 256) : (setKey s h k).now = s.now := rfl
@[simp] theorem setKey_regs (s : State) (h : Nat) (k : BitVec 256) : (setKey s h k).regs = s.regs := rfl
@[simp] theorem setKey_modes (s : State) (h : Nat) (k : BitVec 256) : (setKey s h k).modes = s.modes := rfl
@[simp] theorem setKey_pbook (s : State) (h : Nat) (k : BitVec 256) : (setKey s h k).pbook = s.pbook := rfl
@[simp] theorem setKey_store (s : State) (h : Nat) (k : BitVec 256) : (setKey s h k).store = s.store := rfl
@[simp] theorem setKey_dram (s : State) (h : Nat) (k : BitVec 256) : (setKey s h k).dram = s.dram := rfl
@[simp] theorem setKey_flash (s : State) (h : Nat) (k : BitVec 256) : (setKey s h k).flash = s.flash := rfl
@[simp] theorem setKey_ledger (s : State) (h : Nat) (k : BitVec 256) : (setKey s h k).ledger = s.ledger := rfl
@[simp] theorem setKey_saves (s : State) (h : Nat) (k : BitVec 256) : (setKey s h k).saves = s.saves := rfl
@[simp] theorem setKey_saveDev (s : State) (h : Nat) (k : BitVec 256) : (setKey s h k).saveDev = s.saveDev := rfl
@[simp] theorem setKey_restore (s : State) (h : Nat) (k : BitVec 256) : (setKey s h k).restore = s.restore := rfl
@[simp] theorem setKey_heat (s : State) (h : Nat) (k : BitVec 256) : (setKey s h k).heat = s.heat := rfl
@[simp] theorem setKey_cxl (s : State) (h : Nat) (k : BitVec 256) : (setKey s h k).cxl = s.cxl := rfl
@[simp] theorem setKey_gauge (s : State) (h : Nat) (k : BitVec 256) : (setKey s h k).gauge = s.gauge := rfl
@[simp] theorem setKey_power (s : State) (h : Nat) (k : BitVec 256) : (setKey s h k).power = s.power := rfl
@[simp] theorem setKey_link (s : State) (h : Nat) (k : BitVec 256) : (setKey s h k).link = s.link := rfl
@[simp] theorem setKey_image (s : State) (h : Nat) (k : BitVec 256) : (setKey s h k).image = s.image := rfl
@[simp] theorem setKey_fw (s : State) (h : Nat) (k : BitVec 256) : (setKey s h k).fw = s.fw := rfl
@[simp] theorem setKey_side (s : State) (h : Nat) (k : BitVec 256) : (setKey s h k).side = s.side := rfl
@[simp] theorem setKey_pack (s : State) (h : Nat) (k : BitVec 256) : (setKey s h k).pack = s.pack := rfl
@[simp] theorem setKey_pmonAt (s : State) (h : Nat) (k : BitVec 256) : (setKey s h k).pmonAt = s.pmonAt := rfl
@[simp] theorem setKey_pmonLevels (s : State) (h : Nat) (k : BitVec 256) : (setKey s h k).pmonLevels = s.pmonLevels := rfl
@[simp] theorem setKey_timers (s : State) (h : Nat) (k : BitVec 256) : (setKey s h k).timers = s.timers := rfl
@[simp] theorem setKey_pending (s : State) (h : Nat) (k : BitVec 256) : (setKey s h k).pending = s.pending := rfl
@[simp] theorem setKey_out (s : State) (h : Nat) (k : BitVec 256) : (setKey s h k).out = s.out := rfl
@[simp] theorem setKey_freeIdx (s : State) (h : Nat) (k : BitVec 256) : (setKey s h k).freeIdx = s.freeIdx := rfl
@[simp] theorem setKey_evs (s : State) (h : Nat) (k : BitVec 256) : (setKey s h k).evs = s.evs := rfl

/-! The update clearKey. -/

@[simp] theorem clearKey_now (s : State) (h : Nat) : (clearKey s h).now = s.now := rfl
@[simp] theorem clearKey_regs (s : State) (h : Nat) : (clearKey s h).regs = s.regs := rfl
@[simp] theorem clearKey_modes (s : State) (h : Nat) : (clearKey s h).modes = s.modes := rfl
@[simp] theorem clearKey_pbook (s : State) (h : Nat) : (clearKey s h).pbook = s.pbook := rfl
@[simp] theorem clearKey_store (s : State) (h : Nat) : (clearKey s h).store = s.store := rfl
@[simp] theorem clearKey_dram (s : State) (h : Nat) : (clearKey s h).dram = s.dram := rfl
@[simp] theorem clearKey_flash (s : State) (h : Nat) : (clearKey s h).flash = s.flash := rfl
@[simp] theorem clearKey_ledger (s : State) (h : Nat) : (clearKey s h).ledger = s.ledger := rfl
@[simp] theorem clearKey_saves (s : State) (h : Nat) : (clearKey s h).saves = s.saves := rfl
@[simp] theorem clearKey_saveDev (s : State) (h : Nat) : (clearKey s h).saveDev = s.saveDev := rfl
@[simp] theorem clearKey_restore (s : State) (h : Nat) : (clearKey s h).restore = s.restore := rfl
@[simp] theorem clearKey_heat (s : State) (h : Nat) : (clearKey s h).heat = s.heat := rfl
@[simp] theorem clearKey_cxl (s : State) (h : Nat) : (clearKey s h).cxl = s.cxl := rfl
@[simp] theorem clearKey_gauge (s : State) (h : Nat) : (clearKey s h).gauge = s.gauge := rfl
@[simp] theorem clearKey_power (s : State) (h : Nat) : (clearKey s h).power = s.power := rfl
@[simp] theorem clearKey_link (s : State) (h : Nat) : (clearKey s h).link = s.link := rfl
@[simp] theorem clearKey_image (s : State) (h : Nat) : (clearKey s h).image = s.image := rfl
@[simp] theorem clearKey_fw (s : State) (h : Nat) : (clearKey s h).fw = s.fw := rfl
@[simp] theorem clearKey_side (s : State) (h : Nat) : (clearKey s h).side = s.side := rfl
@[simp] theorem clearKey_pack (s : State) (h : Nat) : (clearKey s h).pack = s.pack := rfl
@[simp] theorem clearKey_pmonAt (s : State) (h : Nat) : (clearKey s h).pmonAt = s.pmonAt := rfl
@[simp] theorem clearKey_pmonLevels (s : State) (h : Nat) : (clearKey s h).pmonLevels = s.pmonLevels := rfl
@[simp] theorem clearKey_timers (s : State) (h : Nat) : (clearKey s h).timers = s.timers := rfl
@[simp] theorem clearKey_pending (s : State) (h : Nat) : (clearKey s h).pending = s.pending := rfl
@[simp] theorem clearKey_out (s : State) (h : Nat) : (clearKey s h).out = s.out := rfl
@[simp] theorem clearKey_freeIdx (s : State) (h : Nat) : (clearKey s h).freeIdx = s.freeIdx := rfl
@[simp] theorem clearKey_evs (s : State) (h : Nat) : (clearKey s h).evs = s.evs := rfl

/-! The update setCtxSlot. -/

@[simp] theorem setCtxSlot_now (s : State) (k : Nat) (c : CtxSlot) : (setCtxSlot s k c).now = s.now := rfl
@[simp] theorem setCtxSlot_regs (s : State) (k : Nat) (c : CtxSlot) : (setCtxSlot s k c).regs = s.regs := rfl
@[simp] theorem setCtxSlot_modes (s : State) (k : Nat) (c : CtxSlot) : (setCtxSlot s k c).modes = s.modes := rfl
@[simp] theorem setCtxSlot_pbook (s : State) (k : Nat) (c : CtxSlot) : (setCtxSlot s k c).pbook = s.pbook := rfl
@[simp] theorem setCtxSlot_store (s : State) (k : Nat) (c : CtxSlot) : (setCtxSlot s k c).store = s.store := rfl
@[simp] theorem setCtxSlot_dram (s : State) (k : Nat) (c : CtxSlot) : (setCtxSlot s k c).dram = s.dram := rfl
@[simp] theorem setCtxSlot_flash (s : State) (k : Nat) (c : CtxSlot) : (setCtxSlot s k c).flash = s.flash := rfl
@[simp] theorem setCtxSlot_ledger (s : State) (k : Nat) (c : CtxSlot) : (setCtxSlot s k c).ledger = s.ledger := rfl
@[simp] theorem setCtxSlot_saves (s : State) (k : Nat) (c : CtxSlot) : (setCtxSlot s k c).saves = s.saves := rfl
@[simp] theorem setCtxSlot_saveDev (s : State) (k : Nat) (c : CtxSlot) : (setCtxSlot s k c).saveDev = s.saveDev := rfl
@[simp] theorem setCtxSlot_restore (s : State) (k : Nat) (c : CtxSlot) : (setCtxSlot s k c).restore = s.restore := rfl
@[simp] theorem setCtxSlot_heat (s : State) (k : Nat) (c : CtxSlot) : (setCtxSlot s k c).heat = s.heat := rfl
@[simp] theorem setCtxSlot_cxl (s : State) (k : Nat) (c : CtxSlot) : (setCtxSlot s k c).cxl = s.cxl := rfl
@[simp] theorem setCtxSlot_gauge (s : State) (k : Nat) (c : CtxSlot) : (setCtxSlot s k c).gauge = s.gauge := rfl
@[simp] theorem setCtxSlot_power (s : State) (k : Nat) (c : CtxSlot) : (setCtxSlot s k c).power = s.power := rfl
@[simp] theorem setCtxSlot_link (s : State) (k : Nat) (c : CtxSlot) : (setCtxSlot s k c).link = s.link := rfl
@[simp] theorem setCtxSlot_image (s : State) (k : Nat) (c : CtxSlot) : (setCtxSlot s k c).image = s.image := rfl
@[simp] theorem setCtxSlot_fw (s : State) (k : Nat) (c : CtxSlot) : (setCtxSlot s k c).fw = s.fw := rfl
@[simp] theorem setCtxSlot_side (s : State) (k : Nat) (c : CtxSlot) : (setCtxSlot s k c).side = s.side := rfl
@[simp] theorem setCtxSlot_pack (s : State) (k : Nat) (c : CtxSlot) : (setCtxSlot s k c).pack = s.pack := rfl
@[simp] theorem setCtxSlot_pmonAt (s : State) (k : Nat) (c : CtxSlot) : (setCtxSlot s k c).pmonAt = s.pmonAt := rfl
@[simp] theorem setCtxSlot_pmonLevels (s : State) (k : Nat) (c : CtxSlot) : (setCtxSlot s k c).pmonLevels = s.pmonLevels := rfl
@[simp] theorem setCtxSlot_timers (s : State) (k : Nat) (c : CtxSlot) : (setCtxSlot s k c).timers = s.timers := rfl
@[simp] theorem setCtxSlot_pending (s : State) (k : Nat) (c : CtxSlot) : (setCtxSlot s k c).pending = s.pending := rfl
@[simp] theorem setCtxSlot_out (s : State) (k : Nat) (c : CtxSlot) : (setCtxSlot s k c).out = s.out := rfl
@[simp] theorem setCtxSlot_freeIdx (s : State) (k : Nat) (c : CtxSlot) : (setCtxSlot s k c).freeIdx = s.freeIdx := rfl
@[simp] theorem setCtxSlot_evs (s : State) (k : Nat) (c : CtxSlot) : (setCtxSlot s k c).evs = s.evs := rfl

/-! The update setLdLog. -/

@[simp] theorem setLdLog_now (s : State) (key k : Nat) (l : CxlLog) : (setLdLog s key k l).now = s.now := rfl
@[simp] theorem setLdLog_regs (s : State) (key k : Nat) (l : CxlLog) : (setLdLog s key k l).regs = s.regs := rfl
@[simp] theorem setLdLog_modes (s : State) (key k : Nat) (l : CxlLog) : (setLdLog s key k l).modes = s.modes := rfl
@[simp] theorem setLdLog_pbook (s : State) (key k : Nat) (l : CxlLog) : (setLdLog s key k l).pbook = s.pbook := rfl
@[simp] theorem setLdLog_store (s : State) (key k : Nat) (l : CxlLog) : (setLdLog s key k l).store = s.store := rfl
@[simp] theorem setLdLog_cipher (s : State) (key k : Nat) (l : CxlLog) : (setLdLog s key k l).cipher = s.cipher := rfl
@[simp] theorem setLdLog_dram (s : State) (key k : Nat) (l : CxlLog) : (setLdLog s key k l).dram = s.dram := rfl
@[simp] theorem setLdLog_flash (s : State) (key k : Nat) (l : CxlLog) : (setLdLog s key k l).flash = s.flash := rfl
@[simp] theorem setLdLog_ledger (s : State) (key k : Nat) (l : CxlLog) : (setLdLog s key k l).ledger = s.ledger := rfl
@[simp] theorem setLdLog_saves (s : State) (key k : Nat) (l : CxlLog) : (setLdLog s key k l).saves = s.saves := rfl
@[simp] theorem setLdLog_saveDev (s : State) (key k : Nat) (l : CxlLog) : (setLdLog s key k l).saveDev = s.saveDev := rfl
@[simp] theorem setLdLog_restore (s : State) (key k : Nat) (l : CxlLog) : (setLdLog s key k l).restore = s.restore := rfl
@[simp] theorem setLdLog_heat (s : State) (key k : Nat) (l : CxlLog) : (setLdLog s key k l).heat = s.heat := rfl
@[simp] theorem setLdLog_gauge (s : State) (key k : Nat) (l : CxlLog) : (setLdLog s key k l).gauge = s.gauge := rfl
@[simp] theorem setLdLog_power (s : State) (key k : Nat) (l : CxlLog) : (setLdLog s key k l).power = s.power := rfl
@[simp] theorem setLdLog_link (s : State) (key k : Nat) (l : CxlLog) : (setLdLog s key k l).link = s.link := rfl
@[simp] theorem setLdLog_image (s : State) (key k : Nat) (l : CxlLog) : (setLdLog s key k l).image = s.image := rfl
@[simp] theorem setLdLog_fw (s : State) (key k : Nat) (l : CxlLog) : (setLdLog s key k l).fw = s.fw := rfl
@[simp] theorem setLdLog_side (s : State) (key k : Nat) (l : CxlLog) : (setLdLog s key k l).side = s.side := rfl
@[simp] theorem setLdLog_pack (s : State) (key k : Nat) (l : CxlLog) : (setLdLog s key k l).pack = s.pack := rfl
@[simp] theorem setLdLog_pmonAt (s : State) (key k : Nat) (l : CxlLog) : (setLdLog s key k l).pmonAt = s.pmonAt := rfl
@[simp] theorem setLdLog_pmonLevels (s : State) (key k : Nat) (l : CxlLog) : (setLdLog s key k l).pmonLevels = s.pmonLevels := rfl
@[simp] theorem setLdLog_timers (s : State) (key k : Nat) (l : CxlLog) : (setLdLog s key k l).timers = s.timers := rfl
@[simp] theorem setLdLog_pending (s : State) (key k : Nat) (l : CxlLog) : (setLdLog s key k l).pending = s.pending := rfl
@[simp] theorem setLdLog_out (s : State) (key k : Nat) (l : CxlLog) : (setLdLog s key k l).out = s.out := rfl
@[simp] theorem setLdLog_freeIdx (s : State) (key k : Nat) (l : CxlLog) : (setLdLog s key k l).freeIdx = s.freeIdx := rfl
@[simp] theorem setLdLog_evs (s : State) (key k : Nat) (l : CxlLog) : (setLdLog s key k l).evs = s.evs := rfl

/-! The update setFset. -/

@[simp] theorem setFset_now (s : State) (n : Stage) (x : StageFlash) : (setFset s n x).now = s.now := rfl
@[simp] theorem setFset_regs (s : State) (n : Stage) (x : StageFlash) : (setFset s n x).regs = s.regs := rfl
@[simp] theorem setFset_modes (s : State) (n : Stage) (x : StageFlash) : (setFset s n x).modes = s.modes := rfl
@[simp] theorem setFset_pbook (s : State) (n : Stage) (x : StageFlash) : (setFset s n x).pbook = s.pbook := rfl
@[simp] theorem setFset_store (s : State) (n : Stage) (x : StageFlash) : (setFset s n x).store = s.store := rfl
@[simp] theorem setFset_cipher (s : State) (n : Stage) (x : StageFlash) : (setFset s n x).cipher = s.cipher := rfl
@[simp] theorem setFset_dram (s : State) (n : Stage) (x : StageFlash) : (setFset s n x).dram = s.dram := rfl
@[simp] theorem setFset_ledger (s : State) (n : Stage) (x : StageFlash) : (setFset s n x).ledger = s.ledger := rfl
@[simp] theorem setFset_saves (s : State) (n : Stage) (x : StageFlash) : (setFset s n x).saves = s.saves := rfl
@[simp] theorem setFset_saveDev (s : State) (n : Stage) (x : StageFlash) : (setFset s n x).saveDev = s.saveDev := rfl
@[simp] theorem setFset_restore (s : State) (n : Stage) (x : StageFlash) : (setFset s n x).restore = s.restore := rfl
@[simp] theorem setFset_heat (s : State) (n : Stage) (x : StageFlash) : (setFset s n x).heat = s.heat := rfl
@[simp] theorem setFset_cxl (s : State) (n : Stage) (x : StageFlash) : (setFset s n x).cxl = s.cxl := rfl
@[simp] theorem setFset_gauge (s : State) (n : Stage) (x : StageFlash) : (setFset s n x).gauge = s.gauge := rfl
@[simp] theorem setFset_power (s : State) (n : Stage) (x : StageFlash) : (setFset s n x).power = s.power := rfl
@[simp] theorem setFset_link (s : State) (n : Stage) (x : StageFlash) : (setFset s n x).link = s.link := rfl
@[simp] theorem setFset_image (s : State) (n : Stage) (x : StageFlash) : (setFset s n x).image = s.image := rfl
@[simp] theorem setFset_fw (s : State) (n : Stage) (x : StageFlash) : (setFset s n x).fw = s.fw := rfl
@[simp] theorem setFset_side (s : State) (n : Stage) (x : StageFlash) : (setFset s n x).side = s.side := rfl
@[simp] theorem setFset_pack (s : State) (n : Stage) (x : StageFlash) : (setFset s n x).pack = s.pack := rfl
@[simp] theorem setFset_pmonAt (s : State) (n : Stage) (x : StageFlash) : (setFset s n x).pmonAt = s.pmonAt := rfl
@[simp] theorem setFset_pmonLevels (s : State) (n : Stage) (x : StageFlash) : (setFset s n x).pmonLevels = s.pmonLevels := rfl
@[simp] theorem setFset_timers (s : State) (n : Stage) (x : StageFlash) : (setFset s n x).timers = s.timers := rfl
@[simp] theorem setFset_pending (s : State) (n : Stage) (x : StageFlash) : (setFset s n x).pending = s.pending := rfl
@[simp] theorem setFset_out (s : State) (n : Stage) (x : StageFlash) : (setFset s n x).out = s.out := rfl
@[simp] theorem setFset_freeIdx (s : State) (n : Stage) (x : StageFlash) : (setFset s n x).freeIdx = s.freeIdx := rfl
@[simp] theorem setFset_evs (s : State) (n : Stage) (x : StageFlash) : (setFset s n x).evs = s.evs := rfl

/-! The update setFsys. -/

@[simp] theorem setFsys_now (s : State) (n : Stage) (x : StageSys) : (setFsys s n x).now = s.now := rfl
@[simp] theorem setFsys_regs (s : State) (n : Stage) (x : StageSys) : (setFsys s n x).regs = s.regs := rfl
@[simp] theorem setFsys_modes (s : State) (n : Stage) (x : StageSys) : (setFsys s n x).modes = s.modes := rfl
@[simp] theorem setFsys_pbook (s : State) (n : Stage) (x : StageSys) : (setFsys s n x).pbook = s.pbook := rfl
@[simp] theorem setFsys_store (s : State) (n : Stage) (x : StageSys) : (setFsys s n x).store = s.store := rfl
@[simp] theorem setFsys_cipher (s : State) (n : Stage) (x : StageSys) : (setFsys s n x).cipher = s.cipher := rfl
@[simp] theorem setFsys_dram (s : State) (n : Stage) (x : StageSys) : (setFsys s n x).dram = s.dram := rfl
@[simp] theorem setFsys_ledger (s : State) (n : Stage) (x : StageSys) : (setFsys s n x).ledger = s.ledger := rfl
@[simp] theorem setFsys_saves (s : State) (n : Stage) (x : StageSys) : (setFsys s n x).saves = s.saves := rfl
@[simp] theorem setFsys_saveDev (s : State) (n : Stage) (x : StageSys) : (setFsys s n x).saveDev = s.saveDev := rfl
@[simp] theorem setFsys_restore (s : State) (n : Stage) (x : StageSys) : (setFsys s n x).restore = s.restore := rfl
@[simp] theorem setFsys_heat (s : State) (n : Stage) (x : StageSys) : (setFsys s n x).heat = s.heat := rfl
@[simp] theorem setFsys_cxl (s : State) (n : Stage) (x : StageSys) : (setFsys s n x).cxl = s.cxl := rfl
@[simp] theorem setFsys_gauge (s : State) (n : Stage) (x : StageSys) : (setFsys s n x).gauge = s.gauge := rfl
@[simp] theorem setFsys_power (s : State) (n : Stage) (x : StageSys) : (setFsys s n x).power = s.power := rfl
@[simp] theorem setFsys_link (s : State) (n : Stage) (x : StageSys) : (setFsys s n x).link = s.link := rfl
@[simp] theorem setFsys_image (s : State) (n : Stage) (x : StageSys) : (setFsys s n x).image = s.image := rfl
@[simp] theorem setFsys_fw (s : State) (n : Stage) (x : StageSys) : (setFsys s n x).fw = s.fw := rfl
@[simp] theorem setFsys_side (s : State) (n : Stage) (x : StageSys) : (setFsys s n x).side = s.side := rfl
@[simp] theorem setFsys_pack (s : State) (n : Stage) (x : StageSys) : (setFsys s n x).pack = s.pack := rfl
@[simp] theorem setFsys_pmonAt (s : State) (n : Stage) (x : StageSys) : (setFsys s n x).pmonAt = s.pmonAt := rfl
@[simp] theorem setFsys_pmonLevels (s : State) (n : Stage) (x : StageSys) : (setFsys s n x).pmonLevels = s.pmonLevels := rfl
@[simp] theorem setFsys_timers (s : State) (n : Stage) (x : StageSys) : (setFsys s n x).timers = s.timers := rfl
@[simp] theorem setFsys_pending (s : State) (n : Stage) (x : StageSys) : (setFsys s n x).pending = s.pending := rfl
@[simp] theorem setFsys_out (s : State) (n : Stage) (x : StageSys) : (setFsys s n x).out = s.out := rfl
@[simp] theorem setFsys_freeIdx (s : State) (n : Stage) (x : StageSys) : (setFsys s n x).freeIdx = s.freeIdx := rfl
@[simp] theorem setFsys_evs (s : State) (n : Stage) (x : StageSys) : (setFsys s n x).evs = s.evs := rfl

/-! The update setBlock. -/

@[simp] theorem setBlock_now (s : State) (lun b : Nat) (x : Block) : (setBlock s lun b x).now = s.now := rfl
@[simp] theorem setBlock_regs (s : State) (lun b : Nat) (x : Block) : (setBlock s lun b x).regs = s.regs := rfl
@[simp] theorem setBlock_modes (s : State) (lun b : Nat) (x : Block) : (setBlock s lun b x).modes = s.modes := rfl
@[simp] theorem setBlock_pbook (s : State) (lun b : Nat) (x : Block) : (setBlock s lun b x).pbook = s.pbook := rfl
@[simp] theorem setBlock_store (s : State) (lun b : Nat) (x : Block) : (setBlock s lun b x).store = s.store := rfl
@[simp] theorem setBlock_cipher (s : State) (lun b : Nat) (x : Block) : (setBlock s lun b x).cipher = s.cipher := rfl
@[simp] theorem setBlock_dram (s : State) (lun b : Nat) (x : Block) : (setBlock s lun b x).dram = s.dram := rfl
@[simp] theorem setBlock_ledger (s : State) (lun b : Nat) (x : Block) : (setBlock s lun b x).ledger = s.ledger := rfl
@[simp] theorem setBlock_saves (s : State) (lun b : Nat) (x : Block) : (setBlock s lun b x).saves = s.saves := rfl
@[simp] theorem setBlock_saveDev (s : State) (lun b : Nat) (x : Block) : (setBlock s lun b x).saveDev = s.saveDev := rfl
@[simp] theorem setBlock_restore (s : State) (lun b : Nat) (x : Block) : (setBlock s lun b x).restore = s.restore := rfl
@[simp] theorem setBlock_heat (s : State) (lun b : Nat) (x : Block) : (setBlock s lun b x).heat = s.heat := rfl
@[simp] theorem setBlock_cxl (s : State) (lun b : Nat) (x : Block) : (setBlock s lun b x).cxl = s.cxl := rfl
@[simp] theorem setBlock_gauge (s : State) (lun b : Nat) (x : Block) : (setBlock s lun b x).gauge = s.gauge := rfl
@[simp] theorem setBlock_power (s : State) (lun b : Nat) (x : Block) : (setBlock s lun b x).power = s.power := rfl
@[simp] theorem setBlock_link (s : State) (lun b : Nat) (x : Block) : (setBlock s lun b x).link = s.link := rfl
@[simp] theorem setBlock_image (s : State) (lun b : Nat) (x : Block) : (setBlock s lun b x).image = s.image := rfl
@[simp] theorem setBlock_fw (s : State) (lun b : Nat) (x : Block) : (setBlock s lun b x).fw = s.fw := rfl
@[simp] theorem setBlock_side (s : State) (lun b : Nat) (x : Block) : (setBlock s lun b x).side = s.side := rfl
@[simp] theorem setBlock_pack (s : State) (lun b : Nat) (x : Block) : (setBlock s lun b x).pack = s.pack := rfl
@[simp] theorem setBlock_pmonAt (s : State) (lun b : Nat) (x : Block) : (setBlock s lun b x).pmonAt = s.pmonAt := rfl
@[simp] theorem setBlock_pmonLevels (s : State) (lun b : Nat) (x : Block) : (setBlock s lun b x).pmonLevels = s.pmonLevels := rfl
@[simp] theorem setBlock_timers (s : State) (lun b : Nat) (x : Block) : (setBlock s lun b x).timers = s.timers := rfl
@[simp] theorem setBlock_pending (s : State) (lun b : Nat) (x : Block) : (setBlock s lun b x).pending = s.pending := rfl
@[simp] theorem setBlock_out (s : State) (lun b : Nat) (x : Block) : (setBlock s lun b x).out = s.out := rfl
@[simp] theorem setBlock_freeIdx (s : State) (lun b : Nat) (x : Block) : (setBlock s lun b x).freeIdx = s.freeIdx := rfl
@[simp] theorem setBlock_evs (s : State) (lun b : Nat) (x : Block) : (setBlock s lun b x).evs = s.evs := rfl

/-! The update addJob. -/

@[simp] theorem addJob_now (s : State) (n : Stage) (j : Job) : (addJob s n j).now = s.now := rfl
@[simp] theorem addJob_regs (s : State) (n : Stage) (j : Job) : (addJob s n j).regs = s.regs := rfl
@[simp] theorem addJob_modes (s : State) (n : Stage) (j : Job) : (addJob s n j).modes = s.modes := rfl
@[simp] theorem addJob_pbook (s : State) (n : Stage) (j : Job) : (addJob s n j).pbook = s.pbook := rfl
@[simp] theorem addJob_store (s : State) (n : Stage) (j : Job) : (addJob s n j).store = s.store := rfl
@[simp] theorem addJob_cipher (s : State) (n : Stage) (j : Job) : (addJob s n j).cipher = s.cipher := rfl
@[simp] theorem addJob_dram (s : State) (n : Stage) (j : Job) : (addJob s n j).dram = s.dram := rfl
@[simp] theorem addJob_ledger (s : State) (n : Stage) (j : Job) : (addJob s n j).ledger = s.ledger := rfl
@[simp] theorem addJob_saves (s : State) (n : Stage) (j : Job) : (addJob s n j).saves = s.saves := rfl
@[simp] theorem addJob_saveDev (s : State) (n : Stage) (j : Job) : (addJob s n j).saveDev = s.saveDev := rfl
@[simp] theorem addJob_restore (s : State) (n : Stage) (j : Job) : (addJob s n j).restore = s.restore := rfl
@[simp] theorem addJob_heat (s : State) (n : Stage) (j : Job) : (addJob s n j).heat = s.heat := rfl
@[simp] theorem addJob_cxl (s : State) (n : Stage) (j : Job) : (addJob s n j).cxl = s.cxl := rfl
@[simp] theorem addJob_gauge (s : State) (n : Stage) (j : Job) : (addJob s n j).gauge = s.gauge := rfl
@[simp] theorem addJob_power (s : State) (n : Stage) (j : Job) : (addJob s n j).power = s.power := rfl
@[simp] theorem addJob_link (s : State) (n : Stage) (j : Job) : (addJob s n j).link = s.link := rfl
@[simp] theorem addJob_image (s : State) (n : Stage) (j : Job) : (addJob s n j).image = s.image := rfl
@[simp] theorem addJob_fw (s : State) (n : Stage) (j : Job) : (addJob s n j).fw = s.fw := rfl
@[simp] theorem addJob_side (s : State) (n : Stage) (j : Job) : (addJob s n j).side = s.side := rfl
@[simp] theorem addJob_pack (s : State) (n : Stage) (j : Job) : (addJob s n j).pack = s.pack := rfl
@[simp] theorem addJob_pmonAt (s : State) (n : Stage) (j : Job) : (addJob s n j).pmonAt = s.pmonAt := rfl
@[simp] theorem addJob_pmonLevels (s : State) (n : Stage) (j : Job) : (addJob s n j).pmonLevels = s.pmonLevels := rfl
@[simp] theorem addJob_timers (s : State) (n : Stage) (j : Job) : (addJob s n j).timers = s.timers := rfl
@[simp] theorem addJob_pending (s : State) (n : Stage) (j : Job) : (addJob s n j).pending = s.pending := rfl
@[simp] theorem addJob_out (s : State) (n : Stage) (j : Job) : (addJob s n j).out = s.out := rfl
@[simp] theorem addJob_freeIdx (s : State) (n : Stage) (j : Job) : (addJob s n j).freeIdx = s.freeIdx := rfl
@[simp] theorem addJob_evs (s : State) (n : Stage) (j : Job) : (addJob s n j).evs = s.evs := rfl

/-! The update setFch. -/

@[simp] theorem setFch_now (s : State) (c : Nat) (x : FlashChan) : (setFch s c x).now = s.now := rfl
@[simp] theorem setFch_modes (s : State) (c : Nat) (x : FlashChan) : (setFch s c x).modes = s.modes := rfl
@[simp] theorem setFch_pbook (s : State) (c : Nat) (x : FlashChan) : (setFch s c x).pbook = s.pbook := rfl
@[simp] theorem setFch_store (s : State) (c : Nat) (x : FlashChan) : (setFch s c x).store = s.store := rfl
@[simp] theorem setFch_cipher (s : State) (c : Nat) (x : FlashChan) : (setFch s c x).cipher = s.cipher := rfl
@[simp] theorem setFch_dram (s : State) (c : Nat) (x : FlashChan) : (setFch s c x).dram = s.dram := rfl
@[simp] theorem setFch_ledger (s : State) (c : Nat) (x : FlashChan) : (setFch s c x).ledger = s.ledger := rfl
@[simp] theorem setFch_saves (s : State) (c : Nat) (x : FlashChan) : (setFch s c x).saves = s.saves := rfl
@[simp] theorem setFch_saveDev (s : State) (c : Nat) (x : FlashChan) : (setFch s c x).saveDev = s.saveDev := rfl
@[simp] theorem setFch_restore (s : State) (c : Nat) (x : FlashChan) : (setFch s c x).restore = s.restore := rfl
@[simp] theorem setFch_heat (s : State) (c : Nat) (x : FlashChan) : (setFch s c x).heat = s.heat := rfl
@[simp] theorem setFch_cxl (s : State) (c : Nat) (x : FlashChan) : (setFch s c x).cxl = s.cxl := rfl
@[simp] theorem setFch_gauge (s : State) (c : Nat) (x : FlashChan) : (setFch s c x).gauge = s.gauge := rfl
@[simp] theorem setFch_power (s : State) (c : Nat) (x : FlashChan) : (setFch s c x).power = s.power := rfl
@[simp] theorem setFch_link (s : State) (c : Nat) (x : FlashChan) : (setFch s c x).link = s.link := rfl
@[simp] theorem setFch_image (s : State) (c : Nat) (x : FlashChan) : (setFch s c x).image = s.image := rfl
@[simp] theorem setFch_fw (s : State) (c : Nat) (x : FlashChan) : (setFch s c x).fw = s.fw := rfl
@[simp] theorem setFch_side (s : State) (c : Nat) (x : FlashChan) : (setFch s c x).side = s.side := rfl
@[simp] theorem setFch_pack (s : State) (c : Nat) (x : FlashChan) : (setFch s c x).pack = s.pack := rfl
@[simp] theorem setFch_pmonAt (s : State) (c : Nat) (x : FlashChan) : (setFch s c x).pmonAt = s.pmonAt := rfl
@[simp] theorem setFch_pmonLevels (s : State) (c : Nat) (x : FlashChan) : (setFch s c x).pmonLevels = s.pmonLevels := rfl
@[simp] theorem setFch_timers (s : State) (c : Nat) (x : FlashChan) : (setFch s c x).timers = s.timers := rfl
@[simp] theorem setFch_pending (s : State) (c : Nat) (x : FlashChan) : (setFch s c x).pending = s.pending := rfl
@[simp] theorem setFch_out (s : State) (c : Nat) (x : FlashChan) : (setFch s c x).out = s.out := rfl
@[simp] theorem setFch_freeIdx (s : State) (c : Nat) (x : FlashChan) : (setFch s c x).freeIdx = s.freeIdx := rfl
@[simp] theorem setFch_evs (s : State) (c : Nat) (x : FlashChan) : (setFch s c x).evs = s.evs := rfl

/-! The update setLedger. -/

@[simp] theorem setLedger_now (s : State) (n : Stage) (l : LedgerState) : (setLedger s n l).now = s.now := rfl
@[simp] theorem setLedger_regs (s : State) (n : Stage) (l : LedgerState) : (setLedger s n l).regs = s.regs := rfl
@[simp] theorem setLedger_modes (s : State) (n : Stage) (l : LedgerState) : (setLedger s n l).modes = s.modes := rfl
@[simp] theorem setLedger_pbook (s : State) (n : Stage) (l : LedgerState) : (setLedger s n l).pbook = s.pbook := rfl
@[simp] theorem setLedger_store (s : State) (n : Stage) (l : LedgerState) : (setLedger s n l).store = s.store := rfl
@[simp] theorem setLedger_cipher (s : State) (n : Stage) (l : LedgerState) : (setLedger s n l).cipher = s.cipher := rfl
@[simp] theorem setLedger_dram (s : State) (n : Stage) (l : LedgerState) : (setLedger s n l).dram = s.dram := rfl
@[simp] theorem setLedger_flash (s : State) (n : Stage) (l : LedgerState) : (setLedger s n l).flash = s.flash := rfl
@[simp] theorem setLedger_ledger (s : State) (n : Stage) (l : LedgerState) : (setLedger s n l).ledger = qset s.ledger n l := rfl
@[simp] theorem setLedger_saves (s : State) (n : Stage) (l : LedgerState) : (setLedger s n l).saves = s.saves := rfl
@[simp] theorem setLedger_saveDev (s : State) (n : Stage) (l : LedgerState) : (setLedger s n l).saveDev = s.saveDev := rfl
@[simp] theorem setLedger_restore (s : State) (n : Stage) (l : LedgerState) : (setLedger s n l).restore = s.restore := rfl
@[simp] theorem setLedger_heat (s : State) (n : Stage) (l : LedgerState) : (setLedger s n l).heat = s.heat := rfl
@[simp] theorem setLedger_cxl (s : State) (n : Stage) (l : LedgerState) : (setLedger s n l).cxl = s.cxl := rfl
@[simp] theorem setLedger_gauge (s : State) (n : Stage) (l : LedgerState) : (setLedger s n l).gauge = s.gauge := rfl
@[simp] theorem setLedger_power (s : State) (n : Stage) (l : LedgerState) : (setLedger s n l).power = s.power := rfl
@[simp] theorem setLedger_link (s : State) (n : Stage) (l : LedgerState) : (setLedger s n l).link = s.link := rfl
@[simp] theorem setLedger_image (s : State) (n : Stage) (l : LedgerState) : (setLedger s n l).image = s.image := rfl
@[simp] theorem setLedger_fw (s : State) (n : Stage) (l : LedgerState) : (setLedger s n l).fw = s.fw := rfl
@[simp] theorem setLedger_side (s : State) (n : Stage) (l : LedgerState) : (setLedger s n l).side = s.side := rfl
@[simp] theorem setLedger_pack (s : State) (n : Stage) (l : LedgerState) : (setLedger s n l).pack = s.pack := rfl
@[simp] theorem setLedger_pmonAt (s : State) (n : Stage) (l : LedgerState) : (setLedger s n l).pmonAt = s.pmonAt := rfl
@[simp] theorem setLedger_pmonLevels (s : State) (n : Stage) (l : LedgerState) : (setLedger s n l).pmonLevels = s.pmonLevels := rfl
@[simp] theorem setLedger_timers (s : State) (n : Stage) (l : LedgerState) : (setLedger s n l).timers = s.timers := rfl
@[simp] theorem setLedger_pending (s : State) (n : Stage) (l : LedgerState) : (setLedger s n l).pending = s.pending := rfl
@[simp] theorem setLedger_out (s : State) (n : Stage) (l : LedgerState) : (setLedger s n l).out = s.out := rfl
@[simp] theorem setLedger_freeIdx (s : State) (n : Stage) (l : LedgerState) : (setLedger s n l).freeIdx = s.freeIdx := rfl
@[simp] theorem setLedger_evs (s : State) (n : Stage) (l : LedgerState) : (setLedger s n l).evs = s.evs := rfl

/-! The update setRst. -/

@[simp] theorem setRst_now (s : State) (n : Stage) (r : RestoreState) : (setRst s n r).now = s.now := rfl
@[simp] theorem setRst_regs (s : State) (n : Stage) (r : RestoreState) : (setRst s n r).regs = s.regs := rfl
@[simp] theorem setRst_modes (s : State) (n : Stage) (r : RestoreState) : (setRst s n r).modes = s.modes := rfl
@[simp] theorem setRst_pbook (s : State) (n : Stage) (r : RestoreState) : (setRst s n r).pbook = s.pbook := rfl
@[simp] theorem setRst_store (s : State) (n : Stage) (r : RestoreState) : (setRst s n r).store = s.store := rfl
@[simp] theorem setRst_cipher (s : State) (n : Stage) (r : RestoreState) : (setRst s n r).cipher = s.cipher := rfl
@[simp] theorem setRst_dram (s : State) (n : Stage) (r : RestoreState) : (setRst s n r).dram = s.dram := rfl
@[simp] theorem setRst_flash (s : State) (n : Stage) (r : RestoreState) : (setRst s n r).flash = s.flash := rfl
@[simp] theorem setRst_ledger (s : State) (n : Stage) (r : RestoreState) : (setRst s n r).ledger = s.ledger := rfl
@[simp] theorem setRst_saves (s : State) (n : Stage) (r : RestoreState) : (setRst s n r).saves = s.saves := rfl
@[simp] theorem setRst_saveDev (s : State) (n : Stage) (r : RestoreState) : (setRst s n r).saveDev = s.saveDev := rfl
@[simp] theorem setRst_restore (s : State) (n : Stage) (r : RestoreState) : (setRst s n r).restore = qset s.restore n r := rfl
@[simp] theorem setRst_heat (s : State) (n : Stage) (r : RestoreState) : (setRst s n r).heat = s.heat := rfl
@[simp] theorem setRst_cxl (s : State) (n : Stage) (r : RestoreState) : (setRst s n r).cxl = s.cxl := rfl
@[simp] theorem setRst_gauge (s : State) (n : Stage) (r : RestoreState) : (setRst s n r).gauge = s.gauge := rfl
@[simp] theorem setRst_power (s : State) (n : Stage) (r : RestoreState) : (setRst s n r).power = s.power := rfl
@[simp] theorem setRst_link (s : State) (n : Stage) (r : RestoreState) : (setRst s n r).link = s.link := rfl
@[simp] theorem setRst_image (s : State) (n : Stage) (r : RestoreState) : (setRst s n r).image = s.image := rfl
@[simp] theorem setRst_fw (s : State) (n : Stage) (r : RestoreState) : (setRst s n r).fw = s.fw := rfl
@[simp] theorem setRst_side (s : State) (n : Stage) (r : RestoreState) : (setRst s n r).side = s.side := rfl
@[simp] theorem setRst_pack (s : State) (n : Stage) (r : RestoreState) : (setRst s n r).pack = s.pack := rfl
@[simp] theorem setRst_pmonAt (s : State) (n : Stage) (r : RestoreState) : (setRst s n r).pmonAt = s.pmonAt := rfl
@[simp] theorem setRst_pmonLevels (s : State) (n : Stage) (r : RestoreState) : (setRst s n r).pmonLevels = s.pmonLevels := rfl
@[simp] theorem setRst_timers (s : State) (n : Stage) (r : RestoreState) : (setRst s n r).timers = s.timers := rfl
@[simp] theorem setRst_pending (s : State) (n : Stage) (r : RestoreState) : (setRst s n r).pending = s.pending := rfl
@[simp] theorem setRst_out (s : State) (n : Stage) (r : RestoreState) : (setRst s n r).out = s.out := rfl
@[simp] theorem setRst_freeIdx (s : State) (n : Stage) (r : RestoreState) : (setRst s n r).freeIdx = s.freeIdx := rfl
@[simp] theorem setRst_evs (s : State) (n : Stage) (r : RestoreState) : (setRst s n r).evs = s.evs := rfl

/-! The update setSav. -/

@[simp] theorem setSav_now (s : State) (n : Stage) (x : StageSave) : (setSav s n x).now = s.now := rfl
@[simp] theorem setSav_regs (s : State) (n : Stage) (x : StageSave) : (setSav s n x).regs = s.regs := rfl
@[simp] theorem setSav_modes (s : State) (n : Stage) (x : StageSave) : (setSav s n x).modes = s.modes := rfl
@[simp] theorem setSav_pbook (s : State) (n : Stage) (x : StageSave) : (setSav s n x).pbook = s.pbook := rfl
@[simp] theorem setSav_store (s : State) (n : Stage) (x : StageSave) : (setSav s n x).store = s.store := rfl
@[simp] theorem setSav_cipher (s : State) (n : Stage) (x : StageSave) : (setSav s n x).cipher = s.cipher := rfl
@[simp] theorem setSav_dram (s : State) (n : Stage) (x : StageSave) : (setSav s n x).dram = s.dram := rfl
@[simp] theorem setSav_flash (s : State) (n : Stage) (x : StageSave) : (setSav s n x).flash = s.flash := rfl
@[simp] theorem setSav_ledger (s : State) (n : Stage) (x : StageSave) : (setSav s n x).ledger = s.ledger := rfl
@[simp] theorem setSav_saves (s : State) (n : Stage) (x : StageSave) : (setSav s n x).saves = qset s.saves n x := rfl
@[simp] theorem setSav_saveDev (s : State) (n : Stage) (x : StageSave) : (setSav s n x).saveDev = s.saveDev := rfl
@[simp] theorem setSav_restore (s : State) (n : Stage) (x : StageSave) : (setSav s n x).restore = s.restore := rfl
@[simp] theorem setSav_heat (s : State) (n : Stage) (x : StageSave) : (setSav s n x).heat = s.heat := rfl
@[simp] theorem setSav_cxl (s : State) (n : Stage) (x : StageSave) : (setSav s n x).cxl = s.cxl := rfl
@[simp] theorem setSav_gauge (s : State) (n : Stage) (x : StageSave) : (setSav s n x).gauge = s.gauge := rfl
@[simp] theorem setSav_power (s : State) (n : Stage) (x : StageSave) : (setSav s n x).power = s.power := rfl
@[simp] theorem setSav_link (s : State) (n : Stage) (x : StageSave) : (setSav s n x).link = s.link := rfl
@[simp] theorem setSav_image (s : State) (n : Stage) (x : StageSave) : (setSav s n x).image = s.image := rfl
@[simp] theorem setSav_fw (s : State) (n : Stage) (x : StageSave) : (setSav s n x).fw = s.fw := rfl
@[simp] theorem setSav_side (s : State) (n : Stage) (x : StageSave) : (setSav s n x).side = s.side := rfl
@[simp] theorem setSav_pack (s : State) (n : Stage) (x : StageSave) : (setSav s n x).pack = s.pack := rfl
@[simp] theorem setSav_pmonAt (s : State) (n : Stage) (x : StageSave) : (setSav s n x).pmonAt = s.pmonAt := rfl
@[simp] theorem setSav_pmonLevels (s : State) (n : Stage) (x : StageSave) : (setSav s n x).pmonLevels = s.pmonLevels := rfl
@[simp] theorem setSav_timers (s : State) (n : Stage) (x : StageSave) : (setSav s n x).timers = s.timers := rfl
@[simp] theorem setSav_pending (s : State) (n : Stage) (x : StageSave) : (setSav s n x).pending = s.pending := rfl
@[simp] theorem setSav_out (s : State) (n : Stage) (x : StageSave) : (setSav s n x).out = s.out := rfl
@[simp] theorem setSav_freeIdx (s : State) (n : Stage) (x : StageSave) : (setSav s n x).freeIdx = s.freeIdx := rfl
@[simp] theorem setSav_evs (s : State) (n : Stage) (x : StageSave) : (setSav s n x).evs = s.evs := rfl

/-! The update setChan. -/

@[simp] theorem setChan_now (s : State) (c : DramCh) (x : Channel) : (setChan s c x).now = s.now := rfl
@[simp] theorem setChan_regs (s : State) (c : DramCh) (x : Channel) : (setChan s c x).regs = s.regs := rfl
@[simp] theorem setChan_modes (s : State) (c : DramCh) (x : Channel) : (setChan s c x).modes = s.modes := rfl
@[simp] theorem setChan_pbook (s : State) (c : DramCh) (x : Channel) : (setChan s c x).pbook = s.pbook := rfl
@[simp] theorem setChan_store (s : State) (c : DramCh) (x : Channel) : (setChan s c x).store = s.store := rfl
@[simp] theorem setChan_cipher (s : State) (c : DramCh) (x : Channel) : (setChan s c x).cipher = s.cipher := rfl
@[simp] theorem setChan_flash (s : State) (c : DramCh) (x : Channel) : (setChan s c x).flash = s.flash := rfl
@[simp] theorem setChan_ledger (s : State) (c : DramCh) (x : Channel) : (setChan s c x).ledger = s.ledger := rfl
@[simp] theorem setChan_saves (s : State) (c : DramCh) (x : Channel) : (setChan s c x).saves = s.saves := rfl
@[simp] theorem setChan_saveDev (s : State) (c : DramCh) (x : Channel) : (setChan s c x).saveDev = s.saveDev := rfl
@[simp] theorem setChan_restore (s : State) (c : DramCh) (x : Channel) : (setChan s c x).restore = s.restore := rfl
@[simp] theorem setChan_heat (s : State) (c : DramCh) (x : Channel) : (setChan s c x).heat = s.heat := rfl
@[simp] theorem setChan_cxl (s : State) (c : DramCh) (x : Channel) : (setChan s c x).cxl = s.cxl := rfl
@[simp] theorem setChan_gauge (s : State) (c : DramCh) (x : Channel) : (setChan s c x).gauge = s.gauge := rfl
@[simp] theorem setChan_power (s : State) (c : DramCh) (x : Channel) : (setChan s c x).power = s.power := rfl
@[simp] theorem setChan_link (s : State) (c : DramCh) (x : Channel) : (setChan s c x).link = s.link := rfl
@[simp] theorem setChan_image (s : State) (c : DramCh) (x : Channel) : (setChan s c x).image = s.image := rfl
@[simp] theorem setChan_fw (s : State) (c : DramCh) (x : Channel) : (setChan s c x).fw = s.fw := rfl
@[simp] theorem setChan_side (s : State) (c : DramCh) (x : Channel) : (setChan s c x).side = s.side := rfl
@[simp] theorem setChan_pack (s : State) (c : DramCh) (x : Channel) : (setChan s c x).pack = s.pack := rfl
@[simp] theorem setChan_pmonAt (s : State) (c : DramCh) (x : Channel) : (setChan s c x).pmonAt = s.pmonAt := rfl
@[simp] theorem setChan_pmonLevels (s : State) (c : DramCh) (x : Channel) : (setChan s c x).pmonLevels = s.pmonLevels := rfl
@[simp] theorem setChan_timers (s : State) (c : DramCh) (x : Channel) : (setChan s c x).timers = s.timers := rfl
@[simp] theorem setChan_pending (s : State) (c : DramCh) (x : Channel) : (setChan s c x).pending = s.pending := rfl
@[simp] theorem setChan_out (s : State) (c : DramCh) (x : Channel) : (setChan s c x).out = s.out := rfl
@[simp] theorem setChan_freeIdx (s : State) (c : DramCh) (x : Channel) : (setChan s c x).freeIdx = s.freeIdx := rfl
@[simp] theorem setChan_evs (s : State) (c : DramCh) (x : Channel) : (setChan s c x).evs = s.evs := rfl

/-! The update setSub. -/

@[simp] theorem setSub_now (s : State) (c : DramCh) (b : Bool) (x : SubCh) : (setSub s c b x).now = s.now := rfl
@[simp] theorem setSub_regs (s : State) (c : DramCh) (b : Bool) (x : SubCh) : (setSub s c b x).regs = s.regs := rfl
@[simp] theorem setSub_modes (s : State) (c : DramCh) (b : Bool) (x : SubCh) : (setSub s c b x).modes = s.modes := rfl
@[simp] theorem setSub_pbook (s : State) (c : DramCh) (b : Bool) (x : SubCh) : (setSub s c b x).pbook = s.pbook := rfl
@[simp] theorem setSub_store (s : State) (c : DramCh) (b : Bool) (x : SubCh) : (setSub s c b x).store = s.store := rfl
@[simp] theorem setSub_cipher (s : State) (c : DramCh) (b : Bool) (x : SubCh) : (setSub s c b x).cipher = s.cipher := rfl
@[simp] theorem setSub_flash (s : State) (c : DramCh) (b : Bool) (x : SubCh) : (setSub s c b x).flash = s.flash := rfl
@[simp] theorem setSub_ledger (s : State) (c : DramCh) (b : Bool) (x : SubCh) : (setSub s c b x).ledger = s.ledger := rfl
@[simp] theorem setSub_saves (s : State) (c : DramCh) (b : Bool) (x : SubCh) : (setSub s c b x).saves = s.saves := rfl
@[simp] theorem setSub_saveDev (s : State) (c : DramCh) (b : Bool) (x : SubCh) : (setSub s c b x).saveDev = s.saveDev := rfl
@[simp] theorem setSub_restore (s : State) (c : DramCh) (b : Bool) (x : SubCh) : (setSub s c b x).restore = s.restore := rfl
@[simp] theorem setSub_heat (s : State) (c : DramCh) (b : Bool) (x : SubCh) : (setSub s c b x).heat = s.heat := rfl
@[simp] theorem setSub_cxl (s : State) (c : DramCh) (b : Bool) (x : SubCh) : (setSub s c b x).cxl = s.cxl := rfl
@[simp] theorem setSub_gauge (s : State) (c : DramCh) (b : Bool) (x : SubCh) : (setSub s c b x).gauge = s.gauge := rfl
@[simp] theorem setSub_power (s : State) (c : DramCh) (b : Bool) (x : SubCh) : (setSub s c b x).power = s.power := rfl
@[simp] theorem setSub_link (s : State) (c : DramCh) (b : Bool) (x : SubCh) : (setSub s c b x).link = s.link := rfl
@[simp] theorem setSub_image (s : State) (c : DramCh) (b : Bool) (x : SubCh) : (setSub s c b x).image = s.image := rfl
@[simp] theorem setSub_fw (s : State) (c : DramCh) (b : Bool) (x : SubCh) : (setSub s c b x).fw = s.fw := rfl
@[simp] theorem setSub_side (s : State) (c : DramCh) (b : Bool) (x : SubCh) : (setSub s c b x).side = s.side := rfl
@[simp] theorem setSub_pack (s : State) (c : DramCh) (b : Bool) (x : SubCh) : (setSub s c b x).pack = s.pack := rfl
@[simp] theorem setSub_pmonAt (s : State) (c : DramCh) (b : Bool) (x : SubCh) : (setSub s c b x).pmonAt = s.pmonAt := rfl
@[simp] theorem setSub_pmonLevels (s : State) (c : DramCh) (b : Bool) (x : SubCh) : (setSub s c b x).pmonLevels = s.pmonLevels := rfl
@[simp] theorem setSub_timers (s : State) (c : DramCh) (b : Bool) (x : SubCh) : (setSub s c b x).timers = s.timers := rfl
@[simp] theorem setSub_pending (s : State) (c : DramCh) (b : Bool) (x : SubCh) : (setSub s c b x).pending = s.pending := rfl
@[simp] theorem setSub_out (s : State) (c : DramCh) (b : Bool) (x : SubCh) : (setSub s c b x).out = s.out := rfl
@[simp] theorem setSub_freeIdx (s : State) (c : DramCh) (b : Bool) (x : SubCh) : (setSub s c b x).freeIdx = s.freeIdx := rfl
@[simp] theorem setSub_evs (s : State) (c : DramCh) (b : Bool) (x : SubCh) : (setSub s c b x).evs = s.evs := rfl

/-! The update setRemap. -/

@[simp] theorem setRemap_now (s : State) (k : Nat) (e : RemapEntry) : (setRemap s k e).now = s.now := rfl
@[simp] theorem setRemap_regs (s : State) (k : Nat) (e : RemapEntry) : (setRemap s k e).regs = s.regs := rfl
@[simp] theorem setRemap_modes (s : State) (k : Nat) (e : RemapEntry) : (setRemap s k e).modes = s.modes := rfl
@[simp] theorem setRemap_pbook (s : State) (k : Nat) (e : RemapEntry) : (setRemap s k e).pbook = s.pbook := rfl
@[simp] theorem setRemap_store (s : State) (k : Nat) (e : RemapEntry) : (setRemap s k e).store = s.store := rfl
@[simp] theorem setRemap_cipher (s : State) (k : Nat) (e : RemapEntry) : (setRemap s k e).cipher = s.cipher := rfl
@[simp] theorem setRemap_flash (s : State) (k : Nat) (e : RemapEntry) : (setRemap s k e).flash = s.flash := rfl
@[simp] theorem setRemap_ledger (s : State) (k : Nat) (e : RemapEntry) : (setRemap s k e).ledger = s.ledger := rfl
@[simp] theorem setRemap_saves (s : State) (k : Nat) (e : RemapEntry) : (setRemap s k e).saves = s.saves := rfl
@[simp] theorem setRemap_saveDev (s : State) (k : Nat) (e : RemapEntry) : (setRemap s k e).saveDev = s.saveDev := rfl
@[simp] theorem setRemap_restore (s : State) (k : Nat) (e : RemapEntry) : (setRemap s k e).restore = s.restore := rfl
@[simp] theorem setRemap_heat (s : State) (k : Nat) (e : RemapEntry) : (setRemap s k e).heat = s.heat := rfl
@[simp] theorem setRemap_cxl (s : State) (k : Nat) (e : RemapEntry) : (setRemap s k e).cxl = s.cxl := rfl
@[simp] theorem setRemap_gauge (s : State) (k : Nat) (e : RemapEntry) : (setRemap s k e).gauge = s.gauge := rfl
@[simp] theorem setRemap_power (s : State) (k : Nat) (e : RemapEntry) : (setRemap s k e).power = s.power := rfl
@[simp] theorem setRemap_link (s : State) (k : Nat) (e : RemapEntry) : (setRemap s k e).link = s.link := rfl
@[simp] theorem setRemap_image (s : State) (k : Nat) (e : RemapEntry) : (setRemap s k e).image = s.image := rfl
@[simp] theorem setRemap_fw (s : State) (k : Nat) (e : RemapEntry) : (setRemap s k e).fw = s.fw := rfl
@[simp] theorem setRemap_side (s : State) (k : Nat) (e : RemapEntry) : (setRemap s k e).side = s.side := rfl
@[simp] theorem setRemap_pack (s : State) (k : Nat) (e : RemapEntry) : (setRemap s k e).pack = s.pack := rfl
@[simp] theorem setRemap_pmonAt (s : State) (k : Nat) (e : RemapEntry) : (setRemap s k e).pmonAt = s.pmonAt := rfl
@[simp] theorem setRemap_pmonLevels (s : State) (k : Nat) (e : RemapEntry) : (setRemap s k e).pmonLevels = s.pmonLevels := rfl
@[simp] theorem setRemap_timers (s : State) (k : Nat) (e : RemapEntry) : (setRemap s k e).timers = s.timers := rfl
@[simp] theorem setRemap_pending (s : State) (k : Nat) (e : RemapEntry) : (setRemap s k e).pending = s.pending := rfl
@[simp] theorem setRemap_out (s : State) (k : Nat) (e : RemapEntry) : (setRemap s k e).out = s.out := rfl
@[simp] theorem setRemap_freeIdx (s : State) (k : Nat) (e : RemapEntry) : (setRemap s k e).freeIdx = s.freeIdx := rfl
@[simp] theorem setRemap_evs (s : State) (k : Nat) (e : RemapEntry) : (setRemap s k e).evs = s.evs := rfl

/-! The update setPort. -/

@[simp] theorem setPort_now (s : State) (k : Nat) (p : CxlPort) : (setPort s k p).now = s.now := rfl
@[simp] theorem setPort_regs (s : State) (k : Nat) (p : CxlPort) : (setPort s k p).regs = s.regs := rfl
@[simp] theorem setPort_modes (s : State) (k : Nat) (p : CxlPort) : (setPort s k p).modes = s.modes := rfl
@[simp] theorem setPort_pbook (s : State) (k : Nat) (p : CxlPort) : (setPort s k p).pbook = s.pbook := rfl
@[simp] theorem setPort_store (s : State) (k : Nat) (p : CxlPort) : (setPort s k p).store = s.store := rfl
@[simp] theorem setPort_cipher (s : State) (k : Nat) (p : CxlPort) : (setPort s k p).cipher = s.cipher := rfl
@[simp] theorem setPort_dram (s : State) (k : Nat) (p : CxlPort) : (setPort s k p).dram = s.dram := rfl
@[simp] theorem setPort_flash (s : State) (k : Nat) (p : CxlPort) : (setPort s k p).flash = s.flash := rfl
@[simp] theorem setPort_ledger (s : State) (k : Nat) (p : CxlPort) : (setPort s k p).ledger = s.ledger := rfl
@[simp] theorem setPort_saves (s : State) (k : Nat) (p : CxlPort) : (setPort s k p).saves = s.saves := rfl
@[simp] theorem setPort_saveDev (s : State) (k : Nat) (p : CxlPort) : (setPort s k p).saveDev = s.saveDev := rfl
@[simp] theorem setPort_restore (s : State) (k : Nat) (p : CxlPort) : (setPort s k p).restore = s.restore := rfl
@[simp] theorem setPort_heat (s : State) (k : Nat) (p : CxlPort) : (setPort s k p).heat = s.heat := rfl
@[simp] theorem setPort_gauge (s : State) (k : Nat) (p : CxlPort) : (setPort s k p).gauge = s.gauge := rfl
@[simp] theorem setPort_power (s : State) (k : Nat) (p : CxlPort) : (setPort s k p).power = s.power := rfl
@[simp] theorem setPort_link (s : State) (k : Nat) (p : CxlPort) : (setPort s k p).link = s.link := rfl
@[simp] theorem setPort_image (s : State) (k : Nat) (p : CxlPort) : (setPort s k p).image = s.image := rfl
@[simp] theorem setPort_fw (s : State) (k : Nat) (p : CxlPort) : (setPort s k p).fw = s.fw := rfl
@[simp] theorem setPort_side (s : State) (k : Nat) (p : CxlPort) : (setPort s k p).side = s.side := rfl
@[simp] theorem setPort_pack (s : State) (k : Nat) (p : CxlPort) : (setPort s k p).pack = s.pack := rfl
@[simp] theorem setPort_pmonAt (s : State) (k : Nat) (p : CxlPort) : (setPort s k p).pmonAt = s.pmonAt := rfl
@[simp] theorem setPort_pmonLevels (s : State) (k : Nat) (p : CxlPort) : (setPort s k p).pmonLevels = s.pmonLevels := rfl
@[simp] theorem setPort_timers (s : State) (k : Nat) (p : CxlPort) : (setPort s k p).timers = s.timers := rfl
@[simp] theorem setPort_pending (s : State) (k : Nat) (p : CxlPort) : (setPort s k p).pending = s.pending := rfl
@[simp] theorem setPort_out (s : State) (k : Nat) (p : CxlPort) : (setPort s k p).out = s.out := rfl
@[simp] theorem setPort_freeIdx (s : State) (k : Nat) (p : CxlPort) : (setPort s k p).freeIdx = s.freeIdx := rfl
@[simp] theorem setPort_evs (s : State) (k : Nat) (p : CxlPort) : (setPort s k p).evs = s.evs := rfl

/-! The update setLine. -/

@[simp] theorem setLine_now (s : State) (n : Stage) (line : Nat) (c : LineCell) : (setLine s n line c).now = s.now := rfl
@[simp] theorem setLine_regs (s : State) (n : Stage) (line : Nat) (c : LineCell) : (setLine s n line c).regs = s.regs := rfl
@[simp] theorem setLine_modes (s : State) (n : Stage) (line : Nat) (c : LineCell) : (setLine s n line c).modes = s.modes := rfl
@[simp] theorem setLine_pbook (s : State) (n : Stage) (line : Nat) (c : LineCell) : (setLine s n line c).pbook = s.pbook := rfl
@[simp] theorem setLine_store (s : State) (n : Stage) (line : Nat) (c : LineCell) : (setLine s n line c).store = s.store := rfl
@[simp] theorem setLine_cipher (s : State) (n : Stage) (line : Nat) (c : LineCell) : (setLine s n line c).cipher = s.cipher := rfl
@[simp] theorem setLine_flash (s : State) (n : Stage) (line : Nat) (c : LineCell) : (setLine s n line c).flash = s.flash := rfl
@[simp] theorem setLine_ledger (s : State) (n : Stage) (line : Nat) (c : LineCell) : (setLine s n line c).ledger = s.ledger := rfl
@[simp] theorem setLine_saves (s : State) (n : Stage) (line : Nat) (c : LineCell) : (setLine s n line c).saves = s.saves := rfl
@[simp] theorem setLine_saveDev (s : State) (n : Stage) (line : Nat) (c : LineCell) : (setLine s n line c).saveDev = s.saveDev := rfl
@[simp] theorem setLine_restore (s : State) (n : Stage) (line : Nat) (c : LineCell) : (setLine s n line c).restore = s.restore := rfl
@[simp] theorem setLine_heat (s : State) (n : Stage) (line : Nat) (c : LineCell) : (setLine s n line c).heat = s.heat := rfl
@[simp] theorem setLine_cxl (s : State) (n : Stage) (line : Nat) (c : LineCell) : (setLine s n line c).cxl = s.cxl := rfl
@[simp] theorem setLine_gauge (s : State) (n : Stage) (line : Nat) (c : LineCell) : (setLine s n line c).gauge = s.gauge := rfl
@[simp] theorem setLine_power (s : State) (n : Stage) (line : Nat) (c : LineCell) : (setLine s n line c).power = s.power := rfl
@[simp] theorem setLine_link (s : State) (n : Stage) (line : Nat) (c : LineCell) : (setLine s n line c).link = s.link := rfl
@[simp] theorem setLine_image (s : State) (n : Stage) (line : Nat) (c : LineCell) : (setLine s n line c).image = s.image := rfl
@[simp] theorem setLine_fw (s : State) (n : Stage) (line : Nat) (c : LineCell) : (setLine s n line c).fw = s.fw := rfl
@[simp] theorem setLine_side (s : State) (n : Stage) (line : Nat) (c : LineCell) : (setLine s n line c).side = s.side := rfl
@[simp] theorem setLine_pack (s : State) (n : Stage) (line : Nat) (c : LineCell) : (setLine s n line c).pack = s.pack := rfl
@[simp] theorem setLine_pmonAt (s : State) (n : Stage) (line : Nat) (c : LineCell) : (setLine s n line c).pmonAt = s.pmonAt := rfl
@[simp] theorem setLine_pmonLevels (s : State) (n : Stage) (line : Nat) (c : LineCell) : (setLine s n line c).pmonLevels = s.pmonLevels := rfl
@[simp] theorem setLine_timers (s : State) (n : Stage) (line : Nat) (c : LineCell) : (setLine s n line c).timers = s.timers := rfl
@[simp] theorem setLine_pending (s : State) (n : Stage) (line : Nat) (c : LineCell) : (setLine s n line c).pending = s.pending := rfl
@[simp] theorem setLine_out (s : State) (n : Stage) (line : Nat) (c : LineCell) : (setLine s n line c).out = s.out := rfl
@[simp] theorem setLine_freeIdx (s : State) (n : Stage) (line : Nat) (c : LineCell) : (setLine s n line c).freeIdx = s.freeIdx := rfl
@[simp] theorem setLine_evs (s : State) (n : Stage) (line : Nat) (c : LineCell) : (setLine s n line c).evs = s.evs := rfl

end Sys2Proof.Machine
end

