-- ==== Sys2Proof/Laws/Finish.lean ====
section
/-! SUPPORT. What the end of every command changes and what it leaves alone, piece by piece. -/

namespace Sys2Proof.Machine

theorem Quiet.refl (s : State) : Quiet s s := by
  constructor <;> first | rfl | exact fun _ _ => rfl | exact ⟨[], by simp⟩
theorem Quiet.trans {s t u : State} (h : Quiet s t) (k : Quiet t u) : Quiet s u := by
  constructor
  case fields => exact fun f hf => (k.fields f hf).trans (h.fields f hf)
  case outKept =>
    obtain ⟨a, ha⟩ := h.outKept
    obtain ⟨b, hb⟩ := k.outKept
    exact ⟨a ++ b, by rw [hb, ha, List.append_assoc]⟩
  case image => rw [← h.image]; rw [← k.image]
  case fw => rw [← h.fw]; rw [← k.fw]
  case gauge => rw [← h.gauge]; rw [← k.gauge]
  case cxl => rw [← h.cxl]; rw [← k.cxl]
  all_goals first
    | exact k.now.trans h.now | exact k.modes.trans h.modes | exact k.store.trans h.store | exact k.cipher.trans h.cipher
    | exact k.dram.trans h.dram | exact k.flash.trans h.flash | exact k.ledger.trans h.ledger | exact k.saves.trans h.saves
    | exact k.saveDev.trans h.saveDev | exact k.restore.trans h.restore | exact k.heat.trans h.heat | exact k.power.trans h.power
    | exact k.link.trans h.link | exact k.side.trans h.side | exact k.pack.trans h.pack | exact k.timers.trans h.timers
    | exact k.pending.trans h.pending | exact k.freeIdx.trans h.freeIdx
/-- A fold of quiet changes is quiet. -/
theorem Quiet.fold {α : Type} (f : State → α → State) (h : ∀ s a, Quiet s (f s a)) (xs : List α) (s : State) : Quiet s (foldS xs f s) := by
  unfold foldS
  induction xs generalizing s with
  | nil => exact Quiet.refl s
  | cons x xs ih => exact (h s x).trans (ih (f s x))

/-- A written field leaves the fields apart from it. -/
theorem apart_iff (f g : Fld) :
    apart f g = true ↔ homeIdx f.idx ≠ homeIdx g.idx ∨ (f.idx = g.idx ∧ (f.lo + f.width ≤ g.lo ∨ g.lo + g.width ≤ f.lo)) := by
  simp only [apart, Bool.or_eq_true, Bool.and_eq_true, decide_eq_true_eq]
theorem rd_wr_apart (s : State) (f g : Fld) (v : Nat) (hg : g.lo + g.width ≤ 48) (h : apart f g = true) : rd (wr s f v) g = rd s g := by
  apply rd_wr_other
  rcases (apart_iff f g).mp h with h | ⟨h1, h2⟩
  · exact Or.inl (Ne.symm h)
  · exact Or.inr ⟨h1.symm, hg, h2⟩
theorem quiet_wr (s : State) (f : Fld) (v : Nat) (hf : f ∈ endFields) : Quiet s (wr s f v) := by
  constructor <;> first | rfl | skip
  · intro g hg
    simp only [steadyField, Bool.and_eq_true, decide_eq_true_eq, List.all_eq_true] at hg
    exact rd_wr_apart s f g v hg.1 (hg.2 f hf)
  · exact ⟨[], by simp⟩
theorem quiet_emit (s : State) (o : Output) : Quiet s (emit s o) := by
  constructor <;> first | rfl | exact fun _ _ => rfl | exact ⟨[o], rfl⟩
theorem quiet_event (s : State) (a b c d : Nat) : Quiet s (event s a b c d) := by
  constructor <;> first | rfl | exact fun _ _ => rfl | exact ⟨[], by simp⟩
theorem quiet_book (s : State) (p : PBook) : Quiet s { s with pbook := p } := by
  constructor <;> first | rfl | exact fun _ _ => rfl | exact ⟨[], by simp⟩
theorem quiet_evs (s : State) (es : List Ev) : Quiet s { s with evs := es } := by
  constructor <;> first | rfl | exact fun _ _ => rfl | exact ⟨[], by simp⟩

/-! The recorder. -/

theorem quiet_alert (s : State) (b : Nat) : Quiet s (alert s b) := quiet_wr s _ _ (by decide)
theorem quiet_alertSev (s : State) (k : Nat) : Quiet s (alertSev s k) := by
  unfold alertSev
  split_ifs <;> first | exact quiet_alert .. | exact Quiet.refl _
theorem quiet_acceptRec (s : State) (a b c d e : Nat) : Quiet s (acceptRec s a b c d e) := by
  unfold acceptRec
  dsimp only
  exact (quiet_book s _).trans (Quiet.trans (quiet_wr _ F.PBOOK_STATUS_NEXT_SEQ _ (by decide)) (quiet_alertSev _ _))
theorem quiet_rollWindow (s : State) : Quiet s (rollWindow s) := by
  unfold rollWindow
  try dsimp only
  split_ifs
  · exact Quiet.refl s
  · refine Quiet.trans ?_ (quiet_book _ _)
    unfold whenS
    try dsimp only
    split_ifs
    · unfold summarise
      exact (quiet_book s _).trans (quiet_acceptRec ..)
    · exact Quiet.refl s
theorem quiet_alertCode (s : State) (c : Nat) : Quiet s (alertCode s c) := by
  unfold alertCode
  try dsimp only
  split_ifs <;> first | exact quiet_alert .. | exact Quiet.refl _
theorem quiet_recordEv (s : State) (e : Ev) : Quiet s (recordEv s e) := by
  unfold recordEv
  try dsimp only
  refine ((quiet_rollWindow s).trans (quiet_alertCode _ e.code)).trans ?_
  split
  · exact quiet_acceptRec ..
  · split_ifs
    · exact (quiet_book _ _).trans (quiet_acceptRec ..)
    · exact quiet_book _ _

/-! Performance counters. -/

theorem setReg_cnt (s : State) (k v : Nat) (hk : k < 32) : Quiet s (setReg s (0x3C80 + k) (BitVec.ofNat 48 v)) := by
  constructor <;> first | rfl | skip
  · intro g hg
    simp only [steadyField, Bool.and_eq_true, decide_eq_true_eq, List.all_eq_true] at hg
    have h := hg.2 (F.PMON_CNT_COUNT k) (by
      unfold endFields
      try dsimp only
      exact List.mem_append_left _ (List.mem_append_right _ (List.mem_map.mpr ⟨k, List.mem_range.mpr hk, rfl⟩)))
    have h := (apart_iff _ _).mp h
    have e1 : (F.PMON_CNT_COUNT k).idx = 0x3C80 + k := by simp [F.PMON_CNT_COUNT]
    have e2 : (F.PMON_CNT_COUNT k).lo = 0 := rfl
    have e3 : (F.PMON_CNT_COUNT k).width = 48 := rfl
    rw [e1, e2, e3] at h
    have hne : homeIdx g.idx ≠ homeIdx (0x3C80 + k) ∨ g.width = 0 := by
      rcases h with h | ⟨_, h⟩
      · left; exact Ne.symm h
      · right; omega
    simp only [rd, rawReg_setReg]
    split_ifs with hi
    · rcases hne with hne | hne
      · exact absurd hi hne
      · simp [fldOf, bits, hne, Nat.mod_one]
    · rfl
  · exact ⟨[], by simp⟩
theorem quiet_whenEvent (c : Bool) (s : State) (k a b d : Nat) : Quiet s (whenS c (fun s => event s k a b d) s) := by
  unfold whenS
  split_ifs
  · exact quiet_event ..
  · exact Quiet.refl _
theorem quiet_pmonAdd (s : State) (k n : Nat) (hk : k < 32) : Quiet s (pmonAdd s k n) := by
  unfold pmonAdd
  try dsimp only
  split_ifs
  · exact setReg_cnt s k _ hk
  · exact (setReg_cnt s k _ hk).trans (Quiet.trans (quiet_wr _ F.PMON_STATUS_OVERFLOW _ (by decide)) (quiet_whenEvent ..))
theorem pmonSel_lt (s : State) (e : Nat × Nat) (h : e ∈ pmonSel s) : e.1 < 32 := by
  unfold pmonSel at h
  try dsimp only
  simp only [List.mem_map, List.mem_filter, Bool.and_eq_true, decide_eq_true_eq] at h
  obtain ⟨a, ⟨_, h1, h2⟩, rfl⟩ := h
  simp only; omega
/-- A fold over a list whose members meet a condition. -/
theorem Quiet.foldMem {α : Type} (f : State → α → State) (xs : List α) (h : ∀ s, ∀ a ∈ xs, Quiet s (f s a)) (s : State) : Quiet s (foldS xs f s) := by
  unfold foldS
  try dsimp only
  induction xs generalizing s with
  | nil => exact Quiet.refl s
  | cons x xs ih => exact (h s x (List.mem_cons_self ..)).trans (ih (fun s a ha => h s a (List.mem_cons_of_mem _ ha)) (f s x))
theorem quiet_pmonHit (s : State) (g i k n : Nat) : Quiet s (pmonHit s g i k n) := by
  unfold pmonHit
  try dsimp only
  split_ifs
  · exact Quiet.refl s
  · apply Quiet.foldMem
    intro t e he
    split_ifs
    · exact quiet_pmonAdd t e.1 n (pmonSel_lt s e he)
    · exact Quiet.refl t
theorem quiet_ite (c : Prop) [Decidable c] {s a b : State} (ha : Quiet s a) (hb : Quiet s b) : Quiet s (if c then a else b) := by
  split_ifs
  · exact ha
  · exact hb
theorem quiet_recordHit (s : State) (e : Ev) : Quiet s (recordHit s e) := by
  unfold recordHit
  exact (quiet_recordEv s e).trans (quiet_ite _ ((quiet_pmonHit ..).trans (quiet_pmonHit ..)) (quiet_pmonHit ..))
theorem quiet_recordBook (s : State) : Quiet s (recordBook s) := by
  unfold recordBook recordAll
  try dsimp only
  exact ((quiet_evs s []).trans (Quiet.fold _ quiet_recordHit _ _)).trans ((quiet_evs _ []).trans (Quiet.fold _ quiet_recordEv _ _))

/-! What else follows a command. -/

theorem sameDram_chan (s : State) (c : DramCh) (x : Channel) (h : calmChannel x = calmChannel (chan s c)) : SameDram s (setChan s c x) := by
  have : qmap calmChannel (qset s.dram.ch c x) = qmap calmChannel s.dram.ch := by
    unfold chan at h
    fin_cases c <;> simp [qmap, qset, qget] at h ⊢ <;> exact h
  simp [SameDram, setChan, this]
theorem quiet_chan (s : State) (c : DramCh) (x : Channel) (h : calmChannel x = calmChannel (chan s c)) : Quiet s (setChan s c x) := by
  constructor <;> first | rfl | exact fun _ _ => rfl | exact ⟨[], by simp [setChan]⟩ | exact sameDram_chan s c x h
theorem quiet_panicCount (s : State) (c : DramCh) (k : Nat) : Quiet s (incSat s (F.DC_PANIC_COUNT_PANICS c.val) k) := by
  unfold incSat
  refine quiet_wr s _ _ ?_
  unfold endFields
  exact List.mem_append_right _ (List.mem_map.mpr ⟨c.val, List.mem_range.mpr c.isLt, rfl⟩)
theorem quiet_panicUpdate (s : State) (c : DramCh) (l0 l1 : Nat) : Quiet s (panicUpdate s c l0 l1) := by
  unfold panicUpdate
  dsimp only
  refine Quiet.trans ?_ (quiet_whenEvent ..)
  refine Quiet.trans ?_ (quiet_whenEvent ..)
  refine Quiet.trans ?_ (quiet_panicCount ..)
  exact quiet_chan s c _ rfl
theorem quiet_panicFollow (s : State) (c : DramCh) : Quiet s (panicFollow s c) := by
  unfold panicFollow
  cases chanStage s c with
  | none => exact Quiet.refl s
  | some n => exact quiet_panicUpdate s c _ _
theorem quiet_panicAll (s : State) : Quiet s (panicAll s) :=
  Quiet.fold _ (fun t c => quiet_ite _ (quiet_panicFollow t c) (Quiet.refl t)) _ _

theorem quiet_counts (s : State) (p : Nat) (d : Quad Nat) : Quiet s { s with pmonAt := p, cxl := { s.cxl with depthSum := d } } := by
  constructor <;> first | rfl | exact fun _ _ => rfl | exact ⟨[], by simp⟩
theorem quiet_accrue (s : State) : Quiet s (accrue s) := by
  unfold accrue
  dsimp only
  split_ifs
  · exact quiet_counts s s.now s.cxl.depthSum
  · exact Quiet.trans (Quiet.foldMem _ _ (fun t k hk => quiet_pmonAdd t k _ (by
      simp only [List.mem_filter, List.mem_range] at hk; exact hk.1)) s) (quiet_counts _ _ _)
theorem quiet_fuseTarget (s : State) (t : Option Nat) : Quiet s { s with image := { s.image with fuseTarget := t } } := by
  constructor <;> first | rfl | exact fun _ _ => rfl | exact ⟨[], by simp⟩
theorem quiet_fwRaise (s : State) (img : Bool) (t : Nat) : Quiet s (fwRaise s img t) := by
  unfold fwRaise
  refine quiet_ite _ ?_ (Quiet.refl s)
  constructor <;> first | rfl | exact fun _ _ => rfl | exact ⟨[], by simp⟩
theorem quiet_fuseAtService (s : State) : Quiet s (fuseAtService s) := by
  unfold fuseAtService
  split
  · exact Quiet.refl s
  · exact quiet_ite _ ((quiet_fuseTarget s none).trans (quiet_fwRaise ..)) (Quiet.refl s)
theorem quiet_cxlRecord (s : State) (n : Stage) (k : Nat) (r : CxlRec) : Quiet s (cxlRecord s n k r) := by
  unfold cxlRecord
  try dsimp only
  have hl : ∀ (s : State) l, Quiet s (setLdLog s (stageKey s n) k l) := fun s l => by
    constructor <;> first | rfl | exact fun _ _ => rfl | exact ⟨[], by simp⟩
  split_ifs
  · exact (hl ..).trans (quiet_emit ..)
  · exact hl ..
  · exact hl ..
  · exact (hl ..).trans (quiet_event ..)
theorem Quiet.when (c : Bool) (f : State → State) (h : ∀ s, Quiet s (f s)) (s : State) : Quiet s (whenS c f s) := by
  unfold whenS
  try dsimp only
  split_ifs
  · exact h s
  · exact Quiet.refl s
theorem quiet_health (s : State) (l : Quad (Nat × Nat × Nat)) (a : Quad Nat) : Quiet s { s with cxl := { s.cxl with lastHealth := l, alerted := a } } := by
  constructor <;> first | rfl | exact fun _ _ => rfl | exact ⟨[], by simp⟩
theorem quiet_lastHealth (s : State) (l : Quad (Nat × Nat × Nat)) : Quiet s { s with cxl := { s.cxl with lastHealth := l } } := by
  constructor <;> first | rfl | exact fun _ _ => rfl | exact ⟨[], by simp⟩
theorem quiet_alerted (s : State) (a : Quad Nat) : Quiet s { s with cxl := { s.cxl with alerted := a } } := by
  constructor <;> first | rfl | exact fun _ _ => rfl | exact ⟨[], by simp⟩
theorem quiet_healthStage (s : State) (n : Stage) : Quiet s (healthStage s n) := by
  unfold healthStage
  dsimp only
  split_ifs
  · exact quiet_health ..
  · exact (quiet_lastHealth s _).trans ((Quiet.when _ _ (fun s => quiet_cxlRecord ..) _).trans ((Quiet.when _ _ (fun s => quiet_cxlRecord ..) _).trans
      ((Quiet.when _ _ (fun s => quiet_cxlRecord ..) _).trans ((Quiet.when _ _ (fun s => quiet_cxlRecord ..) _).trans
        ((Quiet.when _ _ (fun s => quiet_cxlRecord ..) _).trans (quiet_alerted _ _))))))
theorem quiet_healthFollow (s : State) : Quiet s (healthFollow s) := by
  unfold healthFollow
  try dsimp only
  split_ifs
  · exact Quiet.fold _ quiet_healthStage _ _
  · exact Quiet.refl s
theorem quiet_background (s : State) (b : Option BgCmd) : Quiet s { s with cxl := { s.cxl with background := b } } := by
  constructor <;> first | rfl | exact fun _ _ => rfl | exact ⟨[], by simp⟩
theorem quiet_bgFollow (s : State) : Quiet s (bgFollow s) := by
  unfold bgFollow
  split
  · exact Quiet.refl s
  · exact quiet_ite _ (quiet_background s none) (Quiet.refl s)
theorem quiet_learning (s : State) (l : Option _) : Quiet s { s with gauge := { s.gauge with learning := l } } := by
  constructor <;> first | rfl | exact fun _ _ => rfl | exact ⟨[], by simp⟩
theorem quiet_chgFollow (s : State) : Quiet s (chgFollow s) := by
  unfold chgFollow
  exact quiet_ite _ (Quiet.refl s) ((quiet_wr s F.GAUGE_STATUS_CHG_EN _ (by decide)).trans
    ((quiet_emit _ _).trans (Quiet.when _ _ (fun s => quiet_learning s none) _)))
theorem quiet_levels (s : State) (l : List Nat) : Quiet s { s with pmonLevels := l } := by
  constructor <;> first | rfl | exact fun _ _ => rfl | exact ⟨[], by simp⟩

end Sys2Proof.Machine
end

