-- ==== Sys2Proof/Laws/Store.lean ====
section
/-! SUPPORT. The script store's cells: what a word programmed into erased cells reads as (R542, R543). -/

namespace Sys2Proof.Machine

theorem cellData_append (c : BitVec 8) (d : Word) : cellData (c.append d) = d := by
  apply BitVec.eq_of_getLsbD_eq
  intro i hi
  change (BitVec.extractLsb' 0 48 (c ++ d)).getLsbD i = _
  rw [BitVec.getLsbD_extractLsb', BitVec.getLsbD_append]
  simp [hi]

@[simp] theorem cellData_secdedEncode (d : Word) : cellData (secdedEncode d) = d := by
  unfold secdedEncode
  split
  · next h => rw [h]; decide
  · exact cellData_append _ d

/-- A codeword decodes clean to its data (R543). -/
@[simp] theorem secdedDecode_secdedEncode (d : Word) : secdedDecode (secdedEncode d) = (0, d) := by
  simp [secdedDecode]

theorem progWord_eq (st : Store) (a : Nat) (w : Word) (h : asShipped st (sectorOf a) = false) :
    progWord st a w = { st with nor := mset cellsErased st.nor a (mget cellsErased st.nor a &&& secdedEncode w) } := by
  unfold progWord progCells unship
  rw [h]; rfl

theorem asShipped_progWord (st : Store) (a : Nat) (w : Word) (sec : Nat) (h : asShipped st (sectorOf a) = false) :
    asShipped (progWord st a w) sec = asShipped st sec := by
  rw [progWord_eq st a w h]; rfl

/-- Programming a word leaves the cells of every other word as they are. -/
theorem cells_progWord (st : Store) (a b : Nat) (w : Word) (h : asShipped st (sectorOf a) = false) (hb : b ≠ a) :
    mget cellsErased (progWord st a w).nor b = mget cellsErased st.nor b := by
  rw [progWord_eq st a w h, mget_mset, if_neg hb]

/-- What a word reads as after a word of another or of the same address was programmed into erased cells. -/
theorem storeWord_progWord (st : Store) (a b : Nat) (w : Word) (h : asShipped st (sectorOf a) = false) (he : mget cellsErased st.nor a = cellsErased) :
    storeWord (progWord st a w) b = if b = a then (0, w) else storeWord st b := by
  have hs := asShipped_progWord st a w (sectorOf b) h
  unfold storeWord storeCells
  rw [hs]
  have hn : (progWord st a w).nor = mset cellsErased st.nor a (mget cellsErased st.nor a &&& secdedEncode w) := by
    rw [progWord_eq st a w h]
  rw [hn, mget_mset, he]
  have hc : cellsErased &&& secdedEncode w = secdedEncode w := BitVec.allOnes_and
  by_cases hb : b = a
  · subst hb; simp [h, hc]
  · simp [hb]

end Sys2Proof.Machine
end

