-- ==== Sys2Proof/Tests/Slice0.lean ====
section
/-! SUPPORT. The model's own tests: the smoke test of WellFormed, small steps with values worked out from the rules, and for each statement with hypotheses a state that meets them. -/

set_option maxRecDepth 20000

namespace Sys2Proof.Tests

set_option Elab.async false

open Sys2Proof Sys2Proof.Machine

/-! The checks of WellFormed: an ill-formed term for each, which the check refuses. -/

/-- A header whose fields fit. -/
def okHdr : LinkHdr := ⟨0, 0, 0, 0, false⟩
/-- Each of these terms has one operand outside its range: refused. -/
theorem test_ill_formed_1 : ([
    .vaonApplied 8 0 0 false,
    .vaonApplied 0 8 0 false,
    .vaonApplied 0 0 8 false,
    .memWr 2 0 0 none 0 false,
    .memWr 0 16 0 none 0 false,
    .memWr 0 0 65536 none 0 false,
    .memWr 0 0 0 (some (2 ^ 35)) 0 false,
    .memWrPtl 2 0 0 none 0 0 false,
    .memWrPtl 0 16 0 none 0 0 false,
    .memWrPtl 0 0 65536 none 0 0 false,
    .memWrPtl 0 0 0 (some (2 ^ 35)) 0 0 false,
    .memRd 2 0 0 none,
    .memRd 0 16 0 none,
    .memRd 0 0 65536 none,
    .memRd 0 0 0 (some (2 ^ 35)),
    .memRdData 2 0 0 none,
    .memRdData 0 16 0 none,
    .memRdData 0 0 65536 none,
    .memRdData 0 0 0 (some (2 ^ 35)),
    .memSpecRd 2 0 none,
    .memSpecRd 0 16 none,
    .memSpecRd 0 0 (some (2 ^ 35)),
    .memInv 2 0 ⟨0, none⟩,
    .memInv 0 16 ⟨0, none⟩] : List Instr).all (fun i => wellFormed i == false) = true := by decide
/-- Each of these terms has one operand outside its range: refused. -/
theorem test_ill_formed_2 : ([
    .memInv 0 0 ⟨65536, none⟩,
    .memInv 0 0 ⟨0, some (2 ^ 35)⟩,
    .memInvNt 2 0 ⟨0, none⟩,
    .memInvNt 0 16 ⟨0, none⟩,
    .memInvNt 0 0 ⟨65536, none⟩,
    .memInvNt 0 0 ⟨0, some (2 ^ 35)⟩,
    .pageProgramIssue 256,
    .pageProgramStatus 16 0 0 false 0,
    .pageProgramStatus 0 64 0 false 0,
    .pageProgramStatus 0 0 4 false 0,
    .pageReadIssue 256,
    .pageReadComplete 16 0 0 false 0,
    .pageReadComplete 0 64 0 false 0,
    .pageReadComplete 0 0 4 false 0,
    .commandTimeout 16 0,
    .commandTimeout 0 64,
    .blockEraseComplete 16 0 0 false,
    .blockEraseComplete 0 64 0 false,
    .blockEraseComplete 0 0 4 false,
    .flashChannelTraining 16 none 0 false,
    .mpCmd 16,
    .mpAddr 16,
    .mpDin 16,
    .mpDout 16 []] : List Instr).all (fun i => wellFormed i == false) = true := by decide
/-- Each of these terms has one operand outside its range: refused. -/
theorem test_ill_formed_3 : ([
    .mpWaitRdy 16,
    .mpWaitRdyTimeout 16,
    .mpDelay 16,
    .mpDelayExpiry 16,
    .mpStatus 16 0,
    .mpStatus 0 256,
    .mpBranch 16,
    .mpSetfeat 16,
    .mpLoop 16,
    .mpEnd 16,
    .mpRunTimeout 16,
    .dramRequestEnqueue 0 false 8,
    .refreshInterval 0 false 2,
    .rankPowerDown 0 false 2,
    .remapCopyDone 2048,
    .linkUp 2 0 0,
    .linkDown 2,
    .gpfPhase1 2,
    .gpfPhase2 2,
    .gpfPhase2Complete 2,
    .pmeTurnOff 2,
    .getHealthInfo 2 0,
    .getHealthInfo 0 16,
    .getAlertConfiguration 2 0] : List Instr).all (fun i => wellFormed i == false) = true := by decide
/-- Each of these terms has one operand outside its range: refused. -/
theorem test_ill_formed_4 : ([
    .getAlertConfiguration 0 16,
    .setAlertConfiguration 2 0 none none none,
    .setAlertConfiguration 0 16 none none none,
    .getShutdownState 2 0,
    .getShutdownState 0 16,
    .setShutdownState 2 0 0,
    .setShutdownState 0 16 0,
    .getPoisonList 2 0 0 0,
    .getPoisonList 0 16 0 0,
    .injectPoison 2 0 0,
    .injectPoison 0 16 0,
    .clearPoison 2 0 0 0,
    .clearPoison 0 16 0 0,
    .scanMedia 2 0 0 0,
    .scanMedia 0 16 0 0,
    .getScanMediaResults 2 0,
    .getScanMediaResults 0 16,
    .secureErase 2 0,
    .secureErase 0 16,
    .sanitize 2 0,
    .sanitize 0 16,
    .getLsa 2 0 0 0,
    .getLsa 0 16 0 0,
    .setLsa 2 0 0 []] : List Instr).all (fun i => wellFormed i == false) = true := by decide
/-- Each of these terms has one operand outside its range: refused. -/
theorem test_ill_formed_5 : ([
    .setLsa 0 16 0 [],
    .setPartitionInfo 2 0,
    .setPartitionInfo 0 16,
    .getLdInfo 2 0,
    .getLdInfo 0 16,
    .getLdAllocations 2 0,
    .getLdAllocations 0 16,
    .setLdAllocations 2 0,
    .setLdAllocations 0 16,
    .getTimestamp 2 0,
    .getTimestamp 0 16,
    .setTimestamp 2 0 0,
    .setTimestamp 0 16 0,
    .setEventInterruptPolicy 2 0 0,
    .setEventInterruptPolicy 0 16 0,
    .getFwInfo 2 0,
    .getFwInfo 0 16,
    .transferFw 2 0 0 0 0 [],
    .transferFw 0 16 0 0 0 [],
    .activateFwOffline 2 0 0,
    .activateFwOffline 0 16 0,
    .activateFwOnline 2 0 0,
    .activateFwOnline 0 16 0,
    .getStageStatus 2 0] : List Instr).all (fun i => wellFormed i == false) = true := by decide
/-- Each of these terms has one operand outside its range: refused. -/
theorem test_ill_formed_6 : ([
    .getStageStatus 0 16,
    .setResidueCap 2 0 0,
    .setResidueCap 0 16 0,
    .plannedSave 2 0 0 0,
    .plannedSave 0 16 0 0,
    .getGaugeReport 2 0,
    .getGaugeReport 0 16,
    .startRehearsal 2 0 0,
    .startRehearsal 0 16 0,
    .cancelRehearsal 2 0,
    .cancelRehearsal 0 16,
    .readPromptBook 2 0 0 0 0 0,
    .readPromptBook 0 16 0 0 0 0,
    .clearPromptBook 2 0 0 0 0,
    .clearPromptBook 0 16 0 0 0,
    .getBlockWear 2 0 0 0 0 0,
    .getBlockWear 0 16 0 0 0 0,
    .getBlockWear 0 0 256 0 0 0,
    .loadImageSection 2 0 0 false false 0 [],
    .loadImageSection 0 16 0 false false 0 [],
    .loadImageSectionAbort 2 0 0,
    .loadImageSectionAbort 0 16 0,
    .applyStageSection 2 0 0 0,
    .applyStageSection 0 16 0 0] : List Instr).all (fun i => wellFormed i == false) = true := by decide
/-- Each of these terms has one operand outside its range: refused. -/
theorem test_ill_formed_7 : ([
    .applyStageSectionUnbind 2 0 0 0,
    .applyStageSectionUnbind 0 16 0 0,
    .attest 2 0 [],
    .attest 0 16 [],
    .getHeatStatistics 2 0 0 0,
    .getHeatStatistics 0 16 0 0,
    .userAreaRead 2 0 0 0 0,
    .userAreaRead 0 16 0 0 0,
    .userAreaProgram 2 0 0 0 [],
    .userAreaProgram 0 16 0 0 [],
    .userAreaEraseSector 2 0 0 0,
    .userAreaEraseSector 0 16 0 0,
    .userAreaSectorStatus 2 0 0 0,
    .userAreaSectorStatus 0 16 0 0,
    .intermissionResume 2 0 0,
    .intermissionResume 0 16 0,
    .getPowerReport 2 0,
    .getPowerReport 0 16,
    .laneEncrypt 16,
    .laneDecrypt 16,
    .laneRelay 16,
    .houseGcmEncrypt 5 0 0 [] [] [],
    .houseGcmEncrypt 0 64 0 [] [] [],
    .houseGcmEncrypt 0 0 16 [] [] []] : List Instr).all (fun i => wellFormed i == false) = true := by decide
/-- Each of these terms has one operand outside its range: refused. -/
theorem test_ill_formed_8 : ([
    .houseGcmDecrypt 5 0 0 [] [] [] [] 0,
    .houseGcmDecrypt 0 64 0 [] [] [] [] 0,
    .houseGcmDecrypt 0 0 16 [] [] [] [] 0,
    .houseGmac 5 0 0 [] [],
    .houseGmac 0 64 0 [] [],
    .houseGmac 0 0 16 [] [],
    .keyWrap 5 0 [],
    .keyWrap 0 16 [],
    .keyUnwrap 5 0 0 [],
    .keyUnwrap 0 16 0 [],
    .keyUnwrap 0 0 16 [],
    .contextSave 5 0 false,
    .contextSave 0 64 false,
    .contextRestore 5 0 false [],
    .contextRestore 0 64 false [],
    .sha256Call 5 ⟨none, 0, true⟩ [],
    .signatureVerify 3 [] [] [],
    .randomRequest 5 0,
    .railFailure 16,
    .vmonUpdate 8 0,
    .vmonUpdate 0 4096,
    .poll ⟨512, 0, 0, 0, false⟩,
    .poll ⟨0, 256, 0, 0, false⟩,
    .poll ⟨0, 0, 4, 0, false⟩] : List Instr).all (fun i => wellFormed i == false) = true := by decide
/-- Each of these terms has one operand outside its range: refused. -/
theorem test_ill_formed_9 : ([
    .poll ⟨0, 0, 0, 512, false⟩,
    .status 512 0 0 false false 0,
    .status 0 256 0 false false 0,
    .status 0 0 4 false false 0,
    .status 0 0 0 false false 64,
    .ack 512 0 0 0,
    .ack 0 256 0 0,
    .ack 0 0 4 0,
    .cueSave ⟨512, 0, 0, 0, false⟩ 0,
    .cueSave ⟨0, 256, 0, 0, false⟩ 0,
    .cueSave ⟨0, 0, 4, 0, false⟩ 0,
    .cueSave ⟨0, 0, 0, 512, false⟩ 0,
    .wake ⟨512, 0, 0, 0, false⟩,
    .wake ⟨0, 256, 0, 0, false⟩,
    .wake ⟨0, 0, 4, 0, false⟩,
    .wake ⟨0, 0, 0, 512, false⟩,
    .time ⟨512, 0, 0, 0, false⟩ 0 false,
    .time ⟨0, 256, 0, 0, false⟩ 0 false,
    .time ⟨0, 0, 4, 0, false⟩ 0 false,
    .time ⟨0, 0, 0, 512, false⟩ 0 false,
    .grant ⟨512, 0, 0, 0, false⟩,
    .grant ⟨0, 256, 0, 0, false⟩,
    .grant ⟨0, 0, 4, 0, false⟩,
    .grant ⟨0, 0, 0, 512, false⟩] : List Instr).all (fun i => wellFormed i == false) = true := by decide
/-- Each of these terms has one operand outside its range: refused. -/
theorem test_ill_formed_10 : ([
    .orderStart ⟨512, 0, 0, 0, false⟩,
    .orderStart ⟨0, 256, 0, 0, false⟩,
    .orderStart ⟨0, 0, 4, 0, false⟩,
    .orderStart ⟨0, 0, 0, 512, false⟩,
    .revoke ⟨512, 0, 0, 0, false⟩,
    .revoke ⟨0, 256, 0, 0, false⟩,
    .revoke ⟨0, 0, 4, 0, false⟩,
    .revoke ⟨0, 0, 0, 512, false⟩,
    .readReg ⟨512, 0, 0, 0, false⟩ 0,
    .readReg ⟨0, 256, 0, 0, false⟩ 0,
    .readReg ⟨0, 0, 4, 0, false⟩ 0,
    .readReg ⟨0, 0, 0, 512, false⟩ 0,
    .readReg okHdr 65536,
    .reservedMessage ⟨512, 0, 0, 0, false⟩ 0,
    .reservedMessage ⟨0, 256, 0, 0, false⟩ 0,
    .reservedMessage ⟨0, 0, 4, 0, false⟩ 0,
    .reservedMessage ⟨0, 0, 0, 512, false⟩ 0,
    .linkTimeout 256,
    .grantLimit 64,
    .batteryFault 0,
    .batteryFault 4,
    .batteryFaultCleared 0,
    .batteryFaultCleared 4,
    .storeErase .house 8192] : List Instr).all (fun i => wellFormed i == false) = true := by decide
/-- Each of these terms has one operand outside its range: refused. -/
theorem test_ill_formed_11 : ([
    .storeStatus .house 8192,
    .storeProtect 128 false false,
    .registerWrite .core 65536 0 false,
    .pllUnlock 5,
    .domainPowerUp 56,
    .railPgHigh 16,
    .railPgLow 16,
    .lunReady 256,
    .clearEventRecords 2 0 0 false [],
    .clearEventRecords 0 16 0 false []] : List Instr).all (fun i => wellFormed i == false) = true := by decide
/-- The same commands with every operand in its range: accepted. -/
theorem test_well_formed_1 : ([
    .vaonApplied 0 0 0 false,
    .memWr 0 0 0 none 0 false,
    .memWrPtl 0 0 0 none 0 0 false,
    .memRd 0 0 0 none,
    .memRdData 0 0 0 none,
    .memSpecRd 0 0 none,
    .memInv 0 0 ⟨0, none⟩,
    .memInvNt 0 0 ⟨0, none⟩,
    .pageProgramIssue 0,
    .pageProgramStatus 0 0 0 false 0,
    .pageReadIssue 0,
    .pageReadComplete 0 0 0 false 0,
    .commandTimeout 0 0,
    .blockEraseComplete 0 0 0 false,
    .flashChannelTraining 0 none 0 false,
    .mpCmd 0,
    .mpAddr 0,
    .mpDin 0,
    .mpDout 0 [],
    .mpWaitRdy 0,
    .mpWaitRdyTimeout 0,
    .mpDelay 0,
    .mpDelayExpiry 0,
    .mpStatus 0 0] : List Instr).all (fun i => wellFormed i == true) = true := by decide
/-- The same commands with every operand in its range: accepted. -/
theorem test_well_formed_2 : ([
    .mpBranch 0,
    .mpSetfeat 0,
    .mpLoop 0,
    .mpEnd 0,
    .mpRunTimeout 0,
    .dramRequestEnqueue 0 false 0,
    .refreshInterval 0 false 0,
    .rankPowerDown 0 false 0,
    .remapCopyDone 0,
    .linkUp 0 0 0,
    .linkDown 0,
    .gpfPhase1 0,
    .gpfPhase2 0,
    .gpfPhase2Complete 0,
    .pmeTurnOff 0,
    .getHealthInfo 0 0,
    .getAlertConfiguration 0 0,
    .setAlertConfiguration 0 0 none none none,
    .getShutdownState 0 0,
    .setShutdownState 0 0 0,
    .getPoisonList 0 0 0 0,
    .injectPoison 0 0 0,
    .clearPoison 0 0 0 0,
    .scanMedia 0 0 0 0] : List Instr).all (fun i => wellFormed i == true) = true := by decide
/-- The same commands with every operand in its range: accepted. -/
theorem test_well_formed_3 : ([
    .getScanMediaResults 0 0,
    .secureErase 0 0,
    .sanitize 0 0,
    .getLsa 0 0 0 0,
    .setLsa 0 0 0 [],
    .setPartitionInfo 0 0,
    .getLdInfo 0 0,
    .getLdAllocations 0 0,
    .setLdAllocations 0 0,
    .getTimestamp 0 0,
    .setTimestamp 0 0 0,
    .setEventInterruptPolicy 0 0 0,
    .getFwInfo 0 0,
    .transferFw 0 0 0 0 0 [],
    .activateFwOffline 0 0 0,
    .activateFwOnline 0 0 0,
    .getStageStatus 0 0,
    .setResidueCap 0 0 0,
    .plannedSave 0 0 0 0,
    .getGaugeReport 0 0,
    .startRehearsal 0 0 0,
    .cancelRehearsal 0 0,
    .readPromptBook 0 0 0 0 0 0,
    .clearPromptBook 0 0 0 0 0] : List Instr).all (fun i => wellFormed i == true) = true := by decide
/-- The same commands with every operand in its range: accepted. -/
theorem test_well_formed_4 : ([
    .getBlockWear 0 0 0 0 0 0,
    .loadImageSection 0 0 0 false false 0 [],
    .loadImageSectionAbort 0 0 0,
    .applyStageSection 0 0 0 0,
    .applyStageSectionUnbind 0 0 0 0,
    .attest 0 0 [],
    .getHeatStatistics 0 0 0 0,
    .userAreaRead 0 0 0 0 0,
    .userAreaProgram 0 0 0 0 [],
    .userAreaEraseSector 0 0 0 0,
    .userAreaSectorStatus 0 0 0 0,
    .intermissionResume 0 0 0,
    .getPowerReport 0 0,
    .laneEncrypt 0,
    .laneDecrypt 0,
    .laneRelay 0,
    .houseGcmEncrypt 0 0 0 [] [] [],
    .houseGcmDecrypt 0 0 0 [] [] [] [] 0,
    .houseGmac 0 0 0 [] [],
    .keyWrap 0 0 [],
    .keyUnwrap 0 0 0 [],
    .contextSave 0 0 false,
    .contextRestore 0 0 false [],
    .sha256Call 0 ⟨none, 0, true⟩ []] : List Instr).all (fun i => wellFormed i == true) = true := by decide
/-- The same commands with every operand in its range: accepted. -/
theorem test_well_formed_5 : ([
    .signatureVerify 0 [] [] [],
    .randomRequest 0 0,
    .railFailure 0,
    .vmonUpdate 0 0,
    .poll okHdr,
    .status 0 0 0 false false 0,
    .ack 0 0 0 0,
    .cueSave okHdr 0,
    .wake okHdr,
    .time okHdr 0 false,
    .grant okHdr,
    .orderStart okHdr,
    .revoke okHdr,
    .readReg okHdr 0,
    .reservedMessage okHdr 0,
    .linkTimeout 0,
    .grantLimit 0,
    .batteryFault 1,
    .batteryFaultCleared 1,
    .storeErase .house 0,
    .storeStatus .house 0,
    .storeProtect 0 false false,
    .registerWrite .core 0 0 false,
    .pllUnlock 0] : List Instr).all (fun i => wellFormed i == true) = true := by decide
/-- The same commands with every operand in its range: accepted. -/
theorem test_well_formed_6 : ([
    .domainPowerUp 0,
    .railPgHigh 0,
    .railPgLow 0,
    .lunReady 0,
    .clearEventRecords 0 0 0 false []] : List Instr).all (fun i => wellFormed i == true) = true := by decide

/-! For each statement with hypotheses: states and operands that meet them together. -/

/-- The reset state in a device mode. -/
def inMode (m : Mode) : State := { State.reset with modes := { State.reset.modes with mode := m } }
/-- Fields written. -/
def setF (s : State) (l : List (Fld × Nat)) : State := l.foldl (fun s e => wr s e.1 e.2) s
/-- One stage in a state. -/
def stageIn (s : State) (n : Stage) (x : StageState) : State := { s with modes := { s.modes with stages := qset s.modes.stages n x } }
/-- Service with stage 0 Live. -/
def live0 : State := stageIn (inMode .service) 0 .live
/-- A cue program under way. -/
def inRun (s : State) (r : CueRun) : State := { s with power := { s.power with run := some r } }
/-- An image in effect and a valid cue table of `n` words: the words listed and the header and check words that go with them. -/
def withWords (s : State) (n : Nat) (l : NMap Word) : State :=
  let mem := mset 0#48 l 0 (BitVec.ofNat 48 (1 + n * 65536))
  let t := { s with power := { s.power with cueMem := mem } }
  wr { s with power := { s.power with cueMem := mset 0#48 mem 35 (BitVec.ofNat 48 (crcWords (cueWords t 1 18 ++ cueWords t 29 6))) } } F.IMG_STATUS_VALID 1
/-- A valid cue table with nothing in it. -/
def withTable (s : State) : State := withWords s 36 []
/-- A valid cue table of 37 words, word 36 being the one program word, of program `p`. -/
def withProg (s : State) (p w : Nat) : State :=
  withWords s 37 [(19 + 2 * p, BitVec.ofNat 48 (36 + 2 ^ 11 + 2 ^ 20)), (20 + 2 * p, BitVec.ofNat 48 (crcWords [BitVec.ofNat 48 w])), (36, BitVec.ofNat 48 w)]
/-- A register word of one field's value. -/
def wordOf (f : Fld) (v : Nat) : Word := BitVec.ofNat 48 (v * 2 ^ f.lo)
/-- Stage 0 bound to DRAM channel 0, flash channels 0 and 1 and port 0, 256 MiB for the host and as much backstage, the combined port in L0, no ledger event yet in the clock. -/
def board (m : Mode) (x : StageState) : State :=
  let s := setF (stageIn (inMode m) 0 x) [(F.STAGE_BIND_BOUND 0, 1), (F.STAGE_BIND_DRAM 0, 1), (F.STAGE_BIND_FLASH 0, 3), (F.STAGE_SIZE_RAW_256MIB 0, 2), (F.STAGE_SIZE_HOST_256MIB 0, 1), (F.IMG_STATUS_VALID, 1), (F.PWR_VIN_STATUS_SUPPLY_GOOD, 1)]
  { s with dram := { s.dram with maps := ⟨wordOf (F.DC_MAP_BOUND 0) 1, 0#48, 0#48, 0#48⟩ }, cxl := { s.cxl with p0 := ⟨true, 64, 16, false, false, false⟩ }, now := 8, power := { s.power with failed := false, absent := false } }
/-- Parts of stage 0 changed. -/
def led0 (s : State) (f : LedgerState → LedgerState) : State := { s with ledger := qset s.ledger 0 (f (qget s.ledger 0)) }
def rst0 (s : State) (f : RestoreState → RestoreState) : State := { s with restore := qset s.restore 0 (f (qget s.restore 0)) }
def sav0 (s : State) (f : StageSave → StageSave) : State := { s with saves := qset s.saves 0 (f (qget s.saves 0)) }
def fset0 (s : State) (f : StageFlash → StageFlash) : State := { s with flash := { s.flash with sets := qset s.flash.sets 0 (f (qget s.flash.sets 0)) } }
def fsys0 (s : State) (f : StageSys → StageSys) : State := { s with flash := { s.flash with sys := qset s.flash.sys 0 (f (qget s.flash.sys 0)) } }
def sub0 (s : State) (f : SubCh → SubCh) : State := { s with dram := { s.dram with ch := qset s.dram.ch 0 { qget s.dram.ch 0 with subA := f (qget s.dram.ch 0).subA } } }
/-- Flash channel 0 of the board's stage, Live, with commands, runs and a micro-program of one word for entry 0. -/
def withChan (s : State) (ops : List FlashOp) (runs : List MpRun) (w : Nat) : State :=
  { s with flash := { s.flash with chans := [(0, ⟨[], ops, [], runs, [1#8, 2#8], []⟩)], micro := ⟨[0#48, 0#48, 0#48, BitVec.ofNat 48 (20 + 4096 + 2 ^ 21)] ++ List.replicate 16 0#48 ++ [BitVec.ofNat 48 w], [], [], []⟩ } }
/-- A run of that micro-program. -/
def run0 (w : MpWait) : MpRun := ⟨0, 0, 0, 5, 0, 0, [], 0, 0, 0, 0, w, 0⟩
/-- A codeword of a frame of stage 0 with an empty body, of generation 1 and sequence 1, and the map entry of its copy in LUN 0, page 8. -/
def cw0 (frame : Nat) : Codeword := ⟨[], frameHeader 0 0 frame 1 1 0, []⟩
def entry0 : Nat := mkEntry 0 8 0 1 1
/-- A host read or write of stage 0's line, alone in its pair. -/
def req0 (write : Bool) (line : Nat) : DramReq :=
  ⟨7, if write then 3 else 2, 1, write, 0, line, line, 0#512, false, if write then .hostWrite else .hostRead 0 0, 0, 1, false, [], false, 0, true, false, none, false⟩

/-- Reset, and a Live stage with nothing waiting. -/
theorem witness_IdleStep :
    (∀ s ∈ [(State.reset : State), (board .service .live : State)], s.store.writing.all (fun e => decide (s.now + 8 < e.done)) = true ∧ ∀ n : Stage, wtDirty s n = [] ∧ (led s n).stallW = [] ∧ (led s n).stallR = []) := by
  decide +kernel

/-- The strap levels of VAON_APPLIED at the highest value of their range; the statement asks nothing of the state. -/
theorem witness_VaonCommands :
    ((7 : Nat) < 8) := by
  decide +kernel

/-- A step that answers a next state. -/
theorem witness_StepSettles : step State.reset = .next (finish { State.reset with now := 8 }) := rfl

/-- Registers without a behaviour of their own, in two modes, whatever word is written. -/
theorem witness_RegisterWriteByAccessType : ∀ w : Word, ∀ s ∈ ([board .service .live, inMode .hold] : List State), ∀ i ∈ ([F.MODE_HOLD_HOLD_DEADLINE.idx, F.SB_CFG_PEC_EN.idx] : List Nat),
    pathWrites s .sideband i = true ∧ (mainOff s && regDomain i = .main) = false ∧ writeIgnored (atRegister s .sideband) i w = false ∧ (∀ x : State, trigger x i w s.fw.recoveryLow = x) := by
  intro w s hs i hi
  simp only [List.mem_cons, List.not_mem_nil, or_false] at hs hi
  rcases hs with rfl | rfl <;> rcases hi with rfl | rfl <;> exact ⟨by decide +kernel, by decide +kernel, rfl, fun x => rfl⟩

/-- Two paths that write every register of the statement, for the lowest and the highest stage. -/
theorem witness_RegisterClears :
    (∀ p ∈ [Path.core, .bar2], ∀ n ∈ ([0, 3] : List Stage), pathWrites (board .service .live) p (F.LDG_HOLD_MAX_MAX_US n.val).idx = true ∧ pathWrites (board .service .live) p (F.RESTORE_TOUCH_MAX_MAX_US n.val).idx = true ∧ pathWrites (board .service .live) p F.GLB_ACCESS_COUNT.idx = true ∧ pathWrites (board .service .live) p F.STAGE_XBAR_FAULT_COUNT.idx = true ∧ pathWrites (board .service .live) p F.CPD_POWER_PEAK_MW.idx = true ∧ pathWrites (board .service .live) p F.PMON_CTRL_FREEZE.idx = true) := by
  decide +kernel

/-- States and operands that meet the hypotheses of ArmRows, clause by clause. -/
theorem witness_ArmRows :
    (pathWrites (board .service .live) .core (F.DC_INJECT_ARM 0).idx = true)
    ∧ (pathWrites (setF (board .service .live) [(F.DC_ECC_CFG_INJECT_LIVE 3, 1)]) .bar2 (F.DC_INJECT_ARM 3).idx = true ∧ writeIgnored (atRegister (setF (board .service .live) [(F.DC_ECC_CFG_INJECT_LIVE 3, 1)]) .bar2) (F.DC_INJECT_ARM 3).idx (0#48 ||| oneField (F.DC_INJECT_ARM 3) 1) = false)
    ∧ (pathWrites (board .standby .dressing) .core F.FL_INJECT_ARM.idx = true ∧ writeIgnored (atRegister (board .standby .dressing) .core) F.FL_INJECT_ARM.idx (0#48 ||| oneField F.FL_INJECT_ARM 1) = false)
    ∧ (pathWrites (board .standby .dressing) .core F.CIPH_LANE_TEST_ARM.idx = true ∧ writeIgnored (atRegister (board .standby .dressing) .core) F.CIPH_LANE_TEST_ARM.idx (0#48 ||| oneField F.CIPH_LANE_TEST_ARM 1) = false)
    ∧ (pathWrites (board .service .live) .core (F.DC_SCRUB_STATUS_POSITION 0).idx = true ∧ pathWrites (board .service .live) .core (F.DC_SCRUB_STATUS_POSITION 3).idx = true) := by
  refine ⟨?_, ?_, ?_, ?_, ?_⟩ <;> decide +kernel

/-- States and operands that meet the hypotheses of ReadCommands, clause by clause. -/
theorem witness_ReadCommands :
    (∀ p ∈ [Path.core, .bar2], p ≠ .sideband ∧ p ≠ .recovery ∧ pathOpen (board .service .live) p = true) := by
  decide +kernel

/-- States and operands that meet the hypotheses of VinCrossings, clause by clause. -/
theorem witness_VinCrossings :
    (∀ s ∈ [(State.reset : State)], debounceOver s = false ∧ deglitchDue s = false)
    ∧ (∀ s ∈ [(({ (live0 : State) with power := { (live0 : State).power with debounce := some 0 } } : State) : State)], debounceOver s = true)
    ∧ (∀ s ∈ [(({ (live0 : State) with power := { (live0 : State).power with deglitch := some 0 } } : State) : State)], deglitchDue s = true) := by
  refine ⟨?_, ?_, ?_⟩ <;> decide +kernel

/-- States with a deglitch or a debounce window, one for each mode the statement names; the hold deadline of the Hold state is one tick later than the window. -/
theorem witness_MainInputWindows :
    (∀ s ∈ [(({ (live0 : State) with power := { (live0 : State).power with deglitch := some 5 } } : State) : State)], s.power.deglitch = some 5 ∧ (serving s && !s.modes.recovery && !s.modes.mrReset && !downRuns s) = true)
    ∧ (∀ s ∈ [(({ (inMode .save : State) with power := { (inMode .save : State).power with deglitch := some 0 } } : State) : State)], s.power.deglitch = some 0 ∧ s.modes.mode = .save ∧ edgeShared (until_ s 0) 8 = false)
    ∧ (∀ s ∈ [(({ (inMode .hold : State) with power := { (inMode .hold : State).power with deglitch := some 0 } } : State) : State)], s.power.deglitch = some 0 ∧ s.modes.mode = .hold)
    ∧ (∀ s ∈ [(withTable (({ (inMode .standby : State) with power := { (inMode .standby : State).power with deglitch := some 7 } } : State)) : State)], s.power.deglitch = some 7 ∧ s.modes.mode = .standby ∧ s.power.run = none ∧ tableValid s = true ∧ noImage s = false)
    ∧ (∀ s ∈ [(({ (State.reset : State) with power := { (State.reset : State).power with deglitch := some 7 } } : State) : State)], s.power.deglitch = some 7 ∧ s.modes.mode = .dark ∧ s.power.run = none)
    ∧ (∀ s ∈ [(({ (live0 : State) with power := { (live0 : State).power with debounce := some 3 } } : State) : State)], s.power.debounce = some 3 ∧ (holdTick s).elim false (fun d => decide (d ≤ 3)) = false ∧ serving s = true)
    ∧ (∀ s ∈ [(({ (inMode .standby : State) with power := { (inMode .standby : State).power with debounce := some 3 } } : State) : State)], s.power.debounce = some 3 ∧ (holdTick s).elim false (fun d => decide (d ≤ 3)) = false ∧ s.modes.mode = .standby)
    ∧ (∀ s ∈ [(setF (({ (({ (inMode .save : State) with power := { (inMode .save : State).power with debounce := some 3 } } : State) : State) with saveDev := { (({ (inMode .save : State) with power := { (inMode .save : State).power with debounce := some 3 } } : State) : State).saveDev with gate := true, cause := 8 } } : State)) [(F.SAVE_CFG_ABORT_EN, 1)] : State)], s.power.debounce = some 3 ∧ (holdTick s).elim false (fun d => decide (d ≤ 3)) = false ∧ s.modes.mode = .save ∧ abortWindow s = true)
    ∧ (∀ s ∈ [(inRun (({ (({ (inMode .hold : State) with power := { (inMode .hold : State).power with debounce := some 3 } } : State) : State) with modes := { (({ (inMode .hold : State) with power := { (inMode .hold : State).power with debounce := some 3 } } : State) : State).modes with interWait := ⟨true, false, false, false⟩, holdLen := 4 } } : State)) ⟨3, 1, false, 0, .none, 0⟩ : State)], s.power.debounce = some 3 ∧ (holdTick s).elim false (fun d => decide (d ≤ 3)) = false ∧ s.modes.mode = .hold ∧ s.modes.mrLatched = false ∧ downRuns s = false ∧ s.power.run.isSome = true ∧ (∃ n, qget s.modes.interWait n = true))
    ∧ (∀ s ∈ [(setF (({ (State.reset : State) with power := { (State.reset : State).power with debounce := some 3 } } : State)) [(F.PWR_VIN_CFG_AUTO_ON, 1)] : State)], s.power.debounce = some 3 ∧ (holdTick s).elim false (fun d => decide (d ≤ 3)) = false ∧ s.modes.mode = .dark ∧ s.power.absent = true ∧ rdb s F.PWR_VIN_CFG_AUTO_ON = true ∧ s.modes.powerUp = none ∧ s.power.run = none) := by
  refine ⟨?_, ?_, ?_, ?_, ?_, ?_, ?_, ?_, ?_, ?_⟩ <;> decide +kernel

/-- States and operands that meet the hypotheses of RailPowerGood, clause by clause. -/
theorem witness_RailPowerGood :
    (∀ s ∈ [(State.reset : State)], s.power.run = none ∧ (∀ r ∈ ([0, 15] : List Nat), bitOf (rd s F.PWR_RAIL_STATUS_WATCHED) r = false) ∧ s.modes.mode = .dark)
    ∧ (∀ s ∈ [(setF (live0) [(F.PWR_RAIL_STATUS_WATCHED, 32769)] : State)], (∀ r ∈ ([0, 15] : List Nat), bitOf (rd s F.PWR_RAIL_STATUS_WATCHED) r = true) ∧ waitEnded s = false)
    ∧ (∀ s ∈ [(setF (inMode .standby) [(F.PWR_RAIL_STATUS_WATCHED, 32769)] : State)], s.modes.mode = .standby ∧ s.power.run = none ∧ (∀ r ∈ ([0, 15] : List Nat), bitOf (rd s F.PWR_RAIL_STATUS_WATCHED) r = true ∧ railCritical s r = false)) := by
  refine ⟨?_, ?_, ?_⟩ <;> decide +kernel

/-- States and operands that meet the hypotheses of ButtonsAndResets, clause by clause. -/
theorem witness_ButtonsAndResets :
    (∀ s ∈ [(State.reset : State)], rdb s F.PWR_BTN_BTN_LOW = false ∧ s.modes.mrReset = false)
    ∧ (∀ s ∈ [(({ (live0 : State) with power := { (live0 : State).power with press := some 0 } } : State) : State)], (∀ k ∈ ([rd s F.PWR_BTN_LONG] : List Nat), pressEnd s = some k ∧ tickOf s < k) ∧ (serving s && !s.modes.recovery && !s.modes.mrReset && !downRuns s) = true)
    ∧ (∀ s ∈ [(setF (({ (State.reset : State) with power := { (State.reset : State).power with press := some 0 } } : State)) [(F.PWR_VIN_STATUS_SUPPLY_GOOD, 1)] : State)], (∀ k ∈ ([rd s F.PWR_BTN_LONG] : List Nat), pressEnd s = some k ∧ tickOf s < k) ∧ s.modes.mode = .dark ∧ rdb s F.PWR_VIN_STATUS_SUPPLY_GOOD = true ∧ s.modes.powerUp = none ∧ s.power.run = none ∧ downRuns s = false)
    ∧ (∀ s ∈ [(withTable (({ (inMode .standby : State) with power := { (inMode .standby : State).power with press := some 0 } } : State)) : State)], (pressEnd s).isSome = true ∧ s.modes.mode = .standby ∧ s.power.run = none ∧ tableValid s = true ∧ noImage s = false)
    ∧ (∀ s ∈ [(withTable (({ (live0 : State) with power := { (live0 : State).power with press := some 0 } } : State)) : State)], (pressEnd s).isSome = true ∧ serving s = true ∧ s.power.run = none ∧ tableValid s = true ∧ noImage s = false)
    ∧ (∀ s ∈ [(inMode .save : State)], s.modes.mode = .save)
    ∧ (∀ s ∈ [(inMode .hold : State)], s.modes.mode = .hold)
    ∧ (∀ s ∈ [(({ (({ (inMode .standby : State) with power := { (inMode .standby : State).power with failed := false } } : State) : State) with modes := { (({ (inMode .standby : State) with power := { (inMode .standby : State).power with failed := false } } : State) : State).modes with mrReset := true } } : State) : State)], s.modes.mrReset = true ∧ s.power.failed = false ∧ s.modes.mode = .standby)
    ∧ (∀ s ∈ [(setF (({ (inMode .standby : State) with power := { (inMode .standby : State).power with hot := 3 } } : State)) [(F.PWR_THERM_TRIP_C, 255), (F.PWR_THERM_TRIPPED, 0)] : State)], s.modes.mode = .standby ∧ rd s F.PWR_THERM_TRIP_C ≤ 255 ∧ 3 ≤ s.power.hot ∧ rd s F.PWR_THERM_TRIPPED = 0) := by
  refine ⟨?_, ?_, ?_, ?_, ?_, ?_, ?_, ?_, ?_⟩ <;> decide +kernel

/-- States and operands that meet the hypotheses of SavePhaseCommands, clause by clause. -/
theorem witness_SavePhaseCommands :
    (∀ s ∈ [(sav0 (withProg (({ (board .save .live : State) with saveDev := { (board .save .live : State).saveDev with gate := true } } : State)) 2 48378511622145) (fun v => { v with phase := .drain }) : State)], s.saveDev.gate = true ∧ s.saveDev.drained = false ∧ s.saveDev.abort = 0 ∧ s.power.run = none ∧ tableValid s = true ∧ noImage s = false ∧ rdb s F.CUE_CFG_FORCE_TABLE = false ∧ progValid s 2 = true ∧ (∀ n, (sav s n).phase = .drain → drainDone s n = true) ∧ (sav s 0).phase = .drain)
    ∧ (∀ s ∈ [(setF (inRun (sav0 (({ (({ (inMode .save : State) with saveDev := { (inMode .save : State).saveDev with gate := true, drained := true, action := 1 } } : State) : State) with saveDev := { (({ (inMode .save : State) with saveDev := { (inMode .save : State).saveDev with gate := true, drained := true, action := 1 } } : State) : State).saveDev with saving := ⟨true, false, false, false⟩ } } : State)) (fun v => { v with phase := .committed })) ⟨2, 1, false, 0, .none, 0⟩) [(F.PWR_VIN_STATUS_SUPPLY_GOOD, 1)] : State)], savesEnded s = true ∧ requestsOut s = true ∧ s.saveDev.anyTorn = false ∧ s.modes.mrLatched = false ∧ s.saveDev.action = 1 ∧ rdb s F.PWR_VIN_STATUS_SUPPLY_GOOD = true ∧ s.power.run.isSome = true ∧ savingStages s ≠ [])
    ∧ (∀ s ∈ [(setF (inRun (withTable (sav0 (({ (({ (inMode .save : State) with saveDev := { (inMode .save : State).saveDev with gate := true, drained := true, action := 1 } } : State) : State) with saveDev := { (({ (inMode .save : State) with saveDev := { (inMode .save : State).saveDev with gate := true, drained := true, action := 1 } } : State) : State).saveDev with saving := ⟨true, false, false, false⟩ } } : State)) (fun v => { v with phase := .committed }))) ⟨2, 1, false, 0, .none, 0⟩) [(F.MODE_HOLD_HOLD_DEADLINE, 1)] : State)], savesEnded s = true ∧ requestsOut s = true ∧ s.saveDev.anyTorn = false ∧ s.modes.mrLatched = false ∧ s.saveDev.action = 1 ∧ rdb s F.PWR_VIN_STATUS_SUPPLY_GOOD = false ∧ rd s F.MODE_HOLD_HOLD_DEADLINE ≠ 0 ∧ tableValid s = true ∧ s.power.run.isSome = true)
    ∧ (∀ s ∈ [(withTable (({ (sav0 (({ (({ (inMode .save : State) with saveDev := { (inMode .save : State).saveDev with gate := true, drained := true, action := 1 } } : State) : State) with saveDev := { (({ (inMode .save : State) with saveDev := { (inMode .save : State).saveDev with gate := true, drained := true, action := 1 } } : State) : State).saveDev with saving := ⟨true, false, false, false⟩ } } : State)) (fun v => { v with phase := .committed }) : State) with saveDev := { (sav0 (({ (({ (inMode .save : State) with saveDev := { (inMode .save : State).saveDev with gate := true, drained := true, action := 1 } } : State) : State) with saveDev := { (({ (inMode .save : State) with saveDev := { (inMode .save : State).saveDev with gate := true, drained := true, action := 1 } } : State) : State).saveDev with saving := ⟨true, false, false, false⟩ } } : State)) (fun v => { v with phase := .committed }) : State).saveDev with action := 0 } } : State)) : State)], savesEnded s = true ∧ requestsOut s = true ∧ s.saveDev.anyTorn = false ∧ s.modes.mrLatched = false ∧ s.saveDev.action ≠ 1 ∧ s.power.run = none ∧ tableValid s = true ∧ noImage s = false)
    ∧ (∀ s ∈ [(inRun (({ (inMode .save : State) with saveDev := { (inMode .save : State).saveDev with abort := 1 } } : State)) ⟨2, 1, false, 0, .none, 0⟩ : State)], s.saveDev.abort = 1 ∧ programsOut s = false ∧ s.saveDev.anyTorn = false ∧ s.power.run.isSome = true ∧ downRuns s = false)
    ∧ (∀ s ∈ [(withTable (({ (inMode .hold : State) with modes := { (inMode .hold : State).modes with holdEntry := 2, holdLen := 3 } } : State)) : State)], holdTick s = some 5 ∧ s.power.run = none ∧ tableValid s = true)
    ∧ (∀ s ∈ [(State.reset : State)], holdTick s = none) := by
  refine ⟨?_, ?_, ?_, ?_, ?_, ?_, ?_⟩ <;> decide +kernel

/-- States and operands that meet the hypotheses of ModeRequests, clause by clause. -/
theorem witness_ModeRequests :
    (∀ s ∈ [(setF (State.reset) [(F.PWR_VIN_STATUS_SUPPLY_GOOD, 1)] : State)], (∀ p ∈ [Path.sideband], pathWrites s p F.MODE_REQUEST_POWER_UP.idx = true) ∧ s.modes.mode = .dark ∧ rdb s F.PWR_VIN_STATUS_SUPPLY_GOOD = true ∧ s.modes.powerUp = none ∧ s.power.run = none)
    ∧ (∀ s ∈ [(State.reset : State)], (∀ p ∈ [Path.sideband], pathWrites s p F.MODE_REQUEST_POWER_UP.idx = true) ∧ rdb s F.PWR_VIN_STATUS_SUPPLY_GOOD = false ∧ s.modes.mode ≠ .standby)
    ∧ (∀ s ∈ [(live0 : State)], (∀ p ∈ [Path.core, .sideband], pathWrites s p F.MODE_REQUEST_POWER_UP.idx = true) ∧ s.modes.mode ≠ .dark ∧ s.modes.mode ≠ .standby)
    ∧ (∀ s ∈ [(withTable (inMode .standby) : State)], (∀ p ∈ [Path.core], pathWrites s p F.MODE_REQUEST_POWER_UP.idx = true) ∧ s.modes.mode = .standby ∧ s.power.run = none ∧ tableValid s = true ∧ noImage s = false)
    ∧ (∀ s ∈ [(State.reset : State)], regLocked s F.MODE_PLAYBILL_APPLY.idx = false ∧ 6 ≤ fldOf (wordOf F.MODE_PLAYBILL_PLAYBILL 6) F.MODE_PLAYBILL_PLAYBILL ∧ 6 ≤ fldOf (wordOf F.MODE_PLAYBILL_PLAYBILL 7) F.MODE_PLAYBILL_PLAYBILL)
    ∧ (∀ s ∈ [(inMode .hold : State)], regLocked s F.MODE_PLAYBILL_APPLY.idx = false ∧ fldOf (wordOf F.MODE_PLAYBILL_PLAYBILL 5) F.MODE_PLAYBILL_PLAYBILL < 6 ∧ s.modes.mode = .hold)
    ∧ (∀ s ∈ [(State.reset : State)], regLocked s F.MODE_PLAYBILL_APPLY.idx = false ∧ billOf (fldOf (wordOf F.MODE_PLAYBILL_PLAYBILL 5) F.MODE_PLAYBILL_PLAYBILL) = some .soloPower ∧ s.modes.mode = .dark)
    ∧ (∀ s ∈ [(({ (inMode .standby : State) with modes := { (inMode .standby : State).modes with allowed := 0x1F#6 } } : State) : State)], regLocked s F.MODE_PLAYBILL_APPLY.idx = false ∧ s.modes.mode = .standby ∧ billOf (fldOf (wordOf F.MODE_PLAYBILL_PLAYBILL 5) F.MODE_PLAYBILL_PLAYBILL) = some .soloPower ∧ s.modes.allowed.getLsbD (billCode .soloPower) = false ∧ billOf (fldOf (wordOf F.MODE_PLAYBILL_PLAYBILL 4) F.MODE_PLAYBILL_PLAYBILL) = some .soloEndurance ∧ s.modes.allowed.getLsbD (billCode .soloEndurance) = true) := by
  refine ⟨?_, ?_, ?_, ?_, ?_, ?_, ?_, ?_⟩ <;> decide +kernel

/-- States and operands that meet the hypotheses of ClocksAndDomains, clause by clause. -/
theorem witness_ClocksAndDomains :
    (∀ s ∈ [(setF (State.reset) [(F.CPD_XTAL_RC_ACTIVE, 0)] : State)], rdb s F.CPD_XTAL_RC_ACTIVE = false ∧ mainOn s = false)
    ∧ (∀ s ∈ [(setF (State.reset) [(F.CPD_XTAL_RC_ACTIVE, 1)] : State)], rdb s F.CPD_XTAL_RC_ACTIVE = true)
    ∧ (∀ s ∈ [(inMode .standby : State)], (∀ k ∈ ([0, 2] : List Nat), pllLocked s k = true) ∧ s.modes.mode = .standby ∧ anyStage s .dressing = false ∧ mainOn s = true)
    ∧ (∀ s ∈ [(({ (board .service .live : State) with cxl := { (board .service .live : State).cxl with combined := false, p1 := ⟨true, 64, 8, false, false, false⟩ } } : State) : State)], (∀ k ∈ ([0, 1] : List Nat), pllLocked s (k + 3) = true ∧ (portOf s k).inL0 = true) ∧ s.cxl.combined = false) := by
  refine ⟨?_, ?_, ?_, ?_⟩ <;> decide +kernel

/-- A program of one word for each instruction, the run standing at it. -/
theorem witness_CueInstructions :
    (∀ s ∈ [(inRun (withProg (inMode .standby) 0 4398046576639) ⟨0, 0, false, 0, .none, 0⟩ : State)], cueIllegal s = false ∧ cueAt s 1 = some (⟨0, 0, false, 0, .none, 0⟩, 4398046576639))
    ∧ (∀ s ∈ [(inRun (withProg (inMode .standby) 1 8796093087743) ⟨1, 0, false, 0, .none, 0⟩ : State)], cueIllegal s = false ∧ cueAt s 2 = some (⟨1, 0, false, 0, .none, 0⟩, 8796093087743))
    ∧ (∀ s ∈ [(inRun (withProg (inMode .standby) 0 13194139533315) ⟨0, 0, false, 0, .none, 0⟩ : State)], cueIllegal s = false ∧ cueAt s 3 = some (⟨0, 0, false, 0, .none, 0⟩, 13194139533315))
    ∧ (∀ s ∈ [(inRun (withProg (inMode .standby) 1 17592186044419) ⟨1, 0, false, 0, .none, 0⟩ : State)], cueIllegal s = false ∧ cueAt s 4 = some (⟨1, 0, false, 0, .none, 0⟩, 17592186044419))
    ∧ (∀ s ∈ [(inRun (withProg (inMode .standby) 2 21990249332735) ⟨2, 0, false, 0, .none, 0⟩ : State)], cueIllegal s = false ∧ cueAt s 5 = some (⟨2, 0, false, 0, .none, 0⟩, 21990249332735))
    ∧ (∀ s ∈ [(inRun (withProg (inMode .standby) 2 26388279066624) ⟨2, 0, false, 0, .none, 0⟩ : State)], cueIllegal s = false ∧ cueAt s 6 = some (⟨2, 0, false, 0, .none, 0⟩, 26388279066624))
    ∧ (∀ s ∈ [(inRun (withProg (inMode .standby) 0 26388279066639) ⟨0, 0, false, 0, .none, 0⟩ : State)], cueIllegal s = false ∧ cueAt s 6 = some (⟨0, 0, false, 0, .none, 0⟩, 26388279066639))
    ∧ (∀ s ∈ [(inRun (withProg (inMode .standby) 4 30786325577728) ⟨4, 0, false, 0, .none, 0⟩ : State)], cueIllegal s = false ∧ cueAt s 7 = some (⟨4, 0, false, 0, .none, 0⟩, 30786325577728))
    ∧ (∀ s ∈ [(inRun (withProg (inMode .standby) 4 30786325577729) ⟨4, 0, false, 0, .none, 0⟩ : State)], cueIllegal s = false ∧ cueAt s 7 = some (⟨4, 0, false, 0, .none, 0⟩, 30786325577729)) := by
  refine ⟨?_, ?_, ?_, ?_, ?_, ?_, ?_, ?_, ?_⟩ <;> decide +kernel

/-- A run for each clause: at an END with and without the pass bit, and in each kind of wait. -/
theorem witness_CueEndsAndTimeouts :
    (∀ s ∈ [(inRun (withProg (inMode .standby) 0 48378511622145) ⟨0, 0, false, 0, .none, 0⟩ : State)], cueIllegal s = false ∧ cueAt s 11 = some (⟨0, 0, false, 0, .none, 0⟩, 48378511622145) ∧ s.power.run = some ⟨0, 0, false, 0, .none, 0⟩)
    ∧ (∀ s ∈ [(inRun (withProg (inMode .standby) 4 48378511622144) ⟨4, 0, false, 0, .none, 0⟩ : State)], cueIllegal s = false ∧ cueAt s 11 = some (⟨4, 0, false, 0, .none, 0⟩, 48378511622144))
    ∧ (∀ s ∈ [(inRun (inMode .standby) ⟨0, 0, false, 0, .good 0x8001 5, 0⟩ : State)], s.power.run = some ⟨0, 0, false, 0, .good 0x8001 5, 0⟩)
    ∧ (∀ s ∈ [(inRun (inMode .standby) ⟨2, 0, false, 0, .off 1 0, 0⟩ : State)], s.power.run = some ⟨2, 0, false, 0, .off 1 0, 0⟩)
    ∧ (∀ s ∈ [(inRun (inMode .standby) ⟨2, 1, false, 0, .off 1 0, 0⟩ : State)], s.power.run = some ⟨2, 1, false, 0, .off 1 0, 0⟩)
    ∧ (∀ s ∈ [(inRun (inMode .standby) ⟨4, 0, false, 0, .delay 9, 0⟩ : State)], s.power.run = some ⟨4, 0, false, 0, .delay 9, 0⟩)
    ∧ (∀ s ∈ [(inRun (inMode .standby) ⟨0, 2, false, 0, .builtIn 7, 0⟩ : State)], s.power.run = some ⟨0, 2, false, 0, .builtIn 7, 0⟩) := by
  refine ⟨?_, ?_, ?_, ?_, ?_, ?_, ?_⟩ <;> decide +kernel

/-- States and operands that meet the hypotheses of SequencerRetriesAndPasses, clause by clause. -/
theorem witness_SequencerRetriesAndPasses :
    (∀ s ∈ [(({ (State.reset : State) with modes := { (State.reset : State).modes with powerUp := some ⟨1, 0, some 4⟩ } } : State) : State)], s.modes.powerUp = some ⟨1, 0, some 4⟩)
    ∧ (∀ s ∈ [(withTable (({ (inMode .standby : State) with power := { (inMode .standby : State).power with resumeRetry := some 3 } } : State)) : State)], s.power.resumeRetry = some 3 ∧ s.power.run = none ∧ tableValid s = true ∧ noImage s = false)
    ∧ (∀ s ∈ [(inRun (withWords (inMode .standby) 36 [(1, 0x8001#48)]) ⟨0, 1, false, 0, .none, 0⟩ : State)], s.power.run = some ⟨0, 1, false, 0, .none, 0⟩ ∧ depLeft s 0 ≠ 0 ∧ depPass s 0 ≠ 0 ∧ depUp 0 = true ∧ (railsOf (depPass s 0)).all (railGood s) = false)
    ∧ (∀ s ∈ [(inRun (setF (withTable (inMode .standby)) [(F.PWR_RAIL_STATUS_EN, 1), (F.PWR_RAIL_STATUS_PG, 1)]) ⟨1, 1, false, 0, .none, 0⟩ : State)], s.power.run = some ⟨1, 1, false, 0, .none, 0⟩ ∧ depLeft s 1 ≠ 0 ∧ depPass s 1 ≠ 0 ∧ depUp 1 = false ∧ (1 : Nat) ≠ 2 ∧ (railsOf (depPass s 1)).all (railOff s) = false)
    ∧ (∀ s ∈ [(inRun (withTable (inMode .standby)) ⟨0, 1, false, 0, .none, 0⟩ : State)], s.power.run = some ⟨0, 1, false, 0, .none, 0⟩ ∧ depLeft s 0 = 0) := by
  refine ⟨?_, ?_, ?_, ?_, ?_⟩ <;> decide +kernel

/-- States and operands that meet the hypotheses of SidebandTransfers, clause by clause. -/
theorem witness_SidebandTransfers :
    (regExists F.MODE_HOLD_HOLD_DEADLINE.idx = true ∧ notServed State.reset F.MODE_HOLD_HOLD_DEADLINE.idx = false ∧ isI3c F.MODE_HOLD_HOLD_DEADLINE.idx = false ∧ sideGroup State.reset F.MODE_HOLD_HOLD_DEADLINE.idx = true ∧ F.MODE_HOLD_HOLD_DEADLINE.idx < 65536)
    ∧ (regExists F.IMG_STATUS_VALID.idx = true ∧ notServed State.reset F.IMG_STATUS_VALID.idx = true)
    ∧ (regExists 65535 = false ∧ isI3c 0x1181 = true ∧ notServed (inMode .standby) 0x1181 = false)
    ∧ (rdb (setF State.reset [(F.SB_CFG_PEC_EN, 1)]) F.SB_CFG_PEC_EN = true ∧ (0#8).toNat ≠ crc8 (sideAddr (setF State.reset [(F.SB_CFG_PEC_EN, 1)]) ++ leBytes 2 0 ++ wordBytes 0#48))
    ∧ (([0#8] : List Byte).length < 8 + rd State.reset F.SB_CFG_PEC_EN)
    ∧ (rdb (setF State.reset [(F.SB_CFG_PEC_EN, 0)]) F.SB_CFG_PEC_EN = false ∧ notServed (setF State.reset [(F.SB_CFG_PEC_EN, 0)]) F.IMG_STATUS_VALID.idx = true)
    ∧ (notServed State.reset State.reset.side.index = false ∧ State.reset.side.index < 65536)
    ∧ (([0#8, 0#8] : List Byte).take 2 ≠ sideAddr State.reset) := by
  refine ⟨?_, ?_, ?_, ?_, ?_, ?_, ?_, ?_⟩ <;> decide +kernel

/-- States and operands that meet the hypotheses of SidebandBusEvents, clause by clause. -/
theorem witness_SidebandBusEvents :
    (∀ s ∈ [(setF (inMode .standby) [(F.SB_CFG_IBR_EN, 1), (F.SB_ALERT_STATUS_SOURCES, 1), (F.SB_ALERT_MASK_MASK, 1)] : State)], ibrPending s = true ∧ s.side.driving = none)
    ∧ (ibrPending State.reset = false)
    ∧ (∀ s ∈ [(({ (inMode .standby : State) with side := { (inMode .standby : State).side with driving := some 0 } } : State) : State)], s.side.driving = some 0 ∧ s.modes.mode = .standby)
    ∧ (∀ s ∈ [(setF (({ (inMode .standby : State) with side := { (inMode .standby : State).side with driving := some 0 } } : State)) [(F.SB_IBR_FAILS, 2)] : State)], s.side.driving = some 0 ∧ 2 ≤ rd s F.SB_IBR_FAILS) := by
  refine ⟨?_, ?_, ?_, ?_⟩ <;> decide +kernel

/-- States and operands that meet the hypotheses of PromptBookCommands, clause by clause. -/
theorem witness_PromptBookCommands : 
    (∀ k ∈ ([0, 1] : List (Fin 2)), pathWrites State.reset .sideband (F.PBOOK_CURSOR_SEQ k.val).idx = true)
    ∧ (pathWrites (inMode .hold) .sideband F.PBOOK_CLEAR_GO.idx = true ∧ storePowered (inMode .hold) = false ∧ (2 ^ 32 - 1 : Nat) < 2 ^ 32)
    ∧ (∀ s ∈ [(({ (State.reset : State) with pbook := { (State.reset : State).pbook with suppressed := 1 } } : State) : State)], s.pbook.suppressed ≠ 0)
    ∧ (State.reset.pbook.suppressed = 0)
    ∧ (∀ s ∈ [(({ (board .standby .live : State) with pbook := { (board .standby .live : State).pbook with lost := 1 } } : State) : State)], s.modes.mode = .standby ∧ s.modes.booting = false ∧ roleRuns s 0 = true ∧ s.store.prog = none ∧ s.store.erase = none ∧ s.store.calls = [] ∧ copyNext s = none ∧ 0 < s.pbook.lost)
    ∧ (∀ s ∈ [(({ (board .save .live : State) with pbook := { (board .save .live : State).pbook with lost := 1 } } : State) : State)], s.modes.mode = .save ∧ s.modes.booting = false ∧ roleRuns s 0 = true ∧ s.store.prog = none ∧ s.store.erase = none ∧ s.store.calls = [] ∧ copyNext s = none ∧ 0 < s.pbook.lost)
    ∧ (∀ s ∈ [board .service .live], ∀ r ∈ [mkRec 0 1 0x001 3 0 0], serving s = true ∧ copyNext { s with pbook := { s.pbook with ring := [(1, r)], areaPos := 511 } } = some r)
    ∧ (∀ s ∈ [board .service .live], ∀ a ∈ ([50688] : List Nat), ∀ w0 w1 w2 : Word, readBack (progWords s.store a [w0, w1]) a [w0, w1] = true ∧ readBack (progWord (progWords s.store a [w0, w1]) (a + 2) w2) (a + 2) [w2] = true) := by
  refine ⟨?_, ?_, ?_, ?_, ?_, ?_, ?_, ?_⟩
  · decide +kernel
  · decide +kernel
  · decide +kernel
  · decide +kernel
  · decide +kernel
  · decide +kernel
  · decide +kernel
  · intro s hs a ha w0 w1 w2
    have hst : s.store = State.reset.store := by rw [List.mem_singleton.mp hs]; rfl
    rw [hst, List.mem_singleton.mp ha]
    have e : ∀ b, mget cellsErased State.reset.store.nor b = cellsErased := fun _ => rfl
    simp only [progWords, readBack, List.foldl]
    simp [storeWord_progWord, cells_progWord, e, asShipped, isShipped, sectorOf]

/-- States and operands that meet the hypotheses of RecordsInOrder, clause by clause. -/
theorem witness_RecordsInOrder :
    ((0 : Nat) < 1 ∧ (2 ^ 32 - 1 : Nat) < 2 ^ 32) := by
  decide +kernel

/-- The last line of the host capacity: a clean frame below the cap, an in-flight one, a clean one at the cap with one place left, and a frame not restored yet with one place left in both. -/
theorem witness_HostWritesAtTheTap :
    (∀ s ∈ [(fsys0 (setF (led0 (board .service .live) (fun x => { x with cached := [255] })) [(F.LDG_CAP_FRAMES 0, 1)]) (fun x => { x with free := 9 }) : State)], portUp s 0 = true ∧ portExists s 0 = true ∧ ldStage s 0 0 = some 0 ∧ (4194303 : Nat) < hostLines s 0 ∧ (led s 0).gated = false ∧ stageSt s 0 = .live ∧ (mapLine s 0 4194303).isSome = true ∧ (led s 0).stallW = [] ∧ (led s 0).stallR = [] ∧ noCredit s 0 true = false ∧ noCredit s 0 false = false ∧ releasable s 0 = none ∧ (led s 0).marks.edge ≠ edgeOf s.now ∧ (rst s 0).pending = false ∧ (led s 0).cached.contains (4194303 / 64 / 256) = true ∧ (led s 0).writeThrough = false ∧ frameState s 0 65535 = 0 ∧ capHolds s 0 = false)
    ∧ (∀ s ∈ [(led0 (board .service .live) (fun x => { x with cached := [255], ledger := [(65535, 2)] }) : State)], portUp s 0 = true ∧ portExists s 0 = true ∧ ldStage s 0 0 = some 0 ∧ (4194303 : Nat) < hostLines s 0 ∧ (led s 0).gated = false ∧ stageSt s 0 = .live ∧ (mapLine s 0 4194303).isSome = true ∧ (led s 0).stallW = [] ∧ (led s 0).stallR = [] ∧ noCredit s 0 true = false ∧ noCredit s 0 false = false ∧ releasable s 0 = none ∧ (led s 0).marks.edge ≠ edgeOf s.now ∧ (rst s 0).pending = false ∧ (led s 0).cached.contains (4194303 / 64 / 256) = true ∧ (led s 0).writeThrough = false ∧ frameState s 0 65535 ≠ 0)
    ∧ (∀ s ∈ [(led0 (board .service .live) (fun x => { x with cached := [255], held := List.replicate 254 ⟨.mem 0 0, 0, 4194303, 0#512, none, false, 0, false, false, false, false, false⟩ }) : State)], portUp s 0 = true ∧ portExists s 0 = true ∧ ldStage s 0 0 = some 0 ∧ (4194303 : Nat) < hostLines s 0 ∧ (led s 0).gated = false ∧ stageSt s 0 = .live ∧ (mapLine s 0 4194303).isSome = true ∧ (led s 0).stallW = [] ∧ (led s 0).stallR = [] ∧ noCredit s 0 true = false ∧ noCredit s 0 false = false ∧ releasable s 0 = none ∧ (led s 0).marks.edge ≠ edgeOf s.now ∧ (rst s 0).pending = false ∧ (led s 0).cached.contains (4194303 / 64 / 256) = true ∧ (led s 0).writeThrough = false ∧ frameState s 0 65535 = 0 ∧ capHolds s 0 = true ∧ (led s 0).held.length < 255)
    ∧ (∀ s ∈ [(rst0 (led0 (board .service .live) (fun x => { x with held := List.replicate 254 ⟨.mem 0 0, 0, 4194303, 0#512, none, false, 0, true, false, false, false, false⟩ })) (fun x => { x with pending := true, bitLines := [127], touchQ := List.replicate 31 ⟨0, 0⟩ }) : State)], portUp s 0 = true ∧ portExists s 0 = true ∧ ldStage s 0 0 = some 0 ∧ (4194303 : Nat) < hostLines s 0 ∧ (led s 0).gated = false ∧ stageSt s 0 = .live ∧ (mapLine s 0 4194303).isSome = true ∧ (led s 0).stallW = [] ∧ (led s 0).stallR = [] ∧ noCredit s 0 true = false ∧ noCredit s 0 false = false ∧ releasable s 0 = none ∧ (led s 0).marks.edge ≠ edgeOf s.now ∧ isRestored s 0 65535 = false ∧ touchKnown s 0 65535 = true ∧ (led s 0).held.length < 255 ∧ (rst s 0).touchQ.length < 32) := by
  refine ⟨?_, ?_, ?_, ?_⟩ <;> decide +kernel

/-- States and operands that meet the hypotheses of HostReadsAndInvalidates, clause by clause. -/
theorem witness_HostReadsAndInvalidates :
    (∀ s ∈ [(board .service .live : State)], portUp s 0 = true ∧ portExists s 0 = true ∧ ldStage s 0 0 = some 0 ∧ (4194303 : Nat) < hostLines s 0 ∧ (led s 0).gated = false ∧ stageSt s 0 = .live ∧ (mapLine s 0 4194303).isSome = true ∧ (led s 0).stallW = [] ∧ (led s 0).stallR = [] ∧ noCredit s 0 true = false ∧ noCredit s 0 false = false ∧ releasable s 0 = none ∧ (led s 0).marks.edge ≠ edgeOf s.now ∧ (4194303 : Nat) < rawLines s 0 ∧ (mapLine s 0 4194303).isSome = true ∧ (rst s 0).pending = false ∧ (led s 0).held.any (fun w => w.line == 4194303) = false)
    ∧ (∀ s ∈ [(led0 (board .service .live) (fun x => { x with held := [⟨.mem 0 0, 0, 4194303, 0#512, none, false, 0, false, false, false, false, false⟩] }) : State)], portUp s 0 = true ∧ portExists s 0 = true ∧ ldStage s 0 0 = some 0 ∧ (4194303 : Nat) < hostLines s 0 ∧ (led s 0).gated = false ∧ stageSt s 0 = .live ∧ (mapLine s 0 4194303).isSome = true ∧ (led s 0).stallW = [] ∧ (led s 0).stallR = [] ∧ noCredit s 0 true = false ∧ noCredit s 0 false = false ∧ releasable s 0 = none ∧ (led s 0).marks.edge ≠ edgeOf s.now ∧ (rst s 0).pending = false ∧ (led s 0).held.any (fun w => w.line == 4194303) = true)
    ∧ (∀ s ∈ [(board .service .live : State)], ldStage s 0 0 = some 0 ∧ hostLines s 0 ≤ 4194304)
    ∧ (∀ s ∈ [(board .service .sealed : State)], ldStage s 0 0 = some 0 ∧ stageSt s 0 ≠ .live ∧ (led s 0).stallW = [] ∧ (led s 0).stallR = [])
    ∧ (∀ s ∈ [(setF (board .service .live) [(F.STAGE_BIND_BOUND 0, 0)] : State)], portUp s 0 = true ∧ portExists s 0 = true ∧ ldStage s 0 0 = none) := by
  refine ⟨?_, ?_, ?_, ?_, ?_⟩ <;> decide +kernel

/-- States and operands that meet the hypotheses of WritesThatReachNoStage, clause by clause. -/
theorem witness_WritesThatReachNoStage :
    (∀ s ∈ [(setF (board .service .live) [(F.STAGE_BIND_BOUND 0, 0)] : State)], portUp s 0 = true ∧ portExists s 0 = true ∧ ldStage s 0 0 = none)
    ∧ (∀ s ∈ [(board .service .live : State)], portUp s 0 = true ∧ ldStage s 0 0 = some 0 ∧ hostLines s 0 ≤ 4194304)
    ∧ (∀ s ∈ [(board .service .sealed : State)], portUp s 0 = true ∧ ldStage s 0 0 = some 0 ∧ (4194303 : Nat) < hostLines s 0 ∧ (led s 0).stallW = [] ∧ (led s 0).stallR = [] ∧ gateHolds s 0 = false ∧ stageSt s 0 ≠ .live ∧ (led s 0).notLiveLogged = false)
    ∧ (∀ s ∈ [(led0 (({ (board .save .live : State) with saveDev := { (board .save .live : State).saveDev with gate := true } } : State)) (fun x => { x with gated := true }) : State)], portUp s 0 = true ∧ ldStage s 0 0 = some 0 ∧ (4194303 : Nat) < hostLines s 0 ∧ (led s 0).stallW = [] ∧ (led s 0).stallR = [] ∧ gateHolds s 0 = true) := by
  refine ⟨?_, ?_, ?_, ?_⟩ <;> decide +kernel

/-- States and operands that meet the hypotheses of CapsAndBudget, clause by clause. -/
theorem witness_CapsAndBudget :
    (∀ s ∈ [(board .service .live : State)], mainOn s = true ∧ s.modes.applying = none ∧ stageSt s 0 = .live ∧ stageSt s 3 ≠ .live) := by
  decide +kernel

/-- Sweeps not running, running at their last line and with another due, a stage that may not sweep, and queue entries in each state, at the last line of the host capacity. -/
theorem witness_SweepsAndTrickle :
    (∀ s ∈ [(board .service .live : State)], stageSt s 0 = .live ∧ (led s 0).gated = false ∧ s.saveDev.gate = false ∧ (led s 0).sweep = none)
    ∧ (∀ s ∈ [(led0 (board .service .live) (fun x => { x with sweep := some 0 }) : State)], stageSt s 0 = .live ∧ (led s 0).gated = false ∧ s.saveDev.gate = false ∧ (led s 0).sweep = some 0 ∧ sweepNext (led s 0) 0 = none ∧ (led s 0).sweepDue = false)
    ∧ (∀ s ∈ [(board .service .sealed : State)], stageSt s 0 ≠ .live)
    ∧ (∀ s ∈ [(led0 (board .service .live) (fun x => { x with gated := true }) : State)], (led s 0).gated = true)
    ∧ (∀ s ∈ [(({ (board .service .live : State) with saveDev := { (board .service .live : State).saveDev with gate := true } } : State) : State)], s.saveDev.gate = true)
    ∧ (∀ s ∈ [(led0 (board .service .live) (fun x => { x with sweep := some 256, lineCount := [(255, 1)], sweepDue := true }) : State)], (led s 0).sweep = some 256 ∧ sweepNext (led s 0) 256 = none ∧ (led s 0).sweepDue = true)
    ∧ (∀ s ∈ [(setF (led0 (board .service .live) (fun x => { x with sweep := some 255, lineCount := [(255, 1)], ledger := [(65535, 1)], queue := List.replicate 4095 ⟨0, 0⟩ })) [(F.LDG_STATUS_RESIDUE 0, 1)] : State)], (led s 0).sweep = some 255 ∧ sweepNext (led s 0) 255 = some 255 ∧ softMark s 0 < residue s 0 ∧ trickleRuns s 0 = true ∧ (led s 0).sweepPaused = false ∧ (led s 0).queue.length + (led s 0).ledger.length ≤ 4096 ∧ frameState s 0 65535 = 1)
    ∧ (∀ s ∈ [(led0 (board .service .live) (fun x => { x with ledger := [(65535, 2)], queue := [⟨65535, 0⟩] }) : State)], trickleRuns s 0 = true ∧ (led s 0).writeThrough = false ∧ (led s 0).queue.find? (fun q => q.progress == 0) = some ⟨65535, 0⟩ ∧ (led s 0).gathers.any (fun g => g.frame == 65535) = false ∧ 2 ≤ frameState s 0 65535)
    ∧ (∀ s ∈ [(led0 (board .service .live) (fun x => { x with ledger := [(65535, 3)], queue := [⟨65535, 0⟩] }) : State)], trickleRuns s 0 = true ∧ (led s 0).writeThrough = false ∧ (led s 0).queue.find? (fun q => q.progress == 0) = some ⟨65535, 0⟩ ∧ (led s 0).gathers.any (fun g => g.frame == 65535) = false ∧ 2 ≤ frameState s 0 65535)
    ∧ (∀ s ∈ [(led0 (board .service .live) (fun x => { x with ledger := [(65535, 1)], queue := [⟨65535, 0⟩] }) : State)], trickleRuns s 0 = true ∧ (led s 0).writeThrough = false ∧ (led s 0).queue.find? (fun q => q.progress == 0) = some ⟨65535, 0⟩ ∧ (led s 0).gathers.any (fun g => g.frame == 65535) = false ∧ frameState s 0 65535 < 2) := by
  refine ⟨?_, ?_, ?_, ?_, ?_, ?_, ?_, ?_, ?_, ?_⟩ <;> decide +kernel

/-- States and operands that meet the hypotheses of HeldWritesAndLineFills, clause by clause. -/
theorem witness_HeldWritesAndLineFills :
    (∀ s ∈ [(fsys0 (setF (led0 (board .service .live) (fun x => { x with cached := [255], held := [⟨.mem 0 0, 0, 4194303, 0#512, none, false, 0, false, false, false, false, false⟩] })) [(F.LDG_CAP_FRAMES 0, 1)]) (fun x => { x with free := 9 }) : State)], (led s 0).tap = [] ∧ (led s 0).marks.edge ≠ edgeOf s.now ∧ releasable s 0 = some ⟨.mem 0 0, 0, 4194303, 0#512, none, false, 0, false, false, false, false, false⟩ ∧ (led s 0).gated = false ∧ s.saveDev.gate = false ∧ (led s 0).cached.contains (4194303 / 64 / 256) = true)
    ∧ (∀ s ∈ [(led0 (board .service .live) (fun x => { x with gated := true }) : State)], (led s 0).tap = [] ∧ (led s 0).gated = true)
    ∧ (∀ s ∈ [(({ (board .service .live : State) with saveDev := { (board .service .live : State).saveDev with gate := true } } : State) : State)], (led s 0).tap = [] ∧ s.saveDev.gate = true)
    ∧ (∀ s ∈ [(led0 (board .service .live) (fun x => { x with arrived := [(255, false)] }) : State)], (led s 0).tap = [] ∧ (led s 0).writeThrough = false ∧ (led s 0).arrived.find? (fun a => a.1 == 255) = some (255, false))
    ∧ (∀ s ∈ [(led0 (board .service .live) (fun x => { x with arrived := [(255, true)] }) : State)], (led s 0).tap = [] ∧ (led s 0).writeThrough = false ∧ (led s 0).arrived.find? (fun a => a.1 == 255) = some (255, true)) := by
  refine ⟨?_, ?_, ?_, ?_, ?_⟩ <;> decide +kernel

/-- States and operands that meet the hypotheses of PortsAndFlush, clause by clause. -/
theorem witness_PortsAndFlush :
    (∀ s ∈ [(({ (board .service .live : State) with cxl := { (board .service .live : State).cxl with p0 := portInit } } : State) : State)], portExists s 0 = true ∧ linkTrains s 64 0 = false ∧ linkTrains s 8 16 = true ∧ (portOf s 0).inL0 = false ∧ mainOn s = true ∧ s.modes.booting = false ∧ s.modes.mrReset = false ∧ linkCut s = false ∧ domainOn s 13 = true ∧ rd s F.PWR_RAIL_STATUS_EN &&& linkMask s = linkMask s)
    ∧ (∀ s ∈ [(({ (board .service .live : State) with cxl := { (board .service .live : State).cxl with p1 := portInit, combined := false } } : State) : State)], portExists s 1 = true ∧ linkTrains s 64 16 = false ∧ linkTrains s 64 8 = true ∧ (portOf s 1).inL0 = false ∧ mainOn s = true ∧ s.modes.booting = false ∧ s.modes.mrReset = false ∧ domainOn s 14 = true ∧ linkCut s = false ∧ rd s F.PWR_RAIL_STATUS_EN &&& linkMask s = linkMask s)
    ∧ (∀ s ∈ [(board .service .live : State)], portExists s 0 = true ∧ (portOf s 0).inL0 = true ∧ portUp s 0 = true ∧ (portOf s 0).flushFlag = false)
    ∧ (∀ s ∈ [(({ (board .service .live : State) with cxl := { (board .service .live : State).cxl with p0 := ⟨true, 64, 16, false, true, false⟩ } } : State) : State)], portUp s 0 = true ∧ (portOf s 0).gpf2 = true ∧ tapWaits s 0 = false)
    ∧ (∀ s ∈ [(({ (board .service .live : State) with cxl := { (board .service .live : State).cxl with p0 := ⟨true, 64, 16, true, false, false⟩, p1 := ⟨true, 64, 8, true, false, true⟩, combined := false } } : State) : State)], portUp s 0 = true ∧ (portOf s 0).flushFlag = true ∧ (∀ j ∈ ([0, 1] : List Nat), j ≠ 0 → portExists s j = true → (portOf s j).inL0 = true → (portOf s j).pmeOff = true) ∧ s.cxl.mld0 = false ∧ s.cxl.mld1 = false ∧ (serving s && !s.modes.recovery && !s.modes.mrReset && !downRuns s) = true) := by
  refine ⟨?_, ?_, ?_, ?_, ?_⟩ <;> decide +kernel

/-- A run at one instruction of each opcode. -/
theorem witness_MicroInstructions :
    (∀ s ∈ [(withChan (board .service .live) [] [run0 .none] 4398046511359 : State)], mpAt s 0 1 = some (run0 .none, 4398046511359))
    ∧ (∀ s ∈ [(withChan (board .service .live) [] [run0 .none] 8796093022215 : State)], mpAt s 0 2 = some (run0 .none, 8796093022215))
    ∧ (∀ s ∈ [(withChan (board .service .live) [] [run0 .none] 13194139533313 : State)], mpAt s 0 3 = some (run0 .none, 13194139533313))
    ∧ (∀ s ∈ [(withChan (board .service .live) [] [run0 .none] 13194139566080 : State)], mpAt s 0 3 = some (run0 .none, 13194139566080))
    ∧ (∀ s ∈ [(withChan (board .service .live) [] [run0 .none] 17592186044432 : State)], mpAt s 0 4 = some (run0 .none, 17592186044432))
    ∧ (∀ s ∈ [(withChan (board .service .live) [] [run0 .none] 17592186044433 : State)], mpAt s 0 4 = some (run0 .none, 17592186044433))
    ∧ (∀ s ∈ [(withChan (board .service .live) [] [run0 .none] 21990249332735 : State)], mpAt s 0 5 = some (run0 .none, 21990249332735))
    ∧ (∀ s ∈ [(withChan (board .service .live) [] [run0 .none] 26388295843839 : State)], mpAt s 0 6 = some (run0 .none, 26388295843839))
    ∧ (∀ s ∈ [(withChan (board .service .live) [] [run0 .none] 30786325577983 : State)], mpAt s 0 7 = some (run0 .none, 30786325577983))
    ∧ (∀ s ∈ [(withChan (board .service .live) [] [run0 .none] 35184372088832 : State)], mpAt s 0 8 = some (run0 .none, 35184372088832))
    ∧ (∀ s ∈ [(withChan (board .service .live) [] [run0 .none] 35184640524288 : State)], mpAt s 0 8 = some (run0 .none, 35184640524288))
    ∧ (∀ s ∈ [(withChan (board .service .live) [] [run0 .none] 39582418600191 : State)], mpAt s 0 9 = some (run0 .none, 39582418600191))
    ∧ (∀ s ∈ [(withChan (board .service .live) [] [run0 .none] 43980465116417 : State)], mpAt s 0 10 = some (run0 .none, 43980465116417) ∧ (mfind (run0 .none).loops (mpWord s (run0 .none)).1).getD 1 = 0 + 1)
    ∧ (∀ s ∈ [(withChan (board .service .live) [] [run0 .none] 43980465116671 : State)], mpAt s 0 10 = some (run0 .none, 43980465116671) ∧ (mfind (run0 .none).loops (mpWord s (run0 .none)).1).getD 255 = 254 + 1) := by
  refine ⟨?_, ?_, ?_, ?_, ?_, ?_, ?_, ?_, ?_, ?_, ?_, ?_, ?_, ?_⟩ <;> decide +kernel

/-- States and operands that meet the hypotheses of MicroProgramEnds, clause by clause. -/
theorem witness_MicroProgramEnds :
    (∀ s ∈ [(withChan (board .service .live) [] [run0 (.delay 9)] 0 : State)], run0 (.delay 9) ∈ (fch s 0).runs ∧ (∀ q ∈ (fch s 0).runs, q ≠ run0 (.delay 9) → q.wait = .none))
    ∧ (∀ s ∈ [(withChan (board .service .live) [] [run0 (.ready 9)] 0 : State)], run0 (.ready 9) ∈ (fch s 0).runs ∧ (∀ q ∈ (fch s 0).runs, q ≠ run0 (.ready 9) → q.wait = .none))
    ∧ (∀ s ∈ [(withChan (board .service .live) [] [run0 .none] 48378511622654 : State)], mpAt s 0 11 = some (run0 .none, 48378511622654) ∧ run0 .none ∈ (fch s 0).runs ∧ bitOf 510 0 = false ∧ (fch s 0).ops.any (fun o => o.tag == 5 && flashKind o.act == 3) = false)
    ∧ (∀ s ∈ [(withChan (board .service .live) [] [run0 .none] 48378511622145 : State)], mpAt s 0 11 = some (run0 .none, 48378511622145) ∧ run0 .none ∈ (fch s 0).runs ∧ bitOf 1 0 = true ∧ (fch s 0).ops.any (fun o => o.tag == 5 && flashKind o.act == 3) = false)
    ∧ (∀ s ∈ [(withChan (board .service .live) [⟨5, 0, 0, 8, .read ⟨.touch 3, 35, 1, 0⟩ false, 0⟩] [run0 .none] 0 : State)], (fch s 0).runs.head? = some (run0 .none) ∧ (run0 .none).tag ≠ initTag ∧ (fch s 0).ops.find? (fun x => x.tag == 5) = some ⟨5, 0, 0, 8, .read ⟨.touch 3, 35, 1, 0⟩ false, 0⟩ ∧ (∀ x ∈ (fch s 0).ops, x.tag ≠ 63) ∧ 63 ∉ (fch s 0).awaiting)
    ∧ (∀ s ∈ [(withChan (board .service .live) [] [{ run0 .none with tag := initTag, entry := 1 }] 0 : State)], (fch s 0).runs.head? = some { run0 .none with tag := initTag, entry := 1 } ∧ ({ run0 .none with tag := initTag, entry := 1 } : MpRun).tag = initTag) := by
  refine ⟨?_, ?_, ?_, ?_, ?_, ?_⟩ <;> decide +kernel

/-- States and operands that meet the hypotheses of PagesIssued, clause by clause. -/
theorem witness_PagesIssued :
    (∀ s ∈ [(fset0 (fsys0 (board .service .live) (fun x => { x with budget := 1 })) (fun x => { x with pages := [⟨0, 8, [⟨⟨.trickle 5, 0, 5, 0, .mapPart 0, 0, none⟩, cw0 5⟩]⟩] }) : State)], mainOn s = true ∧ (∀ x ∈ (fch s 0).ops, x.tag ≠ 63) ∧ 63 ∉ (fch s 0).awaiting ∧ lunStage s 0 = some 0 ∧ lunBusy s 0 = false ∧ chLost s 0 = false ∧ programsOn s 0 = true ∧ (fset s 0).sysQ.find? (fun q => q.lun == 0) = none ∧ (fset s 0).pages.find? (fun p => p.lun == 0 && pageReady s 0 p && trickleTurn s 0 p && !strikeYield s 0 p) = some ⟨0, 8, [⟨⟨.trickle 5, 0, 5, 0, .mapPart 0, 0, none⟩, cw0 5⟩]⟩)
    ∧ (∀ s ∈ [(({ (board .service .live : State) with flash := { (board .service .live : State).flash with readQ := ⟨[⟨.touch 3, 35, 1, 0⟩], [], [], []⟩ } } : State) : State)], mainOn s = true ∧ (∀ x ∈ (fch s 0).ops, x.tag ≠ 63) ∧ 63 ∉ (fch s 0).awaiting ∧ lunStage s 0 = some 0 ∧ lunBusy s 0 = false ∧ chLost s 0 = false ∧ (qget s.flash.readQ 0).find? (fun r => entryLun r.entry == 0 && !(((led s 0).gated || s.saveDev.gate) && r.use == .record)) = some ⟨.touch 3, 35, 1, 0⟩)
    ∧ (∀ s ∈ [(setF (({ (fset0 (board .service .live) (fun x => { x with fmap := [(5, entry0)] }) : State) with flash := { (fset0 (board .service .live) (fun x => { x with fmap := [(5, entry0)] }) : State).flash with pages := [(8, ⟨[some (cw0 5)], [], []⟩)], blocks := [(blockKey 0 8, { blockInit with erased := false }), (blockKey 1 8, { blockInit with erased := false })] } } : State)) [(F.FL_STAGE_GEOM_BLOCKS 0, 10), (F.FL_STAGE_GEOM_PAGES 0, 1)] : State)], mainOn s = true ∧ strikeTurn (strikeFollow s 0) 0 = true ∧ (fsys (strikeFollow s 0) 0).victim = some 8 ∧ entryLun entry0 = 0 ∧ ((bandLive (strikeFollow s 0) 0 8).filter (fun q => !(fsys (strikeFollow s 0) 0).moving.contains q.1)).find? (fun q => !lunBusy (strikeFollow s 0) (entryLun q.1)) = some (entry0, cw0 5)) := by
  refine ⟨?_, ?_, ?_⟩ <;> decide +kernel

/-- States and operands that meet the hypotheses of PageProgramsEnd, clause by clause. -/
theorem witness_PageProgramsEnd :
    (∀ s ∈ [(setF (led0 (withChan (board .service .live) [⟨5, 1, 0, 8, .program [⟨⟨.trickle 5, 0, 5, 0, .mapPart 0, 0, none⟩, cw0 5⟩] false, 0⟩] [] 0) (fun x => { x with ledger := [(5, 2)], queue := [⟨5, 1⟩] })) [(F.FL_STAGE_GEOM_BLOCKS 0, 10), (F.FL_STAGE_GEOM_PAGES 0, 1)] : State)], flashOp s 0 5 1 = some ⟨5, 1, 0, 8, .program [⟨⟨.trickle 5, 0, 5, 0, .mapPart 0, 0, none⟩, cw0 5⟩] false, 0⟩ ∧ flashStage s 0 = some 0 ∧ frameState s 0 5 = 2 ∧ (led s 0).gated = false ∧ s.saveDev.gate = false ∧ (led s 0).writeThrough = false ∧ (led s 0).marks.edge ≠ edgeOf s.now ∧ ((led s 0).queue.filter (fun q => q.frame == 5)).length ≤ 1 ∧ rd s F.FL_INJECT_ARM = 0 ∧ (blockAt s 0 (8 / pagesPer s 0)).state ≠ 2 ∧ (fset s 0).pages = [])
    ∧ (∀ s ∈ [(setF (led0 (withChan (board .service .live) [⟨5, 1, 0, 8, .program [⟨⟨.trickle 5, 0, 5, 0, .mapPart 0, 0, none⟩, cw0 5⟩] false, 0⟩] [] 0) (fun x => { x with ledger := [(5, 3)], queue := [⟨5, 1⟩] })) [(F.FL_STAGE_GEOM_BLOCKS 0, 10), (F.FL_STAGE_GEOM_PAGES 0, 1)] : State)], flashOp s 0 5 1 = some ⟨5, 1, 0, 8, .program [⟨⟨.trickle 5, 0, 5, 0, .mapPart 0, 0, none⟩, cw0 5⟩] false, 0⟩ ∧ flashStage s 0 = some 0 ∧ frameState s 0 5 = 3 ∧ (led s 0).gated = false ∧ s.saveDev.gate = false ∧ (led s 0).writeThrough = false ∧ (led s 0).marks.edge ≠ edgeOf s.now ∧ ((led s 0).queue.filter (fun q => q.frame == 5)).length ≤ 1 ∧ rd s F.FL_INJECT_ARM = 0 ∧ (blockAt s 0 (8 / pagesPer s 0)).state ≠ 2 ∧ (fset s 0).pages = []) := by
  refine ⟨?_, ?_⟩ <;> decide +kernel

/-- States and operands that meet the hypotheses of ReadsAndErasesEnd, clause by clause. -/
theorem witness_ReadsAndErasesEnd :
    (∀ s ∈ [(withChan (board .service .live) [] [] 0 : State)], flashOp s 15 63 3 = none)
    ∧ (∀ s ∈ [(({ (withChan (board .service .live) [⟨5, 1, 0, 8, .read ⟨.touch 3, entry0, 1, 0⟩ false, 0⟩] [] 0 : State) with flash := { (withChan (board .service .live) [⟨5, 1, 0, 8, .read ⟨.touch 3, entry0, 1, 0⟩ false, 0⟩] [] 0 : State).flash with pages := [(8, ⟨[some (cw0 5)], [], [(0, 183)]⟩)] } } : State) : State)], flashOp s 0 5 1 = some ⟨5, 1, 0, 8, .read ⟨.touch 3, entry0, 1, 0⟩ false, 0⟩ ∧ flashStage s 0 = some 0 ∧ rd s F.FL_INJECT_ARM = 0 ∧ entryCw s entry0 = some (cw0 5) ∧ 0 + entryFlips s entry0 = decodeLimit (softStep s 0 1))
    ∧ (∀ s ∈ [(({ (withChan (board .service .live) [⟨5, 1, 0, 8, .read ⟨.touch 3, entry0, 1, 0⟩ false, 0⟩] [] 0 : State) with flash := { (withChan (board .service .live) [⟨5, 1, 0, 8, .read ⟨.touch 3, entry0, 1, 0⟩ false, 0⟩] [] 0 : State).flash with pages := [(8, ⟨[some (cw0 5)], [], [(0, 184)]⟩)], micro := ⟨[0#48, 0#48, 1#48] ++ List.replicate 4 0#48 ++ [BitVec.ofNat 48 (2 ^ 21)], [], [], []⟩ } } : State) : State)], flashOp s 0 5 1 = some ⟨5, 1, 0, 8, .read ⟨.touch 3, entry0, 1, 0⟩ false, 0⟩ ∧ flashStage s 0 = some 0 ∧ rd s F.FL_INJECT_ARM = 0 ∧ nextStep s 0 1 = some 2 ∧ decodeLimit (softStep s 0 1) < 0 + entryFlips s entry0)
    ∧ (∀ s ∈ [(setF (withChan (board .service .live) [⟨5, 1, 0, 8, .erase 9, 0⟩] [] 0) [(F.FL_STAGE_GEOM_BLOCKS 0, 10), (F.FL_STAGE_GEOM_PAGES 0, 1)] : State)], flashOp s 0 5 1 = some ⟨5, 1, 0, 8, .erase 9, 0⟩ ∧ flashStage s 0 = some 0 ∧ sysBlock s 0 0 9 = false ∧ (blockAt s 0 9).state ≠ 2)
    ∧ (∀ s ∈ [(setF (withChan (board .service .live) [⟨5, 1, 0, 8, .erase 0, 0⟩] [] 0) [(F.FL_STAGE_GEOM_BLOCKS 0, 10), (F.FL_STAGE_GEOM_PAGES 0, 1)] : State)], flashOp s 0 5 1 = some ⟨5, 1, 0, 8, .erase 0, 0⟩ ∧ flashStage s 0 = some 0 ∧ sysBlock s 0 0 0 = true ∧ houseBlock (fsys s 0) (houseCopy s 0 0) = 0) := by
  refine ⟨?_, ?_, ?_, ?_, ?_⟩ <;> decide +kernel

/-- States and operands that meet the hypotheses of FlashTrainingAndCheckpoints, clause by clause. -/
theorem witness_FlashTrainingAndCheckpoints :
    (∀ s ∈ [(setF (withChan (board .standby .dressing) [] [] 0) [(F.FL_CH_CFG_ENABLE 0, 1)] : State)], flashStage s 0 = some 0 ∧ stageSt s 0 = .dressing ∧ rdb s (F.FL_CH_CFG_ENABLE 0) = true ∧ bitOf (rd s F.CIPH_STATUS_LANE_FAILED) 0 = false ∧ s.cipher.laneDue.getLsbD 0 = false ∧ (microOf s 0).getD 1 0#48 = 0#48 ∧ (microOf s 0).getD 1 0#48 ≠ BitVec.allOnes 48)
    ∧ (∀ s ∈ [(({ (setF (withChan (board .standby .dressing) [] [] 0) [(F.FL_CH_CFG_ENABLE 0, 1)] : State) with cipher := { (setF (withChan (board .standby .dressing) [] [] 0) [(F.FL_CH_CFG_ENABLE 0, 1)] : State).cipher with laneDue := 1#16 } } : State) : State)], flashStage s 0 = some 0 ∧ stageSt s 0 = .dressing ∧ rdb s (F.FL_CH_CFG_ENABLE 0) = true ∧ bitOf (rd s F.CIPH_STATUS_LANE_FAILED) 0 = false ∧ s.cipher.laneDue.getLsbD 0 = true)
    ∧ (∀ s ∈ [(setF (withChan (board .standby .sealed) [] [] 0) [(F.FL_CH_CFG_ENABLE 15, 1)] : State)], flashStage s 0 = some 0 ∧ stageSt s 0 ≠ .dressing ∧ s.cipher.laneDue.getLsbD 0 = false)
    ∧ (∀ s ∈ [(board .service .live : State)], stageSt s 0 = .live ∧ (led s 0).gated = false ∧ s.saveDev.gate = false)
    ∧ (∀ s ∈ [(board .standby .sealed : State)], stageSt s 0 ≠ .live)
    ∧ (∀ s ∈ [(led0 (board .service .live) (fun x => { x with gated := true }) : State)], (led s 0).gated = true)
    ∧ (∀ s ∈ [(({ (board .service .live : State) with saveDev := { (board .service .live : State).saveDev with gate := true } } : State) : State)], s.saveDev.gate = true) := by
  refine ⟨?_, ?_, ?_, ?_, ?_, ?_, ?_⟩ <;> decide +kernel

/-- States and operands that meet the hypotheses of LanesEncryptAndDecrypt, clause by clause. -/
theorem witness_LanesEncryptAndDecrypt : 
    (∀ s ∈ [(setF (fset0 (({ board .service .live with cipher := { (board .service .live).cipher with keys := [(1, 7#256)] } } : State)) (fun x => { x with band := some 9, jobs := [⟨.trickle 5, 0, 5, 0, .bytes [], 0, none⟩] })) [(F.FL_STAGE_GEOM_BLOCKS 0, 10), (F.FL_STAGE_GEOM_PAGES 0, 1)] : State)], flashStage s 0 = some 0 ∧ (fset s 0).jobs = [⟨.trickle 5, 0, 5, 0, .bytes [], 0, none⟩] ∧ cursorLane s 0 ⟨.trickle 5, 0, 5, 0, .bytes [], 0, none⟩ = some 0 ∧ (fset s 0).ckpt = none)
    ∧ (∀ s ∈ [(board .service .live : State)], qget s.flash.laneQ 0 = [])
    ∧ (∀ s ∈ [(({ ({ board .service .live with cipher := { (board .service .live).cipher with keys := [(1, 7#256)] } } : State) with flash := { (board .service .live).flash with laneQ := ⟨[(⟨.record, entry0, 1, 0⟩, some (cw0 5))], [], [], []⟩ } } : State) : State)], flashStage s 0 = some 0 ∧ qget s.flash.laneQ 0 = [(⟨.record, entry0, 1, 0⟩, some (cw0 5))] ∧ lunCh (entryLun entry0) = 0 ∧ (rst s 0).outstanding = 0 ∧ s.cipher.laneTest = none)
    ∧ (∀ s ∈ [(({ ({ board .service .live with cipher := { (board .service .live).cipher with keys := [(1, 7#256)] } } : State) with flash := { (board .service .live).flash with laneQ := ⟨[(⟨.touch 3, entry0, 1, 0⟩, some (cw0 5))], [], [], []⟩ } } : State) : State)], flashStage s 0 = some 0 ∧ qget s.flash.laneQ 0 = [(⟨.touch 3, entry0, 1, 0⟩, some (cw0 5))] ∧ lunCh (entryLun entry0) = 0 ∧ (rst s 0).outstanding = 0 ∧ s.cipher.laneTest = none)
    ∧ (∀ cw : Codeword, ∀ s ∈ [setF (fset0 (({ board .service .live with cipher := { (board .service .live).cipher with keys := [(1, 7#256)] } } : State)) (fun x => { x with band := some 9, jobs := [⟨.relocate 5 0, 0, 5, 0, .relay (cw), 0, none⟩] })) [(F.FL_STAGE_GEOM_BLOCKS 0, 10), (F.FL_STAGE_GEOM_PAGES 0, 1)]], (fset s 0).jobs = [⟨.relocate 5 0, 0, 5, 0, .relay (cw), 0, none⟩] ∧ s.cipher.laneTest = none ∧ keyAt s 1 = some 7#256)
    ∧ (∀ s ∈ [setF (fset0 (({ board .service .live with cipher := { (board .service .live).cipher with keys := [(1, 7#256)] } } : State)) (fun x => { x with band := some 9, jobs := [⟨.relocate 5 0, 0, 5, 0, .relay (cw0 5), 0, none⟩] })) [(F.FL_STAGE_GEOM_BLOCKS 0, 10), (F.FL_STAGE_GEOM_PAGES 0, 1)]], cursorLane s 0 (⟨.relocate 5 0, 0, 5, 0, .relay (cw0 5), 0, none⟩) = some 0)
    ∧ (∀ (s : State) (k : BitVec 256), keyAt s 1 = some k → (openCodeword s 0 (mkCodeword s 0 0 5 1 1 0 [])).isSome = true) := by
  refine ⟨?_, ?_, ?_, ?_, ?_, ?_, ?_⟩
  · decide +kernel
  · decide +kernel
  · decide +kernel
  · decide +kernel
  · intro cw s hs
    rw [List.mem_singleton.mp hs]
    exact ⟨rfl, rfl, rfl⟩
  · decide +kernel
  · intro s k h
    simp [openCodeword, mkCodeword, h, gcmDecrypt, gcmEncrypt]

/-- States and operands that meet the hypotheses of CodewordRoundTrip, clause by clause. -/
theorem witness_CodewordRoundTrip :
    (∀ s ∈ [(({ board .service .live with cipher := { (board .service .live).cipher with keys := [(1, 7#256)] } } : State) : State)], keyAt s (1 + (0 : Stage).val) = some 7#256) := by
  decide +kernel

/-- States and operands that meet the hypotheses of RestoreService, clause by clause. -/
theorem witness_RestoreService :
    (∀ s ∈ [(sub0 (board .service .live) (fun x => { x with waiting := [{ req0 true 4194303 with use := .restoreWrite 65535 }] }) : State)], ((stageChans s 0).any (fun c => [false, true].any (fun b => (subch s c b).waiting.any (isFrameWrite 0 65535))) || s.dram.remap.any (fun e => e.2.waiting.any (isFrameWrite 0 65535))) = true)
    ∧ (∀ s ∈ [(rst0 (board .service .live) (fun x => { x with writing := [65535] }) : State)], ((stageChans s 0).any (fun c => [false, true].any (fun b => (subch s c b).waiting.any (isFrameWrite 0 65535))) || s.dram.remap.any (fun e => e.2.waiting.any (isFrameWrite 0 65535))) = false ∧ (rst s 0).writing.contains 65535 = true ∧ stageSt s 0 = .live ∧ qget s.saveDev.saving 0 = false ∧ (sav s 0).alone = false)
    ∧ (∀ s ∈ [(rst0 (board .service .live) (fun x => { x with touchQ := [⟨5, 0⟩], reading := [5] }) : State)], (rst s 0).touchQ.find? (fun x => x.progress == 0) = some ⟨5, 0⟩ ∧ ((rst s 0).reading.contains 5 || (rst s 0).writing.contains 5) = true)
    ∧ (∀ s ∈ [(fset0 (rst0 (board .service .live) (fun x => { x with touchQ := [⟨5, 0⟩] })) (fun x => { x with fmap := [(5, entry0)] }) : State)], (rst s 0).touchQ.find? (fun x => x.progress == 0) = some ⟨5, 0⟩ ∧ ((rst s 0).reading.contains 5 || (rst s 0).writing.contains 5) = false ∧ mget noCopy (fset s 0).fmap 5 ≠ noCopy ∧ flashMine s 0 (mget noCopy (fset s 0).fmap 5) = true ∧ chLost s (lunCh (entryLun (mget noCopy (fset s 0).fmap 5))) = false)
    ∧ (∀ s ∈ [(setF (fset0 (rst0 (board .service .live) (fun x => { x with touchQ := [⟨5, 0⟩] })) (fun x => { x with fmap := [(5, entry0)] })) [(F.FL_CH_STATUS_LOST 0, 1)] : State)], (rst s 0).touchQ.find? (fun x => x.progress == 0) = some ⟨5, 0⟩ ∧ ((rst s 0).reading.contains 5 || (rst s 0).writing.contains 5) = false ∧ mget noCopy (fset s 0).fmap 5 ≠ noCopy ∧ chLost s (lunCh (entryLun (mget noCopy (fset s 0).fmap 5))) = true)
    ∧ (∀ s ∈ [(fset0 (rst0 (board .service .live) (fun x => { x with touchQ := [⟨5, 0⟩] })) (fun x => { x with fmap := [(5, mkEntry 15 8 0 1 1)] }) : State)], (rst s 0).touchQ.find? (fun x => x.progress == 0) = some ⟨5, 0⟩ ∧ ((rst s 0).reading.contains 5 || (rst s 0).writing.contains 5) = false ∧ mget noCopy (fset s 0).fmap 5 ≠ noCopy ∧ flashMine s 0 (mget noCopy (fset s 0).fmap 5) = false)
    ∧ (∀ s ∈ [(rst0 (board .service .live) (fun x => { x with touchQ := [⟨5, 0⟩] }) : State)], (rst s 0).touchQ.find? (fun x => x.progress == 0) = some ⟨5, 0⟩ ∧ ((rst s 0).reading.contains 5 || (rst s 0).writing.contains 5) = false ∧ mget noCopy (fset s 0).fmap 5 = noCopy)
    ∧ (∀ s ∈ [(rst0 (board .service .live) (fun x => { x with bitArrived := [127] }) : State)], (rst s 0).bitArrived.contains 127 = true)
    ∧ (∀ s ∈ [(setF (rst0 (board .service .live) (fun x => { x with heldReads := [⟨0, 0, 0, 8, false⟩] })) [(F.RESTORE_CFG_TOUCH_WARN 0, 1)] : State)], touchOldest s 0 = some (8, false) ∧ rd s (F.RESTORE_CFG_TOUCH_WARN 0) ≠ 0)
    ∧ (∀ s ∈ [(setF (led0 (board .service .live) (fun x => { x with held := [⟨.mem 0 0, 0, 4194303, 0#512, none, false, 0, true, false, false, false, false⟩] })) [(F.RESTORE_CFG_TOUCH_WARN 0, 1)] : State)], touchOldest s 0 = some (0, true) ∧ rd s (F.RESTORE_CFG_TOUCH_WARN 0) ≠ 0) := by
  refine ⟨?_, ?_, ?_, ?_, ?_, ?_, ?_, ?_, ?_, ?_⟩ <;> decide +kernel

/-- States and operands that meet the hypotheses of HeatAndRestoreControl, clause by clause. -/
theorem witness_HeatAndRestoreControl :
    (∀ s ∈ [(setF (board .service .live) [(F.RESTORE_HEAT_HALF_LIFE_S, 1)] : State)], stageSt s 0 = .live ∧ rd s F.RESTORE_HEAT_HALF_LIFE_S ≠ 0)
    ∧ (∀ s ∈ [(({ (board .service .sealed : State) with flash := { (board .service .sealed : State).flash with pages := [(0, ⟨[some (cw0 5)], [], []⟩)] } } : State) : State)], pathWrites s .core (F.RESTORE_CTRL_START 0).idx = true ∧ mainOff s = false ∧ startable s 0 = true ∧ ((blockEntries s 0 (houseLun s 0 0) (fsys s 0).houseA ++ blockEntries s 0 (houseLun s 0 1) (fsys s 0).houseB).any (flashMine s 0)) = true ∧ (rst s 0).waitResume = false)
    ∧ (∀ s ∈ [(board .service .live : State)], pathWrites s .bar2 (F.RESTORE_CTRL_START 3).idx = true ∧ mainOff s = false ∧ startable s 0 = false)
    ∧ (∀ s ∈ [(rst0 (board .service .live) (fun x => { x with waitResume := true }) : State)], (rst s 0).waitResume = true) := by
  refine ⟨?_, ?_, ?_, ?_⟩ <;> decide +kernel

/-- States and operands that meet the hypotheses of DramQueueEntry, clause by clause. -/
theorem witness_DramQueueEntry :
    (∀ s ∈ [(board .service .live : State)], entrant (subch s 0 false) 2 = none ∧ (remapAt s 511).state ≠ 1)
    ∧ (∀ s ∈ [(sub0 (board .service .live) (fun x => { x with waiting := [req0 false 0] }) : State)], entrant (subch s 0 false) 2 = some (req0 false 0) ∧ (req0 false 0).passed = false ∧ remapLookup s 0 0 = .direct ∧ (req0 false 0).pair = 0)
    ∧ (∀ s ∈ [(sub0 (board .service .live) (fun x => { x with waiting := [{ req0 true 0 with use := .remapCopy 511 }] }) : State)], entrant (subch s 0 false) 3 = some ({ req0 true 0 with use := .remapCopy 511 }))
    ∧ (∀ s ∈ [(sub0 (board .service .live) (fun x => { x with waiting := [{ req0 true 0 with passed := true, pair := 1 }] }) : State)], entrant (subch s 0 false) 3 = some ({ req0 true 0 with passed := true, pair := 1 }) ∧ (mapLine s 0 0).elim false (fun k => k.ch == 0 && k.sub == false) = true)
    ∧ (∀ s ∈ [(setReg (({ (sub0 (board .service .live) (fun x => { x with waiting := [req0 false 0] }) : State) with dram := { (sub0 (board .service .live) (fun x => { x with waiting := [req0 false 0] }) : State).dram with remap := [(511, ⟨0, 0, 0, 2, true, []⟩)] } } : State)) 0x1100 8#48 : State)], entrant (subch s 0 false) 2 = some (req0 false 0) ∧ remapLookup s 0 0 = .redirect 8388600 ∧ (mapLine s 0 8388600).elim false (fun k => k.ch == 0 && k.sub == false) = true)
    ∧ (∀ s ∈ [(setReg (({ (sub0 (board .service .live) (fun x => { x with waiting := [req0 false 0] }) : State) with dram := { (sub0 (board .service .live) (fun x => { x with waiting := [req0 false 0] }) : State).dram with remap := [(511, ⟨0, 0, 0, 1, true, []⟩)] } } : State)) 0x1100 8#48 : State)], entrant (subch s 0 false) 2 = some (req0 false 0) ∧ remapLookup s 0 0 = .wait 511)
    ∧ (∀ s ∈ [(setReg (({ (sub0 (board .service .live) (fun x => { x with waiting := [req0 false 0] }) : State) with dram := { (sub0 (board .service .live) (fun x => { x with waiting := [req0 false 0] }) : State).dram with remap := [(511, ⟨0, 0, 8, 2, true, []⟩)] } } : State)) 0x1100 8#48 : State)], entrant (subch s 0 false) 2 = some (req0 false 0) ∧ remapLookup s 0 0 = .invalid 511)
    ∧ (∀ s ∈ [(setReg (({ (sub0 (board .service .live) (fun x => { x with waiting := [req0 false 0] }) : State) with dram := { (sub0 (board .service .live) (fun x => { x with waiting := [req0 false 0] }) : State).dram with remap := [(511, ⟨0, 0, 0, 2, false, []⟩)] } } : State)) 0x1100 8#48 : State)], entrant (subch s 0 false) 2 = some (req0 false 0) ∧ remapLookup s 0 0 = .invalid 511)
    ∧ (∀ s ∈ [(setReg (({ (sub0 (board .service .live) (fun x => { x with waiting := [req0 false 0] }) : State) with dram := { (sub0 (board .service .live) (fun x => { x with waiting := [req0 false 0] }) : State).dram with remap := [(511, ⟨0, 0, 0, 3, true, []⟩)] } } : State)) 0x1100 8#48 : State)], entrant (subch s 0 false) 2 = some (req0 false 0) ∧ remapLookup s 0 0 = .invalid 511)
    ∧ (∀ s ∈ [(setReg (({ (sub0 (board .service .live) (fun x => { x with waiting := [req0 false 0] }) : State) with dram := { (sub0 (board .service .live) (fun x => { x with waiting := [req0 false 0] }) : State).dram with remap := [(511, ⟨0, 0, 0, 1, true, []⟩)] } } : State)) 0x1100 8#48 : State)], (remapAt s 511).state = 1 ∧ (∀ d ∈ ([0, 1, 2, 3] : List DramCh), ∀ e ∈ [false, true], ∀ q ∈ (subch s d e).rq ++ (subch s d e).wq ++ (subch s d e).waiting ++ (subch s d e).inFlight, q.use ≠ .remapCopy 511)) := by
  refine ⟨?_, ?_, ?_, ?_, ?_, ?_, ?_, ?_, ?_, ?_⟩ <;> decide +kernel

/-- States and operands that meet the hypotheses of DramCommandOfARequest, clause by clause. -/
theorem witness_DramCommandOfARequest :
    (schedOn State.reset 0 = false)
    ∧ (∀ s ∈ [(sub0 (board .service .live) (fun x => { x with wq := [req0 true 0], banks := [((mapLine (board .service .live) 0 0).elim 0 bankNo, { bankInit with openRow := some 0 })] }) : State)], schedOn s 0 = true ∧ (subch s 0 false).sr = .awake ∧ (subch s 0 false).due = [] ∧ (rankOf (subch s 0 false) 0).owed < postponeMax s 0 ∧ (rankOf (subch s 0 false) 1).owed < postponeMax s 0 ∧ nextReq (panicFollow s 0) 0 false [] = some (req0 true 0) ∧ (req0 true 0).cls < 3 ∧ (mapLine s 0 0).isSome = true ∧ (mapLine s 0 0).all (fun k => decide ((bankOf (subch s 0 false) (bankNo k)).openRow = some k.row)) = true ∧ rd s (F.DC_INJECT_ARM 0) = 0)
    ∧ (∀ s ∈ [(sub0 (board .service .live) (fun x => { x with rq := [req0 false 0], banks := [((mapLine (board .service .live) 0 0).elim 0 bankNo, { bankInit with openRow := some 0 })] }) : State)], schedOn s 0 = true ∧ (subch s 0 false).sr = .awake ∧ (subch s 0 false).due = [] ∧ (rankOf (subch s 0 false) 0).owed < postponeMax s 0 ∧ (rankOf (subch s 0 false) 1).owed < postponeMax s 0 ∧ nextReq (panicFollow s 0) 0 false [] = some (req0 false 0) ∧ (req0 false 0).cls < 3 ∧ (mapLine s 0 0).isSome = true ∧ (mapLine s 0 0).all (fun k => decide ((bankOf (subch s 0 false) (bankNo k)).openRow = some k.row)) = true)
    ∧ (∀ s ∈ [(sub0 (board .service .live) (fun x => { x with rq := [req0 false 0], banks := [((mapLine (board .service .live) 0 0).elim 0 bankNo, { bankInit with openRow := some 9 })] }) : State)], schedOn s 0 = true ∧ (subch s 0 false).sr = .awake ∧ (subch s 0 false).due = [] ∧ (rankOf (subch s 0 false) 0).owed < postponeMax s 0 ∧ (rankOf (subch s 0 false) 1).owed < postponeMax s 0 ∧ nextReq (panicFollow s 0) 0 false [] = some (req0 false 0) ∧ (req0 false 0).cls < 3 ∧ (mapLine s 0 0).isSome = true ∧ (mapLine s 0 0).all (fun k => decide ((bankOf (subch s 0 false) (bankNo k)).openRow = some 9 ∧ 9 ≠ k.row)) = true)
    ∧ (∀ s ∈ [(sub0 (board .service .live) (fun x => { x with rq := [req0 false 0], banks := [] }) : State)], schedOn s 0 = true ∧ (subch s 0 false).sr = .awake ∧ (subch s 0 false).due = [] ∧ (rankOf (subch s 0 false) 0).owed < postponeMax s 0 ∧ (rankOf (subch s 0 false) 1).owed < postponeMax s 0 ∧ nextReq (panicFollow s 0) 0 false [] = some (req0 false 0) ∧ (req0 false 0).cls < 3 ∧ (mapLine s 0 0).isSome = true ∧ (mapLine s 0 0).all (fun k => decide ((bankOf (subch s 0 false) (bankNo k)).openRow = none)) = true)
    ∧ (∀ s ∈ [(sub0 (board .service .live) (fun x => { x with wq := [{ req0 true 0 with poison := true }], banks := [((mapLine (board .service .live) 0 0).elim 0 bankNo, { bankInit with openRow := some 0 })] }) : State)], schedOn s 0 = true ∧ (subch s 0 false).sr = .awake ∧ (subch s 0 false).due = [] ∧ (rankOf (subch s 0 false) 0).owed < postponeMax s 0 ∧ (rankOf (subch s 0 false) 1).owed < postponeMax s 0 ∧ nextReq (panicFollow s 0) 0 false [] = some ({ req0 true 0 with poison := true }) ∧ ({ req0 true 0 with poison := true }).cls < 3 ∧ (mapLine s 0 0).isSome = true) := by
  refine ⟨?_, ?_, ?_, ?_, ?_, ?_⟩ <;> decide +kernel

/-- States and operands that meet the hypotheses of DramTimers, clause by clause. -/
theorem witness_DramTimers :
    (∀ s ∈ [(sub0 (board .service .live) (fun x => { x with rq := [req0 false 0], banks := [] }) : State)], nextAged s 0 (subch s 0 false) = some (req0 false 0))
    ∧ (∀ s ∈ [(({ board .service .live with dram := { (board .service .live).dram with timing := [BitVec.ofNat 48 (2 ^ 24), 0#48, 0#48, 3200#48] ++ List.replicate 5 0#48 ++ [3900#48] } } : State) : State)], schedOn s 0 = true ∧ (ranksOf s 0).contains 0 = true ∧ refreshInterval s 0 (rankOf (subch s 0 false) 0).highTemp ≠ 0 ∧ inSr (subch s 0 false) = false)
    ∧ (∀ s ∈ [(({ (({ board .service .live with dram := { (board .service .live).dram with timing := [BitVec.ofNat 48 (2 ^ 24), 0#48, 0#48, 3200#48] ++ List.replicate 5 0#48 ++ [3900#48] } } : State) : State) with dram := { (({ board .service .live with dram := { (board .service .live).dram with timing := [BitVec.ofNat 48 (2 ^ 24), 0#48, 0#48, 3200#48] ++ List.replicate 5 0#48 ++ [3900#48] } } : State) : State).dram with maps := ⟨wordOf (F.DC_MAP_BOUND 0) 1 ||| wordOf (F.DC_MAP_RANKS 0) 1, 0#48, 0#48, 0#48⟩ } } : State) : State)], (ranksOf s 0).contains 1 = true ∧ refreshInterval s 0 (rankOf (subch s 0 false) 1).highTemp ≠ 0 ∧ schedOn s 0 = true)
    ∧ (∀ s ∈ [(setF (sub0 (board .service .live) (fun x => { x with banks := [(5, { bankInit with openRow := some 9 })] })) [(F.DC_PAGE_CFG_IDLE_CLOSE 0, 1)] : State)], schedOn s 0 = true ∧ (bankOf (subch s 0 false) 5).openRow = some 9 ∧ rd s (F.DC_PAGE_CFG_IDLE_CLOSE 0) ≠ 0 ∧ ((subch s 0 false).rq ++ (subch s 0 false).wq).any (fun q => (mapLine s q.stage q.line).elim false (fun j => bankNo j == 5 && some j.row == some 9)) = false)
    ∧ (∀ s ∈ [(setF (board .service .live) [(F.DC_LP_CFG_PD_TIMER 0, 1), (F.DC_SCRUB_CFG_ENABLE 0, 1)] : State)], schedOn s 0 = true ∧ (ranksOf s 0).contains 0 = true ∧ rd s (F.DC_LP_CFG_PD_TIMER 0) ≠ 0 ∧ (subch s 0 false).rq = [] ∧ (subch s 0 false).wq = [] ∧ (subch s 0 false).due = [] ∧ anyPanic s 0 = false ∧ (subch s 0 false).sr = .awake ∧ (rankOf (subch s 0 false) 0).owed < postponeMax s 0 ∧ (rankOf (subch s 0 false) 0).powerDown = false)
    ∧ (∀ s ∈ [(setF (board .service .live) [(F.DC_SCRUB_CFG_ENABLE 0, 1)] : State)], schedOn s 0 = true ∧ scrubRuns s 0 = true ∧ scrubOut s 0 = false ∧ rd s (F.DC_SCRUB_STATUS_POSITION 0) + 1 < subLines s 0)
    ∧ (∀ s ∈ [(setF (board .service .live) [(F.DC_SCRUB_CFG_ENABLE 0, 1), (F.DC_SCRUB_STATUS_POSITION 0, 4194303)] : State)], scrubRuns s 0 = true ∧ scrubOut s 0 = false ∧ subLines s 0 = rd s (F.DC_SCRUB_STATUS_POSITION 0) + 1 ∧ 1 < subLines s 0)
    ∧ (∀ s ∈ [(setF (sub0 (board .service .live) (fun x => { x with scrubQueued := true })) [(F.DC_SCRUB_CFG_ENABLE 0, 1)] : State)], scrubRuns s 0 = true ∧ scrubOut s 0 = true) := by
  refine ⟨?_, ?_, ?_, ?_, ?_, ?_, ?_, ?_⟩ <;> decide +kernel

/-- States and operands that meet the hypotheses of SelfRefreshAndReads, clause by clause. -/
theorem witness_SelfRefreshAndReads :
    (∀ s ∈ [(setF (board .service .live) [(F.DC_LP_CFG_SR_IDLE_US 0, 1)] : State)], schedOn s 0 = true ∧ rd s (F.DC_LP_CFG_SR_IDLE_US 0) ≠ 0 ∧ (subch s 0 false).rq = [] ∧ (subch s 0 false).wq = [] ∧ (subch s 0 false).due = [] ∧ anyPanic s 0 = false ∧ (subch s 0 false).sr = .awake ∧ (subch s 0 false).inFlight = [] ∧ (subch s 0 false).waiting = [] ∧ saveKeepsAwake s 0 = false)
    ∧ (∀ s ∈ [(sub0 (board .service .live) (fun x => { x with sr := .committed 0 true, waiting := [{ req0 false 0 with cls := 0 }] }) : State)], schedOn s 0 = true ∧ (subch s 0 false).sr = .committed 0 true ∧ ((subch s 0 false).rq ++ (subch s 0 false).wq ++ (subch s 0 false).waiting).any (fun r => decide (r.cls ≤ 3)) = true)
    ∧ (∀ s ∈ [(sub0 (board .service .live) (fun x => { x with sr := .committed 0 false, waiting := [{ req0 false 0 with cls := 3 }] }) : State)], schedOn s 0 = true ∧ (subch s 0 false).sr = .committed 0 false ∧ ((subch s 0 false).rq ++ (subch s 0 false).wq ++ (subch s 0 false).waiting).any (fun r => decide (r.cls ≤ 3)) = true)
    ∧ (∀ s ∈ [(sub0 (board .service .live) (fun x => { x with sr := .committed 0 true, waiting := [{ req0 false 0 with cls := 4 }] }) : State)], schedOn s 0 = true ∧ (subch s 0 false).sr = .committed 0 true ∧ ((subch s 0 false).rq ++ (subch s 0 false).wq ++ (subch s 0 false).waiting).any (fun r => r.cls == 4) = true)
    ∧ (∀ s ∈ [(sub0 (board .service .live) (fun x => { x with inFlight := [{ req0 false 0 with got := some ⟨5#512, .clean⟩ }] }) : State)], (chanStage s 0).isSome = true ∧ portIn s 0 = true ∧ (subch s 0 false).inFlight = [{ req0 false 0 with got := some ⟨5#512, .clean⟩ }] ∧ (outcomeOf (wideDev s 0) ⟨5#512, .clean⟩ []).map (·.1) = some .clean)
    ∧ (∀ s ∈ [(sub0 (board .service .live) (fun x => { x with inFlight := [{ req0 false 0 with got := some ⟨5#512, .clean⟩ }] }) : State)], (chanStage s 0).isSome = true ∧ portIn s 0 = true ∧ (subch s 0 false).inFlight = [{ req0 false 0 with got := some ⟨5#512, .clean⟩ }] ∧ (outcomeOf (wideDev s 0) ⟨5#512, .clean⟩ [(3, 8)]).map (·.1) = some .corrected)
    ∧ (∀ s ∈ [(sub0 (board .service .live) (fun x => { x with inFlight := [{ req0 false 0 with got := some ⟨5#512, .clean⟩ }] }) : State)], (chanStage s 0).isSome = true ∧ portIn s 0 = true ∧ (subch s 0 false).inFlight = [{ req0 false 0 with got := some ⟨5#512, .clean⟩ }] ∧ (outcomeOf (wideDev s 0) ⟨5#512, .clean⟩ [(3, 8), (4, 8)]).map (·.1) = some .uncorrectable)
    ∧ (∀ s ∈ [(sub0 (board .service .live) (fun x => { x with inFlight := [{ req0 false 0 with got := some poisonCell }] }) : State)], (chanStage s 0).isSome = true ∧ portIn s 0 = true ∧ (subch s 0 false).inFlight = [{ req0 false 0 with got := some poisonCell }] ∧ (outcomeOf (wideDev s 0) poisonCell []).map (·.1) = some .poisoned) := by
  refine ⟨?_, ?_, ?_, ?_, ?_, ?_, ?_, ?_⟩ <;> decide +kernel

/-- States and operands that meet the hypotheses of DramInterfaceCommands, clause by clause. -/
theorem witness_DramInterfaceCommands :
    (∀ s ∈ [(setF (board .service .live) [(F.DC_DLY_SEL_AUTO_INC 0, 1)] : State)], pathWrites s .core (F.DC_DLY_DATA_TAPS 0).idx = true ∧ mainOff s = false ∧ (delaySel s 0).2 = true)
    ∧ (∀ s ∈ [(board .standby .dressing : State)], pathWrites s .core (F.DC_TRN_CTRL_START 0).idx = true ∧ mainOff s = false ∧ trainAllowed s 0 = true ∧ serving s = false)
    ∧ (∀ s ∈ [(board .service .live : State)], pathWrites s .core (F.DC_TRN_CTRL_START 0).idx = true ∧ mainOff s = false ∧ trainAllowed s 0 = false)
    ∧ (∀ s ∈ [({ board .service .live with dram := { (board .service .live).dram with ch := qset (board .service .live).dram.ch 0 { chanInit with training := true } } } : State)], (chan s 0).training = true)
    ∧ (∀ s ∈ [(setF (board .service .live) [(F.DC_PHY_STATUS_TRAINED 0, 1)] : State)], serving s = true ∧ rd s (F.DC_PHY_STATUS_TRAINED 0) ≠ 0 ∧ inSr (subch s 0 false) = false)
    ∧ (∀ s ∈ [(board .service .live : State)], pathWrites s .core F.DC_I3C_CMD_GO.idx = true ∧ s.dram.i3cBusy = false ∧ roleRuns s 0 = true)
    ∧ (∀ s ∈ [(({ (board .service .live : State) with dram := { (board .service .live : State).dram with i3cBusy := true } } : State) : State)], s.dram.i3cBusy = true) := by
  refine ⟨?_, ?_, ?_, ?_, ?_, ?_, ?_⟩ <;> decide +kernel

/-- A logical device without a stage; and one with a stage, with every range at its last value. -/
theorem witness_MailboxReports :
    (∀ s ∈ [(setF (board .service .live) [(F.STAGE_BIND_BOUND 0, 0)] : State)], boxUp s 0 0 = true ∧ ldStage s 0 0 = none)
    ∧ (∀ s ∈ [(setF (board .service .live) [(F.FL_STAGE_GEOM_BLOCKS 0, 10)] : State)], boxUp s 0 0 = true ∧ ldStage s 0 0 = some 0 ∧ rangeOk s 0 0 4194304 = true ∧ 131072 - 16384 + 16384 ≤ 131072 ∧ s.store.writing.all (fun e => decide (s.now < e.done)) = true ∧ userBusy s = false ∧ modesAll.contains s.modes.mode = true ∧ (stageLuns s 0).contains 1 = true ∧ 9 < blocksPer s 0 ∧ s.modes.mode = .service ∧ (2 ^ 32 - 1 : Nat) < 2 ^ 32 ∧ 4194303 < 4194304) := by
  refine ⟨?_, ?_⟩ <;> decide +kernel

/-- States and operands that meet the hypotheses of MailboxSettings, clause by clause. -/
theorem witness_MailboxSettings :
    (∀ s ∈ [(board .service .live : State)], boxUp s 0 0 = true ∧ ldStage s 0 0 = some 0 ∧ (some 100 : Option Nat).elim true (fun v => decide (v ≤ 100)) = true ∧ (some 65535 : Option Nat).elim true (fun v => decide (v < 65536)) = true ∧ 100 < 101 ∧ 1 ≤ 1 ∧ 131072 - 16376 + (List.replicate 16376 0#8).length ≤ 131072 ∧ (List.replicate 16376 0#8).length ≤ 16376 ∧ s.store.writing = [])
    ∧ (∀ s ∈ [(({ (board .service .live : State) with store := { (board .service .live : State).store with writing := [⟨12, 0, 0#48, 9, 5, some (0, 0)⟩] } } : State) : State)], ldStage s 0 0 = some 0 ∧ s.store.writing.all (fun e => decide (s.now < e.done)) = true ∧ lsaWaits s 0 0 = true)
    ∧ (∀ s ∈ [(board .service .live : State)], s.store.writing.all (fun e => decide (s.now < e.done)) = true ∧ 131072 < 131072 + [0#8].length ∧ (ldLog s (ldKey 0 0) 3).recs.length ≤ 64 ∧ (∀ h ∈ ([] : List Nat), 0 < h ∧ h ≤ (ldLog s (ldKey 0 0) 3).recs.length) ∧ modesAll.contains s.modes.mode = true ∧ 2 ^ 24 - 1 < 2 ^ 24 ∧ s.modes.mode = .service)
    ∧ (∀ s ∈ [(({ (board .service .live : State) with cxl := { (board .service .live : State).cxl with logs := [(3, ⟨[.memoryModule 0 0], false, 0, 0, 0⟩)] } } : State) : State)], (ldLog s (ldKey 0 0) 3).recs.length ≤ 64 ∧ (∀ h ∈ ([1] : List Nat), 0 < h ∧ h ≤ (ldLog s (ldKey 0 0) 3).recs.length))
    ∧ (∀ s ∈ [(setF (board .service .live) [(F.GAUGE_STATUS_PRESENT, 1), (F.GAUGE_CFG_REH_RAIL_VALID, 1), (F.GAUGE_CFG_REH_RAIL, 14)] : State)], boxUp s 0 0 = true ∧ s.modes.mode = .service ∧ rehBusy s = false ∧ rdb s F.LINK_CFG_ENABLE = false)
    ∧ (∀ s ∈ [(setF (setF (board .service .live) [(F.GAUGE_STATUS_PRESENT, 1), (F.GAUGE_CFG_REH_RAIL_VALID, 1), (F.GAUGE_CFG_REH_RAIL, 14)]) [(F.LINK_CFG_ENABLE, 1)] : State)], boxUp s 0 0 = true ∧ s.modes.mode = .service ∧ rehBusy s = false ∧ rdb s F.LINK_CFG_ENABLE = true ∧ rdb s F.LINK_CFG_LEAD = false)
    ∧ (∀ s ∈ [(board .service .live : State)], rehBusy s = true)
    ∧ (∀ s ∈ [(setF (board .standby .sealed) [(F.GAUGE_REH_STATE, 1)] : State)], boxUp s 0 0 = true ∧ s.modes.mode = .standby ∧ rd s F.GAUGE_REH_STATE ≠ 0) := by
  refine ⟨?_, ?_, ?_, ?_, ?_, ?_, ?_, ?_⟩ <;> decide +kernel

/-- States and operands that meet the hypotheses of MailboxEngines, clause by clause. -/
theorem witness_MailboxEngines : 
    (∀ s ∈ [(led0 (board .service .live) (fun x => { x with cached := [255], ledger := [(65535, 2)] }) : State)], boxUp s 0 0 = true ∧ ldStage s 0 0 = some 0 ∧ 4194303 < hostLines s 0 ∧ stageSt s 0 = .live ∧ gateHolds s 0 = false ∧ (mapLine s 0 4194303).isSome = true ∧ (rst s 0).pending = false ∧ (led s 0).cached.contains (4194303 / 64 / 256) = true ∧ (led s 0).writeThrough = false ∧ releasable s 0 = none ∧ (led s 0).marks.edge ≠ edgeOf s.now ∧ frameState s 0 (4194303 / 64) ≠ 0 ∧ (qget s.cxl.poison 0).length < 1024)
    ∧ (∀ s ∈ [(fsys0 (setF (led0 (board .service .live) (fun x => { x with cached := [255] })) [(F.LDG_CAP_FRAMES 0, 1)]) (fun x => { x with free := 9 }) : State)], boxUp s 0 0 = true ∧ ldStage s 0 0 = some 0 ∧ 4194303 < hostLines s 0 ∧ stageSt s 0 = .live ∧ gateHolds s 0 = false ∧ (mapLine s 0 4194303).isSome = true ∧ (rst s 0).pending = false ∧ (led s 0).cached.contains (4194303 / 64 / 256) = true ∧ (led s 0).writeThrough = false ∧ releasable s 0 = none ∧ (led s 0).marks.edge ≠ edgeOf s.now ∧ capHolds s 0 = false)
    ∧ (∀ s ∈ [(board .service .live : State)], boxUp s 0 0 = true ∧ ldStage s 0 0 = some 0 ∧ rangeOk s 0 0 4194304 = true ∧ s.cxl.background = none ∧ stageSt s 0 = .live ∧ (rst s 0).pending = false ∧ (led s 0).gated = false ∧ s.image.request = none ∧ s.modes.mode ≠ .save ∧ s.modes.booting = false)
    ∧ (∀ s ∈ [(board .standby .sealed : State)], boxUp s 0 0 = true ∧ ldStage s 0 0 = some 0 ∧ s.cxl.background = none ∧ stageSt s 0 = .sealed ∧ s.image.request = none ∧ (led s 0).gated = false ∧ s.modes.mode ≠ .save ∧ s.modes.booting = false)
    ∧ (∀ s ∈ [(({ (board .service .live : State) with image := { (board .service .live : State).image with loading := some (1, [1#8]) } } : State) : State)], boxUp s 0 0 = true ∧ modesAll.contains s.modes.mode = true ∧ s.image.loading = some (1, [1#8]) ∧ (List.replicate 128 0#8).length % 128 = 0 ∧ (List.replicate 128 0#8).length ≤ 16376 ∧ s.cxl.background = none)
    ∧ (∀ s ∈ [(({ (board .service .live : State) with cxl := { (board .service .live : State).cxl with background := some ⟨0, 0, 0x4304⟩ } } : State) : State)], boxUp s 0 0 = true ∧ mayName s 0 0 0 = true ∧ redressRefusal s 0 true = 1)
    ∧ (∀ s ∈ [(board .service .live : State)], boxUp s 0 0 = true ∧ mayName s 0 0 0 = true ∧ redressRefusal s 0 true = 0 ∧ stageSt s 0 = .live)
    ∧ (∀ s ∈ [(board .service .live : State)], boxUp s 0 0 = true ∧ 4194302 + 2 ≤ 4194304 ∧ userBusy s = false ∧ s.store.prog = none ∧ s.store.calls = [] ∧ s.store.erase = none ∧ progCheck s (8388608 + 4194302) (BitVec.allOnes 48) = 0 ∧ progCheck s (8388608 + 4194303) (BitVec.allOnes 48) = 0 ∧ s.cxl.background = none ∧ isProtected s.store (4096 + 4194303 / 2048) = false ∧ s.store.failed.contains (4096 + 4194303 / 2048) = false)
    ∧ (∀ s ∈ [(({ (board .service .live : State) with cipher := { (board .service .live : State).cipher with leafBlock := some 0 } } : State) : State)], boxUp s 0 0 = true ∧ (List.replicate 32 0#8).length = 32 ∧ rdb s F.FW_DEBUG_OPEN = false ∧ s.cipher.exhausted = false ∧ s.cipher.leafBlock = some (s.cipher.leafNext / 1024) ∧ s.cipher.leafNext / 32768 = s.cipher.treeNow)
    ∧ (∀ s ∈ [(board .service .live : State)], boxUp s 0 0 = true ∧ serving s = true ∧ s.modes.recovery = false ∧ s.modes.mrReset = false ∧ downRuns s = false ∧ anyStage s .live = true)
    ∧ (∀ s ∈ [(board .restore .restoring : State)], boxUp s 0 0 = true ∧ serving s = true ∧ downRuns s = false ∧ anyStage s .restoring = true)
    ∧ (∀ s ∈ [(board .service .live : State)], boxUp s 0 0 = true ∧ s.fw.series = none ∧ s.cxl.background = none ∧ s.fw.load = none)
    ∧ (∀ s ∈ [(({ (board .service .live : State) with fw := { (board .service .live : State).fw with load := some ⟨1, [1#8], true, false⟩ } } : State) : State)], boxUp s 0 0 = true ∧ s.fw.series = none ∧ s.cxl.background = none ∧ s.fw.load = some ⟨1, [1#8], true, false⟩)
    ∧ (∀ s ∈ [(board .save .live : State)], boxUp s 0 0 = true ∧ fwServes s = false ∧ onlineRefusal s false ≠ 0)
    ∧ (∀ s ∈ [(({ (board .service .live : State) with fw := { (board .service .live : State).fw with roleSlotB := [false, true, false, false, false, false] } } : State) : State)], boxUp s 0 0 = true ∧ fwServes s = true ∧ fwBusy s = false ∧ seriesResumes s false = true ∧ seriesRoles s false ≠ [])
    ∧ (∀ s ∈ [(({ (board .service .live : State) with fw := { (board .service .live : State).fw with roleSlotB := [false, true, false, false, false, false] } } : State) : State)], slotRefusal s false = 0 ∧ onlineRefusal s false = 0) := by
  refine ⟨?_, ?_, ?_, ?_, ?_, ?_, ?_, ?_, ?_, ?_, ?_, ?_, ?_, ?_, ?_, ?_⟩
  · decide +kernel
  · decide +kernel
  · decide +kernel
  · decide +kernel
  · decide +kernel
  · decide +kernel
  · decide +kernel
  · decide +kernel
  · decide +kernel
  · decide +kernel
  · decide +kernel
  · decide +kernel
  · decide +kernel
  · decide +kernel
  · decide +kernel
  · intro s hs
    have h : (!fwServes s || anyStage s .dressing || anyStage s .restoring) = false ∧ (fwBusy s || s.image.request.isSome) = false ∧ slotRefusal s false = 0
        ∧ s.fw.roleSlotB.headD false = false ∧ fwShipped s false = true := by
      rw [List.mem_singleton.mp hs]; decide +kernel
    obtain ⟨a, b, c, d, e⟩ := h
    refine ⟨c, ?_⟩
    unfold onlineRefusal
    rw [a, b, d]
    simp [c, fwSlotHead, e]

/-- Calls with room in their regions and with none; runs of the engine that go on and that end; contexts of the last save count, and of matching and other slots. A key unwrap has one result either way, and no condition on it. -/
theorem witness_HouseEngineCalls :
    (∀ s ∈ [(inMode .dark : State)], roleRuns s 0 = false ∧ roleRuns s 4 = false ∧ roleRuns s 5 = false)
    ∧ (∀ s ∈ [(({ (board .service .live : State) with cipher := { (board .service .live : State).cipher with keys := [(5, 7#256)] } } : State) : State)], roleRuns s 0 = true ∧ (keyAt s 5).isSome = true ∧ regionOk s 0 1099511627774 2 = true ∧ callCheck 0 15 5 [List.replicate 16 0#8, [1#8]] [[1#8, 2#8]] = 0)
    ∧ (∀ s ∈ [(({ (board .service .live : State) with cipher := { (board .service .live : State).cipher with keys := [(5, 7#256)] } } : State) : State)], roleRuns s 0 = true ∧ (keyAt s 5).isSome = true ∧ regionOk s 0 0 1 = true ∧ callCheck 0 16 5 [] [[1#8]] ≠ 0 ∧ callCheck 0 15 5 [[1#8], [1#8]] [] ≠ 0)
    ∧ (∀ s ∈ [(({ (board .service .live : State) with cipher := { (board .service .live : State).cipher with keys := [(5, 7#256)] } } : State) : State)], roleRuns s 0 = true ∧ keyAt s 6 = none ∧ regionOk s 0 1099511627775 2 = false ∧ keyAllowed 0 16 = false)
    ∧ (∀ s ∈ [(({ (board .service .live : State) with cipher := { (board .service .live : State).cipher with keys := [(5, 7#256)] } } : State) : State)], roleRuns s 0 = true ∧ ((5 < 5 ∨ 15 < 16 : Prop)) ∧ keyAt s 5 = some 7#256 ∧ keyAllowed 0 5 = true ∧ 16 ≤ (List.replicate 16 0#8).length ∧ (List.replicate 16 0#8).length % 8 = 0 ∧ ([0#8] : List Byte).length < 16 ∧ (List.replicate 17 0#8).length % 8 ≠ 0)
    ∧ (∀ s ∈ [(({ (board .service .live : State) with cipher := { (board .service .live : State).cipher with keys := [(5, 7#256)] } } : State) : State)], domainOn s 43 = true ∧ s.modes.mrReset = false ∧ nextCall s.cipher = none)
    ∧ (∀ s ∈ [(({ (board .service .live : State) with cipher := { (board .service .live : State).cipher with calls := [(⟨0, 15, (⟨.gmac, 5, List.replicate 12 0#8, 2, 0#128, 0, 0, false, [], []⟩ : HouseCtx), [], [], [], 0, []⟩ : HouseCall)] } } : State) : State)], domainOn s 43 = true ∧ s.modes.mrReset = false ∧ nextCall s.cipher = some (⟨0, 15, (⟨.gmac, 5, List.replicate 12 0#8, 2, 0#128, 0, 0, false, [], []⟩ : HouseCtx), [], [], [], 0, []⟩ : HouseCall) ∧ keyAt s 5 = none)
    ∧ (∀ s ∈ [(({ (board .service .live : State) with cipher := { (board .service .live : State).cipher with keys := [(5, 7#256)], calls := [(⟨0, 15, (⟨.gcmDecrypt, 5, List.replicate 12 0#8, 2, 0#128, 0, 0, false, [], []⟩ : HouseCtx), [], (List.replicate 65537 0#8), [], 8, []⟩ : HouseCall)] } } : State) : State)], domainOn s 43 = true ∧ s.modes.mrReset = false ∧ keyAt s 5 = some 7#256 ∧ (nextCall s.cipher).elim false (fun c => (callStep (keyBytes 7#256) c).text.length == 1 && c.ctx.key == 5) = true)
    ∧ (∀ s ∈ [(({ (board .service .live : State) with cipher := { (board .service .live : State).cipher with keys := [(5, 7#256)], calls := [(⟨0, 15, (⟨.gmac, 5, List.replicate 12 0#8, 2, 0#128, 0, 0, false, [], []⟩ : HouseCtx), [], [1#8], [], 8, []⟩ : HouseCall)] } } : State) : State)], domainOn s 43 = true ∧ s.modes.mrReset = false ∧ keyAt s 5 = some 7#256 ∧ nextCall s.cipher = some (⟨0, 15, (⟨.gmac, 5, List.replicate 12 0#8, 2, 0#128, 0, 0, false, [], []⟩ : HouseCtx), [], [1#8], [], 8, []⟩ : HouseCall) ∧ (callStep (keyBytes 7#256) (⟨0, 15, (⟨.gmac, 5, List.replicate 12 0#8, 2, 0#128, 0, 0, false, [], []⟩ : HouseCtx), [], [1#8], [], 8, []⟩ : HouseCall)).aad = [] ∧ (callStep (keyBytes 7#256) (⟨0, 15, (⟨.gmac, 5, List.replicate 12 0#8, 2, 0#128, 0, 0, false, [], []⟩ : HouseCtx), [], [1#8], [], 8, []⟩ : HouseCall)).text = [])
    ∧ (∀ s ∈ [(({ (board .service .live : State) with cipher := { (board .service .live : State).cipher with keys := [(5, 7#256)], calls := [(⟨0, 15, (⟨.gcmEncrypt, 5, List.replicate 12 0#8, 2, 0#128, 0, 0, false, [], []⟩ : HouseCtx), [], [1#8], [], 8, []⟩ : HouseCall)] } } : State) : State)], domainOn s 43 = true ∧ s.modes.mrReset = false ∧ keyAt s 5 = some 7#256 ∧ nextCall s.cipher = some (⟨0, 15, (⟨.gcmEncrypt, 5, List.replicate 12 0#8, 2, 0#128, 0, 0, false, [], []⟩ : HouseCtx), [], [1#8], [], 8, []⟩ : HouseCall) ∧ (callStep (keyBytes 7#256) (⟨0, 15, (⟨.gcmEncrypt, 5, List.replicate 12 0#8, 2, 0#128, 0, 0, false, [], []⟩ : HouseCtx), [], [1#8], [], 8, []⟩ : HouseCall)).aad = [] ∧ (callStep (keyBytes 7#256) (⟨0, 15, (⟨.gcmEncrypt, 5, List.replicate 12 0#8, 2, 0#128, 0, 0, false, [], []⟩ : HouseCtx), [], [1#8], [], 8, []⟩ : HouseCall)).text = [])
    ∧ (∀ s ∈ [(({ (board .service .live : State) with cipher := { (board .service .live : State).cipher with keys := [(5, 7#256)], calls := [(⟨0, 15, (⟨.gcmDecrypt, 5, List.replicate 12 0#8, 2, 0#128, 0, 0, false, [], []⟩ : HouseCtx), [], [1#8], [], 8, []⟩ : HouseCall)] } } : State) : State)], domainOn s 43 = true ∧ s.modes.mrReset = false ∧ keyAt s 5 = some 7#256 ∧ nextCall s.cipher = some (⟨0, 15, (⟨.gcmDecrypt, 5, List.replicate 12 0#8, 2, 0#128, 0, 0, false, [], []⟩ : HouseCtx), [], [1#8], [], 8, []⟩ : HouseCall) ∧ (callStep (keyBytes 7#256) (⟨0, 15, (⟨.gcmDecrypt, 5, List.replicate 12 0#8, 2, 0#128, 0, 0, false, [], []⟩ : HouseCtx), [], [1#8], [], 8, []⟩ : HouseCall)).aad = [] ∧ (callStep (keyBytes 7#256) (⟨0, 15, (⟨.gcmDecrypt, 5, List.replicate 12 0#8, 2, 0#128, 0, 0, false, [], []⟩ : HouseCtx), [], [1#8], [], 8, []⟩ : HouseCall)).text = [])
    ∧ (∀ s ∈ [(({ (board .service .live : State) with cipher := { (board .service .live : State).cipher with keys := [(5, 7#256)], slots := [(15, ⟨4294967295, some (⟨.gmac, 5, List.replicate 12 0#8, 2, 0#128, 0, 0, false, [], []⟩ : HouseCtx)⟩)], bootNonce := some 9#32 } } : State) : State)], roleRuns s 0 = true ∧ slotOwner 15 = some 0 ∧ s.cipher.bootNonce = some 9#32 ∧ (ctxSlot s 15).ctx = some (⟨.gmac, 5, List.replicate 12 0#8, 2, 0#128, 0, 0, false, [], []⟩ : HouseCtx) ∧ 0 = ((ctxSlot s 15).saveCount + 1) % 4294967296)
    ∧ (∀ s ∈ [(({ (board .service .live : State) with cipher := { (board .service .live : State).cipher with keys := [(5, 7#256)], slots := [(15, ⟨1, none⟩)], bootNonce := some 9#32 } } : State) : State)], roleRuns s 0 = true ∧ slotOwner 15 = some 0 ∧ s.cipher.bootNonce = some 9#32 ∧ (ctxSlot s 15).ctx = none ∧ (parseCtx (ctxBytes 15 1 9 (⟨.gmac, 5, List.replicate 12 0#8, 2, 0#128, 0, 0, false, [], []⟩ : HouseCtx))).isSome = true ∧ leNat (slice (ctxBytes 15 1 9 (⟨.gmac, 5, List.replicate 12 0#8, 2, 0#128, 0, 0, false, [], []⟩ : HouseCtx)) 1 1) = 15 ∧ leNat (slice (ctxBytes 15 1 9 (⟨.gmac, 5, List.replicate 12 0#8, 2, 0#128, 0, 0, false, [], []⟩ : HouseCtx)) 4 4) = (ctxSlot s 15).saveCount ∧ leNat (slice (ctxBytes 15 1 9 (⟨.gmac, 5, List.replicate 12 0#8, 2, 0#128, 0, 0, false, [], []⟩ : HouseCtx)) 52 4) = (9#32).toNat ∧ (ctxBytes 15 1 9 (⟨.gmac, 5, List.replicate 12 0#8, 2, 0#128, 0, 0, false, [], []⟩ : HouseCtx)).length = 64)
    ∧ (∀ s ∈ [(({ (board .service .live : State) with cipher := { (board .service .live : State).cipher with keys := [(5, 7#256)], slots := [(15, ⟨2, none⟩)], bootNonce := some 9#32 } } : State) : State)], roleRuns s 0 = true ∧ s.cipher.bootNonce = some 9#32 ∧ leNat (slice (ctxBytes 15 1 9 (⟨.gmac, 5, List.replicate 12 0#8, 2, 0#128, 0, 0, false, [], []⟩ : HouseCtx)) 4 4) ≠ (ctxSlot s 15).saveCount ∧ leNat (slice (ctxBytes 15 1 9 (⟨.gmac, 5, List.replicate 12 0#8, 2, 0#128, 0, 0, false, [], []⟩ : HouseCtx)) 1 1) ≠ 14)
    ∧ (Sys2Proof.Machine.keyUnwrap (keyBytes wrappingKey) [] = none) := by
  refine ⟨?_, ?_, ?_, ?_, ?_, ?_, ?_, ?_, ?_, ?_, ?_, ?_, ?_, ?_, ?_⟩ <;> decide +kernel

/-- States and operands that meet the hypotheses of HashesSignaturesRandom, clause by clause. -/
theorem witness_HashesSignaturesRandom :
    (∀ s ∈ [(({ (board .service .live : State) with cipher := { (board .service .live : State).cipher with keys := [(5, 7#256)], slots := [(15, ⟨1, some shaInit⟩)] } } : State) : State)], roleRuns s 0 = true ∧ slotOwner 15 = some 0 ∧ (ctxSlot s 15).ctx = some shaInit ∧ shaInit.kind = .sha256)
    ∧ (∀ s ∈ [(({ (board .service .live : State) with cipher := { (board .service .live : State).cipher with keys := [(5, 7#256)] } } : State) : State)], roleRuns s 0 = true ∧ keyAt s 5 = some 7#256 ∧ keyAllowed 0 5 = true ∧ keyAt s 15 = none ∧ keyAllowed 0 16 = false ∧ 2 ≤ 2 ∧ slotOwner 15 = some 0 ∧ slotOwner 16 ≠ some 0 ∧ slotOwner 64 ≠ some 0 ∧ (ctxSlot s 15).ctx = none ∧ (List.replicate 64 0#8).length % 64 = 0 ∧ (List.replicate 63 0#8).length % 64 ≠ 0 ∧ s.cipher.drbgFailed = false ∧ domainOn s 50 = true)
    ∧ (∀ s ∈ [(({ (board .service .live : State) with cipher := { (board .service .live : State).cipher with keys := [(5, 7#256)], drbgFailed := true } } : State) : State)], roleRuns s 0 = true ∧ s.cipher.drbgFailed = true)
    ∧ (∀ s ∈ [(({ (board .service .live : State) with cipher := { (board .service .live : State).cipher with keys := [(5, 7#256)], leafNext := 28672 } } : State) : State)], mainOn s = true ∧ s.modes.booting = false ∧ s.modes.mrReset = false ∧ s.cipher.treeReady = false ∧ s.cipher.treeNow < 1023 ∧ 32768 * (s.cipher.treeNow + 1) - s.cipher.leafNext ≤ 4096)
    ∧ (∀ s ∈ [(({ (board .service .live : State) with cipher := { (board .service .live : State).cipher with keys := [(5, 7#256)], leafNext := 28671 } } : State) : State)], mainOn s = true ∧ s.modes.booting = false ∧ s.modes.mrReset = false ∧ s.cipher.treeReady = false ∧ s.cipher.treeNow < 1023 ∧ 4096 < 32768 * (s.cipher.treeNow + 1) - s.cipher.leafNext) := by
  refine ⟨?_, ?_, ?_, ?_, ?_⟩ <;> decide +kernel

/-- States and operands that meet the hypotheses of ScriptStoreRoutines, clause by clause. -/
theorem witness_ScriptStoreRoutines :
    (∀ s ∈ [(({ (board .service .live : State) with store := { (board .service .live : State).store with  } } : State) : State)], storePowered s = true ∧ s.store.prog = none ∧ s.store.calls = [] ∧ roleRuns s 0 = true ∧ 2048 ≤ 2048 ∧ 0 < 2048 ∧ s.store.erase = none ∧ storeAccess 4587520 2048 (fun a => mayRead a .house) = 0 ∧ storeAccess 0 1 (fun a => mayRead a .house) = 4 ∧ storeAccess 4096 1 (fun a => mayRead a .rom) = 4 ∧ storeAccess 4325375 2 (fun a => mayRead a .house) = 0 ∧ storeAccess 5586943 2 (fun a => mayRead a .house) = 3)
    ∧ (∀ s ∈ [(({ (board .service .live : State) with store := { (board .service .live : State).store with erase := some ⟨.house, 1088, 1, 0, false, false, 0, 0⟩ } } : State) : State)], storePowered s = true ∧ s.store.prog = none ∧ s.store.calls = [] ∧ roleRuns s 0 = true ∧ s.store.erase.isSome = true ∧ storeAccess 2230271 2 (fun a => mayRead a .house) = 0 ∧ (List.range 2).any (fun i => (1088 : Nat) == sectorOf (2230271 + i)) = true ∧ storeAccess 2230272 2 (fun a => mayRead a .house) = 0 ∧ (List.range 2).any (fun i => (1088 : Nat) == sectorOf (2230272 + i)) = false ∧ storeAccess 2232320 1 (fun a => mayWrite a .house) = 0 ∧ ([BitVec.allOnes 48] : List Word).zipIdx.all (fun e => progCheck s (2232320 + e.2) e.1 == 0) = true)
    ∧ (∀ s ∈ [(({ (board .service .live : State) with store := { (board .service .live : State).store with failed := [1091] } } : State) : State)], storePowered s = true ∧ s.store.prog = none ∧ s.store.calls = [] ∧ roleRuns s 0 = true ∧ 2729 ≤ 2729 ∧ s.store.erase = none ∧ storeAccess 2232320 2729 (fun a => mayWrite a .house) = 0 ∧ ([BitVec.allOnes 48] : List Word).zipIdx.all (fun e => progCheck s (2232320 + e.2) e.1 == 0) = true ∧ ([BitVec.allOnes 48] : List Word).zipIdx.all (fun e => progCheck s (2234368 + e.2) e.1 == 0) = false ∧ storeAccess 0 1 (fun a => mayWrite a .house) = 4)
    ∧ (∀ s ∈ [(({ (board .service .live : State) with store := { (board .service .live : State).store with failed := [1088] } } : State) : State)], storePowered s = true ∧ s.store.prog = none ∧ s.store.calls = [] ∧ roleRuns s 0 = true ∧ s.store.erase = none ∧ areaOf 3000 = none ∧ (areaOf 2368).isSome = true ∧ noErase 2368 = true ∧ (areaOf 1088).elim false (fun a => mayWrite a .house) = true ∧ noErase 1088 = false ∧ isProtected s.store 1088 = false ∧ s.store.failed.contains 1088 = true ∧ (areaOf 2111).elim false (fun a => mayWrite a .house) = true ∧ noErase 2111 = false ∧ isProtected s.store 2111 = false ∧ s.store.failed.contains 2111 = false)
    ∧ (∀ s ∈ [(({ (board .service .live : State) with store := { (board .service .live : State).store with prog := some ⟨.house, 2232383, [0#48, 1#48], 2⟩ } } : State) : State)], storePowered s = true ∧ s.store.prog = some ⟨.house, 2232383, [0#48, 1#48], 2⟩ ∧ s.store.calls = [] ∧ 1 = min 2 (64 - 2232383 % 64) ∧ 1 < 2)
    ∧ (∀ s ∈ [(({ (board .service .live : State) with store := { (board .service .live : State).store with prog := some ⟨.house, 2232382, [0#48, 1#48], 2⟩ } } : State) : State)], storePowered s = true ∧ s.store.prog = some ⟨.house, 2232382, [0#48, 1#48], 2⟩ ∧ s.store.calls = [] ∧ 2 = min 2 (64 - 2232382 % 64))
    ∧ (∀ s ∈ [(({ (board .service .live : State) with store := { (board .service .live : State).store with erase := some ⟨.house, 1088, 1, 598, false, false, 0, 0⟩ } } : State) : State)], storePowered s = true ∧ s.store.prog = none ∧ s.store.calls = [] ∧ s.store.erase.elim false (fun e => !e.suspended && e.pulses + 1 < 600 && e.who == .house) = true)
    ∧ (∀ s ∈ [(({ (board .service .live : State) with store := { (board .service .live : State).store with erase := some ⟨.house, 1088, 1, 599, false, false, 0, 0⟩ } } : State) : State)], storePowered s = true ∧ s.store.prog = none ∧ s.store.calls = [] ∧ s.store.erase.elim false (fun e => !e.suspended && 600 ≤ e.pulses + 1 && e.who == .house) = true)
    ∧ (∀ s ∈ [(({ (board .service .live : State) with store := { (board .service .live : State).store with erase := some ⟨.house, 1088, 1, 0, true, false, 0, 0⟩ } } : State) : State)], storePowered s = true ∧ s.store.prog = none ∧ s.store.calls = [] ∧ s.store.erase.elim false (·.suspended) = true)
    ∧ (∀ s ∈ [(({ (board .service .live : State) with store := { (board .service .live : State).store with  } } : State) : State)], storePowered s = true ∧ roleRuns s 0 = true ∧ areaOf 8129 = none ∧ (areaOf 8128).elim false (fun a => mayRead a .rom && mayRead a .house) = true ∧ 127 < 128 ∧ s.store.refusals < 4)
    ∧ (∀ s ∈ [(({ (board .service .live : State) with store := { (board .service .live : State).store with refusals := 4 } } : State) : State)], storePowered s = true ∧ roleRuns s 0 = true ∧ 4 ≤ s.store.refusals) := by
  refine ⟨?_, ?_, ?_, ?_, ?_, ?_, ?_, ?_, ?_, ?_, ?_⟩ <;> decide +kernel

/-- A follower in Service, in Save, in Hold, in reset and in Dark; commands for it, for another node and a duplicate; a rehearsal that waits, with and without its conditions. -/
theorem witness_LinkFollower :
    (∀ s ∈ [(setF (withProg (board .service .live) 2 48378511622145) [(F.LINK_CFG_ENABLE, 1)] : State)], linkOn s = true ∧ (⟨1, 2, 3, 0, false⟩ : LinkHdr).src ≠ ownNode s ∧ rdb s F.LINK_CFG_LEAD = false ∧ (⟨1, 2, 3, 0, false⟩ : LinkHdr).bcast = false ∧ (⟨1, 2, 3, 0, false⟩ : LinkHdr).dest = ownNode s ∧ s.link.memory.find? (fun m => m.1 == (⟨1, 2, 3, 0, false⟩ : LinkHdr).id && m.2.1 == (⟨1, 2, 3, 0, false⟩ : LinkHdr).epoch) = none ∧ 2 ≤ 2 ∧ 2 < 3 ∧ serving s = true ∧ s.modes.recovery = false ∧ s.modes.mrReset = false ∧ downRuns s = false ∧ grantServed s = true ∧ rd s F.GAUGE_REH_STATE ≠ 1 ∧ rehReady s = false ∧ regExists 0xFFFF = false ∧ isI3c 0x1181 = true ∧ isI3c 0x1183 = true ∧ regExists 0 = true ∧ isI3c 0 = false ∧ notServed s 0 = false)
    ∧ (∀ s ∈ [(setF (setF (withProg (board .service .live) 2 48378511622145) [(F.LINK_CFG_ENABLE, 1)]) [(F.GAUGE_REH_STATE, 1)] : State)], linkOn s = true ∧ (⟨1, 2, 3, 0, false⟩ : LinkHdr).src ≠ ownNode s ∧ rdb s F.LINK_CFG_LEAD = false ∧ (⟨1, 2, 3, 0, false⟩ : LinkHdr).bcast = false ∧ (⟨1, 2, 3, 0, false⟩ : LinkHdr).dest = ownNode s ∧ s.link.memory.find? (fun m => m.1 == (⟨1, 2, 3, 0, false⟩ : LinkHdr).id && m.2.1 == (⟨1, 2, 3, 0, false⟩ : LinkHdr).epoch) = none ∧ grantServed s = true ∧ rd s F.GAUGE_REH_STATE = 1 ∧ rehReady s = false)
    ∧ (∀ s ∈ [(setF (setF (withProg (board .service .live) 2 48378511622145) [(F.LINK_CFG_ENABLE, 1)]) [(F.GAUGE_REH_STATE, 1), (F.GAUGE_STATUS_PRESENT, 1), (F.GAUGE_CFG_REH_RAIL_VALID, 1), (F.GAUGE_CFG_REH_RAIL, 14)] : State)], linkOn s = true ∧ (⟨1, 2, 3, 0, false⟩ : LinkHdr).src ≠ ownNode s ∧ rdb s F.LINK_CFG_LEAD = false ∧ (⟨1, 2, 3, 0, false⟩ : LinkHdr).bcast = false ∧ (⟨1, 2, 3, 0, false⟩ : LinkHdr).dest = ownNode s ∧ s.link.memory.find? (fun m => m.1 == (⟨1, 2, 3, 0, false⟩ : LinkHdr).id && m.2.1 == (⟨1, 2, 3, 0, false⟩ : LinkHdr).epoch) = none ∧ grantServed s = true ∧ rd s F.GAUGE_REH_STATE = 1 ∧ rehReady s = true)
    ∧ (∀ s ∈ [(setF (board .save .live) [(F.LINK_CFG_ENABLE, 1)] : State)], linkOn s = true ∧ (⟨1, 2, 3, 0, false⟩ : LinkHdr).src ≠ ownNode s ∧ rdb s F.LINK_CFG_LEAD = false ∧ (⟨1, 2, 3, 0, false⟩ : LinkHdr).bcast = false ∧ (⟨1, 2, 3, 0, false⟩ : LinkHdr).dest = ownNode s ∧ s.link.memory.find? (fun m => m.1 == (⟨1, 2, 3, 0, false⟩ : LinkHdr).id && m.2.1 == (⟨1, 2, 3, 0, false⟩ : LinkHdr).epoch) = none ∧ serving s = false ∧ grantServed s = false)
    ∧ (∀ s ∈ [(setF (board .hold .live) [(F.LINK_CFG_ENABLE, 1)] : State)], linkOn s = true ∧ (⟨1, 2, 3, 0, false⟩ : LinkHdr).src ≠ ownNode s ∧ rdb s F.LINK_CFG_LEAD = false ∧ (⟨1, 2, 3, 0, false⟩ : LinkHdr).bcast = false ∧ (⟨1, 2, 3, 0, false⟩ : LinkHdr).dest = ownNode s ∧ s.link.memory.find? (fun m => m.1 == (⟨1, 2, 3, 0, false⟩ : LinkHdr).id && m.2.1 == (⟨1, 2, 3, 0, false⟩ : LinkHdr).epoch) = none ∧ serving s = false ∧ grantServed s = false)
    ∧ (∀ s ∈ [(setF (({ (board .service .live : State) with modes := { (board .service .live : State).modes with mrReset := true } } : State)) [(F.LINK_CFG_ENABLE, 1)] : State)], linkOn s = true ∧ (⟨1, 2, 3, 0, false⟩ : LinkHdr).src ≠ ownNode s ∧ rdb s F.LINK_CFG_LEAD = false ∧ (⟨1, 2, 3, 0, false⟩ : LinkHdr).bcast = false ∧ (⟨1, 2, 3, 0, false⟩ : LinkHdr).dest = ownNode s ∧ s.link.memory.find? (fun m => m.1 == (⟨1, 2, 3, 0, false⟩ : LinkHdr).id && m.2.1 == (⟨1, 2, 3, 0, false⟩ : LinkHdr).epoch) = none ∧ s.modes.mrReset = true)
    ∧ (∀ s ∈ [(({ (setF (withProg (board .service .live) 2 48378511622145) [(F.LINK_CFG_ENABLE, 1)] : State) with link := { (setF (withProg (board .service .live) 2 48378511622145) [(F.LINK_CFG_ENABLE, 1)] : State).link with memory := [(2, 3, [3#8, 0#8])] } } : State) : State)], linkOn s = true ∧ (⟨1, 2, 3, 0, false⟩ : LinkHdr).src ≠ ownNode s ∧ rdb s F.LINK_CFG_LEAD = false ∧ (⟨1, 2, 3, 0, false⟩ : LinkHdr).bcast = false ∧ (⟨1, 2, 3, 0, false⟩ : LinkHdr).dest = ownNode s ∧ s.link.memory.find? (fun m => m.1 == (⟨1, 2, 3, 0, false⟩ : LinkHdr).id && m.2.1 == (⟨1, 2, 3, 0, false⟩ : LinkHdr).epoch) = some (2, 3, [3#8, 0#8]))
    ∧ (∀ s ∈ [(setF (withProg (board .service .live) 2 48378511622145) [(F.LINK_CFG_ENABLE, 1)] : State)], linkOn s = true ∧ rdb s F.LINK_CFG_LEAD = false ∧ (⟨1, 2, 3, 511, false⟩ : LinkHdr).src ≠ ownNode s ∧ (⟨1, 2, 3, 511, false⟩ : LinkHdr).bcast = false ∧ (⟨1, 2, 3, 511, false⟩ : LinkHdr).dest ≠ ownNode s)
    ∧ (∀ s ∈ [(setF (inMode .dark) [(F.LINK_CFG_ENABLE, 1), (F.PWR_VIN_STATUS_SUPPLY_GOOD, 1)] : State)], s.modes.mode = .dark ∧ rdb s F.LINK_CFG_ENABLE = true ∧ rdb s F.PWR_VIN_STATUS_SUPPLY_GOOD = true ∧ s.modes.powerUp = none ∧ s.power.run = none ∧ (⟨1, 2, 3, 0, false⟩ : LinkHdr).dest = ownNode s) := by
  refine ⟨?_, ?_, ?_, ?_, ?_, ?_, ?_, ?_, ?_⟩ <;> decide +kernel

/-- States and operands that meet the hypotheses of LinkStageManager, clause by clause. -/
theorem witness_LinkStageManager :
    (∀ s ∈ [(({ (setF (board .service .live) [(F.LINK_CFG_ENABLE, 1), (F.LINK_CFG_LEAD, 1)] : State) with link := { (setF (board .service .live) [(F.LINK_CFG_ENABLE, 1), (F.LINK_CFG_LEAD, 1)] : State).link with tx := [⟨7, 3, 9, false, 1, [], 0, 1, 0, 0, true, false⟩] } } : State) : State)], linkOn s = true ∧ rdb s F.LINK_CFG_LEAD = true ∧ s.link.tx.find? (fun y => y.id == 7) = some ⟨7, 3, 9, false, 1, [], 0, 1, 0, 0, true, false⟩ ∧ s.link.tx.find? (fun y => y.id == 8) = none ∧ 1 ≤ max 1 (rd s F.LINK_CFG_RETRIES) ∧ max (tickOf s) (0 + linkTicks s) < 0 + 4 * linkTicks s)
    ∧ (∀ s ∈ [(setF (({ (setF (board .service .live) [(F.LINK_CFG_ENABLE, 1), (F.LINK_CFG_LEAD, 1)] : State) with link := { (setF (board .service .live) [(F.LINK_CFG_ENABLE, 1), (F.LINK_CFG_LEAD, 1)] : State).link with tx := [⟨7, 3, 9, false, 1, [], 0, 3, 0, 0, true, false⟩] } } : State)) [(F.LINK_CFG_RETRIES, 3)] : State)], linkOn s = true ∧ s.link.tx.find? (fun y => y.id == 7) = some ⟨7, 3, 9, false, 1, [], 0, 3, 0, 0, true, false⟩ ∧ 3 ≤ rd s F.LINK_CFG_RETRIES ∧ max (tickOf s) (0 + linkTicks s) < 0 + 4 * linkTicks s)
    ∧ (∀ s ∈ [(setF (({ (setF (board .service .live) [(F.LINK_CFG_ENABLE, 1), (F.LINK_CFG_LEAD, 1)] : State) with link := { (setF (board .service .live) [(F.LINK_CFG_ENABLE, 1), (F.LINK_CFG_LEAD, 1)] : State).link with tx := [⟨7, 3, 9, false, 1, [], 0, 4, 0, 0, true, false⟩] } } : State)) [(F.LINK_CFG_RETRIES, 3)] : State)], linkOn s = true ∧ s.link.tx.find? (fun y => y.id == 7) = some ⟨7, 3, 9, false, 1, [], 0, 4, 0, 0, true, false⟩ ∧ rd s F.LINK_CFG_RETRIES < 4)
    ∧ (∀ s ∈ [(setF (setF (board .service .live) [(F.LINK_CFG_ENABLE, 1), (F.LINK_CFG_LEAD, 1)]) [(F.LINK_POLL_FIRST, 511), (F.LINK_POLL_LAST, 511)] : State)], linkLeads s = true ∧ s.link.tx = [] ∧ askers s = [] ∧ (pollPick s 4200 s.link.pollNode s.link.round).elim false (fun x => x.1 == 511) = true)
    ∧ (∀ s ∈ [(({ (setF (board .service .live) [(F.LINK_CFG_ENABLE, 1), (F.LINK_CFG_LEAD, 1)] : State) with link := { (setF (board .service .live) [(F.LINK_CFG_ENABLE, 1), (F.LINK_CFG_LEAD, 1)] : State).link with grants := [⟨5, 9, 0, none⟩] } } : State) : State)], linkLeads s = true ∧ s.link.tx = [] ∧ s.link.grants.find? (fun g => g.shelf == 5 && g.revoked.isNone) = some ⟨5, 9, 0, none⟩ ∧ 9 ≠ ownNode s)
    ∧ (∀ s ∈ [(({ (setF (board .service .live) [(F.LINK_CFG_ENABLE, 1), (F.LINK_CFG_LEAD, 1)] : State) with link := { (setF (board .service .live) [(F.LINK_CFG_ENABLE, 1), (F.LINK_CFG_LEAD, 1)] : State).link with grants := [⟨5, 0, 0, none⟩] } } : State) : State)], linkLeads s = true ∧ s.link.tx = [] ∧ s.link.grants.find? (fun g => g.shelf == 5 && g.revoked.isNone) = some ⟨5, 0, 0, none⟩ ∧ 0 = ownNode s)
    ∧ (∀ s ∈ [(setF (withProg (board .service .live) 2 48378511622145) [(F.LINK_CFG_ENABLE, 1)] : State)], linkLeads s = false ∧ linkOn s = true ∧ rdb s F.LINK_CFG_LEAD = false ∧ rdb s F.LINK_STATUS_LEAD_LOST = false)
    ∧ (∀ s ∈ [(setF (withProg (board .service .live) 2 48378511622145) [(F.LINK_CFG_ENABLE, 1)] : State)], (∀ p ∈ [Path.core, .sideband], pathWrites s p F.LINK_CMD_GO.idx = true) ∧ linkLeads s = false)
    ∧ (∀ s ∈ [(setF (board .service .live) [(F.LINK_CFG_ENABLE, 1), (F.LINK_CFG_LEAD, 1)] : State)], (∀ p ∈ [Path.core, .sideband], pathWrites s p F.LINK_CMD_GO.idx = true) ∧ rdb s F.LINK_CMD_BUSY = false ∧ linkLeads s = true ∧ s.link.tx = [] ∧ fldOf (0#48) F.LINK_CMD_BCAST = 0) := by
  refine ⟨?_, ?_, ?_, ?_, ?_, ?_, ?_, ?_, ?_⟩ <;> decide +kernel

/-- States and operands that meet the hypotheses of GaugeCommands, clause by clause. -/
theorem witness_GaugeCommands :
    (∀ s ∈ [(board .service .live : State)], s.modes.mode ≠ .hold ∧ (rdb s F.GAUGE_STATUS_PRESENT && s.gauge.fullDue) = false ∧ emptyCond s = false ∧ rdb s F.GAUGE_STATUS_PRESENT = false ∧ rdb s F.GAUGE_STATUS_CHG_DONE = false ∧ rd s F.GAUGE_REH_STATE < 2)
    ∧ (∀ s ∈ [(board .hold .live : State)], s.modes.mode = .hold ∧ rdb s F.GAUGE_STATUS_EXHAUSTED = false ∧ emptyCond s = false)
    ∧ (∀ s ∈ [(setF (({ (board .service .live : State) with gauge := { (board .service .live : State).gauge with fullDue := true, faults := [1, 3] } } : State)) [(F.GAUGE_STATUS_PRESENT, 1), (F.GAUGE_STATUS_CHG_DONE, 1), (F.GAUGE_STATUS_CHG_EN, 1)] : State)], rdb s F.GAUGE_STATUS_PRESENT = true ∧ s.gauge.fullDue = true ∧ emptyCond s = false ∧ rdb s F.GAUGE_STATUS_CHG_DONE = true ∧ s.gauge.faults.contains 1 = true ∧ s.gauge.faults.contains 3 = true ∧ s.gauge.faults.contains 2 = false)
    ∧ (∀ s ∈ [(({ (setF (({ (board .service .live : State) with gauge := { (board .service .live : State).gauge with ticks := 1, codes := 4096, volts := 0 } } : State)) [(F.GAUGE_STATUS_PRESENT, 1), (F.GAUGE_PACK_EMPTY_LOAD_100MA, 1)] : State) with gauge := { (setF (({ (board .service .live : State) with gauge := { (board .service .live : State).gauge with ticks := 1, codes := 4096, volts := 0 } } : State)) [(F.GAUGE_STATUS_PRESENT, 1), (F.GAUGE_PACK_EMPTY_LOAD_100MA, 1)] : State).gauge with emptyFirst := some 5 } } : State) : State)], s.modes.mode ≠ .hold ∧ rdb s F.GAUGE_STATUS_PRESENT = true ∧ s.gauge.fullDue = false ∧ emptyCond s = true ∧ s.gauge.emptyFirst = some 5)
    ∧ (∀ s ∈ [(setF (board .service .live) [(F.GAUGE_STATUS_PRESENT, 1), (F.GAUGE_REH_STATE, 3)] : State)], rdb s F.GAUGE_STATUS_PRESENT = true ∧ s.gauge.faults.contains 1 = false ∧ s.gauge.faults.contains 3 = false ∧ 2 ≤ rd s F.GAUGE_REH_STATE ∧ (∀ p ∈ [Path.core, .sideband], pathWrites s p F.GAUGE_CTRL_NEW_PACK.idx = true)) := by
  refine ⟨?_, ?_, ?_, ?_, ?_⟩ <;> decide +kernel

/-- States and operands that meet the hypotheses of StagesAndImages, clause by clause. -/
theorem witness_StagesAndImages :
    (∀ s ∈ [(board .service .live : State)], (∀ p ∈ [Path.core, .sideband], pathWrites s p F.IMG_LOAD_CTRL_START.idx = true) ∧ mainOff s = false ∧ s.image.staged = none)
    ∧ (∀ s ∈ [(({ (board .service .live : State) with image := { (board .service .live : State).image with loading := some (0, [1#8]), staged := some ⟨[1#8], 0, none⟩ } } : State) : State)], (∀ p ∈ [Path.core, .sideband], pathWrites s p F.IMG_LOAD_CTRL_START.idx = true) ∧ (∀ p ∈ [Path.core, .sideband], pathWrites s p F.IMG_LOAD_DATA_DATA.idx = true) ∧ mainOff s = false ∧ s.image.loading = some (0, [1#8]) ∧ s.image.staged ≠ none)
    ∧ (∀ s ∈ [(({ (board .service .live : State) with image := { (board .service .live : State).image with staged := some ⟨[1#8], 0, none⟩ } } : State) : State)], s.image.staged = some ⟨[1#8], 0, none⟩ ∧ (containerCheck s (imageBase s) [1#8]).1 ≠ 0)
    ∧ (∀ s ∈ [(board .service .live : State)], (∀ p ∈ [Path.core, .sideband], pathWrites s p F.STAGE_CTRL_GO.idx = true) ∧ mainOff s = false ∧ redressRefusal s 0 true = 0 ∧ stageSt s 0 = .live ∧ (redressRefusal s 3 false = 1 ∨ redressRefusal s 3 false ≠ 1))
    ∧ (∀ s ∈ [(({ (board .service .live : State) with image := { (board .service .live : State).image with request := some ⟨0, true⟩ } } : State) : State)], (∀ p ∈ [Path.core, .sideband], pathWrites s p F.STAGE_CTRL_GO.idx = true) ∧ redressRefusal s 0 true = 1 ∧ redressRefusal s 3 false = 1 ∧ s.image.request.isSome = true)
    ∧ (∀ s ∈ [(board .standby .sealed : State)], (∀ p ∈ [Path.core, .sideband], pathWrites s p F.STAGE_CTRL_GO.idx = true) ∧ redressRefusal s 0 true = 0 ∧ stageSt s 0 = .sealed ∧ s.cxl.erase = none)
    ∧ (∀ s ∈ [(({ (board .standby .sealed : State) with image := { (board .standby .sealed : State).image with request := some ⟨0, false⟩, staged := some ⟨[1#8], 0, some 0⟩ } } : State) : State)], s.image.request = some ⟨0, false⟩ ∧ s.image.staged = some ⟨[1#8], 0, some 0⟩ ∧ s.saveDev.gate = false ∧ stageSt s 0 = .sealed ∧ s.modes.mode = .standby)
    ∧ (∀ s ∈ [(board .service .live : State)], s.image.request = none ∧ (∀ n : Stage, stageSt s n ≠ .dressing))
    ∧ (∀ s ∈ [(({ (board .standby .dressing : State) with image := { (board .standby .dressing : State).image with dressFault := ⟨15, 0, 0, 0⟩ } } : State) : State)], stageSt s 0 = .dressing ∧ (rst s 0).goLive = none ∧ qget s.image.dressFault 0 = 15 ∧ 0 < 15 ∧ 15 < 16)
    ∧ (∀ s ∈ [(setF (({ (board .standby .dressing : State) with image := { (board .standby .dressing : State).image with sections := [⟨2, 0, 0, [], []⟩] } } : State)) [(F.FL_CH_STATUS_TRAINED 0, 1), (F.FL_CH_STATUS_TRAINED 1, 1)] : State)], stageSt s 0 = .dressing ∧ (rst s 0).goLive = none ∧ qget s.image.dressFault 0 = 0 ∧ s.power.blocked = 0 ∧ qget s.image.untrained 0 = false ∧ 2 ≤ ((stageFlashChs s 0).filter (fun c => rdb s (F.FL_CH_STATUS_TRAINED c) && !chLost s c)).length ∧ (stageFlashChs s 0).any (bitOf (rd s F.CIPH_STATUS_LANE_FAILED)) = false ∧ (secFor s.image.sections 2 0).isSome = true ∧ intentOf s 0 = 0 ∧ keyStored s 0 = false ∧ houseNewest (houseReads s 0).1 = none) := by
  refine ⟨?_, ?_, ?_, ?_, ?_, ?_, ?_, ?_, ?_, ?_⟩ <;> decide +kernel

/-- Boots, loads, activations with room in the log and with none, series in each step, fuses, the watchdog and a free log of slot A; what a boot, a check or a token answers is a case of its statement and no condition. -/
theorem witness_BootAndFirmware : 
    (∀ s ∈ [(board .service .live : State)], s.modes.booting = false ∧ (∀ p ∈ [Path.core, .sideband], pathWrites s p F.FW_CTRL_ACTIVATE.idx = true) ∧ mainOff s = false ∧ s.modes.recovery = false ∧ s.fw.load = none ∧ s.fw.series = none ∧ s.modes.mode ≠ .dark ∧ tickOf s < s.fw.wdogTick + 65536 ∧ serving s = true)
    ∧ (∀ s ∈ [(({ (inMode .standby : State) with modes := { (inMode .standby : State).modes with booting := true } } : State) : State)], s.modes.booting = true)
    ∧ (∀ s ∈ [(board .save .live : State)], (∀ p ∈ [Path.core, .sideband], pathWrites s p F.FW_CTRL_ACTIVATE.idx = true) ∧ mainOff s = false ∧ fwServes s = false ∧ onlineRefusal s true ≠ 0 ∧ s.modes.mode = .save)
    ∧ (∀ s ∈ [(({ (board .service .live : State) with fw := { (board .service .live : State).fw with load := some ⟨0, [1#8], true, true⟩ } } : State) : State)], (∀ p ∈ [Path.core, .sideband], pathWrites s p F.FW_CTRL_ACTIVATE.idx = true) ∧ mainOff s = false ∧ fwServes s = true ∧ fwBusy s = true)
    ∧ (∀ s ∈ [(board .service .live : State)], (∀ p ∈ [Path.core, .sideband], pathWrites s p F.FW_CTRL_ACTIVATE.idx = true) ∧ mainOff s = false ∧ fwServes s = true ∧ fwBusy s = false ∧ slotRefusal s true ≠ 0)
    ∧ (∀ s ∈ [(({ (board .standby .sealed : State) with modes := { (board .standby .sealed : State).modes with recovery := true } } : State) : State)], (∀ p ∈ [Path.core, .sideband], pathWrites s p F.FW_CTRL_ACTIVATE.idx = true) ∧ mainOff s = false ∧ s.modes.recovery = true ∧ s.fw.makerHash = none ∧ (List.replicate 32 0#8).length = 32 ∧ (List.replicate 31 0#8).length ≠ 32)
    ∧ (∀ s ∈ [(({ (board .service .live : State) with fw := { (board .service .live : State).fw with load := some ⟨0, [1#8], true, true⟩ } } : State) : State)], (∀ p ∈ [Path.core, .sideband], pathWrites s p F.FW_LOAD_CTRL_START.idx = true) ∧ mainOff s = false ∧ s.fw.load.elim false (·.checking) = true)
    ∧ (∀ s ∈ [(({ (board .service .live : State) with fw := { (board .service .live : State).fw with load := some ⟨0, [1#8], true, false⟩ } } : State) : State)], (∀ p ∈ [Path.core, .sideband], pathWrites s p F.FW_LOAD_CTRL_START.idx = true) ∧ (∀ p ∈ [Path.core, .sideband], pathWrites s p F.FW_LOAD_DATA_DATA.idx = true) ∧ mainOff s = false ∧ s.fw.load = some ⟨0, [1#8], true, false⟩ ∧ s.fw.series = none ∧ s.fw.load.elim false (·.checking) = false)
    ∧ (∀ s ∈ [(({ (board .service .live : State) with fw := { (board .service .live : State).fw with load := some ⟨1, [], true, true⟩ } } : State) : State)], s.fw.load = some ⟨1, [], true, true⟩ ∧ (fwCheck s []).1 ≠ 0)
    ∧ (∀ s ∈ [(({ (board .service .live : State) with fw := { (board .service .live : State).fw with series := some ⟨true, [0, 1], 1, 0, false⟩ } } : State) : State)], s.fw.series = some ⟨true, [0, 1], 1, 0, false⟩)
    ∧ (∀ s ∈ [(({ (board .service .live : State) with fw := { (board .service .live : State).fw with series := some ⟨true, [0, 1], 2, 0, false⟩ } } : State) : State)], s.fw.series = some ⟨true, [0, 1], 2, 0, false⟩)
    ∧ (∀ s ∈ [(({ (board .service .live : State) with fw := { (board .service .live : State).fw with series := some ⟨true, [0, 1], 3, 0, false⟩ } } : State) : State)], s.fw.series = some ⟨true, [0, 1], 3, 0, false⟩)
    ∧ (∀ s ∈ [(({ (board .service .live : State) with fw := { (board .service .live : State).fw with series := some ⟨true, [1], 3, 0, false⟩ } } : State) : State)], s.fw.series = some ⟨true, [1], 3, 0, false⟩)
    ∧ (∀ s ∈ [(({ (board .service .live : State) with fw := { (board .service .live : State).fw with raises := [(true, 64)] } } : State) : State)], s.fw.raises = (true, 64) :: [] ∧ s.modes.mode = .service ∧ rdb s F.PWR_VIN_STATUS_SUPPLY_GOOD = true ∧ fuseVersion s.fw.fuseImg ≤ 63 ∧ 63 < 64)
    ∧ (∀ s ∈ [(({ (State.reset : State) with fw := { (State.reset : State).fw with wdogTick := 0 } } : State) : State)], s.modes.mode = .dark)
    ∧ (∀ s ∈ [(({ (board .hold .live : State) with now := 65536 * unitsPerTick } : State) : State)], s.modes.mode = .hold ∧ s.fw.wdogTick + 65536 ≤ tickOf s)
    ∧ (∀ s ∈ [(board .service .live : State)], mainOn s = true ∧ s.modes.booting = false)
    ∧ (∀ s ∈ [(({ (board .service .live : State) with fw := { (board .service .live : State).fw with shipLog := some (List.replicate 64 (0, true)) } } : State) : State)], fwServes s = true ∧ fwBusy s = false ∧ slotRefusal s false = 0 ∧ 64 ≤ fwLogUsed s false ∧ seriesResumes s false = false ∧ onlineRefusal s false = 0)
    ∧ (∀ s ∈ [(({ (board .service .live : State) with fw := { (board .service .live : State).fw with shipLog := some [], roleSlotB := [false, true, false, false, false, false] } } : State) : State)], fwServes s = true ∧ fwBusy s = false ∧ slotRefusal s false = 0 ∧ fwLogUsed s false < 64 ∧ seriesResumes s false = false ∧ seriesRoles s false ≠ [] ∧ fwShipped s false = true ∧ onlineRefusal s false = 0)
    ∧ (∀ s ∈ [(({ (board .service .live : State) with fw := { (board .service .live : State).fw with roleSlotB := [false, true, false, false, false, false] } } : State) : State)], seriesResumes s false = true ∧ seriesRoles s false ≠ [])
    ∧ (∀ s ∈ [(({ (board .service .live : State) with fw := { (board .service .live : State).fw with roleSlotB := [false, true, false, false, false, false] } } : State) : State)], onlineRefusal s false = 0) := by
  refine ⟨?_, ?_, ?_, ?_, ?_, ?_, ?_, ?_, ?_, ?_, ?_, ?_, ?_, ?_, ?_, ?_, ?_, ?_, ?_, ?_, ?_⟩
  · decide +kernel
  · decide +kernel
  · decide +kernel
  · decide +kernel
  · decide +kernel
  · decide +kernel
  · decide +kernel
  · decide +kernel
  · decide +kernel
  · decide +kernel
  · decide +kernel
  · decide +kernel
  · decide +kernel
  · decide +kernel
  · decide +kernel
  · decide +kernel
  · decide +kernel
  · intro s hs
    have h : fwServes s = true ∧ fwBusy s = false ∧ slotRefusal s false = 0 ∧ 64 ≤ fwLogUsed s false ∧ seriesResumes s false = false
        ∧ (!fwServes s || anyStage s .dressing || anyStage s .restoring) = false ∧ (fwBusy s || s.image.request.isSome) = false ∧ s.fw.roleSlotB.headD false = false ∧ fwShipped s false = true := by
      rw [List.mem_singleton.mp hs]; decide +kernel
    obtain ⟨h1, h2, c, h3, h4, a, b, d, e⟩ := h
    refine ⟨h1, h2, c, h3, h4, ?_⟩
    unfold onlineRefusal
    rw [a, b, d]
    simp [c, fwSlotHead, e]
  · intro s hs
    have h : fwServes s = true ∧ fwBusy s = false ∧ slotRefusal s false = 0 ∧ fwLogUsed s false < 64 ∧ seriesResumes s false = false ∧ seriesRoles s false ≠ []
        ∧ (!fwServes s || anyStage s .dressing || anyStage s .restoring) = false ∧ (fwBusy s || s.image.request.isSome) = false ∧ s.fw.roleSlotB.headD false = false ∧ fwShipped s false = true := by
      rw [List.mem_singleton.mp hs]; decide +kernel
    obtain ⟨h1, h2, c, h3, h4, h5, a, b, d, e⟩ := h
    refine ⟨h1, h2, c, h3, h4, h5, e, ?_⟩
    unfold onlineRefusal
    rw [a, b, d]
    simp [c, fwSlotHead, e]
  · decide +kernel
  · intro s hs
    have h : (!fwServes s || anyStage s .dressing || anyStage s .restoring) = false ∧ (fwBusy s || s.image.request.isSome) = false ∧ slotRefusal s false = 0
        ∧ s.fw.roleSlotB.headD false = false ∧ fwShipped s false = true := by
      rw [List.mem_singleton.mp hs]; decide +kernel
    obtain ⟨a, b, c, d, e⟩ := h
    unfold onlineRefusal
    rw [a, b, d]
    simp [c, fwSlotHead, e]

/-! Small steps whose expected values come from the spec's worked examples and from the published test vectors of the algorithms that it names. -/

/-- The address of the worked example of R263 and R264: stage 0 owns four channels of x4 3DS 4H devices with two package ranks. -/
theorem test_address_example :
    mapLine { State.reset with dram := { State.reset.dram with maps := ⟨6400#48, 6400#48, 6400#48, 6400#48⟩ } } 0 0x48D159F1
      = some ⟨2, false, 0x091A2B3D, 0, 2, 7 ^^^ 4, 2, 4660, 101 * 16⟩ := by decide +kernel
/-- The map entry of the example under R232. -/
theorem test_map_entry_example : mkEntry 37 (1000 * 384 + 10) 3 0x1F 6 = 0x4957702B := by decide
/-- The PEC of the wake-up write of chapter 17's worked example (R604). -/
theorem test_pec_example : crc8 [0xF4#8, 0xEE#8, 4#8, 4#8, 1#8, 0#8, 0#8, 0#8, 0#8, 0#8] = 0x3F := by decide +kernel
/-- The program bandwidth of chapter 6's small journal stage: the parts of a MB/s of the eight channels add up (R218). -/
theorem test_program_rate_example :
    rd (stageRates (fsys0 (setF State.reset ([(F.STAGE_BIND_BOUND 0, 1), (F.STAGE_BIND_FLASH 0, 0xFF), (F.FL_STAGE_TIMING_PROG_10NS 0, 10480), (F.FL_STAGE_TIMING_CMD_NS 0, 512)]
      ++ (List.range 8).flatMap (fun c => [(F.FL_CH_STATUS_TRAINED c, 1), (F.FL_CH_STATUS_RATE_ACTIVE c, 1)]))) (fun x => { x with ces := 1, lunsPer := 1 })) 0)
      (F.FL_STAGE_RATE_PROG_MBPS 0) = 5002 := by decide +kernel
/-- The energy-limited cap and its division between two stages, as in chapter 3's worked example (R86, R87). -/
def capExample : State :=
  setF (stageIn (live0) 1 .live) [(F.STAGE_BIND_BOUND 0, 1), (F.STAGE_BIND_BOUND 1, 1), (F.STAGE_SIZE_HOST_256MIB 0, 3072), (F.STAGE_SIZE_HOST_256MIB 1, 1024),
    (F.LDG_DEV_CAP_CAP_MIB, 262144), (F.GAUGE_STATUS_PRESENT, 1), (F.LDG_DEV_EFF_EFF_CAP, 64801996)]
theorem test_cap_example : deviceCap capExample 518400 = (64801996, 1) := by decide +kernel
theorem test_share_example : stageShare capExample 0 = 48601497 ∧ stageShare capExample 1 = 16200499 := by decide +kernel
/-- The scrub interval of the reference module (chapter 8's worked example, R320). -/
theorem test_scrub_example :
    scrubInterval (setF { State.reset with dram := { State.reset.dram with maps := ⟨6400#48, 6400#48, 6400#48, 6400#48⟩ } }
      [(F.STAGE_SIZE_RAW_256MIB 0, 8192), (F.DC_SCRUB_CFG_PERIOD_H 0, 24)]) 0 = 32186 := by decide +kernel
/-- Base addresses of the spare lines and of the ledger of the reference stage (chapter 14's worked example, R514). -/
theorem test_backstage_example :
    ∀ s ∈ [setF State.reset [(F.STAGE_SIZE_RAW_256MIB 0, 8192), (⟨0x1100, 0, 10⟩, 256), (F.STAGE_BACK_WORK_MIB 0, 512)]],
      spareCount s 0 = 256 ∧ backBase s 0 1 = 0x01FFFFFFC000 / 64 ∧ backBase s 0 5 = 0x01FFEFFF8000 / 64 := by decide +kernel
/-- SHA-256 of the message abc (FIPS 180-4). -/
theorem test_sha256_vector : beNat (sha256 [0x61#8, 0x62#8, 0x63#8]) = 0xBA7816BF8F01CFEA414140DE5DAE2223B00361A396177A9CB410FF61F20015AD := by decide +kernel

end Sys2Proof.Tests
end

section
/-! Proofs: the end of a command leaves the engines and memories, and a register write changes each field as its access type says (R15, R647, R649, R653). -/

namespace Sys2Proof.Machine

/-! The end of a command, and what leaves the engines and memories. -/

theorem quiet_finish (s : State) : Quiet s (finish s) := by
  unfold finish
  exact (quiet_fuseAtService s).trans <| (quiet_panicAll _).trans <| (quiet_healthFollow _).trans <| (quiet_bgFollow _).trans <|
    (quiet_accrue _).trans <| (quiet_recordBook _).trans <| (quiet_chgFollow _).trans <| quiet_levels _ _

theorem Quiet.still {s t : State} (h : Quiet s t) : Still s t :=
  ⟨h.now, h.modes, h.store, h.cipher, h.dram, h.flash, h.ledger, h.saves, h.saveDev, h.restore, h.heat, h.power, h.link, h.pack, h.timers,
    h.pending, h.freeIdx, h.image, h.fw, h.gauge, h.cxl⟩

theorem Still.trans {s t u : State} (h : Still s t) (k : Still t u) : Still s u where
  now := k.now.trans h.now
  modes := k.modes.trans h.modes
  store := k.store.trans h.store
  cipher := k.cipher.trans h.cipher
  dram := k.dram.trans h.dram
  flash := k.flash.trans h.flash
  ledger := k.ledger.trans h.ledger
  saves := k.saves.trans h.saves
  saveDev := k.saveDev.trans h.saveDev
  restore := k.restore.trans h.restore
  heat := k.heat.trans h.heat
  power := k.power.trans h.power
  link := k.link.trans h.link
  pack := k.pack.trans h.pack
  timers := k.timers.trans h.timers
  pending := k.pending.trans h.pending
  freeIdx := k.freeIdx.trans h.freeIdx
  image := by rw [← h.image]; rw [← k.image]
  fw := by rw [← h.fw]; rw [← k.fw]
  gauge := by rw [← h.gauge]; rw [← k.gauge]
  cxl := by rw [← h.cxl]; rw [← k.cxl]

theorem still_setReg (s : State) (i : Nat) (w : Word) : Still s (setReg s i w) := by constructor <;> rfl
theorem still_wr (s : State) (f : Fld) (v : Nat) : Still s (wr s f v) := still_setReg ..
theorem still_sideOver (s : State) : Still s (sideOver s) := by constructor <;> rfl

/-- A field that `pathField` admits lies in its register's 48 bits. -/
theorem pathField_width {g : Fld} (h : pathField g = true) : g.lo + g.width ≤ 48 := by
  simp only [pathField, steadyField, Bool.and_eq_true, decide_eq_true_eq] at h
  obtain ⟨⟨⟨hwidth, -⟩, -⟩, -⟩ := h
  exact hwidth
theorem pathField_steady {g : Fld} (h : pathField g = true) : steadyField g = true := by
  simp only [pathField, Bool.and_eq_true] at h
  obtain ⟨⟨hsteady, -⟩, -⟩ := h
  exact hsteady

/-! Bits of a field. -/

theorem fldOf_congr {a b : Word} {f : Fld} (h : ∀ j < f.width, a.getLsbD (f.lo + j) = b.getLsbD (f.lo + j)) : fldOf a f = fldOf b f := by
  apply Nat.eq_of_testBit_eq
  intro j
  simp only [fldOf, testBit_bits]
  by_cases hj : j < f.width
  · rw [decide_eq_true hj, Bool.true_and, Bool.true_and]
    exact h j hj
  · simp [hj]

theorem fldOf_and (a b : Word) (f : Fld) : fldOf (a &&& b) f = fldOf a f &&& fldOf b f := by
  apply Nat.eq_of_testBit_eq
  intro j
  simp only [fldOf, testBit_bits, Nat.testBit_and, BitVec.toNat_and]
  cases decide (j < f.width) <;> rfl

/-! Access masks: the fields of a row lie apart, so the sum of their masks has a bit exactly where a field of the wanted access type has one. -/

/-- The fields stand in rising order and share no bit. -/
abbrev FieldsRise (fs : List FieldRow) : Prop := fs.Pairwise (fun f g => f.lo + f.width ≤ g.lo)

theorem regRowsOf_rise (g : Nat) : ∀ r ∈ regRowsOf g, FieldsRise r.fields := by
  unfold regRowsOf
  split <;> decide +kernel

theorem regFields_rise (i : Nat) : FieldsRise (regFields i) := by
  unfold regFields regRow?
  cases h : (regRowsOf (homeIdx i / 1024)).find? (fun r => rowHolds r (homeIdx i)) with
  | none => exact List.Pairwise.nil
  | some r => exact regRowsOf_rise _ r (List.mem_of_find?_eq_some h)

/-- A field's mask added above a number sets the field's bits. -/
theorem testBit_add_rowMask (a n : Nat) (f : FieldRow) (h : a < 2 ^ f.lo) :
    (a + rowMask f).testBit n = (a.testBit n || (decide (f.lo ≤ n) && decide (n < f.lo + f.width))) := by
  rw [rowMask, Nat.add_comm, Nat.mul_comm, Nat.testBit_two_pow_mul_add _ h]
  by_cases hn : n < f.lo
  · simp [hn]
  · have ha : a.testBit n = false := Nat.testBit_lt_two_pow (lt_of_lt_of_le h (Nat.pow_le_pow_right (by decide) (by omega)))
    simp only [hn, if_false, Nat.testBit_two_pow_sub_one, ha, Bool.false_or]
    grind

theorem add_rowMask_lt {a : Nat} {f : FieldRow} (h : a < 2 ^ f.lo) : a + rowMask f < 2 ^ (f.lo + f.width) := by
  have hw : 1 ≤ 2 ^ f.width := Nat.one_le_two_pow
  rw [rowMask, Nat.sub_mul, pow_add, Nat.one_mul, Nat.mul_comm (2 ^ f.width)]
  have := Nat.le_mul_of_pos_right (2 ^ f.lo) hw
  omega

theorem testBit_maskSum (ok : Access → Bool) (fs : List FieldRow) (a n : Nat) (ha : ∀ f ∈ fs, a < 2 ^ f.lo) (hp : FieldsRise fs) :
    (fs.foldl (fun a f => if ok f.access then a + rowMask f else a) a).testBit n
      = (a.testBit n || fs.any (fun f => ok f.access && (decide (f.lo ≤ n) && decide (n < f.lo + f.width)))) := by
  induction fs generalizing a with
  | nil => simp
  | cons f fs ih =>
    obtain ⟨hf, hp⟩ := List.pairwise_cons.mp hp
    have hlt : a < 2 ^ f.lo := ha f List.mem_cons_self
    rw [List.foldl_cons, List.any_cons]
    cases hok : ok f.access with
    | false =>
      simp only [Bool.false_eq_true, if_false, Bool.false_and, Bool.false_or]
      exact ih a (fun g hg => ha g (List.mem_cons_of_mem _ hg)) hp
    | true =>
      simp only [if_true, Bool.true_and]
      rw [ih _ (fun g hg => (add_rowMask_lt hlt).trans_le (Nat.pow_le_pow_right (by decide) (hf g hg))) hp,
        testBit_add_rowMask a n f hlt, Bool.or_assoc]

/-- A bit lies in one field of a row at most. -/
theorem eq_of_bit_in_both {fs : List FieldRow} (hp : FieldsRise fs) {f g : FieldRow} (hf : f ∈ fs) (hg : g ∈ fs) {n : Nat}
    (h1 : f.lo ≤ n ∧ n < f.lo + f.width) (h2 : g.lo ≤ n ∧ n < g.lo + g.width) : g = f := by
  by_contra hne
  have : Std.Symm (fun f g : FieldRow => f.lo + f.width ≤ g.lo ∨ g.lo + g.width ≤ f.lo) := ⟨fun _ _ => Or.symm⟩
  have hd := (hp.imp (S := fun f g => f.lo + f.width ≤ g.lo ∨ g.lo + g.width ≤ f.lo) Or.inl).forall hg hf hne
  omega

theorem getLsbD_accessMask {i : Nat} {f : FieldRow} (hf : f ∈ regFields i) (h48 : f.lo + f.width ≤ 48) (ok : Access → Bool) {j : Nat} (hj : j < f.width) :
    (accessMask i ok).getLsbD (f.lo + j) = ok f.access := by
  have hin : f.lo ≤ f.lo + j ∧ f.lo + j < f.lo + f.width := by omega
  rw [accessMask, BitVec.getLsbD_ofNat, testBit_maskSum ok _ 0 _ (fun f _ => Nat.two_pow_pos f.lo) (regFields_rise i), Bool.eq_iff_iff]
  simp only [Nat.zero_testBit, Bool.false_or, Bool.and_eq_true, decide_eq_true_eq, List.any_eq_true]
  constructor
  · rintro ⟨-, g, hg, hok, hb⟩
    exact eq_of_bit_in_both (regFields_rise i) hf hg hin hb ▸ hok
  · exact fun hok => ⟨by omega, f, hf, hok, hin⟩

/-! A register after a write, field by field. -/

/-- What a field of an access type reads after a write of `new` over `old` (R15, R653). -/
def writtenField (a : Access) (old new : Word) (locked : Bool) (g : Fld) : Nat :=
  match a with
  | .rw | .rs => fldOf new g
  | .rwk => if locked then fldOf old g else fldOf new g
  | .rw1c => fldOf (old &&& ~~~new) g
  | .ro | .wo => fldOf old g

/-- One bit of a written register, by the access type of its field. -/
theorem getLsbD_writtenWord {i : Nat} {f : FieldRow} (hf : f ∈ regFields i) (h48 : f.lo + f.width ≤ 48) (old new : Word) (locked : Bool) {j : Nat}
    (hj : j < f.width) :
    (writtenWord i old new locked).getLsbD (f.lo + j) =
      (((old.getLsbD (f.lo + j) && !(f.access == .rw || f.access == .rs || (f.access == .rwk && !locked)))
        || (new.getLsbD (f.lo + j) && (f.access == .rw || f.access == .rs || (f.access == .rwk && !locked))))
        && !(new.getLsbD (f.lo + j) && f.access == .rw1c)) := by
  have hlt : f.lo + j < 48 := by omega
  simp only [writtenWord, BitVec.getLsbD_and, BitVec.getLsbD_or, BitVec.getLsbD_not, getLsbD_accessMask hf h48 _ hj, hlt, decide_true, Bool.true_and]

theorem fldOf_writtenWord {i : Nat} {f : FieldRow} (hf : f ∈ regFields i) (h48 : f.lo + f.width ≤ 48) (old new : Word) (locked : Bool) :
    fldOf (writtenWord i old new locked) ⟨i, f.lo, f.width⟩ = writtenField f.access old new locked ⟨i, f.lo, f.width⟩ := by
  have hbit := fun j hj => getLsbD_writtenWord hf h48 old new locked (j := j) hj
  cases ha : f.access <;> simp only [ha] at hbit
  case rw | rs | ro | wo => exact fldOf_congr fun j hj => by simp [hbit j hj, beq_eq_decide]
  case rw1c =>
    refine fldOf_congr fun j hj => ?_
    have hlt : f.lo + j < 48 := lt_of_lt_of_le (Nat.add_lt_add_left hj _) h48
    rw [hbit j hj, BitVec.getLsbD_and, BitVec.getLsbD_not]
    simp [hlt, beq_eq_decide]
  case rwk => cases locked <;> exact fldOf_congr fun j hj => by simp [hbit j hj, beq_eq_decide]

/-- Of the old word only the field itself counts. -/
theorem writtenField_congr {old old' : Word} {g : Fld} (h : fldOf old g = fldOf old' g) (a : Access) (new : Word) (locked : Bool) :
    writtenField a old new locked g = writtenField a old' new locked g := by
  cases a <;> simp only [writtenField, fldOf_and, h]

/-! The recorded access and the commit. -/

theorem rawReg_accessNote (s : State) (i kind path ld : Nat) {j : Nat} (h : homeIdx j ≠ 8) : rawReg (accessNote s i kind path ld) j = rawReg s j := by
  have h8 : ∀ f : Fld, f.idx = 8 → homeIdx j ≠ homeIdx f.idx := by
    intro f hf
    rw [hf]
    exact h
  simp only [accessNote, incSat, rawReg_wr_other _ F.GLB_ACCESS_INDEX _ _ (h8 _ rfl), rawReg_wr_other _ F.GLB_ACCESS_KIND _ _ (h8 _ rfl),
    rawReg_wr_other _ F.GLB_ACCESS_PATH _ _ (h8 _ rfl), rawReg_wr_other _ F.GLB_ACCESS_LD_ID _ _ (h8 _ rfl), rawReg_wr_other _ F.GLB_ACCESS_COUNT _ _ (h8 _ rfl)]
theorem still_accessNote (s : State) (i kind path ld : Nat) : Still s (accessNote s i kind path ld) := by constructor <;> rfl

theorem mainOff_accessNote (s : State) (i kind path ld : Nat) : mainOff (accessNote s i kind path ld) = mainOff s := rfl

/-- GLB_ACCESS holds no field under a lock (R658). -/
theorem accessMask_rwk_glbAccess {i : Nat} (h : homeIdx i = 8) : accessMask i (· == .rwk) = 0#48 := by
  unfold accessMask regFields
  rw [h]
  decide +kernel

/-- A commit while its domain is on is one register write, over a state that differs at most by the refusal noted in GLB_ACCESS. -/
theorem commitWrite_served (s : State) (q : WPath) (i : Nat) (w : Word) (hon : (mainOff s && regDomain i = .main) = false) :
    ∃ a : State, commitWrite s q i w = setReg a i (writtenWord i (rawReg s i) w (regLocked s i))
      ∧ Still s a ∧ ∀ j, homeIdx j ≠ 8 → rawReg a j = rawReg s j := by
  unfold commitWrite
  dsimp only
  split_ifs with hnote hoff hoff
  · rw [mainOff_accessNote, hon] at hoff
    cases hoff
  · have hi : homeIdx i ≠ 8 := by
      intro h8
      simp [accessMask_rwk_glbAccess h8] at hnote
    rw [rawReg_accessNote _ _ _ _ _ hi]
    exact ⟨_, rfl, still_accessNote .., fun j hj => rawReg_accessNote _ _ _ _ _ hj⟩
  · rw [hon] at hoff
    cases hoff
  · exact ⟨s, rfl, (Quiet.refl s).still, fun _ _ => rfl⟩

theorem still_commitWrite (s : State) (q : WPath) (i : Nat) (w : Word) (hon : (mainOff s && regDomain i = .main) = false) :
    Still s (commitWrite s q i w) := by
  obtain ⟨a, he, hs, -⟩ := commitWrite_served s q i w hon
  exact he ▸ hs.trans (still_setReg ..)

theorem rawReg_commitWrite_self (s : State) (q : WPath) (i : Nat) (w : Word) (hon : (mainOff s && regDomain i = .main) = false) :
    rawReg (commitWrite s q i w) i = writtenWord i (rawReg s i) w (regLocked s i) := by
  obtain ⟨a, he, -, -⟩ := commitWrite_served s q i w hon
  rw [he, rawReg_setReg_self]

theorem rawReg_commitWrite_other (s : State) (q : WPath) (i : Nat) (w : Word) (hon : (mainOff s && regDomain i = .main) = false) {j : Nat}
    (hj : homeIdx j ≠ homeIdx i) (h8 : homeIdx j ≠ 8) : rawReg (commitWrite s q i w) j = rawReg s j := by
  obtain ⟨a, he, -, ha⟩ := commitWrite_served s q i w hon
  rw [he, rawReg_setReg, if_neg hj, ha j h8]

/-! What decides a write stands over a quiet change. -/

theorem mainOff_quiet {s t : State} (h : Quiet s t) : mainOff t = mainOff s := by simp only [mainOff, h.modes]
theorem rdb_quiet {s t : State} (h : Quiet s t) (f : Fld) (hf : steadyField f = true) : rdb t f = rdb s f := by simp only [rdb, h.fields f hf]

theorem chanStage_quiet {s t : State} (h : Quiet s t) (c : DramCh) : chanStage t c = chanStage s c := by
  have hmaps : t.dram.maps = s.dram.maps := (congrArg Dram.maps h.dram :)
  have hmap : ∀ f, mapRd t f = mapRd s f := fun f => by rw [mapRd, mapRd, hmaps]
  simp only [chanStage, hmap]

theorem flashStage_quiet {s t : State} (h : Quiet s t) (ch : Nat) : flashStage t ch = flashStage s ch := by
  have hb : ∀ n : Stage, rdb t (F.STAGE_BIND_BOUND n.val) = rdb s (F.STAGE_BIND_BOUND n.val) := fun n => rdb_quiet h _ (by fin_cases n <;> decide +kernel)
  have hf : ∀ n : Stage, rd t (F.STAGE_BIND_FLASH n.val) = rd s (F.STAGE_BIND_FLASH n.val) := fun n => h.fields _ (by fin_cases n <;> decide +kernel)
  simp only [flashStage, stageFlashChs, hb, hf]

theorem regLocked_quiet {s t : State} (h : Quiet s t) (i : Nat) : regLocked t i = regLocked s i := by
  have hscope : regScope t i = regScope s i := by simp only [regScope, chanStage_quiet h, flashStage_quiet h]
  simp only [regLocked, hscope, rdb_quiet h F.GLB_LOCK_DEVICE (by decide +kernel), h.fields F.GLB_LOCK_STAGES (by decide +kernel),
    h.fields F.GLB_LOCK_KEEP_OPEN (by decide +kernel)]

theorem notServed_quiet {s t : State} (h : Quiet s t) (i : Nat) : notServed t i = notServed s i := by simp only [notServed, mainOff_quiet h]
theorem sideGroup_quiet {s t : State} (h : Quiet s t) (i : Nat) : sideGroup t i = sideGroup s i := by
  simp only [sideGroup, h.modes, h.fields F.SB_WRITE_EN_GROUPS (by decide +kernel)]

/-! A register write on its path. -/

theorem quiet_atRegister (s : State) (p : Path) : Quiet s (atRegister s p) := quiet_ite _ (quiet_pmonHit ..) (Quiet.refl s)

/-- The state that the commit meets: a write of PBOOK_CFG.RL_WINDOW first ends the rate-limit window that has passed (R53). -/
def beforeCommit (s : State) (p : Path) (i : Nat) : State := whenS (i == F.PBOOK_CFG_RL_WINDOW.idx) rollWindow (atRegister s p)
/-- What a path keeps of a write that reached its register: the sideband has SB_LAST and the end of the transfer (R610, R621). -/
def pathKeeps (s : State) (p : Path) (i : Nat) : State := if p = .sideband then sideOver (sideLast s i 0) else s

theorem quiet_beforeCommit (s : State) (p : Path) (i : Nat) : Quiet s (beforeCommit s p i) :=
  (quiet_atRegister s p).trans (Quiet.when _ _ quiet_rollWindow _)

theorem still_pathKeeps (s : State) (p : Path) (i : Nat) : Still s (pathKeeps s p i) := by
  unfold pathKeeps sideLast
  split_ifs
  · exact ((still_wr ..).trans (still_wr ..)).trans (still_sideOver _)
  · exact (Quiet.refl s).still

theorem rd_pathKeeps (s : State) (p : Path) (i : Nat) {g : Fld} (hg : pathField g = true) : rd (pathKeeps s p i) g = rd s g := by
  have hw := pathField_width hg
  simp only [pathField, Bool.and_eq_true] at hg
  obtain ⟨⟨-, hidx⟩, hres⟩ := hg
  unfold pathKeeps
  split_ifs
  · calc rd (sideOver (sideLast s i 0)) g = rd (sideLast s i 0) g := rfl
      _ = rd (wr s F.SB_LAST_INDEX i) g := rd_wr_apart _ _ g _ hw hres
      _ = rd s g := rd_wr_apart _ _ g _ hw hidx
  · rfl

/-- A write that is allowed leaves GLB_ACCESS alone. -/
theorem writeAllowed_state {s : State} {q : WPath} {i : Nat} (h : (writeAllowed s q i true).1 = true) : (writeAllowed s q i true).2 = s := by
  cases q <;> simp only [writeAllowed] at h ⊢
  case core => simp [h, whenS]
  case bar2 | ld | recovery => grind

theorem commitGo_idle {s : State} {q : WPath} {i : Nat} {w : Word} {pin : Bool} (hw : writeIgnored s i w = false) (ht : ∀ x : State, trigger x i w pin = x) :
    commitGo s q i w pin = commitWrite (whenS (i == F.PBOOK_CFG_RL_WINDOW.idx) rollWindow s) q i w := by
  simp only [commitGo, hw, ht, Bool.false_eq_true, if_false, ite_self]

theorem sideWrite_reaches {s : State} {i : Nat} (h : (regExists i && !isI3c i && !notServed s i && sideGroup s i) = true) (w : Word) (pin : Bool) :
    sideWrite s i w pin = sideLast (commitGo (sideHit s) .sideband i w pin) i 0 := by
  have hq : Quiet s (sideHit s) := quiet_pmonHit ..
  simp only [Bool.and_eq_true, Bool.not_eq_true'] at h
  obtain ⟨⟨⟨hex, hi3c⟩, hserved⟩, hgroup⟩ := h
  simp [sideWrite, notServed_quiet hq, sideGroup_quiet hq, hex, hi3c, hserved, hgroup]

theorem busWrite_reaches {s : State} {p : Path} {i : Nat} {w : Word} {pin : Bool} (hp : pathWrites s p i = true)
    (hw : writeIgnored (atRegister s p) i w = false) (ht : ∀ x : State, trigger x i w pin = x) :
    busWrite s p i w true pin = pathKeeps (commitWrite (beforeCommit s p i) (wpath p) i w) p i := by
  simp only [pathWrites, Bool.and_eq_true] at hp
  obtain ⟨hopen, hreach⟩ := hp
  by_cases hside : p = .sideband
  · subst hside
    rw [if_pos rfl] at hreach
    rw [atRegister, if_pos rfl] at hw
    simp only [busWrite, hopen, sideWrite_reaches hreach, commitGo_idle hw ht, pathKeeps, beforeCommit, atRegister, wpath, Bool.not_true,
      Bool.false_eq_true, if_false, if_true]
  · rw [if_neg hside] at hreach
    rw [atRegister, if_neg hside] at hw
    simp only [busWrite, hopen, hside, hreach, writeAllowed_state hreach, commitGo_idle hw ht, pathKeeps, beforeCommit, atRegister, Bool.not_true,
      Bool.false_eq_true, if_false, if_true]

/-- Settles O7: the commit gives each field of the register what its access type says, and everything before and after it is quiet or apart. -/
theorem registerWriteByAccessType : Obligations.RegisterWriteByAccessType := by
  unfold Obligations.RegisterWriteByAccessType
  intro s p i w hp hon hw ht
  have hbefore : Quiet s (beforeCommit s p i) := quiet_beforeCommit s p i
  have hon' : (mainOff (beforeCommit s p i) && regDomain i = .main) = false := by rw [mainOff_quiet hbefore]; exact hon
  have hafter : ∀ x : State, ∀ g, pathField g = true → rd (finish (pathKeeps x p i)) g = rd x g := fun x g hg =>
    ((quiet_finish _).fields g (pathField_steady hg)).trans (rd_pathKeeps x p i hg)
  have hexec : exec (.registerWrite p i w true) s = .next (finish (pathKeeps (commitWrite (beforeCommit s p i) (wpath p) i w) p i)) := by
    rw [← busWrite_reaches hp hw ht]
    rfl
  refine ⟨_, hexec, ?_, ?_, ?_⟩
  · intro f hf hg
    have hfield : rd (commitWrite (beforeCommit s p i) (wpath p) i w) ⟨i, f.lo, f.width⟩ =
        writtenField f.access (rawReg s i) w (regLocked s i) ⟨i, f.lo, f.width⟩ := by
      rw [rd, rawReg_commitWrite_self _ _ _ _ hon', fldOf_writtenWord hf (pathField_width hg), regLocked_quiet hbefore]
      exact writtenField_congr (hbefore.fields _ (pathField_steady hg)) ..
    rw [hafter _ _ hg, hfield]
    cases f.access <;> rfl
  · intro g hg hne h8
    rw [hafter _ _ hg, rd, rawReg_commitWrite_other _ _ _ _ hon' hne h8]
    exact hbefore.fields g (pathField_steady hg)
  · exact ((hbefore.still.trans (still_commitWrite _ _ _ _ hon')).trans (still_pathKeeps ..)).trans (quiet_finish _).still

end Sys2Proof.Machine
end

section
/-! Proofs: a register write that starts something (R647, R653, R655), and mode requests and playbills (R41, R63, R67, R71). -/

namespace Sys2Proof.Machine

/-! States that differ in the register file and the events logged at most. -/

/-- `t` is `s` with another register file and with events added. -/
def RegsOnly (s t : State) : Prop := ∃ r e, t = { s with regs := r, evs := s.evs ++ e }

theorem RegsOnly.refl (s : State) : RegsOnly s s := ⟨s.regs, [], by rw [List.append_nil]⟩
theorem RegsOnly.trans {s t u : State} (h : RegsOnly s t) (k : RegsOnly t u) : RegsOnly s u := by
  obtain ⟨r, e, rfl⟩ := h
  obtain ⟨r', e', rfl⟩ := k
  exact ⟨r', e ++ e', by simp⟩
theorem regsOnly_setReg (s : State) (i : Nat) (w : Word) : RegsOnly s (setReg s i w) := ⟨_, [], by rw [List.append_nil]; rfl⟩
theorem regsOnly_wr (s : State) (f : Fld) (v : Nat) : RegsOnly s (wr s f v) := regsOnly_setReg ..
theorem regsOnly_event (s : State) (a b c d : Nat) : RegsOnly s (event s a b c d) := ⟨s.regs, [⟨a, b, c, d⟩], rfl⟩
theorem RegsOnly.when {s t : State} (h : RegsOnly s t) (c : Bool) (f : State → State) (hf : ∀ s, RegsOnly s (f s)) : RegsOnly s (whenS c f t) := by
  unfold whenS
  split
  · exact h.trans (hf t)
  · exact h
theorem RegsOnly.ite {s a b : State} (c : Prop) [Decidable c] (ha : RegsOnly s a) (hb : RegsOnly s b) : RegsOnly s (if c then a else b) := by
  split
  · exact ha
  · exact hb
theorem RegsOnly.fold {α : Type} (f : State → α → State) (h : ∀ s a, RegsOnly s (f s a)) (xs : List α) (s : State) : RegsOnly s (foldS xs f s) := by
  unfold foldS
  induction xs generalizing s with
  | nil => exact .refl s
  | cons x xs ih => exact (h s x).trans (ih (f s x))

theorem regsOnly_pmonAdd (s : State) (k n : Nat) : RegsOnly s (pmonAdd s k n) :=
  .ite _ (regsOnly_setReg ..) (((regsOnly_setReg ..).trans (regsOnly_wr ..)).when _ _ fun s => regsOnly_event s ..)
theorem regsOnly_pmonHit (s : State) (g i k n : Nat) : RegsOnly s (pmonHit s g i k n) := by
  unfold pmonHit
  refine .ite _ (.refl s) (.fold _ (fun t e => ?_) _ s)
  exact .ite _ (regsOnly_pmonAdd t e.1 n) (.refl t)
theorem regsOnly_accessNote (s : State) (i kind path ld : Nat) : RegsOnly s (accessNote s i kind path ld) :=
  ((((regsOnly_wr ..).trans (regsOnly_wr ..)).trans (regsOnly_wr ..)).trans (regsOnly_wr ..)).trans (regsOnly_wr ..)
theorem regsOnly_commitWrite (s : State) (q : WPath) (i : Nat) (w : Word) : RegsOnly s (commitWrite s q i w) := by
  unfold commitWrite
  exact .ite _ ((RegsOnly.ite _ (regsOnly_accessNote ..) (.refl s)).trans (regsOnly_setReg ..)) ((RegsOnly.ite _ (regsOnly_accessNote ..) (.refl s)).trans (regsOnly_setReg ..))

theorem RegsOnly.modes {s t : State} (h : RegsOnly s t) : t.modes = s.modes := by obtain ⟨_, _, rfl⟩ := h; rfl
theorem RegsOnly.power {s t : State} (h : RegsOnly s t) : t.power = s.power := by obtain ⟨_, _, rfl⟩ := h; rfl
theorem RegsOnly.image {s t : State} (h : RegsOnly s t) : t.image = s.image := by obtain ⟨_, _, rfl⟩ := h; rfl
theorem RegsOnly.store {s t : State} (h : RegsOnly s t) : t.store = s.store := by obtain ⟨_, _, rfl⟩ := h; rfl
theorem RegsOnly.cxl {s t : State} (h : RegsOnly s t) : t.cxl = s.cxl := by obtain ⟨_, _, rfl⟩ := h; rfl
theorem RegsOnly.dram {s t : State} (h : RegsOnly s t) : t.dram = s.dram := by obtain ⟨_, _, rfl⟩ := h; rfl
theorem RegsOnly.evs {s t : State} (h : RegsOnly s t) : s.evs ⊆ t.evs := by obtain ⟨_, _, rfl⟩ := h; exact List.subset_append_left ..

/-! A write that reaches its register, and what it starts. -/

/-- The state in which a write has changed its register and starts what it starts. -/
def committed (s : State) (p : Path) (i : Nat) (w : Word) : State := commitWrite (beforeCommit s p i) (wpath p) i w

theorem commitGo_triggers {s : State} {q : WPath} {i : Nat} {w : Word} {pin : Bool} (hw : writeIgnored s i w = false)
    (hon : (mainOff s && regDomain i = .main) = false) :
    commitGo s q i w pin = trigger (commitWrite (whenS (i == F.PBOOK_CFG_RL_WINDOW.idx) rollWindow s) q i w) i w pin := by
  simp only [commitGo, hw, hon, Bool.false_eq_true, if_false]

theorem mainOff_atRegister (s : State) (p : Path) : mainOff (atRegister s p) = mainOff s := mainOff_quiet (quiet_atRegister s p)

theorem busWrite_triggers {s : State} {p : Path} {i : Nat} {w : Word} {pin : Bool} (hp : pathWrites s p i = true)
    (hw : writeIgnored (atRegister s p) i w = false) (hon : (mainOff s && regDomain i = .main) = false) :
    busWrite s p i w true pin = pathKeeps (trigger (committed s p i w) i w pin) p i := by
  simp only [pathWrites, Bool.and_eq_true] at hp
  obtain ⟨hopen, hreach⟩ := hp
  have hon' := (mainOff_atRegister s p).symm ▸ hon
  by_cases hside : p = .sideband
  · subst hside
    rw [if_pos rfl] at hreach
    rw [atRegister, if_pos rfl] at hw hon'
    simp only [busWrite, hopen, sideWrite_reaches hreach, commitGo_triggers hw hon', pathKeeps, committed, beforeCommit, atRegister, wpath, Bool.not_true,
      Bool.false_eq_true, if_false, if_true]
  · rw [if_neg hside] at hreach
    rw [atRegister, if_neg hside] at hw hon'
    simp only [busWrite, hopen, hside, hreach, writeAllowed_state hreach, commitGo_triggers hw hon', pathKeeps, committed, beforeCommit, atRegister, Bool.not_true,
      Bool.false_eq_true, if_false, if_true]

/-- A write of one field of a register that has no field to keep is a write of that field alone. -/
theorem regField_alone (s : State) (p : Path) (f : Fld) (v : Nat) (h : accessMask f.idx (fun a => a == .rw || a == .rs || a == .rwk) = 0#48) :
    regField s p f v = regWord s p f.idx (oneField f v) := by
  simp only [regField, h, BitVec.and_zero, oneField]

theorem regsOnly_committed (s : State) (p : Path) {i : Nat} (w : Word) (hi : (i == F.PBOOK_CFG_RL_WINDOW.idx) = false) : RegsOnly s (committed s p i w) := by
  have hat : RegsOnly s (atRegister s p) := .ite _ (regsOnly_pmonHit ..) (.refl s)
  have hbefore : beforeCommit s p i = atRegister s p := by simp only [beforeCommit, hi, whenS, Bool.false_eq_true, if_false]
  rw [committed, hbefore]
  exact hat.trans (regsOnly_commitWrite ..)

section
variable {s : State} {p : Path} {i : Nat} (w : Word) (hon : (mainOff s && regDomain i = .main) = false)
include hon

theorem mainOn_beforeCommit : (mainOff (beforeCommit s p i) && regDomain i = .main) = false := by
  rw [mainOff_quiet (quiet_beforeCommit s p i)]; exact hon

/-- A field of another register stands. -/
theorem rd_committed_other {g : Fld} (hg : steadyField g = true) (hne : homeIdx g.idx ≠ homeIdx i) (h8 : homeIdx g.idx ≠ 8) : rd (committed s p i w) g = rd s g := by
  rw [rd, committed, rawReg_commitWrite_other _ _ _ _ (mainOn_beforeCommit hon) hne h8]
  exact (quiet_beforeCommit s p i).fields g hg

/-- A field of the register reads as its access type gives it. -/
theorem rd_committed_self {f : FieldRow} (hf : f ∈ regFields i) (hg : steadyField ⟨i, f.lo, f.width⟩ = true) :
    rd (committed s p i w) ⟨i, f.lo, f.width⟩ = writtenField f.access (rawReg s i) w (regLocked s i) ⟨i, f.lo, f.width⟩ := by
  have hwidth : f.lo + f.width ≤ 48 := by
    simp only [steadyField, Bool.and_eq_true, decide_eq_true_eq] at hg
    exact hg.1
  rw [rd, committed, rawReg_commitWrite_self _ _ _ _ (mainOn_beforeCommit hon), fldOf_writtenWord hf hwidth, regLocked_quiet (quiet_beforeCommit s p i)]
  exact writtenField_congr ((quiet_beforeCommit s p i).fields _ hg) ..
end

/-! What the path keeps of a write leaves everything but SB_LAST and the sideband. -/

@[simp] theorem modes_pathKeeps (s : State) (p : Path) (i : Nat) : (pathKeeps s p i).modes = s.modes := (still_pathKeeps s p i).modes
@[simp] theorem power_pathKeeps (s : State) (p : Path) (i : Nat) : (pathKeeps s p i).power = s.power := (still_pathKeeps s p i).power
@[simp] theorem evs_pathKeeps (s : State) (p : Path) (i : Nat) : (pathKeeps s p i).evs = s.evs := by unfold pathKeeps; split <;> rfl

/-- What a command answers that writes a register and starts something: `m` is the state as the write has changed its register. -/
theorem answers_of_write {c : Instr} {s : State} {p : Path} {i : Nat} {w : Word} {post : State → State → Prop}
    (hc : exec c s = done (regWord s p i w)) (hp : pathWrites s p i = true) (hw : ∀ x, writeIgnored x i w = false) (hon : (mainOff s && regDomain i = .main) = false)
    (h : post (pathKeeps (trigger (committed s p i w) i w s.fw.recoveryLow) p i) (finish (pathKeeps (trigger (committed s p i w) i w s.fw.recoveryLow) p i))) :
    Answers c s post :=
  ⟨_, by rw [hc, regWord, busWrite_triggers hp (hw _) hon]; rfl, h⟩

/-- A field after the end of such a command reads as the register write and what it starts leave it. -/
theorem rd_finish_pathKeeps (x : State) (p : Path) (i : Nat) {g : Fld} (hg : pathField g = true) : rd (finish (pathKeeps x p i)) g = rd x g :=
  ((quiet_finish _).fields g (pathField_steady hg)).trans (rd_pathKeeps x p i hg)
theorem modes_finish_pathKeeps (x : State) (p : Path) (i : Nat) : (finish (pathKeeps x p i)).modes = x.modes := by
  rw [(quiet_finish _).modes, modes_pathKeeps]
theorem power_finish_pathKeeps (x : State) (p : Path) (i : Nat) : (finish (pathKeeps x p i)).power = x.power := by
  rw [(quiet_finish _).power, power_pathKeeps]

end Sys2Proof.Machine
end

section
/-! Proofs: mode requests and playbills (R41, R63, R67, R71). -/

namespace Sys2Proof.Machine

/-! Cue runs that begin. -/

@[simp] theorem modes_setEn (s : State) (v : Nat) : (setEn s v).modes = s.modes := by unfold setEn; split <;> rfl
@[simp] theorem power_setEn (s : State) (v : Nat) : (setEn s v).power = s.power := by unfold setEn; split <;> rfl
@[simp] theorem modes_cueBegin (s : State) (p : Nat) : (cueBegin s p).modes = s.modes := by
  simp only [cueBegin]
  split_ifs <;> rfl
theorem power_cueBegin (s : State) (p : Nat) :
    (cueBegin s p).power = { s.power with run := some ⟨p, (cueSource s p).1, (cueSource s p).2, 0, .none, 0⟩ } := by
  simp only [cueBegin]
  split_ifs <;> rfl

/-- A POWER_UP attempt puts a run of program 0 in place. -/
theorem run_startUp (s : State) : (startUp s).power.run.elim false (fun r => r.prog == 0) = true := by
  simp only [startUp]
  split <;> simp [cueWait, power_cueBegin]
@[simp] theorem modes_startUp (s : State) : (startUp s).modes = s.modes := by
  simp only [startUp]
  split <;> simp [cueWait]

/-- A POWER_DOWN that starts where nothing runs and the cue table serves is a run of program 1; the mode waits for its end. -/
theorem startDown_table {s : State} (cause : Nat) (hrun : s.power.run = none) (hv : tableValid s = true) (hi : noImage s = false) :
    startDown s cause = saveStatus (cueBegin { s with power := { s.power with queued := [], resumeRetry := none, downCause := cause } } 1) := by
  have hsrc : (cueSource { s with power := { s.power with queued := [], resumeRetry := none, downCause := cause } } 1).1 ≠ 2 := by
    have hv' : tableValid { s with power := { s.power with queued := [], resumeRetry := none, downCause := cause } } = true := hv
    have hi' : noImage { s with power := { s.power with queued := [], resumeRetry := none, downCause := cause } } = false := hi
    simp only [cueSource, hv', hi']
    split_ifs <;> simp_all
  have hclear : cueClear s 2 = s := by simp [cueClear, hrun]
  have hdown : downRuns s = false := by simp [downRuns, hrun]
  simp only [startDown, hdown, hclear, Bool.false_eq_true, if_false]
  rw [if_neg]
  have hpow : ∀ x : State, (saveStatus x).power = x.power := fun _ => rfl
  simpa [hpow, power_cueBegin] using hsrc

/-! Mode requests (R71). -/

theorem modeRequest_up (s : State) : modeRequest s true false =
    if s.modes.mode = .dark && rdb s F.PWR_VIN_STATUS_SUPPLY_GOOD && s.modes.powerUp.isNone && s.power.run.isNone then powerUpRequest s 2 else ignored s srcRegister := rfl
theorem modeRequest_down (s : State) : modeRequest s false true = if s.modes.mode = .standby then startDown s 0x12 else ignored s srcRegister := rfl

/-- MODE_REQUEST lies in the always-on domain. -/
theorem modeRequest_served (s : State) : (mainOff s && regDomain 0x404 = .main) = false := by
  have h : regDomain 0x404 = .alwaysOn := by decide +kernel
  simp [h]

/-- A request of MODE_REQUEST is answered as what it starts leaves the state `m` that the write has reached. -/
theorem answers_modeRequest {s : State} {p : Path} (up : Bool) {post : State → State → Prop} (hp : pathWrites s p 0x404 = true)
    (h : ∀ m, RegsOnly s m → (∀ g, steadyField g = true → homeIdx g.idx ≠ 0x404 → homeIdx g.idx ≠ 8 → rd m g = rd s g) →
      post (pathKeeps (modeRequest m up (!up)) p 0x404) (finish (pathKeeps (modeRequest m up (!up)) p 0x404))) :
    Answers (if up then .modeRequestPowerUp p else .modeRequestPowerDown p) s post := by
  have hmask : accessMask 0x404 (fun a => a == .rw || a == .rs || a == .rwk) = 0#48 := by decide +kernel
  cases up with
  | true =>
    have hc : exec (.modeRequestPowerUp p) s = done (regWord s p 0x404 1#48) := congrArg done (regField_alone s p F.MODE_REQUEST_POWER_UP 1 hmask)
    exact answers_of_write hc hp (fun _ => rfl) (modeRequest_served s) (h _ (regsOnly_committed s p _ rfl) fun g hg hi h8 => rd_committed_other _ (modeRequest_served s) hg hi h8)
  | false =>
    have hc : exec (.modeRequestPowerDown p) s = done (regWord s p 0x404 2#48) := congrArg done (regField_alone s p F.MODE_REQUEST_POWER_DOWN 1 hmask)
    exact answers_of_write hc hp (fun _ => rfl) (modeRequest_served s) (h _ (regsOnly_committed s p _ rfl) fun g hg hi h8 => rd_committed_other _ (modeRequest_served s) hg hi h8)

/-- A request that the mode does not allow is ignored. -/
theorem ignored_pathKeeps {s m : State} (h : RegsOnly s m) (p : Path) (i : Nat) :
    (finish (pathKeeps (ignored m srcRegister) p i)).modes = s.modes ∧ (finish (pathKeeps (ignored m srcRegister) p i)).power = s.power
      ∧ (⟨0x00B, 0, 0, modeCode s.modes.mode + 4088⟩ : Ev) ∈ (pathKeeps (ignored m srcRegister) p i).evs := by
  refine ⟨?_, ?_, ?_⟩
  · rw [modes_finish_pathKeeps]; exact h.modes
  · rw [power_finish_pathKeeps]; exact h.power
  · rw [evs_pathKeeps, ← h.modes]
    exact List.mem_append_right _ (List.mem_singleton.mpr rfl)

theorem tableValid_congr {s t : State} (h : t.power = s.power) : tableValid t = tableValid s := by
  unfold tableValid cueWords cueWord
  rw [h]

theorem supplyGood_of {s m : State} (h : ∀ g, steadyField g = true → homeIdx g.idx ≠ 0x404 → homeIdx g.idx ≠ 8 → rd m g = rd s g) :
    rdb m F.PWR_VIN_STATUS_SUPPLY_GOOD = rdb s F.PWR_VIN_STATUS_SUPPLY_GOOD := by
  rw [rdb, rdb, h _ (by decide +kernel) (by decide) (by decide)]

theorem modeRequestPowerUp_starts {s : State} {p : Path} (hp : pathWrites s p 0x404 = true) (hd : s.modes.mode = .dark)
    (hg : rdb s F.PWR_VIN_STATUS_SUPPLY_GOOD = true) (hu : s.modes.powerUp = none) (hr : s.power.run = none) :
    Answers (.modeRequestPowerUp p) s (fun _ t => t.modes.powerUp = some ⟨2, 0, none⟩ ∧ t.power.run.elim false (fun r => r.prog == 0) = true) := by
  refine answers_modeRequest true hp fun m hm hf => ?_
  have hreq : modeRequest m true false = startUp (wr { m with modes := { m.modes with powerUp := some ⟨2, 0, none⟩ } } F.PWR_RETRY_ATTEMPT 0) := by
    have hmd : m.modes.mode = .dark := by rw [hm.modes, hd]
    have hmg : rdb m F.PWR_VIN_STATUS_SUPPLY_GOOD = true := by rw [supplyGood_of hf, hg]
    have hmu : m.modes.powerUp = none := by rw [hm.modes, hu]
    have hmr : m.power.run = none := by rw [hm.power, hr]
    simp [modeRequest_up, powerUpRequest, hmd, hmg, hmu, hmr]
  rw [Bool.not_true, hreq, modes_finish_pathKeeps, power_finish_pathKeeps]
  exact ⟨by rw [modes_startUp]; rfl, run_startUp _⟩

theorem modeRequestPowerUp_ignored {s : State} {p : Path} (hp : pathWrites s p 0x404 = true)
    (hn : s.modes.mode ≠ .dark ∨ rdb s F.PWR_VIN_STATUS_SUPPLY_GOOD = false) :
    Answers (.modeRequestPowerUp p) s (fun u t => t.modes = s.modes ∧ t.power = s.power ∧ (⟨0x00B, 0, 0, modeCode s.modes.mode + 4088⟩ : Ev) ∈ u.evs) := by
  refine answers_modeRequest true hp fun m hm hf => ?_
  have hreq : modeRequest m true false = ignored m srcRegister := by
    rw [modeRequest_up, hm.modes, supplyGood_of hf]
    rcases hn with hn | hn <;> simp [hn]
  rw [Bool.not_true, hreq]
  exact ignored_pathKeeps hm p _

theorem modeRequestPowerDown_ignored {s : State} {p : Path} (hp : pathWrites s p 0x404 = true) (hn : s.modes.mode ≠ .standby) :
    Answers (.modeRequestPowerDown p) s (fun u t => t.modes = s.modes ∧ t.power = s.power ∧ (⟨0x00B, 0, 0, modeCode s.modes.mode + 4088⟩ : Ev) ∈ u.evs) := by
  refine answers_modeRequest false hp fun m hm _ => ?_
  have hreq : modeRequest m false true = ignored m srcRegister := by rw [modeRequest_down, hm.modes, if_neg hn]
  rw [Bool.not_false, hreq]
  exact ignored_pathKeeps hm p _

theorem modeRequestPowerDown_starts {s : State} {p : Path} (hp : pathWrites s p 0x404 = true) (hs : s.modes.mode = .standby) (hr : s.power.run = none)
    (hv : tableValid s = true) (hi : noImage s = false) :
    Answers (.modeRequestPowerDown p) s (fun _ t => t.power.run.elim false (fun r => r.prog == 1) = true ∧ t.power.downCause = 0x12 ∧ t.modes.mode = .standby) := by
  refine answers_modeRequest false hp fun m hm hf => ?_
  have hreq := startDown_table (s := m) 0x12 (by rw [hm.power, hr]) (by rw [tableValid_congr hm.power, hv])
    (by rw [← hi]; simp only [noImage, hm.modes, rdb, hf F.IMG_STATUS_VALID (by decide +kernel) (by decide) (by decide)])
  rw [Bool.not_false, modeRequest_down, hm.modes, if_pos hs, hreq, modes_finish_pathKeeps, power_finish_pathKeeps]
  have hpow : ∀ x : State, (saveStatus x).power = x.power := fun _ => rfl
  have hmod : ∀ x : State, (saveStatus x).modes = x.modes := fun _ => rfl
  rw [hpow, hmod, power_cueBegin, modes_cueBegin]
  exact ⟨rfl, rfl, by rw [hm.modes, hs]⟩

/-! Playbills (R63, R67). -/

/-- MODE_PLAYBILL is reached on the paths that reach MODE_REQUEST. -/
theorem pathWrites_playbill {s : State} {p : Path} (h : pathWrites s p 0x404 = true) : pathWrites s p 0x401 = true := by
  have hex : regExists 0x401 = true ∧ regExists 0x404 = true := by decide +kernel
  have hdom : regDomain 0x401 = .alwaysOn ∧ regDomain 0x404 = .alwaysOn := by decide +kernel
  cases p
  case core | sideband | bar2 | fm => simpa [pathWrites, writeAllowed, wpath, hex, isI3c, notServed, hdom, sideGroup] using h
  case ld | recovery => simp [pathWrites, writeAllowed, wpath, hex, regScope] at h

theorem playbill_served (s : State) : (mainOff s && regDomain 0x401 = .main) = false := by
  have h : regDomain 0x401 = .alwaysOn := by decide +kernel
  simp [h]

theorem trigger_playbill (s : State) (w : Word) (pin : Bool) : trigger s 0x401 (w ||| 16#48) pin = playbillApply s := by
  have hbit : bitOf (w ||| 16#48).toNat 4 = true := by
    have h : (w ||| 16#48).toNat.testBit 4 = true := by
      rw [BitVec.toNat_or, Nat.testBit_or, Bool.or_eq_true]
      exact .inr (by decide)
    simpa [bitOf, Nat.testBit_eq_decide_div_mod_eq] using h
  have ht : trigger s 0x401 (w ||| 16#48) pin = whenS (bitOf (w ||| 16#48).toNat 4) playbillApply s := rfl
  rw [ht, hbit]
  rfl

/-- The field of MODE_PLAYBILL that a write sets, while no lock holds it. -/
theorem rd_committed_playbill {s : State} (p : Path) (w : Word) (hl : regLocked s 0x401 = false) {f : FieldRow} (hf : f ∈ regFields 0x401) (ha : f.access = .rwk)
    (h4 : f.lo + f.width ≤ 4) (hg : steadyField ⟨0x401, f.lo, f.width⟩ = true) :
    rd (committed s p 0x401 (w ||| 16#48)) ⟨0x401, f.lo, f.width⟩ = fldOf w ⟨0x401, f.lo, f.width⟩ := by
  rw [rd_committed_self _ (playbill_served s) hf hg, ha, writtenField, hl]
  refine fldOf_congr fun j hj => ?_
  have hbit : (16#48).getLsbD (f.lo + j) = false := by
    have hlt : f.lo + j < 4 := lt_of_lt_of_le (Nat.add_lt_add_left hj _) h4
    generalize f.lo + j = k at hlt
    interval_cases k <;> rfl
  rw [BitVec.getLsbD_or, hbit, Bool.or_false]

/-- What MODE_PLAYBILL_APPLY leaves, given what the apply leaves of the state `m` in which the register holds the word's playbill. -/
theorem answers_playbill {s : State} {p : Path} {w : Word} {post : State → State → Prop} (hp : pathWrites s p 0x404 = true) (hl : regLocked s 0x401 = false)
    (h : ∀ m, RegsOnly s m → (∀ g, steadyField g = true → homeIdx g.idx ≠ 0x401 → homeIdx g.idx ≠ 8 → rd m g = rd s g) →
      rd m F.MODE_PLAYBILL_PLAYBILL = fldOf w F.MODE_PLAYBILL_PLAYBILL → rd m F.MODE_PLAYBILL_COMPAT_QOS = fldOf w F.MODE_PLAYBILL_COMPAT_QOS →
      post (pathKeeps (playbillApply m) p 0x401) (finish (pathKeeps (playbillApply m) p 0x401))) :
    Answers (.modePlaybillApply p w) s post := by
  have hc : exec (.modePlaybillApply p w) s = done (regWord s p 0x401 (w ||| 16#48)) := rfl
  have hbill := rd_committed_playbill p w hl (f := ⟨0, 3, .rwk, 0⟩) (by decide +kernel) rfl (by decide) (by decide +kernel)
  have hqos := rd_committed_playbill p w hl (f := ⟨3, 1, .rwk, 0⟩) (by decide +kernel) rfl (by decide) (by decide +kernel)
  refine answers_of_write hc (pathWrites_playbill hp) (fun _ => rfl) (playbill_served s) ?_
  rw [trigger_playbill]
  exact h _ (regsOnly_committed s p _ rfl) (fun g hg hi h8 => rd_committed_other _ (playbill_served s) hg hi h8) hbill hqos

@[simp] theorem rd_event (s : State) (a b c d : Nat) (g : Fld) : rd (event s a b c d) g = rd s g := rfl
theorem rd_finish_result (x : State) (p : Path) (v : Nat) : rd (finish (pathKeeps (wr x F.MODE_PLAYBILL_RESULT v) p 0x401)) F.MODE_PLAYBILL_RESULT = v % 4 :=
  (rd_finish_pathKeeps _ p _ (by decide +kernel)).trans (rd_wr_self _ _ _ (by decide))

/-- A refused playbill leaves its result, the event 0x004 and the modes. -/
theorem billRefuse_pathKeeps {s m : State} (h : RegsOnly s m) (p : Path) {r : Nat} (hr : r < 4) :
    rd (finish (pathKeeps (billRefuse m r) p 0x401)) F.MODE_PLAYBILL_RESULT = r ∧ (finish (pathKeeps (billRefuse m r) p 0x401)).modes = s.modes
      ∧ (⟨0x004, 1, 0, r⟩ : Ev) ∈ (pathKeeps (billRefuse m r) p 0x401).evs := by
  refine ⟨?_, ?_, ?_⟩
  · rw [rd_finish_pathKeeps _ _ _ (by decide +kernel), billRefuse, rd_event, rd_wr_self _ _ _ (by decide)]
    exact Nat.mod_eq_of_lt hr
  · rw [modes_finish_pathKeeps]; exact h.modes
  · rw [evs_pathKeeps]
    exact List.mem_append_right _ (List.mem_singleton.mpr rfl)

theorem billOf_eq_none {k : Nat} (h : 6 ≤ k) : billOf k = none := by
  unfold billOf
  split <;> first | omega | rfl
theorem billOf_isSome {k : Nat} (h : k < 6) : ∃ b, billOf k = some b := by
  interval_cases k <;> exact ⟨_, rfl⟩

/-- The settings in use are those that the command found. -/
theorem billInUse_congr {s m : State} (hm : RegsOnly s m) (hf : ∀ g, steadyField g = true → homeIdx g.idx ≠ 0x401 → homeIdx g.idx ≠ 8 → rd m g = rd s g) (b : Playbill) :
    billInUse m b = billInUse s b := by
  have hspeed : timingSpeeds m = timingSpeeds s := by simp only [timingSpeeds, timingWord, hm.dram]
  have hrate : ∀ c ∈ List.range 16, rd m (F.FL_CH_CFG_RATE c) = rd s (F.FL_CH_CFG_RATE c) := by
    have hall : ∀ c ∈ List.range 16, steadyField (F.FL_CH_CFG_RATE c) = true ∧ homeIdx (F.FL_CH_CFG_RATE c).idx ≠ 0x401 ∧ homeIdx (F.FL_CH_CFG_RATE c).idx ≠ 8 := by decide +kernel
    intro c hc
    obtain ⟨hsteady, hne, h8⟩ := hall c hc
    exact hf _ hsteady hne h8
  have hactive := hf F.DC_PHY_GLOBAL_SPEED_ACTIVE (by decide +kernel) (by decide) (by decide)
  have hrates : (List.range 16).all (fun c => rd m (F.FL_CH_CFG_RATE c) == (billSet b).rate) = (List.range 16).all (fun c => rd s (F.FL_CH_CFG_RATE c) == (billSet b).rate) := by
    rw [Bool.eq_iff_iff, List.all_eq_true, List.all_eq_true]
    exact forall₂_congr fun c hc => by rw [hrate c hc]
  rw [billInUse, billInUse, hspeed, hactive, hrates]

section
variable {s m : State} {b : Playbill} {q : Bool} (hb : billOf (rd m F.MODE_PLAYBILL_PLAYBILL) = some b)
include hb

theorem playbillApply_closed (h : m.modes.mode = .save ∨ m.modes.mode = .hold) : playbillApply m = billRefuse m 2 := by
  rcases h with h | h <;> simp only [playbillApply, hb, h]
theorem playbillApply_dark (h : m.modes.mode = .dark) :
    playbillApply m = wr { m with modes := { m.modes with recorded := some ⟨b, rdb m F.MODE_PLAYBILL_COMPAT_QOS⟩ } } F.MODE_PLAYBILL_RESULT 1 := by
  simp only [playbillApply, hb, h]
theorem playbillApply_denied (h : serving m = true ∨ m.modes.mode = .standby) (ha : m.modes.allowed.getLsbD (billCode b) = false) : playbillApply m = billRefuse m 3 := by
  cases hm : m.modes.mode <;> simp_all [playbillApply, serving]
/-- The state that an allowed playbill leaves: it waits for the recompute, and for a power-up too where its settings are not in use. -/
theorem playbillApply_allowed (h : serving m = true ∨ m.modes.mode = .standby) (ha : m.modes.allowed.getLsbD (billCode b) = true) :
    playbillApply m = wr { m with modes := { m.modes with
      applying := some ⟨b, rdb m F.MODE_PLAYBILL_COMPAT_QOS⟩, applyMark := some ⟨edgeOf m.now, m.modes.applying, m.modes.recorded⟩
      recorded := if !billInUse m b then some ⟨b, rdb m F.MODE_PLAYBILL_COMPAT_QOS⟩ else none } } F.MODE_PLAYBILL_RESULT (b2n (!billInUse m b)) := by
  cases hm : m.modes.mode <;> simp_all [playbillApply, serving]
end

/-- Settles O16: the request or the playbill acts on the state in which the write has changed its register, and the end of the command keeps what it leaves. -/
theorem modeRequests : Obligations.ModeRequests := by
  unfold Obligations.ModeRequests
  intro s p hp
  refine ⟨modeRequestPowerUp_starts hp, modeRequestPowerUp_ignored hp, modeRequestPowerDown_ignored hp, modeRequestPowerDown_starts hp, fun w hl => ⟨fun h6 => ?_, fun h6 hclosed => ?_, fun b hb => ⟨fun hd => ?_, fun hopen => ⟨fun ha => ?_, fun ha => ?_⟩⟩⟩⟩
  all_goals refine answers_playbill hp hl fun m hm hf hbill hqos => ?_
  · have happly : playbillApply m = billRefuse m 3 := by simp only [playbillApply, hbill, billOf_eq_none h6]
    rw [happly]
    exact billRefuse_pathKeeps hm p (by decide)
  · obtain ⟨b, hb⟩ := billOf_isSome h6
    rw [playbillApply_closed (hbill ▸ hb) (hm.modes ▸ hclosed)]
    exact billRefuse_pathKeeps hm p (by decide)
  · rw [playbillApply_dark (hbill ▸ hb) (hm.modes ▸ hd), modes_finish_pathKeeps, rdb, hqos]
    refine ⟨rd_finish_result _ p 1, ?_⟩
    rw [← hm.modes]
    rfl
  · rw [playbillApply_denied (hbill ▸ hb) (by rw [serving, hm.modes]; exact hopen) (hm.modes ▸ ha)]
    exact billRefuse_pathKeeps hm p (by decide)
  · rw [playbillApply_allowed (hbill ▸ hb) (by rw [serving, hm.modes]; exact hopen) (hm.modes ▸ ha), modes_finish_pathKeeps, rdb, hqos, billInUse_congr hm hf,
      rd_finish_result]
    have hmode : m.modes.mode = s.modes.mode := congrArg ModeState.mode hm.modes
    cases billInUse s b <;> exact ⟨rfl, hmode, rfl, by simp⟩

end Sys2Proof.Machine
end

section
/-! Proofs: what the engines leave alone as writes pass the ledger tap, trickle, caches and the flash set follow: modes, time, the image, logged events, the closed gate, and the caps with what they come from (R86, R87, R539). -/

namespace Sys2Proof.Machine

/-- Fields that give the stages their caps: the device cap, the stamp, shares, watermark percentages and sizes (R86, R87, R119). -/
def capSources : List Fld :=
  [F.LDG_DEV_EFF_EFF_CAP, F.LDG_DEV_USABLE_STAMP] ++ [0, 1, 2, 3].flatMap (fun n => [F.LDG_CFG_SHARE n, F.LDG_CFG_SOFT_PCT n, F.STAGE_SIZE_HOST_256MIB n])
/-- Fields that only a few operations write: caps and watermarks with what they come from, the reasons of failed Dressings, the busy bit of STAGE_CTRL. -/
def keptFields : List Fld :=
  capSources ++ [0, 1, 2, 3].flatMap (fun n => [F.LDG_CAP_FRAMES n, F.LDG_SOFT_FRAMES n, F.STAGE_DRESS_REASON n]) ++ [F.STAGE_CTRL_BUSY]
/-- A field whose write leaves the kept fields. -/
def calmField (f : Fld) : Bool := keptFields.all (apart f)
/-- An index whose write leaves the kept fields. -/
def calmIdx (i : Nat) : Bool := keptFields.all (fun g => decide (homeIdx g.idx ≠ homeIdx i))

theorem keptFields_width : ∀ g ∈ keptFields, g.lo + g.width ≤ 48 := by decide
theorem keptFields_steady : ∀ g ∈ keptFields, steadyField g = true := by decide +kernel

/-- What the engines leave alone. -/
structure Keeps (s t : State) : Prop where
  now : t.now = s.now
  modes : t.modes = s.modes
  image : { t.image with untrained := s.image.untrained } = s.image
  evs : s.evs ⊆ t.evs
  gated : ∀ n, (led t n).gated = (led s n).gated
  fields : ∀ g ∈ keptFields, rd t g = rd s g

namespace Keeps

theorem refl (s : State) : Keeps s s := ⟨rfl, rfl, rfl, List.Subset.refl _, fun _ => rfl, fun _ _ => rfl⟩
theorem trans {s t u : State} (h : Keeps s t) (k : Keeps t u) : Keeps s u where
  now := k.now.trans h.now
  modes := k.modes.trans h.modes
  image := by rw [← h.image]; rw [← k.image]
  evs := List.Subset.trans h.evs k.evs
  gated n := (k.gated n).trans (h.gated n)
  fields g hg := (k.fields g hg).trans (h.fields g hg)

section
variable {s t : State}

/-! Single changes of the state. -/

theorem wr (h : Keeps s t) (f : Fld) (v : Nat) (hf : calmField f = true := by clear * -; decide +revert) : Keeps s (wr t f v) where
  now := h.now
  modes := h.modes
  image := h.image
  evs := h.evs
  gated := h.gated
  fields g hg := (rd_wr_apart t f g v (keptFields_width g hg) (List.all_eq_true.mp hf g hg)).trans (h.fields g hg)
theorem setReg (h : Keeps s t) (i : Nat) (w : Word) (hi : calmIdx i = true := by clear * -; decide +revert) : Keeps s (setReg t i w) where
  now := h.now
  modes := h.modes
  image := h.image
  evs := h.evs
  gated := h.gated
  fields g hg := by
    have hne := List.all_eq_true.mp hi g hg
    rw [rd, rawReg_setReg, if_neg (of_decide_eq_true hne)]
    exact h.fields g hg
theorem incSat (h : Keeps s t) (f : Fld) (n : Nat) (hf : calmField f = true := by clear * -; decide +revert) : Keeps s (incSat t f n) := h.wr f _ hf
theorem incWrap (h : Keeps s t) (f : Fld) (n : Nat) (hf : calmField f = true := by clear * -; decide +revert) : Keeps s (incWrap t f n) := h.wr f _ hf
theorem event (h : Keeps s t) (a b c d : Nat) : Keeps s (event t a b c d) :=
  ⟨h.now, h.modes, h.image, List.Subset.trans h.evs (List.subset_append_left ..), h.gated, h.fields⟩
theorem emit (h : Keeps s t) (o : Output) : Keeps s (emit t o) := ⟨h.now, h.modes, h.image, h.evs, h.gated, h.fields⟩
theorem cxl (h : Keeps s t) (c : CxlState) : Keeps s { t with cxl := c } := ⟨h.now, h.modes, h.image, h.evs, h.gated, h.fields⟩
theorem dram (h : Keeps s t) (d : Dram) : Keeps s { t with dram := d } := ⟨h.now, h.modes, h.image, h.evs, h.gated, h.fields⟩
theorem setChan (h : Keeps s t) (c : DramCh) (x : Channel) : Keeps s (setChan t c x) := h.dram _
theorem setSub (h : Keeps s t) (c : DramCh) (b : Bool) (x : SubCh) : Keeps s (setSub t c b x) := h.setChan ..
theorem setRst (h : Keeps s t) (n : Stage) (r : RestoreState) : Keeps s (setRst t n r) := ⟨h.now, h.modes, h.image, h.evs, h.gated, h.fields⟩
theorem setFsys (h : Keeps s t) (n : Stage) (x : StageSys) : Keeps s (setFsys t n x) := ⟨h.now, h.modes, h.image, h.evs, h.gated, h.fields⟩
theorem setFset (h : Keeps s t) (n : Stage) (x : StageFlash) : Keeps s (setFset t n x) := ⟨h.now, h.modes, h.image, h.evs, h.gated, h.fields⟩
theorem setLedger (h : Keeps s t) (n : Stage) (l : LedgerState) (hl : l.gated = (led t n).gated := by rfl) : Keeps s (setLedger t n l) := by
  refine ⟨h.now, h.modes, h.image, h.evs, fun m => ?_, h.fields⟩
  rw [← h.gated m]
  by_cases hm : m = n
  · subst hm
    simpa [led, Machine.setLedger] using hl
  · simp [led, Machine.setLedger, qget_qset_of_ne _ _ hm]

/-! Control. -/

theorem ite (c : Prop) [Decidable c] {a b : State} (ha : Keeps s a) (hb : Keeps s b) : Keeps s (if c then a else b) := by
  split
  · exact ha
  · exact hb
theorem whenS (h : Keeps s t) (c : Bool) (f : State → State) (hf : ∀ u, Keeps s u → Keeps s (f u)) : Keeps s (whenS c f t) := .ite _ (hf t h) h
theorem fold {α : Type} (h : Keeps s t) (xs : List α) (f : State → α → State) (hf : ∀ u, ∀ a ∈ xs, Keeps s u → Keeps s (f u a)) : Keeps s (foldS xs f t) := by
  unfold foldS
  induction xs generalizing t with
  | nil => exact h
  | cons x xs ih => exact ih (hf t x List.mem_cons_self h) fun u a ha => hf u a (List.mem_cons_of_mem _ ha)
/-- What happened at an earlier time and leaves the present one. -/
theorem clock {u : State} {a : Nat} (h : Keeps s t) (k : Keeps { t with now := a } u) : Keeps s { u with now := t.now } :=
  h.trans ⟨rfl, k.modes, k.image, k.evs, k.gated, k.fields⟩

/-! Performance counters, DRAM requests, host records. -/

theorem pmonHit (h : Keeps s t) (g i k n : Nat) : Keeps s (pmonHit t g i k n) := by
  have q := quiet_pmonHit t g i k n
  have r := regsOnly_pmonHit t g i k n
  exact h.trans ⟨q.now, q.modes, by rw [r.image], r.evs, fun m => by rw [led, led, q.ledger], fun f hf => q.fields f (keptFields_steady f hf)⟩
theorem xbarFault (h : Keeps s t) (n : Stage) (k r : Nat) : Keeps s (xbarFault t n k r) := by
  unfold Machine.xbarFault
  exact ((((h.wr _ _).wr _ _).wr _ _).incSat _ _).event ..
theorem dramPut (h : Keeps s t) (r : DramReq) : Keeps s (dramPut t r) := by
  unfold Machine.dramPut
  split
  · exact h
  · split
    · exact h.xbarFault ..
    · exact (h.dram _).setSub ..
theorem dramRead (h : Keeps s t) (port cls : Nat) (n : Stage) (line : Nat) (use : DramUse) : Keeps s (dramRead t port cls n line use) := h.dramPut _
theorem dramWrite (h : Keeps s t) (port cls : Nat) (n : Stage) (line : Nat) (data : BitVec 512) (poison : Bool) (use : DramUse) :
    Keeps s (dramWrite t port cls n line data poison use) := h.dramPut _
theorem dramPair (h : Keeps s t) (port cls : Nat) (n : Stage) (line target : Nat) (use : DramUse) : Keeps s (dramPair t port cls n line target use) := by
  unfold Machine.dramPair
  exact ((h.dram _).dramPut _).dramPut _
theorem poisonFull (h : Keeps s t) (n : Stage) : Keeps s (poisonFull t n) := by
  unfold Machine.poisonFull
  exact (h.cxl _).event ..
theorem poisonAdd (h : Keeps s t) (n : Stage) (e : PoisonEntry) : Keeps s (poisonAdd t n e) := by
  unfold Machine.poisonAdd
  exact .ite _ h (.ite _ (h.cxl _) (h.poisonFull n))
theorem poisonRemove (h : Keeps s t) (n : Stage) (line : Nat) : Keeps s (poisonRemove t n line) := by
  unfold Machine.poisonRemove
  exact .ite _ (h.cxl _) ((h.cxl _).poisonFull n)
theorem cxlRecord (h : Keeps s t) (n : Stage) (k : Nat) (r : CxlRec) : Keeps s (cxlRecord t n k r) := by
  unfold Machine.cxlRecord Machine.setLdLog
  exact .ite _ (.ite _ ((h.cxl _).emit _) (h.cxl _)) (.ite _ (h.cxl _) ((h.cxl _).event ..))
theorem mediaError (h : Keeps s t) (n : Stage) (line kind tr : Nat) : Keeps s (mediaError t n line kind tr) := (h.poisonAdd ..).cxlRecord ..
theorem loadHit (h : Keeps s t) (port load : Nat) : Keeps s (loadHit t port load) := by
  unfold Machine.loadHit
  exact .ite _ (h.pmonHit ..) (.ite _ (h.pmonHit ..) h)
theorem writeComplete (h : Keeps s t) (n : Stage) (o : WriteDone) : Keeps s (writeComplete t n o) := by
  cases o with
  | mem port tag => exact .ite _ ((h.loadHit ..).emit _) h
  | mailbox => exact h.emit _

/-! The ledger: frames, trickle selection, status. -/

theorem addResidue (h : Keeps s t) (n : Stage) (up : Bool) (k : Nat) : Keeps s (addResidue t n up k) := by
  unfold Machine.addResidue
  exact .ite _ ((h.wr _ _).wr _ _) ((h.wr _ _).wr _ _)
theorem setFrame (h : Keeps s t) (n : Stage) (f v : Nat) : Keeps s (setFrame t n f v) := by
  unfold Machine.setFrame
  exact .ite _ h (.ite _ ((h.setLedger ..).addResidue ..) (.ite _ ((h.setLedger ..).addResidue ..) (h.setLedger ..)))
theorem trickleSelect (h : Keeps s t) (n : Stage) (f : Nat) : Keeps s (trickleSelect t n f) := by
  unfold Machine.trickleSelect
  exact .ite _ (h.setFrame ..) ((h.setFrame ..).setLedger ..)
theorem wtQueue (h : Keeps s t) (n : Stage) : Keeps s (wtQueue t n) := by
  unfold Machine.wtQueue
  exact h.fold _ _ fun _ f _ k => k.trickleSelect n f
theorem wtCatch (h : Keeps s t) (n : Stage) : Keeps s (wtCatch t n) := by
  unfold Machine.wtCatch
  exact .ite _ (h.clock ((refl _).wtQueue n)) h
theorem writeFrame (h : Keeps s t) (n : Stage) (f : Nat) : Keeps s (writeFrame t n f) := by
  unfold Machine.writeFrame
  split
  · exact ((h.setFrame ..).incWrap _ _).pmonHit ..
  · exact .ite _ h ((h.setFrame ..).incWrap _ _)
  · exact h
theorem spaceRefresh (h : Keeps s t) (n : Stage) : Keeps s (spaceRefresh t n) := by
  unfold Machine.spaceRefresh
  exact (h.whenS _ _ fun _ k => k.event ..).wr _ _
theorem ledRefresh (h : Keeps s t) (n : Stage) : Keeps s (ledRefresh t n) := by
  unfold Machine.ledRefresh
  exact (((((((h.wr _ _).wr _ _).wr _ _).wr _ _).whenS _ _ fun _ k => k.event ..).setLedger ..)).spaceRefresh n

theorem holdBegin (h : Keeps s t) (n : Stage) : Keeps s (holdBegin t n) := by
  unfold Machine.holdBegin
  exact .ite _ ((h.event ..).setLedger ..) h
theorem holdEnd (h : Keeps s t) (n : Stage) : Keeps s (holdEnd t n) := by
  unfold Machine.holdEnd
  dsimp only
  split
  · exact .ite _ h (((h.setLedger ..).ledRefresh n).event ..)
  · exact h
theorem holdRoom (h : Keeps s t) (n : Stage) : Keeps s (holdRoom t n) := by
  unfold Machine.holdRoom
  exact .ite _ ((h.cxl _).emit _) h
theorem heldTake (h : Keeps s t) (n : Stage) (w : HostWrite) : Keeps s (heldTake t n w) := by
  unfold Machine.heldTake
  exact (Keeps.ite _ ((h.setLedger ..).wr _ _) (h.setLedger ..)).holdRoom n
theorem holdWrite (h : Keeps s t) (n : Stage) (w : HostWrite) : Keeps s (holdWrite t n w) := by
  unfold Machine.holdWrite
  exact .ite _ (h.setLedger ..) ((((((h.setLedger ..).holdBegin n).incWrap _ _).pmonHit ..).whenS _ _ fun _ k => ((k.cxl _).event ..).emit _).ledRefresh n)

/-! Host reads and writes past the tap. -/

theorem touchStatus (h : Keeps s t) (n : Stage) : Keeps s (touchStatus t n) := by
  unfold Machine.touchStatus
  exact (h.wr _ _).wr _ _
theorem touchCount (h : Keeps s t) (n : Stage) : Keeps s (touchCount t n) := h.incWrap _ _
theorem touchEnqueue (h : Keeps s t) (n : Stage) (f : Nat) : Keeps s (touchEnqueue t n f) := by
  unfold Machine.touchEnqueue
  exact .ite _ h (((h.pmonHit ..).setRst ..).touchStatus n)
theorem readTouch (h : Keeps s t) (n : Stage) (r : HeldRead) : Keeps s (readTouch t n r) := by
  unfold Machine.readTouch Machine.readIssue
  refine .ite _ (h.dramRead ..) (.ite _ ?_ (.ite _ (h.dramRead ..) (.ite _ (h.setLedger ..) ?_)))
  · exact .ite _ ((h.setRst ..).pmonHit ..) (((h.setRst ..).pmonHit ..).dramRead ..)
  · have k : Keeps s (Machine.setRst (Machine.touchCount t n) n { rst (Machine.touchCount t n) n with heldReads := (rst t n).heldReads ++ [{ r with since := (Machine.touchCount t n).now }] }) :=
      (h.touchCount n).setRst ..
    exact (Keeps.ite _ (((Keeps.ite _ k (k.touchEnqueue ..)).cxl _).event .. |>.emit _) (.ite _ k (k.touchEnqueue ..))).touchStatus n
theorem readsGo (h : Keeps s t) (n : Stage) : Keeps s (readsGo t n) := by
  unfold Machine.readsGo
  exact (h.setLedger ..).fold _ _ fun _ r _ k => k.readTouch n r
theorem tapStore (h : Keeps s t) (n : Stage) (w : HostWrite) : Keeps s (tapStore t n w) := by
  unfold Machine.tapStore
  split
  · refine .ite _ ((h.dramWrite ..).poisonRemove ..) ?_
    split
    · exact ((h.dramWrite ..).poisonAdd ..).cxlRecord ..
    · exact (h.dramWrite ..).mediaError ..
  · exact h.dramPair ..
theorem admitWrite (h : Keeps s t) (n : Stage) (w : HostWrite) : Keeps s (admitWrite t n w) := by
  unfold Machine.admitWrite
  have k := ((h.wtCatch n).writeFrame n (w.line / 64)).tapStore n w
  exact (Keeps.readsGo (.ite _ k (.ite _ (k.setLedger ..) (k.writeComplete ..))) n).ledRefresh n
theorem tapWrite (h : Keeps s t) (n : Stage) (w : HostWrite) : Keeps s (tapWrite t n w) := by
  unfold Machine.tapWrite
  refine .ite _ ?_ (.ite _ ((h.pmonHit ..).holdWrite ..) ((h.pmonHit ..).admitWrite ..))
  exact .ite _ ((h.pmonHit ..).setLedger ..) (((h.pmonHit ..).setLedger ..).dramRead ..)
theorem heldReleaseAll (h : Keeps s t) (n : Stage) : Keeps s (heldReleaseAll t n) := by
  unfold Machine.heldReleaseAll
  exact (h.fold _ _ fun _ w _ k => (k.heldTake n w).tapWrite ..).holdEnd n
theorem wtFollow (h : Keeps s t) (n : Stage) : Keeps s (wtFollow t n) := by
  unfold Machine.wtFollow
  refine .ite _ (Keeps.wtQueue ?_ n) (.ite _ ((((h.setLedger ..).wr _ _).wr _ _).event ..) h)
  have k := (((h.setLedger n { led t n with writeThrough := true }).wr (F.LDG_STATUS_WRITE_THROUGH n.val) 1).wr (F.LDG_STATUS_DEGRADED n.val) 1).event 0x105 2 n.val
  exact .ite _ (k _) ((k _).heldReleaseAll n)

/-! Flash space, capacity and strike. -/

theorem reserveSet (h : Keeps s t) (n : Stage) : Keeps s (reserveSet t n) := by
  unfold Machine.reserveSet
  exact (h.setFsys ..).wr _ _
theorem spaceFollow (h : Keeps s t) (n : Stage) (b : Bool) : Keeps s (spaceFollow t n b) := by
  unfold Machine.spaceFollow Machine.freeFollow
  exact (((((Keeps.ite _ (h.reserveSet n) h).setFsys ..).wr _ _).spaceRefresh n |>.whenS _ _ fun _ k => k.event ..).setFsys ..).wr _ _
theorem capacityFollow (h : Keeps s t) (n : Stage) : Keeps s (capacityFollow t n) := by
  unfold Machine.capacityFollow
  exact (((h.whenS _ _ fun _ k => k.event ..).wr _ _).wr _ _).wr _ _
theorem strikeFollow (h : Keeps s t) (n : Stage) : Keeps s (strikeFollow t n) := by
  unfold Machine.strikeFollow Machine.setVictim
  exact ((((((h.whenS _ _ fun _ k => k.event ..).whenS _ _ fun _ k => k.event ..).setFsys ..).wr _ _).wr _ _).setFsys ..).wr _ _

end
end Keeps
end Sys2Proof.Machine
end

section
/-! Proofs: the recompute of the effective caps and the trickle budget (R53, R86 to R88, R110). -/

namespace Sys2Proof.Machine

/-! The caps divided, stage by stage (R87, R88). -/

/-- One stage's part of the division: its cap and watermark, and what follows them. -/
def shareTo (s : State) (n : Stage) : State :=
  let cap := stageShare s n
  let low := stageSt s n = .live ∧ residue s n > cap ∧ cap < stageCap s n
  let s := whenS (decide low) (fun s => event s 0x104 1 n.val (residue s n - cap)) s
  let s := wr (wr s (F.LDG_CAP_FRAMES n.val) cap) (F.LDG_SOFT_FRAMES n.val) (cap * softPct s n / 100)
  ledRefresh (wtFollow s n) n
theorem divideCap_eq (s : State) : divideCap s = foldS fours shareTo s := rfl

/-- Time, modes and all that gives the stages their caps are the same. -/
structure SameSources (s t : State) : Prop where
  now : t.now = s.now
  stages : t.modes.stages = s.modes.stages
  fields : ∀ g ∈ capSources, rd t g = rd s g

theorem SameSources.refl (s : State) : SameSources s s := ⟨rfl, rfl, fun _ _ => rfl⟩
theorem SameSources.trans {s t u : State} (h : SameSources s t) (k : SameSources t u) : SameSources s u :=
  ⟨k.now.trans h.now, k.stages.trans h.stages, fun g hg => (k.fields g hg).trans (h.fields g hg)⟩
theorem SameSources.symm {s t : State} (h : SameSources s t) : SameSources t s := ⟨h.now.symm, h.stages.symm, fun g hg => (h.fields g hg).symm⟩
theorem capSources_kept {g : Fld} (hg : g ∈ capSources) : g ∈ keptFields := List.mem_append_left _ (List.mem_append_left _ hg)
theorem Keeps.sources {s t : State} (h : Keeps s t) : SameSources s t := ⟨h.now, by rw [h.modes], fun g hg => h.fields g (capSources_kept hg)⟩
theorem Quiet.sources {s t : State} (h : Quiet s t) : SameSources s t :=
  ⟨h.now, by rw [h.modes], fun g hg => h.fields g (keptFields_steady g (capSources_kept hg))⟩

theorem capSources_stage (n : Stage) : F.LDG_CFG_SHARE n.val ∈ capSources ∧ F.LDG_CFG_SOFT_PCT n.val ∈ capSources ∧ F.STAGE_SIZE_HOST_256MIB n.val ∈ capSources := by
  decide +revert

namespace SameSources
variable {s t : State} (h : SameSources s t) (n : Stage)
include h

theorem stageSt : stageSt t n = stageSt s n := by rw [Machine.stageSt, Machine.stageSt, h.stages]
theorem softPct : softPct t n = softPct s n := by rw [Machine.softPct, Machine.softPct, h.fields _ (capSources_stage n).2.1]
theorem hostFrames : hostFrames t n = hostFrames s n := by rw [Machine.hostFrames, Machine.hostFrames, h.fields _ (capSources_stage n).2.2]
theorem stageWeight : stageWeight t n = stageWeight s n := by
  obtain ⟨hshare, -, hsize⟩ := capSources_stage n
  rw [Machine.stageWeight, Machine.stageWeight, h.fields _ hshare, h.fields _ hsize]
theorem stageShare : stageShare t n = stageShare s n := by
  simp only [Machine.stageShare, h.stageSt, h.stageWeight, h.hostFrames, h.fields F.LDG_DEV_EFF_EFF_CAP (by decide)]

end SameSources

/-- The cap and the watermark of a stage are its share and SOFT_PCT of it, as the sources of a state give them. -/
def Shared (x t : State) (n : Stage) : Prop :=
  stageCap t n = stageShare x n % 2 ^ 30 ∧ softMark t n = (stageShare x n * softPct x n / 100) % 2 ^ 30

theorem Shared.of_sources {x y t : State} {n : Stage} (h : SameSources x y) (k : Shared y t n) : Shared x t n := by
  rw [Shared, ← h.stageShare, ← h.softPct]; exact k
theorem Shared.of_keeps {x t u : State} {n : Stage} (h : Keeps t u) (k : Shared x t n) : Shared x u n := by
  rw [Shared, stageCap, softMark, h.fields _ (by clear * -; decide +revert), h.fields _ (by clear * -; decide +revert)]; exact k
theorem Shared.of_quiet {x t u : State} {n : Stage} (h : Quiet t u) (k : Shared x t n) : Shared x u n := by
  rw [Shared, stageCap, softMark, h.fields _ (by clear * -; decide +kernel +revert), h.fields _ (by clear * -; decide +kernel +revert)]; exact k

/-- The writes of one stage's cap and watermark. -/
def capPut (s : State) (n : Stage) (cap soft : Nat) : State := wr (wr s (F.LDG_CAP_FRAMES n.val) cap) (F.LDG_SOFT_FRAMES n.val) soft

theorem capPut_apart (n : Stage) : ∀ g ∈ keptFields, g ≠ F.LDG_CAP_FRAMES n.val → g ≠ F.LDG_SOFT_FRAMES n.val →
    apart (F.LDG_CAP_FRAMES n.val) g = true ∧ apart (F.LDG_SOFT_FRAMES n.val) g = true := by decide +revert
theorem rd_capPut_other (s : State) (n : Stage) (cap soft : Nat) {g : Fld} (hg : g ∈ keptFields) (hc : g ≠ F.LDG_CAP_FRAMES n.val) (hs : g ≠ F.LDG_SOFT_FRAMES n.val) :
    rd (capPut s n cap soft) g = rd s g := by
  obtain ⟨hcap, hsoft⟩ := capPut_apart n g hg hc hs
  rw [capPut, rd_wr_apart _ _ _ _ (keptFields_width g hg) hsoft, rd_wr_apart _ _ _ _ (keptFields_width g hg) hcap]
theorem capPut_shared (s : State) (n : Stage) : Shared s (capPut s n (stageShare s n) (stageShare s n * softPct s n / 100)) n := by
  constructor
  · rw [stageCap, capPut, rd_wr_apart _ _ _ _ (by clear * -; decide +revert) (by clear * -; decide +revert)]
    exact rd_wr_self _ _ _ (by clear * -; decide +revert)
  · exact rd_wr_self _ _ _ (by clear * -; decide +revert)
theorem capPut_sources (s : State) (n : Stage) (cap soft : Nat) : SameSources s (capPut s n cap soft) := by
  have hne : ∀ g ∈ capSources, g ≠ F.LDG_CAP_FRAMES n.val ∧ g ≠ F.LDG_SOFT_FRAMES n.val := by clear * -; decide +revert
  exact ⟨rfl, rfl, fun g hg => rd_capPut_other s n cap soft (capSources_kept hg) (hne g hg).1 (hne g hg).2⟩

/-- A stage's part of the division is the writes of its cap and watermark between changes that keep them. -/
theorem shareTo_capPut (s : State) (n : Stage) :
    ∃ x, Keeps s x ∧ Keeps (capPut x n (stageShare s n) (stageShare s n * softPct x n / 100)) (shareTo s n) :=
  ⟨_, (Keeps.refl s).whenS _ _ fun _ k => k.event .., ((Keeps.refl _).wtFollow n).ledRefresh n⟩

theorem shareTo_sources (s : State) (n : Stage) : SameSources s (shareTo s n) := by
  obtain ⟨x, hx, hk⟩ := shareTo_capPut s n
  exact (hx.sources.trans (capPut_sources ..)).trans hk.sources
theorem shareTo_shared (s : State) (n : Stage) : Shared s (shareTo s n) n := by
  obtain ⟨x, hx, hk⟩ := shareTo_capPut s n
  refine .of_keeps hk (.of_sources hx.sources ?_)
  rw [← hx.sources.stageShare]
  exact capPut_shared x n
/-- A stage's cap and watermark stand in the part of another stage. -/
theorem shareTo_other {y s : State} {n m : Stage} (hm : m ≠ n) (h : Shared y s m) : Shared y (shareTo s n) m := by
  obtain ⟨x, hx, hk⟩ := shareTo_capPut s n
  have hne : F.LDG_CAP_FRAMES m.val ≠ F.LDG_CAP_FRAMES n.val ∧ F.LDG_CAP_FRAMES m.val ≠ F.LDG_SOFT_FRAMES n.val
      ∧ F.LDG_SOFT_FRAMES m.val ≠ F.LDG_CAP_FRAMES n.val ∧ F.LDG_SOFT_FRAMES m.val ≠ F.LDG_SOFT_FRAMES n.val := by clear * - hm; decide +revert
  obtain ⟨hcc, hcs, hsc, hss⟩ := hne
  refine .of_keeps hk ?_
  rw [Shared, stageCap, softMark, rd_capPut_other _ _ _ _ (by clear * -; decide +revert) hcc hcs, rd_capPut_other _ _ _ _ (by clear * -; decide +revert) hsc hss]
  exact Shared.of_keeps hx h

theorem shareFold_other {y : State} {m : Stage} (xs : List Stage) (s : State) (hm : m ∉ xs) (h : Shared y s m) : Shared y (foldS xs shareTo s) m := by
  induction xs generalizing s with
  | nil => exact h
  | cons x xs ih =>
    rw [List.mem_cons, not_or] at hm
    exact ih (shareTo s x) hm.2 (shareTo_other hm.1 h)
theorem shareFold (xs : List Stage) (s : State) : SameSources s (foldS xs shareTo s) ∧ ∀ n ∈ xs, Shared s (foldS xs shareTo s) n := by
  induction xs generalizing s with
  | nil => exact ⟨.refl s, by simp⟩
  | cons x xs ih =>
    obtain ⟨hsrc, hcaps⟩ := ih (shareTo s x)
    refine ⟨(shareTo_sources s x).trans hsrc, fun n hn => ?_⟩
    by_cases hin : n ∈ xs
    · exact .of_sources (shareTo_sources s x) (hcaps n hin)
    · obtain rfl | hn := List.mem_cons.mp hn
      · exact shareFold_other xs _ hin (shareTo_shared s n)
      · exact absurd hn hin
theorem divideCap_shares (s : State) : SameSources s (divideCap s) ∧ ∀ n, Shared s (divideCap s) n := by
  rw [divideCap_eq]
  obtain ⟨hsrc, hcaps⟩ := shareFold fours s
  exact ⟨hsrc, fun n => hcaps n (by clear * -; decide +revert)⟩

/-! The recompute (R63, R86). -/

theorem regsOnly_billRates (s : State) (b : Playbill) : RegsOnly s (billRates s b) := .fold _ (fun _ _ => regsOnly_wr ..) _ s
theorem regsOnly_billAfford (s : State) : RegsOnly s (billAfford s) := (RegsOnly.refl s).when _ _ fun _ => regsOnly_event ..
theorem RegsOnly.now {s t : State} (h : RegsOnly s t) : t.now = s.now := by obtain ⟨_, _, rfl⟩ := h; rfl

/-- The settings loaded are register writes; of the modes only the playbill in effect changes. -/
theorem billLoad_regs (s : State) (b : PlaybillReq) :
    ∃ t, RegsOnly s t ∧ billLoad s b = { t with modes := { t.modes with playbill := b.bill, compat := b.compat, applying := none } } := by
  refine ⟨_, ?_, rfl⟩
  refine RegsOnly.trans (RegsOnly.trans ?_ (.fold _ (fun s n => ?_) _ _)) (.fold _ (fun s c => (regsOnly_wr ..).trans (regsOnly_wr ..)) _ _)
  · exact ((((regsOnly_wr ..).trans (regsOnly_wr ..)).trans (regsOnly_wr ..)).trans (regsOnly_wr ..)).trans (regsOnly_wr ..)
  · exact (((regsOnly_wr ..).trans (regsOnly_wr ..)).trans (regsOnly_wr ..)).trans (regsOnly_wr ..)
theorem billLoad_keeps (s : State) (b : PlaybillReq) : (billLoad s b).now = s.now ∧ (billLoad s b).modes.stages = s.modes.stages := by
  obtain ⟨t, ht, he⟩ := billLoad_regs s b
  have hstages : t.modes.stages = s.modes.stages := congrArg ModeState.stages ht.modes
  exact he ▸ ⟨ht.now, hstages⟩

theorem playbillTake_none {s : State} (h : s.modes.applying = none) : playbillTake s = s := by simp only [playbillTake, h]
theorem playbillTake_keeps (s : State) : (playbillTake s).now = s.now ∧ (playbillTake s).modes.stages = s.modes.stages := by
  cases h : s.modes.applying with
  | none => rw [playbillTake_none h]; exact ⟨rfl, rfl⟩
  | some q =>
    obtain ⟨hnow, hstages⟩ := billLoad_keeps s q
    have hrest : RegsOnly (billLoad s q) (playbillTake s) := by
      simp only [playbillTake, h]
      exact (((RegsOnly.refl _).when _ _ fun _ => regsOnly_billRates ..).trans (regsOnly_event ..)).trans (regsOnly_billAfford _)
    exact ⟨hrest.now.trans hnow, (congrArg ModeState.stages hrest.modes).trans hstages⟩

/-- The device cap and its stamp as the recompute at an opening tick writes them, before it divides the cap. -/
def capStamped (s : State) (tick : Nat) : State :=
  let s' := wr (wr s F.LDG_DEV_EFF_EFF_CAP (deviceCap s (usableAt s tick)).1) F.LDG_DEV_EFF_LIMIT (deviceCap s (usableAt s tick)).2
  wr (wr s' F.LDG_DEV_USABLE_USABLE_MJ (satN 32 (ratFloor (usableAt s tick)))) F.LDG_DEV_USABLE_STAMP (tick % 65536)

theorem capStamped_cap (s : State) (tick : Nat) : rd (capStamped s tick) F.LDG_DEV_EFF_EFF_CAP = (deviceCap s (usableAt s tick)).1 % 2 ^ 30 := by
  rw [capStamped, rd_wr_apart _ _ _ _ (by decide) (by decide), rd_wr_apart _ _ _ _ (by decide) (by decide), rd_wr_apart _ _ _ _ (by decide) (by decide)]
  exact rd_wr_self _ _ _ (by decide)
theorem capStamped_stamp (s : State) (tick : Nat) : rd (capStamped s tick) F.LDG_DEV_USABLE_STAMP = tick % 65536 :=
  (rd_wr_self _ _ _ (by decide)).trans (Nat.mod_mod ..)

/-- The state at the opening of the caps' window. -/
def capsOpened (s : State) : State :=
  untilTick { s with timers := mset 0 s.timers timerCaps (nextOpening s timerCaps 33 + 33) } (nextOpening s timerCaps 33)

/-- The state in which the recompute divides the device cap. -/
def capsBase (s : State) : State := capStamped (playbillTake (capsOpened s)) (nextOpening s timerCaps 33)

theorem capsWindow_eq {s : State} (h : mainOn s = true) :
    capsWindow s = foldS (fours.filter (fun n => bound (divideCap (capsBase s)) n)) (fun s n => strikeFollow (capacityFollow (spaceFollow s n true) n) n) (divideCap (capsBase s)) := by
  have hopen : mainOn (capsOpened s) = true := h
  calc capsWindow s = if mainOn (capsOpened s) then _ else capsOpened s := rfl
    _ = _ := if_pos hopen

theorem capsWindow_shares {s : State} (h : mainOn s = true) : SameSources (capsBase s) (capsWindow s) ∧ ∀ n, Shared (capsBase s) (capsWindow s) n := by
  obtain ⟨hsrc, hcaps⟩ := divideCap_shares (capsBase s)
  have hkeep : Keeps (divideCap (capsBase s)) (capsWindow s) := by
    rw [capsWindow_eq h]
    exact (Keeps.refl _).fold _ _ fun _ n _ k => ((k.spaceFollow n true).capacityFollow n).strikeFollow n
  exact ⟨hsrc.trans hkeep.sources, fun n => .of_keeps hkeep (hcaps n)⟩

/-- A share is 0 for a stage that is not Live (R87). -/
theorem stageShare_notLive {s : State} {n : Stage} (h : stageSt s n ≠ .live) : stageShare s n = 0 := if_neg h

/-- Settles O30: only the division writes caps and watermarks, and what follows it keeps them with all they come from. -/
theorem capsAndBudget : Obligations.CapsAndBudget := by
  unfold Obligations.CapsAndBudget
  refine fun s => ⟨fun hon => ⟨_, rfl, ?_⟩, fun n => ⟨_, rfl, ?_⟩⟩
  · have q := quiet_finish (capsWindow s)
    obtain ⟨hsrc, hcaps⟩ := capsWindow_shares hon
    obtain ⟨hnow, hstages⟩ := playbillTake_keeps (capsOpened s)
    have hend := hsrc.trans q.sources
    have hshared : ∀ n, Shared (finish (capsWindow s)) (finish (capsWindow s)) n := fun n => .of_sources hend.symm (.of_quiet q (hcaps n))
    refine ⟨hend.now.trans hnow, ?_, hshared, fun n hn => ?_, fun ha => ?_, hend.stages.trans hstages⟩
    · rw [hend.fields _ (by decide), capsBase, capStamped_stamp]
    · rw [(hshared n).1, stageShare_notLive hn, Nat.zero_mod]
    · rw [hend.fields _ (by decide), capsBase, capStamped_cap, playbillTake_none (s := capsOpened s) ha]
      rfl
  · have q := quiet_finish (window s (timerBudget n.val) 1 (fun s _ => budgetTick s n))
    exact ⟨q.now, q.flash, q.fields, q.ledger, q.dram, q.modes⟩

end Sys2Proof.Machine
end

section
/-! Proofs: what the stage seal's drain, the script store, training, the seal log and the confirmation of firmware leave alone. -/

namespace Sys2Proof.Machine
namespace Keeps

section
variable {s t : State}

/-! More single changes of the state. -/

theorem cipher (h : Keeps s t) (c : Cipher) : Keeps s { t with cipher := c } := ⟨h.now, h.modes, h.image, h.evs, h.gated, h.fields⟩
theorem store (h : Keeps s t) (st : Store) : Keeps s { t with store := st } := ⟨h.now, h.modes, h.image, h.evs, h.gated, h.fields⟩
theorem flash (h : Keeps s t) (x : Flash) : Keeps s { t with flash := x } := ⟨h.now, h.modes, h.image, h.evs, h.gated, h.fields⟩
theorem fw (h : Keeps s t) (x : FwState) : Keeps s { t with fw := x } := ⟨h.now, h.modes, h.image, h.evs, h.gated, h.fields⟩
theorem gauge (h : Keeps s t) (g : Gauge) : Keeps s { t with gauge := g } := ⟨h.now, h.modes, h.image, h.evs, h.gated, h.fields⟩
theorem fresh (h : Keeps s t) : Keeps s (fresh t).2 := ⟨h.now, h.modes, h.image, h.evs, h.gated, h.fields⟩
theorem untrained (h : Keeps s t) (q : Quad Bool) : Keeps s { t with image := { t.image with untrained := q } } := ⟨h.now, h.modes, h.image, h.evs, h.gated, h.fields⟩

/-! The gate of a stage and the drain behind it (R85, R132, R161). -/

theorem writeTouch (h : Keeps s t) (n : Stage) (w : HostWrite) : Keeps s (writeTouch t n w) := by
  unfold Machine.writeTouch
  refine .ite _ (h.tapWrite ..) (.ite _ ?_ (.ite _ (h.holdWrite ..) (((h.touchCount n).holdWrite ..).touchEnqueue ..)))
  exact .ite _ ((h.setRst ..).pmonHit ..) (((h.setRst ..).pmonHit ..).dramRead ..)
theorem frontGo (h : Keeps s t) (n : Stage) : Keeps s (frontGo t n) := by
  unfold Machine.frontGo
  exact h.fold _ _ fun _ w _ k => .ite _ ((k.setLedger ..).writeTouch n w) k
theorem drainBegin (h : Keeps s t) (n : Stage) : Keeps s (drainBegin t n) := by
  unfold Machine.drainBegin
  exact (((((h.setLedger ..).setRst ..).fold _ _ fun _ w _ k => (k.heldTake n w).tapWrite ..).holdEnd n).frontGo n).ledRefresh n
theorem ckptPreempt (h : Keeps s t) (n : Stage) : Keeps s (ckptPreempt t n) := by
  unfold Machine.ckptPreempt
  split
  · exact h
  · unfold Machine.ckptGiveUp Machine.ckptAbandon
    split
    · exact (h.setFset ..).event ..
    · exact h
  · exact .ite _ h ((h.cipher _).setFset ..)
theorem srAbort (h : Keeps s t) (n : Stage) : Keeps s (srAbort t n) := by
  unfold Machine.srAbort
  exact h.fold _ _ fun _ c _ k => k.fold _ _ fun _ _ _ k => .ite _ ((k.setSub ..).incWrap _ _) k
theorem scanStop (h : Keeps s t) (n : Stage) : Keeps s (scanStop t n) := by
  unfold Machine.scanStop
  split
  · exact .ite _ (h.cxl _) h
  · exact h

/-! The ledger cache divided anew (R79). -/

theorem divideWays (h : Keeps s t) : Keeps s (divideWays t) := by
  unfold Machine.divideWays Machine.cacheFit Machine.cacheEvict
  exact h.fold _ _ fun _ n _ k => (k.setLedger ..).fold _ _ fun _ _ _ k => ((k.setLedger ..).pmonHit ..).dramWrite ..

/-! The script store (R549, R556 to R563). -/

theorem dirAppend (h : Keeps s t) (sec kind count : Nat) : Keeps s (dirAppend t sec kind count) := by
  unfold Machine.dirAppend Machine.dirCompact
  exact (Keeps.ite _ h (((h.fresh.store _).whenS _ _ fun _ k => k.event ..).event ..)).store _
theorem eraseWhole (h : Keeps s t) (sec : Nat) : Keeps s (eraseWhole t sec) := by
  unfold Machine.eraseWhole Machine.eraseFinish
  exact .ite _ h ((((h.dirAppend ..).fresh.store _).dirAppend ..).whenS _ _ fun _ k => k.event ..)
theorem eraseSuspend (h : Keeps s t) : Keeps s (eraseSuspend t) := by
  unfold Machine.eraseSuspend Machine.eraseCount
  split
  · exact .ite _ h (((Keeps.ite _ (((h.wr _ _).wr _ _).event ..) ((h.wr _ _).wr _ _)).store _).incSat _ _)
  · exact h
theorem slotProgram (h : Keeps s t) (tag : Nat) (secs used : List Nat) (seq : Nat) (payload : List Word) (later : Option (Nat × Option (Nat × Nat))) :
    Keeps s (slotProgram t tag secs used seq payload later).2 := by
  unfold Machine.slotProgram
  dsimp only
  split
  · cases later with
    | none => exact h.store _
    | some => exact h.store _
  · exact (h.store _).event ..
theorem slotWriteAt (h : Keeps s t) (tag : Nat) (secs : List Nat) (seq : Nat) (payload : List Word) (later : Option (Nat × Option (Nat × Nat))) :
    Keeps s (slotWriteAt t tag secs seq payload later).2 := by
  unfold Machine.slotWriteAt
  dsimp only
  split
  · exact h
  · exact (h.eraseSuspend.fold _ _ fun _ sec _ k => k.eraseWhole sec).slotProgram ..
theorem slotWriteBy (h : Keeps s t) (tag : Nat) (a b : List Nat) (payload : List Word) (later : Option (Nat × Option (Nat × Nat))) :
    Keeps s (slotWriteBy t tag a b payload later).2 := by
  unfold Machine.slotWriteBy
  dsimp only
  split <;> split <;> exact h.slotWriteAt ..
theorem partialDrop (h : Keeps s t) (b : Bool) (a : Nat) : Keeps s (partialDrop t b a) := by
  unfold Machine.partialDrop
  dsimp only
  split
  · exact h.store _
  · exact h
theorem storeFull (h : Keeps s t) (bs : List Byte) : Keeps s (storeFull t bs).2 := by
  unfold Machine.storeFull
  exact (h.fold _ _ fun _ e _ k => k.partialDrop ..).slotWriteAt ..
theorem storePartial (h : Keeps s t) (bs : List Byte) : Keeps s (storePartial t bs).2 := by
  unfold Machine.storePartial
  dsimp only
  split
  · exact h.event ..
  · exact ((h.fold _ _ fun _ e _ k => k.partialDrop ..).fold _ _ fun _ sec _ k => k.eraseWhole sec).slotWriteAt ..

/-! The learned capacity and CHG_EN (R497, R500). -/

theorem slotsFollow (h : Keeps s t) : Keeps s (slotsFollow t) := by
  unfold Machine.slotsFollow
  refine (h.store _).fold _ _ fun u e _ k => ?_
  have k' := (k.store (progWord u.store e.mark e.word)).whenS (e.tag == 0x02) (fun s => Machine.wr s F.GAUGE_STATUS_LEARN_WRITE_PENDING 0) fun _ k => k.wr _ _
  cases hw : e.who with
  | none => exact k'
  | some => exact k'.emit _
theorem learnedPending (h : Keeps s t) : Keeps s (learnedPending t) := by
  unfold Machine.learnedPending Machine.learnedCopy
  exact h.slotsFollow.whenS _ _ fun _ k => (k.slotWriteBy ..).wr _ _
theorem chgFollow (h : Keeps s t) : Keeps s (chgFollow t) := by
  unfold Machine.chgFollow
  exact .ite _ h (((h.wr _ _).emit _).whenS _ _ fun _ k => k.gauge _)

/-! Training of a stage's channels (R358 to R362). -/

theorem cutsReport (h : Keeps s t) (tag code : Nat) : Keeps s (cutsReport t tag code) := by
  unfold Machine.cutsReport
  exact (h.store _).fold _ _ fun _ _ _ k => k.event ..
theorem delaysTake (h : Keeps s t) (chs : List DramCh) (m st : List (Nat × Nat)) : Keeps s (delaysTake t chs m st) := by
  unfold Machine.delaysTake
  exact (h.dram _).fold _ _ fun _ _ _ k => k.emit _
theorem chanTrained (h : Keeps s t) (c : DramCh) (b : Bool) : Keeps s (chanTrained t c b) := by
  unfold Machine.chanTrained
  refine .ite _ (Keeps.event ?_ ..) (Keeps.emit ?_ _)
  all_goals exact ((((((h.setReg _ _).setReg _ _).setReg _ _).setReg _ _).wr _ _).setReg _ _).setChan ..
theorem markUntrained (h : Keeps s t) (cs : List DramCh) : Keeps s (markUntrained t cs) := by
  unfold Machine.markUntrained
  exact h.fold _ _ fun _ _ _ k => k.untrained _
theorem trainSteps (h : Keeps s t) (tr : TrainIn) (v : Nat) (chs : List DramCh) : Keeps s (trainSteps t tr v chs) := by
  unfold Machine.trainSteps
  exact h.fold _ _ fun _ _ _ k => k.fold _ _ fun _ _ _ k => k.emit _
theorem trainPassed (h : Keeps s t) (tr : TrainIn) (v : Nat) (chs : List DramCh) (old : Option Nat) : Keeps s (trainPassed t tr v chs old) := by
  unfold Machine.trainPassed Machine.snapWrite
  exact ((((h.delaysTake ..).fold _ _ fun _ c _ k => k.chanTrained c _).slotWriteAt ..).wr _ _).event ..
theorem snapTry (h : Keeps s t) (tr : TrainIn) (chs : List DramCh) (v : Nat) : Keeps s (snapTry t tr chs v).2 := by
  unfold Machine.snapTry Machine.verifyRuns
  dsimp only
  split
  · exact h
  · split
    · exact h.event ..
    · have k := ((h.wr F.DC_PHY_GLOBAL_SPEED_ACTIVE v).delaysTake chs · ·)
      split
      · exact ((k _ _).fold _ _ fun _ _ _ k => k.fold _ _ fun _ _ _ k => k.emit _).event ..
      · exact (((k _ _).fold _ _ fun _ _ _ k => k.fold _ _ fun _ _ _ k => k.emit _).fold _ _ fun _ c _ k => k.chanTrained c _).event ..
theorem trainStage (h : Keeps s t) (n : Stage) (tr : TrainIn) : Keeps s (trainStage t n tr) := by
  unfold Machine.trainStage
  have k := (h.cutsReport 0x06 0x516).snapTry tr (stageChans (Machine.cutsReport t 0x06 0x516) n) (rd (Machine.cutsReport t 0x06 0x516) F.DC_PHY_GLOBAL_SPEED_ACTIVE)
  dsimp only
  split
  · next he => rw [he] at k; exact k
  · next he =>
    rw [he] at k
    split
    · exact ((k.trainSteps ..).event ..).markUntrained _
    · exact (k.trainSteps ..).trainPassed ..

/-! The flash set's reports and the seal log (R142, R145, R253, R258). -/

theorem blocksFollow (h : Keeps s t) (n : Stage) : Keeps s (blocksFollow t n) := by
  unfold Machine.blocksFollow Machine.wearFollow
  exact (((((h.capacityFollow n).wr _ _).wr _ _).wr _ _).wr _ _).wr _ _
theorem stageRates (h : Keeps s t) (n : Stage) : Keeps s (stageRates t n) := by
  unfold Machine.stageRates
  exact (h.wr _ _).wr _ _
theorem sealProg (h : Keeps s t) (n : Stage) (copy : Nat) (j : SealJob) : Keeps s (sealProg t n copy j) := by
  unfold Machine.sealProg Machine.sysQueue
  exact (h.pmonHit ..).setFset ..
theorem sealStart (h : Keeps s t) (n : Stage) (sub reason gen lastSeq : Nat) (index : List Nat) : Keeps s (sealStart t n sub reason gen lastSeq index) := by
  unfold Machine.sealStart
  exact ((h.setFsys ..).sealProg ..).sealProg ..
theorem openRecord (h : Keeps s t) (n : Stage) (gen why : Nat) : Keeps s (openRecord t n gen why) := by
  unfold Machine.openRecord
  exact ((((h.setFset ..).wr _ _).wr _ _).setRst ..).sealStart ..

/-! The confirmation of firmware (R581, R591). -/

theorem fwRaise (h : Keeps s t) (img : Bool) (target : Nat) : Keeps s (fwRaise t img target) := by
  unfold Machine.fwRaise
  exact .ite _ (h.fw _) h
theorem fwConfirmEntry (h : Keeps s t) (b : Bool) : Keeps s (fwConfirmEntry t b) := by
  unfold Machine.fwConfirmEntry
  split
  · exact h
  · refine .ite _ (h.fw _) ?_
    split
    · exact h.store _
    · exact h
theorem fwConfirm (h : Keeps s t) : Keeps s (fwConfirm t) := by
  unfold Machine.fwConfirm Machine.fwSlotRegs
  exact .ite _ ((h.fw _).fwRaise ..) ((((((((h.fw _).fwConfirmEntry _).wr _ _).wr _ _).event ..).setReg _ _).setReg _ _).fwRaise ..)
theorem fwConfirmTry (h : Keeps s t) : Keeps s (fwConfirmTry t) := .ite _ h.fwConfirm h

end
end Keeps
end Sys2Proof.Machine
end

section
/-! Proofs: loads of containers through the registers, and the checks of a staged container (R521, R522, R540). -/

namespace Sys2Proof.Machine

/-! Parts of the image state over what leaves it. -/

namespace Still
variable {s t : State} (h : Still s t)
include h
theorem imageLoading : t.image.loading = s.image.loading := (congrArg ImageState.loading h.image :)
theorem imageStaged : t.image.staged = s.image.staged := (congrArg ImageState.staged h.image :)
theorem imageSections : t.image.sections = s.image.sections := (congrArg ImageState.sections h.image :)
theorem imageRequest : t.image.request = s.image.request := (congrArg ImageState.request h.image :)
theorem imageDressStart : t.image.dressStart = s.image.dressStart := (congrArg ImageState.dressStart h.image :)
end Still

namespace Keeps
variable {s t : State} (h : Keeps s t)
include h
theorem imageStaged : t.image.staged = s.image.staged := (congrArg ImageState.staged h.image :)
theorem imageSections : t.image.sections = s.image.sections := (congrArg ImageState.sections h.image :)
theorem imageRequest : t.image.request = s.image.request := (congrArg ImageState.request h.image :)
theorem imageDressStart : t.image.dressStart = s.image.dressStart := (congrArg ImageState.dressStart h.image :)
end Keeps

theorem still_finish (s : State) : Still s (finish s) := (quiet_finish s).still
theorem still_finish_pathKeeps (x : State) (p : Path) (i : Nat) : Still x (finish (pathKeeps x p i)) := (still_pathKeeps x p i).trans (still_finish _)

/-! Registers of the container (R540). -/

theorem regsOnly_stagedRegs (s : State) : RegsOnly s (stagedRegs s) := ((regsOnly_wr ..).trans (regsOnly_wr ..)).trans (regsOnly_wr ..)
theorem regsOnly_containerReject (s : State) (reason idx path : Nat) : RegsOnly s (containerReject s reason idx path) := by
  unfold containerReject
  exact (RegsOnly.ite _ ((regsOnly_wr ..).trans (regsOnly_wr ..)) (regsOnly_wr ..)).trans (regsOnly_event ..)

theorem mem_containerReject (s : State) (reason idx path : Nat) : (⟨0xA02, 2, 0, reason + idx % 16 * 16⟩ : Ev) ∈ (containerReject s reason idx path).evs :=
  List.mem_append_right _ (List.mem_singleton.mpr rfl)
theorem rd_containerReject (s : State) (reason idx path : Nat) : rd (containerReject s reason idx path) F.IMG_STATUS_LAST_REJECT = reason % 16 := by
  unfold containerReject
  dsimp only
  rw [rd_event]
  split
  · rw [rd_wr_apart _ _ _ _ (by decide) (by decide)]
    exact rd_wr_self _ _ _ (by decide)
  · exact rd_wr_self _ _ _ (by decide)

/-- What stands of a state in which a staged container is discarded: the register file, the events and the container alone change. -/
theorem stagedTaken_regs (s : State) : RegsOnly { s with image := { s.image with staged := none } } (stagedTaken s) := regsOnly_stagedRegs _

/-! The commands of IMG_LOAD (R540). -/

section
variable {s : State} (hon : mainOff s = false)
include hon

/-- While the main domain is on every register commits. -/
theorem served_of_on (i : Nat) : (mainOff s && regDomain i = .main) = false := by rw [hon, Bool.false_and]

/-- What a command of IMG_LOAD_CTRL leaves, given what its bit starts in the state the write has reached. -/
theorem answers_imgLoadCtrl {c : Instr} {p : Path} {f : Fld} {act : State → State} {post : State → State → Prop} (hi : f.idx = 0x4084)
    (hc : exec c s = done (regField s p f 1)) (ht : ∀ x pin, trigger x 0x4084 (oneField f 1) pin = act x) (hp : pathWrites s p 0x4084 = true)
    (h : ∀ m, RegsOnly s m → post (pathKeeps (act m) p 0x4084) (finish (pathKeeps (act m) p 0x4084))) : Answers c s post := by
  have hmask : accessMask f.idx (fun a => a == .rw || a == .rs || a == .rwk) = 0#48 := by rw [hi]; decide +kernel
  rw [regField_alone s p f 1 hmask, hi] at hc
  refine answers_of_write hc hp (fun _ => rfl) (served_of_on hon _) ?_
  rw [ht]
  exact h _ (regsOnly_committed s p _ rfl)

end

theorem RegsOnly.withImage {s t : State} (h : RegsOnly s t) (f : ImageState → ImageState) : RegsOnly { s with image := f s.image } { t with image := f t.image } := by
  obtain ⟨r, e, rfl⟩ := h
  exact ⟨r, e, rfl⟩

/-- A load that starts: no container is staged any more, and the load has no byte yet. -/
theorem imgLoadStart_regs (m : State) : RegsOnly { m with image := { m.image with loading := some (0, []), staged := none } } (imgLoadStart m) := by
  refine RegsOnly.trans ?_ ((regsOnly_wr _ F.IMG_LOAD_CTRL_WORDS 0).trans (regsOnly_wr _ F.IMG_LOAD_CTRL_BUSY 0))
  have hdrop : RegsOnly { m with image := { m.image with staged := none } } (stagedDrop m 1) := by
    unfold stagedDrop
    split
    · next h =>
      have hsame : { m.image with staged := none } = m.image := by rw [← h]
      rw [hsame]
      exact .refl m
    · exact (regsOnly_event ..).trans (regsOnly_stagedRegs _)
  exact hdrop.withImage fun x => { x with loading := some (0, []) }
theorem imgLoadStart_event {m : State} (h : m.image.staged ≠ none) : (⟨0xA04, 1, 0, 1⟩ : Ev) ∈ (imgLoadStart m).evs := by
  obtain ⟨g, hg⟩ := Option.ne_none_iff_exists'.mp h
  have hdrop : (⟨0xA04, 1, 0, 1⟩ : Ev) ∈ (stagedDrop m 1).evs := by
    simp only [stagedDrop, hg]
    exact (regsOnly_stagedRegs _).evs (List.mem_append_right _ (List.mem_singleton.mpr rfl))
  exact hdrop
theorem imgLoadStart_fields (m : State) : rd (imgLoadStart m) F.IMG_LOAD_CTRL_WORDS = 0 ∧ rd (imgLoadStart m) F.IMG_LOAD_CTRL_BUSY = 0 := by
  constructor
  · exact (rd_wr_apart _ _ _ _ (by decide) (by decide)).trans (rd_wr_self _ _ _ (by decide))
  · exact rd_wr_self _ _ _ (by decide)

theorem imgLoadEnd_regs {m : State} {bs : List Byte} (h : m.image.loading = some (0, bs)) :
    RegsOnly { m with image := { m.image with loading := none, staged := some ⟨bs, 0, none⟩ } } (imgLoadEnd m) := by
  simp only [imgLoadEnd, h]
  exact ((RegsOnly.refl _).when _ _ fun _ => regsOnly_wr ..).trans (regsOnly_stagedRegs _)
theorem imgLoadEnd_busy {m : State} {bs : List Byte} (h : m.image.loading = some (0, bs)) : rd (imgLoadEnd m) F.IMG_LOAD_CTRL_BUSY = 1 := by
  simp only [imgLoadEnd, h, imgStage, stagedRegs]
  rw [rd_wr_apart _ _ _ _ (by decide) (by decide), rd_wr_apart _ _ _ _ (by decide) (by decide), rd_wr_apart _ _ _ _ (by decide) (by decide)]
  exact rd_wr_self _ _ _ (by decide)

/-- An abort of the registers' own load ends it as a container rejected for reason 10. -/
theorem imgAbort_eq {m : State} {bs : List Byte} (h : m.image.loading = some (0, bs)) :
    imgAbort m 0 = containerReject { m with image := { m.image with loading := none } } 10 0 0 := by
  simp only [imgAbort, h, if_true]
theorem rd_abort_result (x : State) : rd (containerReject x 10 0 0) F.IMG_LOAD_CTRL_RESULT = 10 := by
  simp only [containerReject, if_true, rd_event]
  exact rd_wr_self _ _ _ (by decide)

section
variable {s : State} {p : Path} (hp : pathWrites s p 0x4084 = true) (hon : mainOff s = false)
include hp hon

theorem imgLoadStart_answers : Answers (.imgLoadStart p) s (fun u t => t.image.loading = some (0, []) ∧ t.image.staged = none ∧ rd t F.IMG_LOAD_CTRL_WORDS = 0
    ∧ rd t F.IMG_LOAD_CTRL_BUSY = 0 ∧ (s.image.staged ≠ none → (⟨0xA04, 1, 0, 1⟩ : Ev) ∈ u.evs) ∧ t.modes = s.modes ∧ t.store = s.store) := by
  refine answers_imgLoadCtrl hon rfl rfl (fun _ _ => rfl) hp (act := imgLoadStart) fun m hm => ?_
  have hs := still_finish_pathKeeps (imgLoadStart m) p 0x4084
  have hr := imgLoadStart_regs m
  obtain ⟨hwords, hbusy⟩ := imgLoadStart_fields m
  refine ⟨?_, ?_, ?_, ?_, fun hst => ?_, ?_, ?_⟩
  · rw [hs.imageLoading, hr.image]
  · rw [hs.imageStaged, hr.image]
  · rw [rd_finish_pathKeeps _ _ _ (by decide +kernel), hwords]
  · rw [rd_finish_pathKeeps _ _ _ (by decide +kernel), hbusy]
  · rw [evs_pathKeeps]
    exact imgLoadStart_event (hm.image ▸ hst)
  · exact hs.modes.trans (hr.modes.trans hm.modes)
  · exact hs.store.trans (hr.store.trans hm.store)

theorem imgLoadEnd_answers {bs : List Byte} (hl : s.image.loading = some (0, bs)) : Answers (.imgLoadEnd p) s (fun _ t => t.image.loading = none
    ∧ t.image.staged = some ⟨bs, 0, none⟩ ∧ rd t F.IMG_LOAD_CTRL_BUSY = 1 ∧ t.modes = s.modes ∧ t.store = s.store) := by
  refine answers_imgLoadCtrl hon rfl rfl (fun _ _ => rfl) hp (act := imgLoadEnd) fun m hm => ?_
  have hl' : m.image.loading = some (0, bs) := by rw [hm.image, hl]
  have hs := still_finish_pathKeeps (imgLoadEnd m) p 0x4084
  have hr := imgLoadEnd_regs hl'
  refine ⟨?_, ?_, ?_, hs.modes.trans (hr.modes.trans hm.modes), hs.store.trans (hr.store.trans hm.store)⟩
  · rw [hs.imageLoading, hr.image]
  · rw [hs.imageStaged, hr.image]
  · rw [rd_finish_pathKeeps _ _ _ (by decide +kernel), imgLoadEnd_busy hl']

theorem imgLoadAbort_answers {bs : List Byte} (hl : s.image.loading = some (0, bs)) : Answers (.imgLoadAbort p) s (fun u t => t.image.loading = none
    ∧ t.image.staged = s.image.staged ∧ rd t F.IMG_LOAD_CTRL_RESULT = 10 ∧ rd t F.IMG_STATUS_LAST_REJECT = 10 ∧ (⟨0xA02, 2, 0, 10⟩ : Ev) ∈ u.evs ∧ t.modes = s.modes) := by
  refine answers_imgLoadCtrl hon rfl rfl (fun _ _ => rfl) hp (act := fun m => imgAbort m 0) fun m hm => ?_
  rw [imgAbort_eq (by rw [hm.image, hl])]
  have hs := still_finish_pathKeeps (containerReject { m with image := { m.image with loading := none } } 10 0 0) p 0x4084
  have hr := regsOnly_containerReject { m with image := { m.image with loading := none } } 10 0 0
  refine ⟨?_, ?_, ?_, ?_, ?_, hs.modes.trans (hr.modes.trans hm.modes)⟩
  · rw [hs.imageLoading, hr.image]
  · rw [hs.imageStaged, hr.image, ← hm.image]
  · rw [rd_finish_pathKeeps _ _ _ (by decide +kernel), rd_abort_result]
  · rw [rd_finish_pathKeeps _ _ _ (by decide +kernel), rd_containerReject]
  · rw [evs_pathKeeps]
    exact mem_containerReject ..
end

theorem imgLoadData_answers {s : State} {p : Path} {w : Word} {bs : List Byte} (hp : pathWrites s p 0x4085 = true) (hon : mainOff s = false) (hl : s.image.loading = some (0, bs)) :
    Answers (.imgLoadData p w) s (fun _ t => t.image.loading = some (0, bs ++ wordBytes w) ∧ rd t F.IMG_LOAD_CTRL_WORDS = min (rd s F.IMG_LOAD_CTRL_WORDS + 1) (2 ^ 18 - 1)
      ∧ t.image.staged = s.image.staged ∧ t.modes = s.modes ∧ t.store = s.store) := by
  refine answers_of_write (i := 0x4085) (w := w) rfl hp (fun _ => rfl) (served_of_on hon _) ?_
  have hm : RegsOnly s (committed s p 0x4085 w) := regsOnly_committed s p _ rfl
  have hwords : rd (committed s p 0x4085 w) F.IMG_LOAD_CTRL_WORDS = rd s F.IMG_LOAD_CTRL_WORDS := rd_committed_other _ (served_of_on hon _) (by decide +kernel) (by decide) (by decide)
  generalize committed s p 0x4085 w = m at hm hwords
  have ht : trigger m 0x4085 w s.fw.recoveryLow = incSat { m with image := { m.image with loading := some (0, bs ++ wordBytes w) } } F.IMG_LOAD_CTRL_WORDS 1 := by
    have hl' : m.image.loading = some (0, bs) := by rw [hm.image, hl]
    calc _ = imgLoadData m w := rfl
      _ = _ := by simp only [imgLoadData, hl']
  rw [ht]
  have hs := still_finish_pathKeeps (incSat { m with image := { m.image with loading := some (0, bs ++ wordBytes w) } } F.IMG_LOAD_CTRL_WORDS 1) p 0x4085
  refine ⟨hs.imageLoading, ?_, ?_, hs.modes.trans hm.modes, hs.store.trans hm.store⟩
  · rw [rd_finish_pathKeeps _ _ _ (by decide +kernel), ← hwords]
    refine (rd_wr_self _ _ _ (by decide)).trans (Nat.mod_eq_of_lt ?_)
    exact lt_of_le_of_lt (Nat.min_le_right ..) (by decide)
  · rw [hs.imageStaged, ← hm.image]
    rfl

end Sys2Proof.Machine
end

section
/-! Proofs: the end of the checks of a staged container (R521, R522, R531). -/

namespace Sys2Proof.Machine

/-- The registers as the end of the checks first sets them: the alert, and the load's busy bit and result where the load came through the registers. -/
def checkShown (s : State) (path reason : Nat) : State :=
  if path = 0 then wr (wr (alert s 7) F.IMG_LOAD_CTRL_BUSY 0) F.IMG_LOAD_CTRL_RESULT reason else alert s 7
theorem regsOnly_checkShown (s : State) (path reason : Nat) : RegsOnly s (checkShown s path reason) :=
  .ite _ (((regsOnly_wr ..).trans (regsOnly_wr ..)).trans (regsOnly_wr ..)) (regsOnly_wr ..)

/-- A rejected container is discarded; its sections' chapters and the image report it. -/
def rejected (s : State) (reason idx path : Nat) (evs : List (Nat × Nat)) : State :=
  containerReject (stagedTaken (foldS evs (fun s e => event s e.1 2 0 e.2) (checkShown s path reason))) reason idx path

/-- The state with the staged container's checks ended well. -/
def markedOk (s : State) (g : Staged) : State :=
  { checkShown s g.path 0 with image := { (checkShown s g.path 0).image with staged := some { g with result := some 0 } } }
/-- An accepted container as it stands staged, before it is stored or waits for a re-dress. -/
def accepted (s : State) (g : Staged) : State :=
  let t := wr (stagedRegs (event (markedOk s g) 0xA03 0 0 (b2n (cHead g.bytes).partial_ + (cHead g.bytes).svn % 128 * 2))) F.IMG_STATUS_LAST_REJECT 0
  whenS t.modes.recovery (fun s => event s 0x71C 0 0 1) t
/-- What is left once an accepted container has been written to its place: it is staged no more, and is rejected for reason 9 where the writing failed. -/
def storedEnd (path : Nat) (r : Bool × State) : State := if r.1 then stagedTaken r.2 else containerReject (stagedTaken r.2) 9 0 path

section
variable {s : State} {g : Staged} {reason idx : Nat} {evs : List (Nat × Nat)} (hg : s.image.staged = some g) (hr : g.result = none)
  (hc : containerCheck s (imageBase s) g.bytes = (reason, idx, evs))
include hg hr hc

theorem containerDone_rejected (h : reason ≠ 0) : containerDone s = rejected s reason idx g.path evs := by
  simp only [containerDone, hg, hr, hc, Option.isSome_none, Bool.false_eq_true, if_false, if_pos h]
  rfl
theorem containerDone_waits (h : reason = 0) (hp : (cHead g.bytes).partial_ = true) (hn : fours.any (fun n => onlyStage (accepted s g) n g.bytes) = true) :
    containerDone s = accepted s g := by
  subst h
  simp only [containerDone, hg, hr, hc, Option.isSome_none, Bool.false_eq_true, if_false, ne_eq, not_true_eq_false]
  refine if_neg ?_
  have hn' : (!(cHead g.bytes).partial_ || !fours.any (fun n => onlyStage (accepted s g) n g.bytes)) ≠ true := by rw [hp, hn]; decide
  exact hn'
theorem containerDone_stores (h : reason = 0) (hs : (!(cHead g.bytes).partial_ || !fours.any (fun n => onlyStage (accepted s g) n g.bytes)) = true) :
    containerDone s = storedEnd g.path (if (cHead g.bytes).partial_ then storePartial (accepted s g) g.bytes else storeFull (accepted s g) g.bytes) := by
  subst h
  simp only [containerDone, hg, hr, hc, Option.isSome_none, Bool.false_eq_true, if_false, ne_eq, not_true_eq_false]
  exact if_pos hs
end

/-! A rejected container. -/

theorem rejected_regs (s : State) (reason idx path : Nat) (evs : List (Nat × Nat)) :
    RegsOnly { s with image := { s.image with staged := none } } (rejected s reason idx path evs) := by
  have hshown : RegsOnly s (foldS evs (fun s e => event s e.1 2 0 e.2) (checkShown s path reason)) :=
    (regsOnly_checkShown ..).trans (.fold _ (fun _ _ => regsOnly_event ..) _ _)
  exact ((hshown.withImage fun x => { x with staged := none }).trans (stagedTaken_regs _)).trans (regsOnly_containerReject ..)

/-! An accepted container. -/

theorem accepted_regs (s : State) (g : Staged) : RegsOnly { s with image := { s.image with staged := some { g with result := some 0 } } } (accepted s g) := by
  have hmark : RegsOnly { s with image := { s.image with staged := some { g with result := some 0 } } } (markedOk s g) :=
    (regsOnly_checkShown s g.path 0).withImage fun x => { x with staged := some { g with result := some 0 } }
  exact hmark.trans ((((regsOnly_event ..).trans (regsOnly_stagedRegs _)).trans (regsOnly_wr ..)).when _ _ fun _ => regsOnly_event ..)
theorem mem_accepted (s : State) (g : Staged) : (⟨0xA03, 0, 0, b2n (cHead g.bytes).partial_ + (cHead g.bytes).svn % 128 * 2⟩ : Ev) ∈ (accepted s g).evs := by
  have hrest : RegsOnly (event (markedOk s g) 0xA03 0 0 (b2n (cHead g.bytes).partial_ + (cHead g.bytes).svn % 128 * 2)) (accepted s g) :=
    ((regsOnly_stagedRegs _).trans (regsOnly_wr ..)).when _ _ fun _ => regsOnly_event ..
  exact hrest.evs (List.mem_append_right _ (List.mem_singleton.mpr rfl))
theorem rd_whenEvent (c : Bool) (s : State) (a b d e : Nat) (f : Fld) : rd (whenS c (fun s => event s a b d e) s) f = rd s f := by
  unfold whenS
  split <;> rfl
theorem rd_accepted_reject (s : State) (g : Staged) : rd (accepted s g) F.IMG_STATUS_LAST_REJECT = 0 := by
  rw [accepted, rd_whenEvent]
  exact rd_wr_self _ _ _ (by decide)
theorem rd_accepted_ok (s : State) (g : Staged) : rd (accepted s g) F.IMG_STATUS_STAGED_OK = 1 := by
  rw [accepted, rd_whenEvent, rd_wr_apart _ _ _ _ (by decide) (by decide), stagedRegs, rd_wr_apart _ _ _ _ (by decide) (by decide)]
  exact rd_wr_self _ _ _ (by decide)
/-- Fields that the end of good checks writes. -/
def acceptedFields : List Fld :=
  [F.SB_ALERT_STATUS_SOURCES, F.IMG_LOAD_CTRL_BUSY, F.IMG_LOAD_CTRL_RESULT, F.IMG_STATUS_STAGED, F.IMG_STATUS_STAGED_OK, F.IMG_SVN_STAGED_SVN, F.IMG_STATUS_LAST_REJECT]
/-- Other fields stand. -/
theorem rd_accepted_other (s : State) (g : Staged) {f : Fld} (hf : f.lo + f.width ≤ 48) (h : ∀ x ∈ acceptedFields, apart x f = true) : rd (accepted s g) f = rd s f := by
  simp only [acceptedFields, List.forall_mem_cons, List.not_mem_nil, false_implies, implies_true, and_true] at h
  obtain ⟨halert, hbusy, hresult, hstaged, hok, hsvn, hreject⟩ := h
  have hshown : rd (checkShown s g.path 0) f = rd s f := by
    unfold checkShown
    split
    · rw [rd_wr_apart _ _ _ _ hf hresult, rd_wr_apart _ _ _ _ hf hbusy, alert, rd_wr_apart _ _ _ _ hf halert]
    · rw [alert, rd_wr_apart _ _ _ _ hf halert]
  rw [accepted, rd_whenEvent, rd_wr_apart _ _ _ _ hf hreject, stagedRegs, rd_wr_apart _ _ _ _ hf hsvn, rd_wr_apart _ _ _ _ hf hok, rd_wr_apart _ _ _ _ hf hstaged]
  exact hshown
theorem onlyStage_accepted (s : State) (g : Staged) (n : Stage) (bs : List Byte) : onlyStage (accepted s g) n bs = onlyStage s n bs := by
  have hb : ∀ m : Stage, rd (accepted s g) (F.STAGE_BIND_BOUND m.val) = rd s (F.STAGE_BIND_BOUND m.val) := fun m =>
    rd_accepted_other s g (by clear * -; decide +revert) (by clear * -; decide +revert)
  have hm : ∀ m : Stage, rd (accepted s g) (F.STAGE_BIND_MP_ID m.val) = rd s (F.STAGE_BIND_MP_ID m.val) := fun m =>
    rd_accepted_other s g (by clear * -; decide +revert) (by clear * -; decide +revert)
  simp only [onlyStage, rdb, hb, hm]

/-! The container in its place. -/

/-- The writing of an accepted container keeps what the store's operations keep. -/
theorem keeps_place (s : State) (c : Bool) (bs : List Byte) : Keeps s (if c then storePartial s bs else storeFull s bs).2 := by
  cases c with
  | true => exact (Keeps.refl s).storePartial bs
  | false => exact (Keeps.refl s).storeFull bs
theorem storedEnd_regs (path : Nat) (r : Bool × State) : RegsOnly { r.2 with image := { r.2.image with staged := none } } (storedEnd path r) :=
  .ite _ (stagedTaken_regs _) ((stagedTaken_regs _).trans (regsOnly_containerReject ..))
theorem rd_storedEnd_staged (path : Nat) (r : Bool × State) : rd (storedEnd path r) F.IMG_STATUS_STAGED = 0 := by
  have htaken : rd (stagedTaken r.2) F.IMG_STATUS_STAGED = 0 := by
    rw [stagedTaken, stagedRegs, rd_wr_apart _ _ _ _ (by decide) (by decide), rd_wr_apart _ _ _ _ (by decide) (by decide)]
    exact rd_wr_self _ _ _ (by decide)
  rw [storedEnd]
  split
  · exact htaken
  · rw [containerReject, rd_event]
    split
    · rw [rd_wr_apart _ _ _ _ (by decide) (by decide), rd_wr_apart _ _ _ _ (by decide) (by decide), htaken]
    · rw [rd_wr_apart _ _ _ _ (by decide) (by decide), htaken]

/-- The clause of O59 about CONTAINER_CHECK_DONE. -/
theorem containerCheckDone_answers {s : State} {g : Staged} {reason idx : Nat} {evs : List (Nat × Nat)} (hg : s.image.staged = some g) (hr : g.result = none)
    (hc : containerCheck s (imageBase s) g.bytes = (reason, idx, evs)) :
    Answers .containerCheckDone s (fun u t => t.image.sections = s.image.sections ∧ t.modes = s.modes ∧
      (if reason ≠ 0 then t.image.staged = none ∧ rd t F.IMG_STATUS_LAST_REJECT = reason % 16 ∧ (⟨0xA02, 2, 0, reason + idx % 16 * 16⟩ : Ev) ∈ u.evs ∧ t.store = s.store
       else if (cHead g.bytes).partial_ = true ∧ fours.any (fun n => onlyStage s n g.bytes) = true then t.image.staged = some { g with result := some 0 } ∧ rd t F.IMG_STATUS_LAST_REJECT = 0
         ∧ rd t F.IMG_STATUS_STAGED_OK = 1 ∧ (⟨0xA03, 0, 0, 1 + (cHead g.bytes).svn % 128 * 2⟩ : Ev) ∈ u.evs ∧ t.store = s.store
       else (cHead g.bytes).partial_ = false → t.image.staged = none ∧ rd t F.IMG_STATUS_STAGED = 0 ∧ (⟨0xA03, 0, 0, (cHead g.bytes).svn % 128 * 2⟩ : Ev) ∈ u.evs)) := by
  refine ⟨containerDone s, rfl, ?_⟩
  beta_reduce
  have q := quiet_finish (containerDone s)
  have hs := q.still
  have ha := accepted_regs s g
  by_cases h0 : reason ≠ 0
  · rw [containerDone_rejected hg hr hc h0] at q hs ⊢
    have hrej := rejected_regs s reason idx g.path evs
    rw [if_pos h0]
    refine ⟨?_, hs.modes.trans hrej.modes, ?_, ?_, mem_containerReject .., hs.store.trans hrej.store⟩
    · rw [hs.imageSections, hrej.image]
    · rw [hs.imageStaged, hrej.image]
    · rw [q.fields _ (by decide +kernel), rejected, rd_containerReject]
  rw [if_neg h0]
  have h0 : reason = 0 := not_not.mp h0
  have hany : fours.any (fun n => onlyStage (accepted s g) n g.bytes) = fours.any (fun n => onlyStage s n g.bytes) := by simp only [onlyStage_accepted]
  by_cases hw : (cHead g.bytes).partial_ = true ∧ fours.any (fun n => onlyStage s n g.bytes) = true
  · obtain ⟨hp, hn⟩ := hw
    rw [containerDone_waits hg hr hc h0 hp (hany.trans hn)] at q hs ⊢
    rw [if_pos ⟨hp, hn⟩]
    refine ⟨?_, hs.modes.trans ha.modes, ?_, ?_, ?_, ?_, hs.store.trans ha.store⟩
    · rw [hs.imageSections, ha.image]
    · rw [hs.imageStaged, ha.image]
    · rw [q.fields _ (by decide +kernel), rd_accepted_reject]
    · rw [q.fields _ (by decide +kernel), rd_accepted_ok]
    · simpa only [hp, b2n, if_true] using mem_accepted s g
  · have hst : (!(cHead g.bytes).partial_ || !fours.any (fun n => onlyStage (accepted s g) n g.bytes)) = true := by
      rw [hany, ← Bool.not_and, Bool.not_eq_true', ← Bool.not_eq_true, Bool.and_eq_true]
      exact hw
    rw [containerDone_stores hg hr hc h0 hst] at q hs ⊢
    rw [if_neg hw]
    have hk := keeps_place (accepted s g) (cHead g.bytes).partial_ g.bytes
    generalize (if (cHead g.bytes).partial_ then storePartial (accepted s g) g.bytes else storeFull (accepted s g) g.bytes) = r at hk q hs ⊢
    have he := storedEnd_regs g.path r
    refine ⟨?_, hs.modes.trans (he.modes.trans (hk.modes.trans ha.modes)), fun hp => ⟨?_, ?_, ?_⟩⟩
    · rw [hs.imageSections, he.image]
      exact hk.imageSections.trans (by rw [ha.image])
    · rw [hs.imageStaged, he.image]
    · rw [q.fields _ (by decide +kernel), rd_storedEnd_staged]
    · refine he.evs (hk.evs ?_)
      simpa only [hp, b2n, Bool.false_eq_true, if_false, Nat.zero_add] using mem_accepted s g

end Sys2Proof.Machine
end

section
/-! Proofs: a stage's transitions, its seal by itself and its unbinding, requested through STAGE_CTRL (R43, R48, R85, R511, R512, R531, R532). -/

namespace Sys2Proof.Machine

/-! States with the same image; events are added at most. -/

/-- The image stands and no logged event is lost. -/
structure SameImage (s t : State) : Prop where
  image : t.image = s.image
  evs : s.evs ⊆ t.evs

namespace SameImage

theorem refl (s : State) : SameImage s s := ⟨rfl, List.Subset.refl _⟩
theorem trans {s t u : State} (h : SameImage s t) (k : SameImage t u) : SameImage s u := ⟨k.image.trans h.image, List.Subset.trans h.evs k.evs⟩
theorem of_regs {s t : State} (h : RegsOnly s t) : SameImage s t := ⟨h.image, h.evs⟩
theorem ite {s a b : State} (c : Prop) [Decidable c] (ha : SameImage s a) (hb : SameImage s b) : SameImage s (if c then a else b) := by
  split
  · exact ha
  · exact hb
theorem fold {α : Type} (f : State → α → State) (h : ∀ s a, SameImage s (f s a)) (xs : List α) (s : State) : SameImage s (foldS xs f s) := by
  unfold foldS
  induction xs generalizing s with
  | nil => exact .refl s
  | cons x xs ih => exact (h s x).trans (ih (f s x))

end SameImage

/-! A stage state transition (R43, R48, R72). -/

/-- `t` is `s` with another register file, with events added and with other ledger engines. -/
def LedgerRegs (s t : State) : Prop := ∃ r e l, t = { s with regs := r, evs := s.evs ++ e, ledger := l }

namespace LedgerRegs
variable {s t : State}

theorem of_regs (h : RegsOnly s t) : LedgerRegs s t := by
  obtain ⟨r, e, rfl⟩ := h
  exact ⟨r, e, s.ledger, rfl⟩
theorem refl (s : State) : LedgerRegs s s := of_regs (.refl s)
theorem trans {u : State} (h : LedgerRegs s t) (k : LedgerRegs t u) : LedgerRegs s u := by
  obtain ⟨r, e, l, rfl⟩ := h
  obtain ⟨r', e', l', rfl⟩ := k
  exact ⟨r', e ++ e', l', by simp⟩
theorem setLedger (s : State) (n : Stage) (l : LedgerState) : LedgerRegs s (setLedger s n l) := ⟨s.regs, [], _, by rw [List.append_nil]; rfl⟩
theorem modes (h : LedgerRegs s t) : t.modes = s.modes := by obtain ⟨_, _, _, rfl⟩ := h; rfl
theorem restore (h : LedgerRegs s t) : t.restore = s.restore := by obtain ⟨_, _, _, rfl⟩ := h; rfl
theorem sameImage (h : LedgerRegs s t) : SameImage s t := by obtain ⟨_, _, _, rfl⟩ := h; exact ⟨rfl, List.subset_append_left ..⟩

end LedgerRegs

theorem regsOnly_countsZero (s : State) (n : Stage) : RegsOnly s (countsZero s n) := (((regsOnly_wr ..).trans (regsOnly_wr ..)).trans (regsOnly_wr ..)).trans (regsOnly_wr ..)
/-- A stage that stops being Live changes registers, events and its ledger engine. -/
theorem ledgerRegs_leaveLive (s : State) (n : Stage) : LedgerRegs s (leaveLive s n) :=
  (LedgerRegs.of_regs ((((((((regsOnly_wr ..).trans (regsOnly_wr ..)).trans (regsOnly_wr ..)).trans (regsOnly_wr ..)).when _ _ fun _ => regsOnly_event ..).trans
    (regsOnly_wr ..)).trans (regsOnly_wr ..)).trans (regsOnly_wr ..))).trans (.setLedger ..)

theorem putStage_stageSt (s : State) (n : Stage) : putStage s n (stageSt s n) = s := by
  have hsame : qset s.modes.stages n (stageSt s n) = s.modes.stages := by
    unfold stageSt qget qset
    fin_cases n <;> rfl
  rw [putStage, hsame]
theorem ledgerRegs_stageTo (s : State) (n : Stage) (t : StageState) : LedgerRegs (putStage s n t) (stageTo s n t) := by
  by_cases h : stageSt s n = t
  · subst h
    rw [putStage_stageSt, stageTo, if_pos rfl]
    exact .refl s
  · have hput : LedgerRegs (putStage s n t) (whenS (t == .dressing) (fun s => countsZero s n)
        (setLedger (event (putStage s n t) 0x002 0 n.val (stageCode (stageSt s n) + 8 * stageCode t)) n
          { led (event (putStage s n t) 0x002 0 n.val (stageCode (stageSt s n) + 8 * stageCode t)) n with notLiveLogged := false })) :=
      ((LedgerRegs.of_regs (regsOnly_event ..)).trans (.setLedger ..)).trans (.of_regs ((RegsOnly.refl _).when _ _ fun s => regsOnly_countsZero s n))
    simp only [stageTo, h, if_false]
    split
    · exact hput.trans (ledgerRegs_leaveLive ..)
    · exact hput

theorem stageSt_stageTo (s : State) (n : Stage) (t : StageState) : stageSt (stageTo s n t) n = t := by
  rw [stageSt, (ledgerRegs_stageTo s n t).modes]
  simp [putStage]
theorem restore_stageTo (s : State) (n : Stage) (t : StageState) : (stageTo s n t).restore = s.restore := (ledgerRegs_stageTo s n t).restore
theorem sameImage_putStage (s : State) (n : Stage) (t : StageState) : SameImage s (putStage s n t) := ⟨rfl, List.Subset.refl _⟩
theorem sameImage_stageTo (s : State) (n : Stage) (t : StageState) : SameImage s (stageTo s n t) :=
  (sameImage_putStage s n t).trans (ledgerRegs_stageTo s n t).sameImage

/-! What follows the stage states (R40, R497, R500), and a request's end. -/

theorem stages_modeFollow (s : State) (c : Nat) : (modeFollow s c).modes.stages = s.modes.stages := by
  unfold modeFollow modeTo
  split
  iterate 3 rfl
  split <;> rfl
theorem sameImage_modeFollow (s : State) (c : Nat) : SameImage s (modeFollow s c) := by
  unfold modeFollow modeTo
  split
  iterate 3 exact .refl s
  split
  · exact .refl s
  · exact ⟨rfl, List.subset_append_left ..⟩
/-- Only the device mode, CHG_EN and a learned copy follow the stage states. -/
theorem follow_leaves (s : State) (c : Nat) : (follow s c).modes.stages = s.modes.stages ∧ (follow s c).image.request = s.image.request ∧ s.evs ⊆ (follow s c).evs := by
  unfold follow
  dsimp only
  split
  · exact ⟨rfl, rfl, List.Subset.refl _⟩
  · have hm := sameImage_modeFollow s c
    have hk : Keeps (modeFollow s c) (chgFollow (whenS ((modeFollow s c).modes.mode = .service) learnedPending (modeFollow s c))) :=
      ((Keeps.refl _).whenS _ _ fun _ k => k.learnedPending).chgFollow
    exact ⟨by rw [hk.modes, stages_modeFollow], by rw [hk.imageRequest, hm.image], List.Subset.trans hm.evs hk.evs⟩

theorem request_requestOver {s : State} {n : Stage} {u : Bool} (h : s.image.request = some ⟨n, u⟩) : (requestOver s n).image.request = none := by
  have h' : (wr s (F.STAGE_DRESS_STEP n.val) 0).image.request = some ⟨n, u⟩ := h
  simp only [requestOver, h', if_true]
  rfl
/-- The end of a request leaves all but the request and registers. -/
theorem requestOver_regs (s : State) (n : Stage) : RegsOnly { s with image := { s.image with request := (requestOver s n).image.request } } (requestOver s n) := by
  have hstep : RegsOnly s (wr s (F.STAGE_DRESS_STEP n.val) 0) := regsOnly_wr ..
  unfold requestOver
  dsimp only
  split
  · split
    · exact (hstep.withImage fun i => { i with request := none }).trans (regsOnly_wr ..)
    · exact hstep
  · exact hstep

end Sys2Proof.Machine
end

section
/-! Proofs: a stage sealed by itself and unbound, as STAGE_CTRL requests it (R85, R511, R512, R531, R532). -/

namespace Sys2Proof.Machine

/-! The seal of one stage (R85, R132, R161). -/

theorem Keeps.setSav {s t : State} (h : Keeps s t) (n : Stage) (x : StageSave) : Keeps s (setSav t n x) := ⟨h.now, h.modes, h.image, h.evs, h.gated, h.fields⟩
theorem Keeps.saveStatus {s t : State} (h : Keeps s t) : Keeps s (saveStatus t) := by
  unfold Machine.saveStatus
  exact ((((h.wr _ _).wr _ _).wr _ _).wr _ _).wr _ _

/-- The gate closes a stage's ledger engine; before and after that it keeps what the engines keep. -/
theorem gateStage_keeps (s : State) (n : Stage) : ∃ x l, Keeps s x ∧ l.gated = true ∧ Keeps (setLedger x n l) (gateStage s n) := by
  refine ⟨scanStop (srAbort s n) n, { led (scanStop (srAbort s n) n) n with queue := [], gathers := [], gated := true, sweep := none, sweepDue := false, sweepPaused := false },
    ((Keeps.refl s).srAbort n).scanStop n, rfl, ?_⟩
  unfold gateStage
  dsimp only
  refine .ite _ (.event ?_ ..) ?_
  all_goals exact ((((((((Keeps.refl _).wr _ _).setFset ..).ckptPreempt n).setFsys ..).wr _ _).wr _ _).flash _ |>.setRst ..).touchStatus n

/-- What stands over a stage's seal as it begins, and what it sets. -/
structure SealBegun (s t : State) (n : Stage) : Prop where
  modes : t.modes = s.modes
  request : t.image.request = s.image.request
  evs : s.evs ⊆ t.evs
  busy : rd t F.STAGE_CTRL_BUSY = rd s F.STAGE_CTRL_BUSY
  gated : (led t n).gated = true
  phase : (sav t n).phase = .drain
  alone : (sav t n).alone = true

theorem stageSeal_begun (s : State) (n : Stage) : SealBegun s (stageSeal s n) n := by
  obtain ⟨x, l, hx, hl, hg⟩ := gateStage_keeps s n
  have hk : Keeps (setLedger x n l) (stageSeal s n) := by
    unfold stageSeal
    exact ((((hg.drainBegin n).setSav ..).cxl _).emit _).saveStatus
  have hsav : sav (stageSeal s n) n = ⟨.drain, true, 0, 0, 0, [], _, _, _, _, 0, .none, ckptIsDue s n⟩ := qget_qset_self ..
  have hbusy : F.STAGE_CTRL_BUSY ∈ keptFields := by decide
  exact {
    modes := hk.modes.trans hx.modes
    request := hk.imageRequest.trans hx.imageRequest
    evs := List.Subset.trans hx.evs hk.evs
    busy := (hk.fields _ hbusy).trans (hx.fields _ hbusy)
    gated := by rw [hk.gated n, led, setLedger_ledger, qget_qset_self, hl]
    phase := by rw [hsav]
    alone := by rw [hsav] }

/-! A stage unbound (R511, R512). -/

/-- A stage's registers, channels and engines as its unbinding leaves them before the stage's state changes. -/
def released (s : State) (n : Stage) : State :=
  let s := foldS (stageChans s n) (fun s c => setReg (mapSet (scrubRestart s c none) c 0#48) (F.DC_PHY_STATUS_TRAINED c.val).idx 0#48) s
  let s := foldS (stageFlashChs s n) (fun s c => wr (wr (wr s (F.FL_CH_CFG_ENABLE c) 0) (F.FL_CH_STATUS_TRAINED c) 0) (F.FL_CH_STATUS_LOST c) 0) s
  let s := setReg (setReg (setReg s (F.STAGE_BIND_DRAM n.val).idx 0#48) (F.STAGE_SIZE_RAW_256MIB n.val).idx 0#48) (F.STAGE_BACK_SPARES n.val).idx 0#48
  stageRates (setFset (setRst (remapFreeStage s n) n restoreInit) n (fsetFresh (fset s n))) n
theorem unbindNow_eq (s : State) (n : Stage) :
    unbindNow s n = follow (divideWays (requestOver (event (stageLock (stageTo (released s n) n .unbound) n false) 0xA08 0 n.val 0) n)) 0x04 := rfl
theorem sameImage_released (s : State) (n : Stage) : SameImage s (released s n) := by
  have hchans : ∀ s (c : DramCh), SameImage s (setReg (mapSet (scrubRestart s c none) c 0#48) (F.DC_PHY_STATUS_TRAINED c.val).idx 0#48) := fun _ _ => ⟨rfl, List.Subset.refl _⟩
  have hflash : ∀ s c, SameImage s (wr (wr (wr s (F.FL_CH_CFG_ENABLE c) 0) (F.FL_CH_STATUS_TRAINED c) 0) (F.FL_CH_STATUS_LOST c) 0) := fun _ _ => ⟨rfl, List.Subset.refl _⟩
  refine (SameImage.fold _ hchans (stageChans s n) s).trans ?_
  unfold released
  extract_lets x y z
  have hy : SameImage x y := .fold _ hflash _ _
  have hz : SameImage y z := .of_regs (((regsOnly_setReg ..).trans (regsOnly_setReg ..)).trans (regsOnly_setReg ..))
  have hfree : SameImage z (setFset (setRst (remapFreeStage z n) n restoreInit) n (fsetFresh (fset z n))) := ⟨rfl, List.Subset.refl _⟩
  exact ((hy.trans hz).trans hfree).trans (.of_regs ((regsOnly_wr ..).trans (regsOnly_wr ..)))

/-- An unbinding leaves the stage Unbound, ends the request and logs 0xA08. -/
theorem unbindNow_unbinds {s : State} {n : Stage} (h : s.image.request = some ⟨n, true⟩) :
    stageSt (unbindNow s n) n = .unbound ∧ (unbindNow s n).image.request = none ∧ (⟨0xA08, 0, n.val, 0⟩ : Ev) ∈ (unbindNow s n).evs := by
  have hto : SameImage s (stageTo (released s n) n .unbound) := (sameImage_released s n).trans (sameImage_stageTo ..)
  have hst : stageSt (stageTo (released s n) n .unbound) n = .unbound := stageSt_stageTo ..
  rw [unbindNow_eq]
  generalize stageTo (released s n) n .unbound = x at hto hst
  have hreq : (event (stageLock x n false) 0xA08 0 n.val 0).image.request = some ⟨n, true⟩ := (congrArg ImageState.request hto.image).trans h
  have hover := requestOver_regs (event (stageLock x n false) 0xA08 0 n.val 0) n
  have hdivide := (Keeps.refl (requestOver (event (stageLock x n false) 0xA08 0 n.val 0) n)).divideWays
  obtain ⟨hstages, hrequest, hevs⟩ := follow_leaves (divideWays (requestOver (event (stageLock x n false) 0xA08 0 n.val 0) n)) 0x04
  refine ⟨?_, ?_, hevs (hdivide.evs (hover.evs (List.mem_append_right _ (List.mem_singleton.mpr rfl))))⟩
  · rw [stageSt, hstages, hdivide.modes, hover.modes]
    exact hst
  · rw [hrequest, hdivide.imageRequest, request_requestOver hreq]

/-! STAGE_CTRL (R531, R539). -/

/-- The word with which STAGE_CTRL requests a re-dress or an unbind. -/
def stageCtrlWord (n : Stage) (unbind : Bool) : Word :=
  if unbind then oneField F.STAGE_CTRL_STAGE n.val ||| oneField F.STAGE_CTRL_OP 1 ||| oneField F.STAGE_CTRL_GO 1
  else oneField F.STAGE_CTRL_STAGE n.val ||| oneField F.STAGE_CTRL_GO 1
theorem exec_stageCtrl (p : Path) (n : Stage) (unbind : Bool) (s : State) :
    exec (if unbind then .stageCtrlUnbind p n else .stageCtrlRedress p n) s = done (regWord s p 0x4000 (stageCtrlWord n unbind)) := by
  cases unbind <;> rfl

theorem fldOf_stageCtrlWord (n : Stage) (unbind : Bool) :
    fldOf (stageCtrlWord n unbind) F.STAGE_CTRL_STAGE = n.val ∧ fldOf (stageCtrlWord n unbind) F.STAGE_CTRL_OP = b2n unbind ∧ bitOf (stageCtrlWord n unbind).toNat 3 = true := by
  decide +revert

/-- The state in which a request of STAGE_CTRL is taken up: its fields as written, the rest as before. -/
structure StageCtrlWritten (s m : State) (n : Stage) (unbind : Bool) : Prop where
  regs : RegsOnly s m
  still : Still s m
  stage : rd m F.STAGE_CTRL_STAGE = n.val
  op : rd m F.STAGE_CTRL_OP = b2n unbind
  busy : rd m F.STAGE_CTRL_BUSY = rd s F.STAGE_CTRL_BUSY
  other : ∀ g, steadyField g = true → homeIdx g.idx ≠ 0x4000 → homeIdx g.idx ≠ 8 → rd m g = rd s g

section
variable {s : State} {p : Path} (n : Stage) (unbind : Bool) (hon : mainOff s = false)
include hon

theorem still_committed (i : Nat) (w : Word) : Still s (committed s p i w) := by
  refine (quiet_beforeCommit s p i).still.trans (still_commitWrite _ _ _ _ ?_)
  rw [mainOff_quiet (quiet_beforeCommit s p i)]
  exact served_of_on hon i

theorem stageCtrl_written : StageCtrlWritten s (committed s p 0x4000 (stageCtrlWord n unbind)) n unbind := by
  obtain ⟨hstage, hop, -⟩ := fldOf_stageCtrlWord n unbind
  have hself := fun (f : FieldRow) hf hg => rd_committed_self (p := p) (f := f) (stageCtrlWord n unbind) (served_of_on hon 0x4000) hf hg
  exact {
    regs := regsOnly_committed s p _ rfl
    still := still_committed hon ..
    stage := (hself ⟨0, 2, .rw, 0⟩ (by decide +kernel) (by decide +kernel)).trans hstage
    op := (hself ⟨2, 1, .rw, 0⟩ (by decide +kernel) (by decide +kernel)).trans hop
    busy := hself ⟨4, 1, .ro, 0⟩ (by decide +kernel) (by decide +kernel)
    other := fun g hg hne h8 => rd_committed_other _ (served_of_on hon _) hg hne h8 }

/-- What STAGE_CTRL answers, given what the request leaves of the state that the write has reached. -/
theorem answers_stageCtrl {post : State → State → Prop} (hp : pathWrites s p 0x4000 = true)
    (h : ∀ m, StageCtrlWritten s m n unbind → post (pathKeeps (stageCtrlGo m n unbind) p 0x4000) (finish (pathKeeps (stageCtrlGo m n unbind) p 0x4000))) :
    Answers (if unbind then .stageCtrlUnbind p n else .stageCtrlRedress p n) s post := by
  refine answers_of_write (exec_stageCtrl p n unbind s) hp (fun _ => rfl) (served_of_on hon _) ?_
  have hm := stageCtrl_written (p := p) n unbind hon
  generalize committed s p 0x4000 (stageCtrlWord n unbind) = m at hm
  have hgo : trigger m 0x4000 (stageCtrlWord n unbind) s.fw.recoveryLow = stageCtrlGo m n unbind := by
    have hfin : fin4 n.val = n := Fin.ext (Nat.mod_eq_of_lt n.isLt)
    have hop : rdb m F.STAGE_CTRL_OP = unbind := by
      rw [rdb, hm.op]
      cases unbind <;> rfl
    calc _ = whenS (bitOf (stageCtrlWord n unbind).toNat 3) (fun s => stageCtrlGo s (fin4 (rd s F.STAGE_CTRL_STAGE)) (rdb s F.STAGE_CTRL_OP)) m := rfl
      _ = stageCtrlGo m n unbind := by rw [(fldOf_stageCtrlWord n unbind).2.2, whenS, if_pos rfl, hm.stage, hfin, hop]
  rw [hgo]
  exact h m hm

end

section
variable {s m : State} {n : Stage} {unbind : Bool} (h : StageCtrlWritten s m n unbind)
include h

/-- The write of STAGE_CTRL does not change what refuses the request. -/
theorem redressRefusal_written : redressRefusal m n unbind = redressRefusal s n unbind := by
  have hrd : ∀ k : Stage, rd m (F.STAGE_BIND_BOUND k.val) = rd s (F.STAGE_BIND_BOUND k.val) ∧ rd m (F.STAGE_BIND_DRAM k.val) = rd s (F.STAGE_BIND_DRAM k.val)
      ∧ rd m (F.STAGE_BIND_FLASH k.val) = rd s (F.STAGE_BIND_FLASH k.val) ∧ rd m (F.STAGE_BIND_PORT k.val) = rd s (F.STAGE_BIND_PORT k.val)
      ∧ rd m (F.STAGE_BIND_MP_ID k.val) = rd s (F.STAGE_BIND_MP_ID k.val) := by
    intro k
    refine ⟨?_, ?_, ?_, ?_, ?_⟩
    all_goals exact h.other _ (by clear * -; decide +kernel +revert) (by clear * -; decide +revert) (by clear * -; decide +revert)
  have hlayout : newLayout m n = newLayout s n := by simp only [newLayout, h.regs.image]
  have honly : ∀ bs, onlyStage m n bs = onlyStage s n bs := fun bs => by simp only [onlyStage, rdb, fun k => (hrd k).1, fun k => (hrd k).2.2.2.2]
  simp only [redressRefusal, stageSt, hlayout, honly, rdb, h.regs.modes, h.regs.image, h.regs.cxl, fun k => (hrd k).1, fun k => (hrd k).2.1, fun k => (hrd k).2.2.1, fun k => (hrd k).2.2.2.1] <;> rfl

end

/-- The state of an accepted request: it is taken up, the stage shows busy at step 1 and 0xA05 is logged. -/
def requested (s : State) (n : Stage) (unbind : Bool) : State :=
  let refit := (newLayout s n).elim false (fun l => decide (rd s (F.STAGE_BIND_FLASH n.val) ≠ l.flash) || decide (rd s (F.FL_STAGE_GEOM_BLOCKS n.val) ≠ l.blocks)
    || decide (rd s (F.FL_STAGE_GEOM_PAGES n.val) ≠ l.pages) || decide (rd s (F.FL_STAGE_GEOM_LUNS n.val) ≠ (layoutLuns l).length))
  let s := { s with image := { s.image with request := some ⟨n, unbind⟩, relayout := qset s.image.relayout n refit, dressStart := qset s.image.dressStart n s.now } }
  event (wr (wr s F.STAGE_CTRL_BUSY 1) (F.STAGE_DRESS_STEP n.val) 1) 0xA05 0 n.val (b2n unbind)
theorem requested_leaves (s : State) (n : Stage) (unbind : Bool) : (requested s n unbind).modes = s.modes ∧ (requested s n unbind).cxl = s.cxl
    ∧ (requested s n unbind).image.request = some ⟨n, unbind⟩ ∧ (⟨0xA05, 0, n.val, b2n unbind⟩ : Ev) ∈ (requested s n unbind).evs :=
  ⟨rfl, rfl, rfl, List.mem_append_right _ (List.mem_singleton.mpr rfl)⟩
theorem rd_requested_busy (s : State) (n : Stage) (unbind : Bool) : rd (requested s n unbind) F.STAGE_CTRL_BUSY = 1 := by
  rw [requested, rd_event, rd_wr_apart _ _ _ _ (by decide) (by clear * -; decide +revert)]
  exact rd_wr_self _ _ _ (by decide)

theorem stageCtrlGo_refused {s : State} {n : Stage} {unbind : Bool} (h : redressRefusal s n unbind = 1) : stageCtrlGo s n unbind = wr s F.STAGE_CTRL_RESULT 1 := by
  simp only [stageCtrlGo, redressRequest, h]
theorem stageCtrlGo_live {s : State} {n : Stage} {unbind : Bool} (h : redressRefusal s n unbind = 0) (hl : stageSt s n = .live) :
    stageCtrlGo s n unbind = wr (wr (stageSeal (requested s n unbind) n) (F.STAGE_DRESS_STEP n.val) 2) F.STAGE_CTRL_RESULT 0 := by
  have hl' : stageSt (requested s n unbind) n = .live := hl
  simp only [stageCtrlGo, redressRequest, h]
  exact congrArg (wr · F.STAGE_CTRL_RESULT 0) (if_pos hl')
theorem stageCtrlGo_unbinds {s : State} {n : Stage} (h : redressRefusal s n true = 0) (hs : stageSt s n = .sealed) (he : s.cxl.erase = none) :
    stageCtrlGo s n true = wr (unbindNow (requested s n true) n) F.STAGE_CTRL_RESULT 0 := by
  have hl' : stageSt (requested s n true) n ≠ .live := by
    rw [show stageSt (requested s n true) n = .sealed from hs]
    decide
  have hafter : afterSeal (requested s n true) n = unbindNow (requested s n true) n := by
    obtain ⟨-, hcxl, hreq, -⟩ := requested_leaves s n true
    simp only [afterSeal, hcxl, he, hreq, ne_eq, not_true_eq_false, if_false, if_true]
  simp only [stageCtrlGo, redressRequest, h]
  exact congrArg (wr · F.STAGE_CTRL_RESULT 0) ((if_neg hl').trans hafter)

section
variable {s : State} {p : Path} {n : Stage} {unbind : Bool} (hp : pathWrites s p 0x4000 = true) (hon : mainOff s = false)
include hp hon

theorem stageCtrl_refused (hr : redressRefusal s n unbind = 1) : Answers (if unbind then .stageCtrlUnbind p n else .stageCtrlRedress p n) s
    (fun _ t => rd t F.STAGE_CTRL_RESULT = 1 ∧ rd t F.STAGE_CTRL_BUSY = rd s F.STAGE_CTRL_BUSY ∧ Still s t) := by
  refine answers_stageCtrl n unbind hon hp fun m hm => ?_
  rw [stageCtrlGo_refused ((redressRefusal_written hm).trans hr)]
  refine ⟨?_, ?_, (hm.still.trans (still_wr ..)).trans (still_finish_pathKeeps ..)⟩
  · rw [rd_finish_pathKeeps _ _ _ (by decide +kernel)]
    exact rd_wr_self _ _ _ (by decide)
  · rw [rd_finish_pathKeeps _ _ _ (by decide +kernel), rd_wr_apart _ _ _ _ (by decide) (by decide), hm.busy]

theorem stageCtrl_live (hr : redressRefusal s n unbind = 0) (hl : stageSt s n = .live) : Answers (if unbind then .stageCtrlUnbind p n else .stageCtrlRedress p n) s
    (fun u t => t.image.request = some ⟨n, unbind⟩ ∧ (led t n).gated = true ∧ (sav t n).phase = .drain ∧ (sav t n).alone = true
      ∧ rd t F.STAGE_CTRL_RESULT = 0 ∧ rd t F.STAGE_CTRL_BUSY = 1 ∧ (⟨0xA05, 0, n.val, b2n unbind⟩ : Ev) ∈ u.evs ∧ t.modes = s.modes) := by
  refine answers_stageCtrl n unbind hon hp fun m hm => ?_
  rw [stageCtrlGo_live ((redressRefusal_written hm).trans hr) (by rw [stageSt, hm.regs.modes]; exact hl)]
  have hseal := stageSeal_begun (requested m n unbind) n
  obtain ⟨hmodes, -, hrequest, hmem⟩ := requested_leaves m n unbind
  have hbusy := rd_requested_busy m n unbind
  have hstep : ∀ k : Stage, apart (F.STAGE_DRESS_STEP k.val) F.STAGE_CTRL_BUSY = true := by decide
  generalize requested m n unbind = r at hseal hmodes hrequest hmem hbusy
  generalize stageSeal r n = x at hseal
  have hw : RegsOnly x (wr (wr x (F.STAGE_DRESS_STEP n.val) 2) F.STAGE_CTRL_RESULT 0) := (regsOnly_wr ..).trans (regsOnly_wr ..)
  have hs : Still x (finish (pathKeeps (wr (wr x (F.STAGE_DRESS_STEP n.val) 2) F.STAGE_CTRL_RESULT 0) p 0x4000)) :=
    ((still_wr ..).trans (still_wr ..)).trans (still_finish_pathKeeps ..)
  refine ⟨?_, ?_, ?_, ?_, ?_, ?_, ?_, ?_⟩
  · rw [hs.imageRequest, hseal.request, hrequest]
  · rw [led, hs.ledger]
    exact hseal.gated
  · rw [sav, hs.saves]
    exact hseal.phase
  · rw [sav, hs.saves]
    exact hseal.alone
  · rw [rd_finish_pathKeeps _ _ _ (by decide +kernel)]
    exact rd_wr_self _ _ _ (by decide)
  · rw [rd_finish_pathKeeps _ _ _ (by decide +kernel), rd_wr_apart _ _ _ _ (by decide) (by decide), rd_wr_apart _ _ _ _ (by decide) (hstep n), hseal.busy, hbusy]
  · rw [evs_pathKeeps]
    exact hw.evs (hseal.evs hmem)
  · rw [hs.modes, hseal.modes, hmodes, hm.regs.modes]

theorem stageCtrlUnbind_sealed (hr : redressRefusal s n true = 0) (hs : stageSt s n = .sealed) (he : s.cxl.erase = none) : Answers (.stageCtrlUnbind p n) s
    (fun u t => stageSt t n = .unbound ∧ t.image.request = none ∧ rd t F.STAGE_CTRL_RESULT = 0 ∧ (⟨0xA08, 0, n.val, 0⟩ : Ev) ∈ u.evs) := by
  refine answers_stageCtrl n true hon hp fun m hm => ?_
  rw [stageCtrlGo_unbinds ((redressRefusal_written hm).trans hr) (by rw [stageSt, hm.regs.modes]; exact hs) (by rw [hm.regs.cxl, he])]
  obtain ⟨hst, hreq, hmem⟩ := unbindNow_unbinds (requested_leaves m n true).2.2.1
  generalize unbindNow (requested m n true) n = x at hst hreq hmem
  have hstill : Still x (finish (pathKeeps (wr x F.STAGE_CTRL_RESULT 0) p 0x4000)) := (still_wr ..).trans (still_finish_pathKeeps ..)
  refine ⟨?_, ?_, ?_, ?_⟩
  · rw [stageSt, hstill.modes]
    exact hst
  · rw [hstill.imageRequest, hreq]
  · rw [rd_finish_pathKeeps _ _ _ (by decide +kernel)]
    exact rd_wr_self _ _ _ (by decide)
  · rw [evs_pathKeeps]
    exact (regsOnly_wr x F.STAGE_CTRL_RESULT 0).evs hmem
end

end Sys2Proof.Machine
end

section
/-! Proofs: the section of a re-dress stored and the stage bound anew (R512, R522, R530, R532). -/

namespace Sys2Proof.Machine

/-! A stage bound to its channels (R510, R512). -/

namespace SameImage
variable {s t : State} (h : SameImage s t)
include h

theorem wr (f : Fld) (v : Nat) : SameImage s (wr t f v) := h.trans (.of_regs (regsOnly_wr ..))
theorem setReg (i : Nat) (w : Word) : SameImage s (setReg t i w) := h.trans (.of_regs (regsOnly_setReg ..))
theorem dram (d : Dram) : SameImage s { t with dram := d } := h.trans ⟨rfl, List.Subset.refl _⟩
theorem setFset (n : Stage) (x : StageFlash) : SameImage s (setFset t n x) := h.trans ⟨rfl, List.Subset.refl _⟩
theorem setFsys (n : Stage) (x : StageSys) : SameImage s (setFsys t n x) := h.trans ⟨rfl, List.Subset.refl _⟩
theorem setSav (n : Stage) (x : StageSave) : SameImage s (setSav t n x) := h.trans ⟨rfl, List.Subset.refl _⟩
theorem setRst (n : Stage) (r : RestoreState) : SameImage s (setRst t n r) := h.trans ⟨rfl, List.Subset.refl _⟩
theorem setLedger (n : Stage) (l : LedgerState) : SameImage s (setLedger t n l) := h.trans ⟨rfl, List.Subset.refl _⟩
theorem flash (x : Flash) : SameImage s { t with flash := x } := h.trans ⟨rfl, List.Subset.refl _⟩
theorem scrubRestart (c : DramCh) (n : Option Stage) : SameImage s (scrubRestart t c n) := (h.dram _).wr ..
theorem scrubBind (c : DramCh) (n : Stage) : SameImage s (scrubBind t c n) := .ite _ h (h.scrubRestart ..)
theorem mapSet (c : DramCh) (w : Word) : SameImage s (mapSet t c w) := (h.dram _).setReg ..
theorem foldOn {α : Type} (xs : List α) (f : State → α → State) (hf : ∀ u a, SameImage s u → SameImage s (f u a)) : SameImage s (foldS xs f t) := by
  unfold foldS
  induction xs generalizing t with
  | nil => exact h
  | cons x xs ih => exact ih (hf t x h)

theorem layoutLoad (secs : List ImgSection) (l : Layout) : SameImage s (layoutLoad t secs l) := by
  have hoff := h.foldOn ((stageFlashChs t (fin4 l.stage)).filter (fun c => !bitOf l.flash c)) _ fun _ c k =>
    ((k.wr (F.FL_CH_CFG_ENABLE c) 0).wr (F.FL_CH_STATUS_TRAINED c) 0).wr (F.FL_CH_STATUS_LOST c) 0
  unfold Machine.layoutLoad
  dsimp only
  refine foldOn (((((foldOn (foldOn ((((hoff.setReg ..).setReg ..).setReg ..).wr ..) _ _ ?_) _ _ ?_).wr ..).wr ..).wr ..).wr ..) _ _ ?_
  · exact fun _ _ k => ((k.scrubRestart ..).mapSet ..).setReg ..
  · exact fun _ _ k => (k.scrubBind ..).mapSet ..
  · exact fun _ _ k => k.wr ..

end SameImage

/-! A stage bound (R512, R530). -/

/-- The channels that another bound stage holds of a layout's. -/
def layoutClash (s : State) (l : Layout) : Bool :=
  fours.any (fun m => m != fin4 l.stage && rdb s (F.STAGE_BIND_BOUND m.val)
    && (decide (rd s (F.STAGE_BIND_DRAM m.val) &&& l.dram ≠ 0) || decide (rd s (F.STAGE_BIND_FLASH m.val) &&& l.flash ≠ 0)))
/-- A stage's registers and engines as its binding sets them before the stage enters Dressing. -/
def boundRegs (s : State) (secs : List ImgSection) (l : Layout) : State :=
  let n := fin4 l.stage
  let s := if layoutClash s l then remapFreeStage s n else layoutLoad (remapFreeStage s n) secs l
  let s := setFset s n (fsetFresh (fset s n))
  let s := setFsys s n { fsysInit with ces := l.ces, lunsPer := l.luns }
  let s := setSav (setRst (setLedger s n ledgerInit) n restoreInit) n saveInit
  let s := { s with flash := { s.flash with readQ := qset s.flash.readQ n [], laneQ := qset s.flash.laneQ n [] } }
  wr (wr (wr s (F.STAGE_DRESS_FORMATTED n.val) 0) (F.STAGE_DRESS_STEP n.val) 5) (F.LDG_SWEEP_STATUS_ACTIVE n.val) 0
/-- A stage's Dressing starts now, with the fault of a clash, and its channels are to be trained. -/
def dressStarted (s : State) (n : Stage) (clash : Bool) : State :=
  { s with image := { s.image with dressStart := qset s.image.dressStart n s.now, dressFault := qset s.image.dressFault n (b2n clash), untrained := qset s.image.untrained n false } }
theorem bindStage_eq (s : State) (secs : List ImgSection) (l : Layout) :
    bindStage s secs l = stageTo (stageLock (dressStarted (boundRegs s secs l) (fin4 l.stage) (layoutClash s l)) (fin4 l.stage) false) (fin4 l.stage) .dressing := rfl
theorem sameImage_boundRegs (s : State) (secs : List ImgSection) (l : Layout) : SameImage s (boundRegs s secs l) := by
  unfold boundRegs
  dsimp only
  have hfree : SameImage s (remapFreeStage s (fin4 l.stage)) := (SameImage.refl s).dram _
  have hlaid : SameImage s (if layoutClash s l then remapFreeStage s (fin4 l.stage) else layoutLoad (remapFreeStage s (fin4 l.stage)) secs l) := .ite _ hfree (hfree.layoutLoad ..)
  exact (((((((((hlaid.setFset ..).setFsys ..).setLedger ..).setRst ..).setSav ..).flash _).wr ..).wr ..).wr ..)

theorem bindStage_image (s : State) (secs : List ImgSection) (l : Layout) :
    (bindStage s secs l).image.staged = s.image.staged ∧ (bindStage s secs l).image.sections = s.image.sections := by
  have hb := sameImage_boundRegs s secs l
  have hto : SameImage (dressStarted (boundRegs s secs l) (fin4 l.stage) (layoutClash s l)) (bindStage s secs l) := by
    rw [bindStage_eq]
    exact (SameImage.of_regs (regsOnly_wr ..)).trans (sameImage_stageTo ..)
  rw [hto.image, ← hb.image]
  exact ⟨rfl, rfl⟩
theorem stageSt_bindStage (s : State) (secs : List ImgSection) (l : Layout) : stageSt (bindStage s secs l) (fin4 l.stage) = .dressing := by
  rw [bindStage_eq, stageSt_stageTo]

/-! The commit of a re-dress (R532). -/

theorem modes_scrubAnew (s : State) (n : Stage) : (scrubAnew s n).modes = s.modes := by
  unfold scrubAnew foldS
  induction stageChans s n generalizing s with
  | nil => rfl
  | cons c cs ih => exact (ih (scrubRestart s c (some n))).trans rfl

/-- A stage bound for a re-dress: its scrub starts anew, the ledger cache is divided, the re-dress keeps the time it started at. -/
def rebound (s : State) (n : Stage) (x : ImgSection) : State :=
  let t := divideWays (scrubAnew (bindStage s s.image.sections (layoutOf x.words)) n)
  { t with image := { t.image with dressStart := qset t.image.dressStart n (qget s.image.dressStart n) } }
theorem rebound_leaves (s : State) (n : Stage) (x : ImgSection) : (rebound s n x).image.staged = s.image.staged ∧ (rebound s n x).image.sections = s.image.sections
    ∧ qget (rebound s n x).image.dressStart n = qget s.image.dressStart n ∧ (fin4 (layoutOf x.words).stage = n → stageSt (rebound s n x) n = .dressing) := by
  obtain ⟨hstaged, hsections⟩ := bindStage_image s s.image.sections (layoutOf x.words)
  have hst := stageSt_bindStage s s.image.sections (layoutOf x.words)
  unfold rebound
  generalize bindStage s s.image.sections (layoutOf x.words) = b at hstaged hsections hst
  have hscrub : SameImage b (scrubAnew b n) := (SameImage.refl _).foldOn _ _ fun _ _ k => k.scrubRestart ..
  have hmodes := modes_scrubAnew b n
  have hdivide := (Keeps.refl (scrubAnew b n)).divideWays
  generalize divideWays (scrubAnew b n) = t at hdivide
  refine ⟨?_, ?_, qget_qset_self .., fun hn => ?_⟩
  · exact hdivide.imageStaged.trans ((congrArg ImageState.staged hscrub.image).trans hstaged)
  · exact hdivide.imageSections.trans ((congrArg ImageState.sections hscrub.image).trans hsections)
  · have hsame : ∀ i, stageSt { t with image := i } n = stageSt t n := fun _ => rfl
    rw [hsame, stageSt, hdivide.modes, hmodes, ← hn]
    exact hst

/-- The state in which the container of a re-dress is stored and in effect. -/
def partialInEffect (s : State) (g : Staged) : State := partialTake (stagedTaken (storePartial s g.bytes).2) g.bytes
/-- A partial taken into effect changes the sections, the micro-programs and registers. -/
theorem partialTake_image (s : State) (bs : List Byte) : (partialTake s bs).image.staged = s.image.staged ∧ (partialTake s bs).image.dressStart = s.image.dressStart := by
  have hp : RegsOnly (microLoad (imageSections s (amend s.image.sections (cSections bs))) (amend s.image.sections (cSections bs))) (partialTake s bs) := by
    unfold partialTake
    exact (regsOnly_wr ..).trans (regsOnly_wr ..)
  rw [hp.image]
  exact ⟨rfl, rfl⟩
theorem partialInEffect_image (s : State) (g : Staged) : (partialInEffect s g).image.staged = none ∧ (partialInEffect s g).image.dressStart = s.image.dressStart := by
  have hk := (Keeps.refl s).storePartial g.bytes
  unfold partialInEffect
  generalize (storePartial s g.bytes).2 = x at hk
  have ht := stagedTaken_regs x
  obtain ⟨hstaged, hstart⟩ := partialTake_image (stagedTaken x) g.bytes
  rw [hstaged, hstart, ht.image]
  exact ⟨rfl, hk.imageDressStart⟩

section
variable {s : State} {tr : TrainIn} {n : Stage} {g : Staged} (hr : s.image.request = some ⟨n, false⟩) (hg : s.image.staged = some g) (hgate : s.saveDev.gate = false)
  (hst : stageSt s n = .sealed ∨ stageSt s n = .unbound) (hm : s.modes.mode = .standby ∨ serving s = true)
include hr hg hgate hst hm

theorem redressCommit_go : redressCommit s tr = if (storePartial s g.bytes).1 = false then requestOver (containerReject (stagedTaken (storePartial s g.bytes).2) 9 0 1) n
    else match secFor (partialInEffect s g).image.sections 2 n.val with
      | none => requestOver (partialInEffect s g) n
      | some x => trainStage (rebound (partialInEffect s g) n x) n tr := by
  have hmode : ¬ (s.modes.mode = .save ∨ s.modes.mode = .hold ∨ s.modes.mode = .dark) := by
    have hserve : serving s = true → s.modes.mode = .service ∨ s.modes.mode = .restore := by simp [serving]
    rcases hm with hm | hm
    · simp [hm]
    · rcases hserve hm with h | h <;> simp [h]
  have hgo : ¬ (False ∨ False ∨ (stageSt s n ≠ .sealed ∧ stageSt s n ≠ .unbound) ∨ s.modes.mode = .save ∨ s.modes.mode = .hold ∨ s.modes.mode = .dark) := by
    rintro (h | h | ⟨h1, h2⟩ | h)
    · exact h
    · exact h
    · exact hst.elim h1 h2
    · exact hmode h
  simp only [redressCommit, hr, hg, hgate, Bool.false_eq_true, if_neg hgo, partialInEffect]
  generalize partialTake (stagedTaken (storePartial s g.bytes).2) g.bytes = y
  generalize requestOver (containerReject (stagedTaken (storePartial s g.bytes).2) 9 0 1) n = z
  cases secFor y.image.sections 2 n.val <;> rfl

/-- The clause of O59 about REDRESS_COMMIT. -/
theorem redressCommit_answers : Answers (.redressCommit tr) s (fun u t => t.image.staged = none
    ∧ (if (storePartial s g.bytes).1 = false then t.image.request = none ∧ (⟨0xA02, 2, 0, 9⟩ : Ev) ∈ u.evs ∧ t.modes = s.modes
      else (secFor (partialInEffect s g).image.sections 2 n.val).elim false (fun x => (layoutOf x.words).stage == n.val) = true →
        stageSt t n = .dressing ∧ t.image.sections = (partialInEffect s g).image.sections ∧ qget t.image.dressStart n = qget s.image.dressStart n)) := by
  refine ⟨redressCommit s tr, rfl, ?_⟩
  beta_reduce
  have hgo := redressCommit_go (tr := tr) hr hg hgate hst hm
  have hs := still_finish (redressCommit s tr)
  by_cases hstored : (storePartial s g.bytes).1 = false
  · rw [if_pos hstored] at hgo ⊢
    have hk := (Keeps.refl s).storePartial g.bytes
    generalize (storePartial s g.bytes).2 = x at hk hgo
    rw [hgo] at hs ⊢
    have hreject := (stagedTaken_regs x).trans (regsOnly_containerReject _ 9 0 1)
    have hmem := mem_containerReject (stagedTaken x) 9 0 1
    generalize containerReject (stagedTaken x) 9 0 1 = y at hreject hmem hs
    have hover := requestOver_regs y n
    have hreq : y.image.request = some ⟨n, false⟩ := by rw [hreject.image]; exact hk.imageRequest.trans hr
    refine ⟨?_, ?_, hover.evs hmem, ?_⟩
    · rw [hs.imageStaged, hover.image, hreject.image]
    · rw [hs.imageRequest, request_requestOver hreq]
    · rw [hs.modes, hover.modes, hreject.modes]
      exact hk.modes
  · rw [if_neg hstored] at hgo ⊢
    obtain ⟨hstaged, hstart⟩ := partialInEffect_image s g
    generalize partialInEffect s g = y at hgo hstaged hstart ⊢
    cases hsec : secFor y.image.sections 2 n.val with
    | none =>
      rw [hgo, hsec] at hs
      rw [hgo, hsec]
      have hover := requestOver_regs y n
      exact ⟨by rw [hs.imageStaged, hover.image, ← hstaged], fun h => absurd h Bool.false_ne_true⟩
    | some x =>
      rw [hgo, hsec] at hs
      rw [hgo, hsec]
      obtain ⟨hxstaged, hxsections, hxstart, hxst⟩ := rebound_leaves y n x
      have hk := (Keeps.refl (rebound y n x)).trainStage n tr
      refine ⟨?_, fun h => ⟨?_, ?_, ?_⟩⟩
      · rw [hs.imageStaged, hk.imageStaged, hxstaged, hstaged]
      · have hn : (layoutOf x.words).stage = n.val := by simpa using h
        rw [stageSt, hs.modes, hk.modes]
        exact hxst (by rw [hn]; exact Fin.ext (Nat.mod_eq_of_lt n.isLt))
      · rw [hs.imageSections, hk.imageSections, hxsections]
      · rw [hs.imageDressStart, hk.imageDressStart, hxstart, hstart]
end

end Sys2Proof.Machine
end

section
/-! Proofs: the end of a Dressing (R48, R393, R420, R530, R533, R534). -/

namespace Sys2Proof.Machine

/-! What a stage's transition leaves of the reason of its last failed Dressing. -/

/-- Fields of a stage that its transitions write (R87, R99, R123, R126). -/
def movedFields (n : Stage) : List Fld :=
  [F.LDG_FIRST_TOUCH_COUNT n.val, F.LDG_HELD_COUNT_COUNT n.val, F.LDG_TRICKLED_COUNT n.val, F.LDG_REDIRTY_COUNT n.val, F.LDG_CAP_FRAMES n.val, F.LDG_SOFT_FRAMES n.val,
    F.LDG_STATUS_WRITE_THROUGH n.val, F.LDG_STATUS_DEGRADED n.val, F.LDG_SWEEP_STATUS_ACTIVE n.val, F.LDG_STATUS_ABOVE_SOFT n.val, F.LDG_STATUS_OVER_CAP n.val]
theorem movedFields_apart_reason (n : Stage) : ∀ f ∈ movedFields n, apart f (F.STAGE_DRESS_REASON n.val) = true := by decide +revert

section
variable (s : State) (n : Stage)

theorem rd_wr_reason (f : Fld) (v : Nat) (hf : f ∈ movedFields n) : rd (wr s f v) (F.STAGE_DRESS_REASON n.val) = rd s (F.STAGE_DRESS_REASON n.val) :=
  have hwidth : ∀ m : Stage, (F.STAGE_DRESS_REASON m.val).lo + (F.STAGE_DRESS_REASON m.val).width ≤ 48 := by decide
  rd_wr_apart _ _ _ _ (hwidth n) (movedFields_apart_reason n f hf)
theorem rd_countsZero_reason : rd (countsZero s n) (F.STAGE_DRESS_REASON n.val) = rd s (F.STAGE_DRESS_REASON n.val) := by
  unfold countsZero
  iterate 4 rw [rd_wr_reason _ n _ _ (by simp [movedFields])]
theorem rd_leaveLive_reason : rd (leaveLive s n) (F.STAGE_DRESS_REASON n.val) = rd s (F.STAGE_DRESS_REASON n.val) := by
  have hledger : ∀ (s : State) (l : LedgerState) (g : Fld), rd (setLedger s n l) g = rd s g := fun _ _ _ => rfl
  rw [leaveLive, hledger]
  iterate 3 rw [rd_wr_reason _ n _ _ (by simp [movedFields])]
  rw [rd_whenEvent]
  iterate 4 rw [rd_wr_reason _ n _ _ (by simp [movedFields])]
theorem rd_stageTo_reason (t : StageState) : rd (stageTo s n t) (F.STAGE_DRESS_REASON n.val) = rd s (F.STAGE_DRESS_REASON n.val) := by
  have hcounts : ∀ (c : Bool) (x : State), rd (whenS c (fun s => countsZero s n) x) (F.STAGE_DRESS_REASON n.val) = rd x (F.STAGE_DRESS_REASON n.val) := fun c x => by
    cases c
    · rfl
    · exact rd_countsZero_reason x n
  have hput : ∀ a b c d l, rd (setLedger (event (putStage s n t) a b c d) n l) (F.STAGE_DRESS_REASON n.val) = rd s (F.STAGE_DRESS_REASON n.val) := fun _ _ _ _ _ => rfl
  simp only [stageTo]
  split
  · rfl
  · split
    · rw [rd_leaveLive_reason, hcounts, hput]
    · rw [hcounts, hput]
end

/-! A Dressing that fails (R534). -/

theorem RegsOnly.restore {s t : State} (h : RegsOnly s t) : t.restore = s.restore := (LedgerRegs.of_regs h).restore

theorem restore_fwRaise (s : State) (b : Bool) (k : Nat) : (fwRaise s b k).restore = s.restore := by
  unfold fwRaise
  extract_lets cur
  split <;> rfl
theorem restore_fwConfirmEntry (s : State) (b : Bool) : (fwConfirmEntry s b).restore = s.restore := by
  unfold fwConfirmEntry
  split
  · rfl
  · split
    · rfl
    · split <;> rfl
theorem regsOnly_fwSlotRegs (s : State) : RegsOnly s (fwSlotRegs s) := by
  unfold fwSlotRegs
  exact (regsOnly_setReg _ 0x4401 _).trans (regsOnly_setReg _ 0x4402 _)
theorem restore_fwConfirm (s : State) : (fwConfirm s).restore = s.restore := by
  have hslot : ∀ x b, RegsOnly x (fwSlotRegs (event (wr (wr x F.FW_BOOT_TRIAL_FAILS 0) F.FW_BOOT_FELL_BACK 0) 0x718 0 0 b)) := fun x b =>
    (((regsOnly_wr ..).trans (regsOnly_wr ..)).trans (regsOnly_event ..)).trans (regsOnly_fwSlotRegs _)
  unfold fwConfirm
  dsimp only
  split
  · rw [restore_fwRaise]
  · rw [restore_fwRaise, (hslot ..).restore, restore_fwConfirmEntry]
theorem restore_fwConfirmTry (s : State) : (fwConfirmTry s).restore = s.restore := by
  unfold fwConfirmTry
  split
  · exact restore_fwConfirm s
  · rfl

theorem reason_kept (n : Stage) : F.STAGE_DRESS_REASON n.val ∈ keptFields := by decide +revert

/-- A failed Dressing leaves the stage Sealed or Unbound, shows its reason and logs 0xA07. -/
theorem dressFail_fails (s : State) (n : Stage) {k : Nat} (hk : k < 16) : stageSt (dressFail s n k) n ≠ .dressing ∧ rd (dressFail s n k) (F.STAGE_DRESS_REASON n.val) = k
    ∧ (⟨0xA07, 2, n.val, k⟩ : Ev) ∈ (dressFail s n k).evs ∧ (rst (dressFail s n k) n).goLive = none := by
  unfold dressFail
  generalize dressOver s n = x
  extract_lets y
  have hreason : rd y (F.STAGE_DRESS_REASON n.val) = k := by
    have hwidth : ∀ m : Stage, (F.STAGE_DRESS_REASON m.val).lo + (F.STAGE_DRESS_REASON m.val).width ≤ 48 := by decide
    rw [rd_event, rd_wr_self _ _ _ (hwidth n)]
    exact Nat.mod_eq_of_lt hk
  have hmem : (⟨0xA07, 2, n.val, k⟩ : Ev) ∈ y.evs := List.mem_append_right _ (List.mem_singleton.mpr rfl)
  clear_value y
  have hto : dressStop (setRst y n { rst y n with goLive := none }) n = stageTo (setRst y n { rst y n with goLive := none }) n (if holdsSealed (setRst y n { rst y n with goLive := none }) n then .sealed else .unbound) := rfl
  rw [hto]
  have hend : ∀ c : Bool, (if c then StageState.sealed else .unbound) ≠ .dressing := by decide
  generalize holdsSealed (setRst y n { rst y n with goLive := none }) n = c
  have hst := stageSt_stageTo (setRst y n { rst y n with goLive := none }) n (if c then .sealed else .unbound)
  have hsame := sameImage_stageTo (setRst y n { rst y n with goLive := none }) n (if c then .sealed else .unbound)
  have hrst := restore_stageTo (setRst y n { rst y n with goLive := none }) n (if c then .sealed else .unbound)
  have hrd := rd_stageTo_reason (setRst y n { rst y n with goLive := none }) n (if c then .sealed else .unbound)
  generalize stageTo (setRst y n { rst y n with goLive := none }) n (if c then .sealed else .unbound) = z at hst hsame hrst hrd ⊢
  have hkeeps := (Keeps.refl z).fwConfirmTry
  refine ⟨?_, ?_, hkeeps.evs (hsame.evs hmem), ?_⟩
  · rw [stageSt, hkeeps.modes]
    exact hst.trans_ne (hend c)
  · rw [hkeeps.fields _ (reason_kept n), hrd]
    exact hreason
  · rw [rst, restore_fwConfirmTry, hrst, setRst_restore, qget_qset_self]

/-! A Dressing that ends with an open record (R145, R529, R533). -/

theorem restore_sealProg (s : State) (n : Stage) (copy : Nat) (j : SealJob) : (sealProg s n copy j).restore = s.restore := by
  have hset : ∀ (x : State) (y : StageFlash), (setFset x n y).restore = x.restore := fun _ _ => rfl
  unfold sealProg sysQueue
  dsimp only
  rw [hset, (regsOnly_pmonHit ..).restore]
theorem restore_sealStart (s : State) (n : Stage) (sub reason gen lastSeq : Nat) (index : List Nat) : (sealStart s n sub reason gen lastSeq index).restore = s.restore := by
  have hset : ∀ (x : State) (y : StageSys), (setFsys x n y).restore = x.restore := fun _ _ => rfl
  unfold sealStart
  dsimp only
  rw [restore_sealProg, restore_sealProg, hset]
theorem goLive_openRecord (s : State) (n : Stage) (gen why : Nat) : (rst (openRecord s n gen why) n).goLive = some why := by
  unfold openRecord
  dsimp only
  rw [rst, restore_sealStart, setRst_restore, qget_qset_self]

theorem regsOnly_stageLoads (s : State) (n : Stage) : RegsOnly s (stageLoads s n) := by
  have hload : ∀ (s : State) (x : ImgSection), RegsOnly s (loadSection s x.words) := fun s x => .fold _ (fun _ _ => regsOnly_setReg ..) _ s
  have hlock : ∀ s, RegsOnly s (stageLock s n true) := fun _ => regsOnly_wr ..
  exact (RegsOnly.fold _ hload _ s).trans (hlock _)

/-- A Dressing that ends on a stage without sealed records starts its open record, with no reason of failure. -/
theorem dressEnd_opens (s : State) (n : Stage) (zeroed : Bool) : (rst (dressEnd s n false zeroed) n).goLive = some 1
    ∧ rd (dressEnd s n false zeroed) (F.STAGE_DRESS_REASON n.val) = 0 ∧ s.evs ⊆ (dressEnd s n false zeroed).evs := by
  have hload : s.evs ⊆ (stageLoads (backstageClear s n zeroed) n).evs := (regsOnly_stageLoads (backstageClear s n zeroed) n).evs
  have hwidth : ∀ m : Stage, (F.STAGE_DRESS_REASON m.val).lo + (F.STAGE_DRESS_REASON m.val).width ≤ 48 := by decide
  simp only [dressEnd, Bool.false_eq_true, if_false]
  generalize stageLoads (backstageClear s n zeroed) n = x at hload
  have hrates := ((Keeps.refl x).blocksFollow n).stageRates n
  generalize stageRates (blocksFollow x n) n = y at hrates
  have hreason := rd_wr_self y (F.STAGE_DRESS_REASON n.val) 0 (hwidth n)
  have hevs := (regsOnly_wr y (F.STAGE_DRESS_REASON n.val) 0).evs
  generalize wr y (F.STAGE_DRESS_REASON n.val) 0 = z at hreason hevs
  have hopen := (Keeps.refl z).openRecord n (openGen z n) 1
  refine ⟨goLive_openRecord .., ?_, List.Subset.trans hload (List.Subset.trans hrates.evs (List.Subset.trans hevs hopen.evs))⟩
  rw [hopen.fields _ (reason_kept n), hreason, Nat.zero_mod]

/-- Formatting that succeeds logs 0xA0A. -/
theorem formatSet_event {s : State} {n : Stage} {marks : List Nat} {other : Bool} (h : (formatSet s n marks other).1 = true) :
    (⟨0xA0A, 0, n.val, b2n other⟩ : Ev) ∈ (formatSet s n marks other).2.evs := by
  unfold formatSet at h ⊢
  dsimp only at h ⊢
  split at h
  · cases h
  · next hkey =>
    rw [if_neg hkey]
    exact List.mem_append_right _ (List.mem_singleton.mpr rfl)

/-! DRESSING_COMPLETE (R48). -/

theorem dressComplete_idle {s : State} {n : Stage} (marks : List Nat) (h : stageSt s n ≠ .dressing) : dressComplete s n marks = s := by
  simp only [dressComplete, ne_eq, h, not_false_eq_true, true_or, if_true]

section
variable {s : State} {n : Stage} {marks : List Nat} (hst : stageSt s n = .dressing) (hlive : (rst s n).goLive = none)
include hst hlive

theorem dressComplete_fault (hk : qget s.image.dressFault n ≠ 0) : dressComplete s n marks = dressFail s n (qget s.image.dressFault n) := by
  have hgo : ¬ (¬ stageSt s n = .dressing ∨ (rst s n).goLive.isSome = true) := by simp [hst, hlive]
  simp only [dressComplete, ne_eq, if_neg hgo, hk, not_false_eq_true, if_true]

/-- A new set with nothing in its way is formatted; `x` is the state whose house records are read. -/
theorem dressComplete_formats {sec : ImgSection} {x : State} (hfault : qget s.image.dressFault n = 0) (hblocked : s.power.blocked = 0) (htrain : qget s.image.untrained n = false)
    (hchs : 2 ≤ ((stageFlashChs s n).filter (fun c => rdb s (F.FL_CH_STATUS_TRAINED c) && !chLost s c)).length)
    (hlane : (stageFlashChs s n).any (bitOf (rd s F.CIPH_STATUS_LANE_FAILED)) = false) (hsec : secFor s.image.sections 2 n.val = some sec)
    (hx : x = setFsys s n { fsys s n with houseBytes := sha256 (sec.words.flatMap wordBytes) }) (hintent : intentOf s n = 0) (hkey : keyStored s n = false)
    (hhouse : houseNewest (houseReads x n).1 = none) (hok : (formatSet (houseReads x n).2 n marks false).1 = true) :
    dressComplete s n marks = dressEnd (formatSet (houseReads x n).2 n marks false).2 n false false := by
  have hgo : ¬ (¬ stageSt s n = .dressing ∨ (rst s n).goLive.isSome = true) := by simp [hst, hlive]
  have hrail : (bitOf s.power.blocked pllRail || (List.range 16).any (fun r => bitOf s.power.blocked r && railStage s r n)) = false := by simp [hblocked, bitOf]
  have hflash : ¬ (((stageFlashChs s n).filter (fun c => rdb s (F.FL_CH_STATUS_TRAINED c) && !chLost s c)).length < 2 ∨ (stageFlashChs s n).any (bitOf (rd s F.CIPH_STATUS_LANE_FAILED)) = true) :=
    fun h => h.elim (Nat.not_lt.mpr hchs) (Bool.eq_false_iff.mp hlane)
  have hintent' : intentOf x n = 0 := by
    rw [hx]
    exact hintent
  have hkey' : keyStored x n = false := by
    rw [hx]
    exact hkey
  simp only [dressComplete, ne_eq, if_neg hgo, hfault, hrail, htrain, if_neg hflash, hsec, ← hx, hintent', hkey', hhouse, hok,
    Bool.false_eq_true, Bool.true_eq_false, not_true_eq_false, if_false, if_true]

end

/-- The clauses of O59 about DRESSING_COMPLETE. -/
theorem dressingComplete_fault {s : State} {n : Stage} {marks : List Nat} {k : Nat} (hst : stageSt s n = .dressing) (hlive : (rst s n).goLive = none)
    (hk : qget s.image.dressFault n = k) (hpos : 0 < k) (hlt : k < 16) : Answers (.dressingComplete n marks) s (fun u t => stageSt t n ≠ .dressing
      ∧ rd t (F.STAGE_DRESS_REASON n.val) = k ∧ (⟨0xA07, 2, n.val, k⟩ : Ev) ∈ u.evs ∧ (rst t n).goLive = none) := by
  refine ⟨dressComplete s n marks, rfl, ?_⟩
  subst hk
  rw [dressComplete_fault hst hlive (Nat.pos_iff_ne_zero.mp hpos)]
  obtain ⟨hend, hreason, hmem, hnone⟩ := dressFail_fails s n hlt
  generalize dressFail s n (qget s.image.dressFault n) = y at hend hreason hmem hnone
  have q := quiet_finish y
  refine ⟨?_, ?_, hmem, ?_⟩
  · rw [stageSt, q.modes]
    exact hend
  · rw [q.fields _ (keptFields_steady _ (reason_kept n)), hreason]
  · rw [rst, q.restore]
    exact hnone
theorem dressingComplete_formats {s x : State} {n : Stage} {marks : List Nat} {sec : ImgSection} (hst : stageSt s n = .dressing) (hlive : (rst s n).goLive = none)
    (hfault : qget s.image.dressFault n = 0) (hblocked : s.power.blocked = 0) (htrain : qget s.image.untrained n = false)
    (hchs : 2 ≤ ((stageFlashChs s n).filter (fun c => rdb s (F.FL_CH_STATUS_TRAINED c) && !chLost s c)).length)
    (hlane : (stageFlashChs s n).any (bitOf (rd s F.CIPH_STATUS_LANE_FAILED)) = false) (hsec : secFor s.image.sections 2 n.val = some sec)
    (hx : x = setFsys s n { fsys s n with houseBytes := sha256 (sec.words.flatMap wordBytes) }) (hintent : intentOf s n = 0) (hkey : keyStored s n = false)
    (hhouse : houseNewest (houseReads x n).1 = none) :
    Answers (.dressingComplete n marks) s (fun u t => (formatSet (houseReads x n).2 n marks false).1 = true → (rst t n).goLive = some 1 ∧ rd t (F.STAGE_DRESS_REASON n.val) = 0
      ∧ (⟨0xA0A, 0, n.val, 0⟩ : Ev) ∈ u.evs) := by
  refine ⟨dressComplete s n marks, rfl, fun hok => ?_⟩
  rw [dressComplete_formats hst hlive hfault hblocked htrain hchs hlane hsec hx hintent hkey hhouse hok]
  have hmem := formatSet_event hok
  obtain ⟨hsome, hreason, hevs⟩ := dressEnd_opens (formatSet (houseReads x n).2 n marks false).2 n false
  generalize dressEnd (formatSet (houseReads x n).2 n marks false).2 n false false = y at hsome hreason hevs
  have q := quiet_finish y
  refine ⟨?_, ?_, hevs hmem⟩
  · rw [rst, q.restore]
    exact hsome
  · rw [q.fields _ (keptFields_steady _ (reason_kept n)), hreason]

end Sys2Proof.Machine
end

section
/-! Proofs: what O59 says of stages and images, put together from its clauses. -/

namespace Sys2Proof.Machine

/-- Settles O59, clause by clause: the commands of IMG_LOAD and the end of the checks through the registers and events they write, STAGE_CTRL through the seal and
the unbinding it starts, REDRESS_COMMIT through the binding of the stage, DRESSING_COMPLETE through what a failed Dressing and a formatted set leave. -/
theorem stagesAndImages : Obligations.StagesAndImages := by
  intro s
  refine ⟨?_, ?_, ?_, ?_, ?_, ?_, ?_⟩
  · exact fun p hp hon => ⟨imgLoadStart_answers hp hon, fun bs hl => ⟨imgLoadEnd_answers hp hon hl, imgLoadAbort_answers hp hon hl⟩⟩
  · exact fun p w bs hp hon hl => imgLoadData_answers hp hon hl
  · intro hnone
    have hidle : containerDone s = s := by simp only [containerDone, hnone]
    exact congrArg done hidle
  · exact fun g reason idx evs hg hr hc => containerCheckDone_answers hg hr hc
  · rintro p n unbind c rfl hp hon
    refine ⟨stageCtrl_refused hp hon, stageCtrl_live hp hon, ?_⟩
    rintro hr rfl hsealed herase
    exact stageCtrlUnbind_sealed hp hon hr hsealed herase
  · refine fun tr => ⟨fun hnone => ?_, ?_⟩
    · have hidle : redressCommit s tr = s := by simp only [redressCommit, hnone]
      exact congrArg done hidle
    · rintro n g hr hg hgate hst hm s1 rfl
      exact redressCommit_answers hr hg hgate hst hm
  · refine fun n marks => ⟨fun h => congrArg done (dressComplete_idle marks h), fun k hst hlive hk hpos hlt => dressingComplete_fault hst hlive hk hpos hlt, ?_⟩
    exact fun sec x hst hlive hfault hblocked htrain hchs hlane hsec hx hintent hkey hhouse =>
      dressingComplete_formats hst hlive hfault hblocked htrain hchs hlane hsec hx hintent hkey hhouse

end Sys2Proof.Machine
end

section
/-! Proofs: write-through operation catches up with its dirty frames before a sweep's visit and before an admitted write (R76, R98), so O31 and O32 fail where they ask that no other frame changes. -/

namespace Sys2Proof.Machine

/-- Of a command whose effect leaves `x`, what an answer says holds of `x` at the end of the command. -/
theorem Answers.of_done {c : Instr} {s x : State} {post : State → State → Prop} (hc : exec c s = done x) (h : Answers c s post) : ∃ u, post u (finish x) := by
  obtain ⟨u, hu, hpost⟩ := h
  rw [hc, done, Host.Outcome.next.injEq] at hu
  rw [hu]
  exact ⟨u, hpost⟩

theorem frameState_finish (s : State) (n : Stage) (f : Nat) : frameState (finish s) n f = frameState s n f := by
  rw [frameState, led, (quiet_finish s).ledger]
  rfl

/-- Stage 0 Live in Service, 100 clocks after a write has made one of its frames dirty. -/
def dirtied (f : Nat) : State :=
  { setFrame { State.reset with modes := { State.reset.modes with mode := .service, stages := qset State.reset.modes.stages 0 .live } } 0 f 1 with now := 800 }

/-- Stage 0 in write-through operation, its frame 0 dirty, its sweep past the line of that frame. -/
def sweptPast : State := setLedger (dirtied 0) 0 { led (dirtied 0) 0 with writeThrough := true, sweep := some 1 }

/-- The visit that ends the sweep comes behind the clock on which write-through operation selects frame 0 (R76, R98). -/
theorem sweepVisit_selects : frameState sweptPast 0 0 = 1 ∧ frameState (sweepVisit sweptPast 0) 0 0 = 2 := by decide +kernel

/-- Refutes O31: in write-through operation a dirty frame of a line that the sweep has passed becomes in-flight as the sweep ends. -/
theorem not_sweepsAndTrickle : ¬ Obligations.SweepsAndTrickle := by
  unfold Obligations.SweepsAndTrickle
  intro h
  obtain ⟨-, -, hend, -⟩ := h sweptPast 0
  obtain ⟨u, -, -, hframes, -⟩ := Answers.of_done rfl (hend 1 (by decide +kernel) (by decide +kernel))
  have hsame : frameState (sweepVisit sweptPast 0) 0 0 = frameState sweptPast 0 0 := (frameState_finish _ 0 0).symm.trans (hframes 0 0)
  obtain ⟨hdirty, hflight⟩ := sweepVisit_selects
  rw [hdirty, hflight] at hsame
  exact absurd hsame (by decide)

/-- A write to frame 0 that was held for a touch fetch. -/
def touchedWrite : HostWrite :=
  { owner := .mem 0 0, port := 0, line := 0, data := 0#512, mask := none, poison := false, since := 0, touch := true, silent := false, warned := false, gpf := false, wasHeld := true }

/-- Stage 0 in write-through operation, its frame 64 dirty, and a write to its restored frame 0 held. -/
def heldInWriteThrough : State := setLedger (dirtied 64) 0 { led (dirtied 64) 0 with writeThrough := true, cached := [0], held := [touchedWrite] }

/-- The released write comes behind the clock on which write-through operation selects frame 64 (R76, R98). -/
theorem heldWriteRelease_selects : frameState heldInWriteThrough 0 64 = 1 ∧ frameState (heldWriteRelease heldInWriteThrough 0) 0 64 = 2 := by decide +kernel

/-- Refutes O32: in write-through operation a dirty frame becomes in-flight as a held write to another frame is released. -/
theorem not_heldWritesAndLineFills : ¬ Obligations.HeldWritesAndLineFills := by
  unfold Obligations.HeldWritesAndLineFills
  intro h
  obtain ⟨hgo, -, -⟩ := h heldInWriteThrough 0 (by decide +kernel)
  obtain ⟨u, -, -, hframes, -, -⟩ := Answers.of_done rfl
    (hgo touchedWrite (by decide +kernel) (by decide +kernel) (by decide +kernel) (by decide +kernel) (by decide +kernel))
  have hsame : frameState (heldWriteRelease heldInWriteThrough 0) 0 64 = frameState heldInWriteThrough 0 64 :=
    (frameState_finish _ 0 64).symm.trans (hframes 0 64 (.inr (by decide)))
  obtain ⟨hdirty, hflight⟩ := heldWriteRelease_selects
  rw [hdirty, hflight] at hsame
  exact absurd hsame (by decide)

end Sys2Proof.Machine
end

section
/-! Proofs: the commands that clear a field, and the clearing and freezing of the performance counters (R125, R208, R539, R640, R643, R658, R680). -/

namespace Sys2Proof.Machine

/-! A write whose register is served, and one that changes no field of its register. -/

/-- A write that reaches its register finds the register's domain on, unless the register keeps a field in Dark and Hold (R608, R655). -/
theorem pathWrites_served {s : State} {p : Path} {i : Nat} (hp : pathWrites s p i = true) (hrs : hasRs i = false) : (mainOff s && regDomain i = .main) = false := by
  simp only [pathWrites, Bool.and_eq_true] at hp
  obtain ⟨hopen, hreach⟩ := hp
  cases p
  case sideband =>
    simp only [if_true, Bool.and_eq_true, Bool.not_eq_true', notServed, hrs, Bool.not_false, Bool.and_true] at hreach
    obtain ⟨⟨-, hserved⟩, -⟩ := hreach
    exact hserved
  all_goals
    have hon : mainOff s = false := by
      simp only [pathOpen, portUp, mainOn, List.any_cons, List.any_nil] at hopen
      grind
    rw [hon, Bool.false_and]

/-- A register with no field of the access types has an empty mask of them. -/
theorem accessMask_eq_zero {i : Nat} {ok : Access → Bool} (h : ∀ f ∈ regFields i, ok f.access = false) : accessMask i ok = 0#48 := by
  have hfold : ∀ fs : List FieldRow, (∀ f ∈ fs, ok f.access = false) → fs.foldl (fun a f => if ok f.access then a + rowMask f else a) 0 = 0 := by
    intro fs hfs
    induction fs with
    | nil => rfl
    | cons f fs ih =>
      simp only [List.foldl_cons, hfs f List.mem_cons_self, Bool.false_eq_true, if_false]
      exact ih fun g hg => hfs g (List.mem_cons_of_mem _ hg)
  rw [accessMask, hfold _ h]

/-- A write to a register with no field under a lock is one register write, with nothing noted (R653). -/
theorem commitWrite_unlocked {s : State} {i : Nat} (q : WPath) (w : Word) (hk : accessMask i (· == .rwk) = 0#48) (hon : (mainOff s && regDomain i = .main) = false) :
    commitWrite s q i w = setReg s i (writtenWord i (rawReg s i) w (regLocked s i)) := by
  have hsame : decide ((rawReg s i ^^^ w) &&& accessMask i (· == .rwk) ≠ 0#48) = false := by
    rw [hk, BitVec.and_zero]
    exact decide_eq_false (fun h => h rfl)
  unfold commitWrite
  dsimp only
  rw [hsame, Bool.and_false, Bool.false_and, Bool.false_and, if_neg Bool.false_ne_true, hon, if_neg Bool.false_ne_true]

/-- Every field of the register is read-only or a trigger. -/
def clearOnly (i : Nat) : Bool := (regFields i).all (fun f => f.access == .ro || f.access == .wo)

theorem clearOnly_mask {i : Nat} (h : clearOnly i = true) {ok : Access → Bool} (hro : ok .ro = false) (hwo : ok .wo = false) : accessMask i ok = 0#48 := by
  refine accessMask_eq_zero fun f hf => ?_
  have hf' := List.all_eq_true.mp h f hf
  rw [Bool.or_eq_true, beq_iff_eq, beq_iff_eq] at hf'
  rcases hf' with hf' | hf' <;> rw [hf'] <;> assumption

theorem clearOnly_hasRs {i : Nat} (h : clearOnly i = true) : hasRs i = false := by
  rw [hasRs, List.any_eq_false]
  intro f hf
  have hf' := List.all_eq_true.mp h f hf
  rw [Bool.or_eq_true, beq_iff_eq, beq_iff_eq] at hf'
  rcases hf' with hf' | hf' <;> simp [hf', beq_eq_decide]

theorem rawReg_setReg_rawReg (s : State) (i j : Nat) : rawReg (setReg s i (rawReg s i)) j = rawReg s j := by
  rw [rawReg_setReg]
  split
  · next h => rw [rawReg, rawReg, h]
  · rfl
/-- A write to such a register leaves every register as it was. -/
theorem rawReg_commitWrite_clearOnly {s : State} {i : Nat} (q : WPath) (w : Word) (h : clearOnly i = true) (hon : (mainOff s && regDomain i = .main) = false) (j : Nat) :
    rawReg (commitWrite s q i w) j = rawReg s j := by
  rw [commitWrite_unlocked q w (clearOnly_mask h rfl rfl) hon]
  have hsame : writtenWord i (rawReg s i) w (regLocked s i) = rawReg s i := by
    simp only [writtenWord, clearOnly_mask h (ok := fun a => a == .rw || a == .rs || (a == .rwk && !regLocked s i)) rfl rfl, clearOnly_mask h (ok := (· == .rw1c)) rfl rfl,
      BitVec.and_zero, BitVec.or_zero, BitVec.not_zero, BitVec.and_allOnes]
  rw [hsame, rawReg_setReg_rawReg]

section
variable {s : State} {p : Path} {i : Nat} (w : Word) (h : clearOnly i = true) (hon : (mainOff s && regDomain i = .main) = false)
include h hon

theorem rd_committed_clearOnly {g : Fld} (hg : steadyField g = true) : rd (committed s p i w) g = rd s g := by
  rw [rd, committed, rawReg_commitWrite_clearOnly _ _ h (mainOn_beforeCommit hon)]
  exact (quiet_beforeCommit s p i).fields g hg
omit h in
theorem still_committed_served : Still s (committed s p i w) := (quiet_beforeCommit s p i).still.trans (still_commitWrite _ _ _ _ (mainOn_beforeCommit hon))
end

/-! Fields set to 0. -/

/-- The fields set to 0, one after another. -/
def zeroed (fs : List Fld) (s : State) : State := foldS fs (fun s f => wr s f 0) s

theorem still_zeroed (fs : List Fld) (s : State) : Still s (zeroed fs s) := by
  unfold zeroed foldS
  induction fs generalizing s with
  | nil => exact (Quiet.refl s).still
  | cons f fs ih => exact (still_wr s f 0).trans (ih _)
/-- A field apart from all of them stands. -/
theorem rd_zeroed_apart {fs : List Fld} {g : Fld} (hg : g.lo + g.width ≤ 48) (h : ∀ f ∈ fs, apart f g = true) (s : State) : rd (zeroed fs s) g = rd s g := by
  unfold zeroed foldS
  induction fs generalizing s with
  | nil => rfl
  | cons f fs ih =>
    rw [List.foldl_cons, ih (fun e he => h e (List.mem_cons_of_mem _ he)), rd_wr_apart s f g 0 hg (h f List.mem_cons_self)]
/-- Each of them reads 0, whichever of them come behind it. -/
theorem rd_zeroed {fs : List Fld} {g : Fld} (hg : g ∈ fs) (hw : g.lo + g.width ≤ 48) (hap : fs.Pairwise (fun f g => apart g f = true)) (s : State) : rd (zeroed fs s) g = 0 := by
  unfold zeroed foldS
  induction fs generalizing s with
  | nil => cases hg
  | cons f fs ih =>
    obtain ⟨hf, hap⟩ := List.pairwise_cons.mp hap
    rw [List.foldl_cons]
    rcases List.mem_cons.mp hg with rfl | hg
    · exact (rd_zeroed_apart hw hf _).trans ((rd_wr_self _ _ _ hw).trans (Nat.zero_mod _))
    · exact ih hg hap _

/-- What a command answers that writes a register without writable fields and so sets fields to 0 (R647). -/
theorem clears_answers {c : Instr} {s : State} {p : Path} {i : Nat} {w : Word} {fs : List Fld} (hc : exec c s = done (regWord s p i w)) (hp : pathWrites s p i = true)
    (hi : clearOnly i = true) (hw : ∀ x, writeIgnored x i w = false) (ht : ∀ x pin, trigger x i w pin = zeroed fs x) (hfs : ∀ f ∈ fs, pathField f = true)
    (hap : fs.Pairwise (fun f g => apart g f = true)) :
    Answers c s (fun _ t => (∀ f ∈ fs, rd t f = 0) ∧ (∀ g, pathField g = true → (∀ f ∈ fs, apart f g = true) → rd t g = rd s g) ∧ Still s t) := by
  have hon := pathWrites_served hp (clearOnly_hasRs hi)
  refine answers_of_write hc hp hw hon ?_
  rw [ht]
  refine ⟨fun f hf => ?_, fun g hg hap => ?_, ?_⟩
  · rw [rd_finish_pathKeeps _ _ _ (hfs f hf)]
    exact rd_zeroed hf (pathField_width (hfs f hf)) hap _
  · rw [rd_finish_pathKeeps _ _ _ hg, rd_zeroed_apart (pathField_width hg) hap, rd_committed_clearOnly _ hi hon (pathField_steady hg)]
  · exact (((still_committed_served _ hon).trans (still_zeroed ..)).trans (still_pathKeeps ..)).trans (quiet_finish _).still

/-- The same of one field. -/
theorem clears_answers_one {c : Instr} {s : State} {p : Path} {w : Word} {f : Fld} (hc : exec c s = done (regWord s p f.idx w)) (hp : pathWrites s p f.idx = true)
    (hi : clearOnly f.idx = true) (hw : ∀ x, writeIgnored x f.idx w = false) (ht : ∀ x pin, trigger x f.idx w pin = wr x f 0) (hf : pathField f = true) :
    Answers c s (fun _ t => rd t f = 0 ∧ (∀ g, pathField g = true → apart f g = true → rd t g = rd s g) ∧ Still s t) := by
  obtain ⟨u, hu, hzero, hrest, hstill⟩ := clears_answers (fs := [f]) hc hp hi hw ht (List.forall_mem_singleton.mpr hf) (List.pairwise_singleton ..)
  exact ⟨u, hu, hzero f (List.mem_singleton_self f), fun g hg hap => hrest g hg (List.forall_mem_singleton.mpr hap), hstill⟩

/-- A write of one field of such a register is a write of that field alone. -/
theorem regField_clearOnly (s : State) (p : Path) (f : Fld) (v : Nat) (h : clearOnly f.idx = true) : regField s p f v = regWord s p f.idx (oneField f v) :=
  regField_alone s p f v (clearOnly_mask h rfl rfl)

/-! The clears of chapters 03, 05, 14 and 19 (R125, R208, R539, R658). -/

theorem ldgHoldMaxClear_answers {s : State} {p : Path} {n : Stage} (hp : pathWrites s p (F.LDG_HOLD_MAX_MAX_US n.val).idx = true) :
    Answers (.ldgHoldMaxClear p n) s (fun _ t => rd t (F.LDG_HOLD_MAX_MAX_US n.val) = 0 ∧
      (∀ g, pathField g = true → apart (F.LDG_HOLD_MAX_MAX_US n.val) g = true → rd t g = rd s g) ∧ Still s t) := by
  have hi : clearOnly (F.LDG_HOLD_MAX_MAX_US n.val).idx = true := by fin_cases n <;> decide +kernel
  have hf : pathField (F.LDG_HOLD_MAX_MAX_US n.val) = true := by fin_cases n <;> decide +kernel
  have hc : exec (.ldgHoldMaxClear p n) s = done (regWord s p (F.LDG_HOLD_MAX_MAX_US n.val).idx (oneField (F.LDG_HOLD_MAX_CLEAR n.val) 1)) :=
    congrArg done (regField_clearOnly s p (F.LDG_HOLD_MAX_CLEAR n.val) 1 hi)
  refine clears_answers_one hc hp hi (fun x => ?_) (fun x pin => ?_) hf <;> fin_cases n <;> rfl

theorem restoreTouchMaxClear_answers {s : State} {p : Path} {n : Stage} (hp : pathWrites s p (F.RESTORE_TOUCH_MAX_MAX_US n.val).idx = true) :
    Answers (.restoreTouchMaxClear p n) s (fun _ t => rd t (F.RESTORE_TOUCH_MAX_MAX_US n.val) = 0 ∧
      (∀ g, pathField g = true → apart (F.RESTORE_TOUCH_MAX_MAX_US n.val) g = true → rd t g = rd s g) ∧ Still s t) := by
  have hi : clearOnly (F.RESTORE_TOUCH_MAX_MAX_US n.val).idx = true := by fin_cases n <;> decide +kernel
  have hf : pathField (F.RESTORE_TOUCH_MAX_MAX_US n.val) = true := by fin_cases n <;> decide +kernel
  have hc : exec (.restoreTouchMaxClear p n) s = done (regWord s p (F.RESTORE_TOUCH_MAX_MAX_US n.val).idx (oneField (F.RESTORE_TOUCH_MAX_CLEAR n.val) 1)) :=
    congrArg done (regField_clearOnly s p (F.RESTORE_TOUCH_MAX_CLEAR n.val) 1 hi)
  refine clears_answers_one hc hp hi (fun x => ?_) (fun x pin => ?_) hf <;> fin_cases n <;> rfl

theorem glbAccessClear_answers {s : State} {p : Path} (hp : pathWrites s p F.GLB_ACCESS_COUNT.idx = true) :
    Answers (.glbAccessClear p) s (fun _ t => rd t F.GLB_ACCESS_COUNT = 0 ∧ rd t F.GLB_ACCESS_KIND = 0 ∧
      (∀ g, pathField g = true → apart F.GLB_ACCESS_COUNT g = true → apart F.GLB_ACCESS_KIND g = true → rd t g = rd s g) ∧ Still s t) := by
  have hi : clearOnly F.GLB_ACCESS_COUNT.idx = true := by decide +kernel
  have hc : exec (.glbAccessClear p) s = done (regWord s p F.GLB_ACCESS_COUNT.idx (oneField F.GLB_ACCESS_CLEAR 1)) :=
    congrArg done (regField_clearOnly s p F.GLB_ACCESS_CLEAR 1 hi)
  obtain ⟨u, hu, hzero, hrest, hstill⟩ := clears_answers (fs := [F.GLB_ACCESS_COUNT, F.GLB_ACCESS_KIND]) hc hp hi (fun _ => rfl) (fun _ _ => rfl)
    (by decide +kernel) (by decide)
  exact ⟨u, hu, hzero _ (by decide), hzero _ (by decide), fun g hg hcount hkind => hrest g hg (by simp [hcount, hkind]), hstill⟩

theorem stageXbarFaultClear_answers {s : State} {p : Path} (hp : pathWrites s p F.STAGE_XBAR_FAULT_COUNT.idx = true) :
    Answers (.stageXbarFaultClear p) s (fun _ t => rd t F.STAGE_XBAR_FAULT_COUNT = 0 ∧
      (∀ g, pathField g = true → apart F.STAGE_XBAR_FAULT_COUNT g = true → rd t g = rd s g) ∧ Still s t) := by
  have hi : clearOnly F.STAGE_XBAR_FAULT_COUNT.idx = true := by decide +kernel
  have hc : exec (.stageXbarFaultClear p) s = done (regWord s p F.STAGE_XBAR_FAULT_COUNT.idx (oneField F.STAGE_XBAR_FAULT_CLEAR 1)) :=
    congrArg done (regField_clearOnly s p F.STAGE_XBAR_FAULT_CLEAR 1 hi)
  exact clears_answers_one hc hp hi (fun _ => rfl) (fun _ _ => rfl) (by decide +kernel)

/-! The peak of the power estimate (R680). -/

/-- The power estimate's peak taken from a tick on. -/
def peakFrom (s : State) (k : Nat) : State := { s with pack := { s.pack with peakSince := k } }

theorem Still.peakFrom {s t : State} (h : Still s t) (k : Nat) : Still (peakFrom s k) (peakFrom t k) where
  now := h.now
  modes := h.modes
  store := h.store
  cipher := h.cipher
  dram := h.dram
  flash := h.flash
  ledger := h.ledger
  saves := h.saves
  saveDev := h.saveDev
  restore := h.restore
  heat := h.heat
  power := h.power
  link := h.link
  pack := by rw [Machine.peakFrom, Machine.peakFrom, h.pack]
  timers := h.timers
  pending := h.pending
  freeIdx := h.freeIdx
  image := h.image
  fw := h.fw
  gauge := h.gauge
  cxl := h.cxl

/-- A peak taken since the present tick reads 0. -/
theorem fldOf_regView_peak {t : State} (h : t.pack.peakSince = tickOf t) : fldOf (regView t F.CPD_POWER_PEAK_MW.idx) F.CPD_POWER_PEAK_MW = 0 := by
  have hview : regView t F.CPD_POWER_PEAK_MW.idx = withFld (fieldView t F.CPD_POWER_MW (Config.powerEstimate (tickOf t))) F.CPD_POWER_PEAK_MW
      (powerPeak (t.pack.peakSince + 1) (tickOf t - t.pack.peakSince)) := rfl
  rw [hview, h, Nat.sub_self, fldOf_withFld_self _ _ _ (by decide)]
  rfl

theorem cpdPowerClearPeak_answers {s : State} {p : Path} (hp : pathWrites s p F.CPD_POWER_PEAK_MW.idx = true) :
    Answers (.cpdPowerClearPeak p) s (fun _ t => fldOf (regView t F.CPD_POWER_PEAK_MW.idx) F.CPD_POWER_PEAK_MW = 0 ∧
      (∀ g, pathField g = true → rd t g = rd s g) ∧ Still { s with pack := { s.pack with peakSince := tickOf s } } t) := by
  have hi : clearOnly F.CPD_POWER_PEAK_MW.idx = true := by decide +kernel
  have hc : exec (.cpdPowerClearPeak p) s = done (regWord s p F.CPD_POWER_PEAK_MW.idx (oneField F.CPD_POWER_CLEAR_PEAK 1)) :=
    congrArg done (regField_clearOnly s p F.CPD_POWER_CLEAR_PEAK 1 hi)
  have ht : ∀ x pin, trigger x F.CPD_POWER_PEAK_MW.idx (oneField F.CPD_POWER_CLEAR_PEAK 1) pin = peakFrom x (tickOf x) := fun _ _ => rfl
  have hon := pathWrites_served hp (clearOnly_hasRs hi)
  have hwritten := still_committed_served (p := p) (oneField F.CPD_POWER_CLEAR_PEAK 1) hon
  have htick : tickOf (committed s p F.CPD_POWER_PEAK_MW.idx (oneField F.CPD_POWER_CLEAR_PEAK 1)) = tickOf s := by rw [tickOf, tickOf, hwritten.now]
  refine answers_of_write hc hp (fun _ => rfl) hon ?_
  rw [ht, htick]
  have hend := ((hwritten.peakFrom (tickOf s)).trans (still_pathKeeps _ p F.CPD_POWER_PEAK_MW.idx)).trans (quiet_finish _).still
  refine ⟨fldOf_regView_peak ?_, fun g hg => ?_, hend⟩
  · rw [hend.pack]
    exact (congrArg (· / unitsPerTick) hend.now).symm
  · rw [rd_finish_pathKeeps _ _ _ hg]
    exact rd_committed_clearOnly _ hi hon (pathField_steady hg)

/-! The performance counters (R640, R643). -/

/-- PMON_CTRL as fields: the two that a write sets, and the trigger between them. -/
theorem pmonCtrl_masks : accessMask 0x3C40 (· == .rwk) = 0#48 ∧ accessMask 0x3C40 (· == .rw1c) = 0#48
    ∧ (∀ l, accessMask 0x3C40 (fun a => a == .rw || a == .rs || (a == .rwk && !l)) = 5#48) ∧ accessMask 0x3C40 (fun a => a == .rw || a == .rs || a == .rwk) = 5#48 := by
  decide +kernel

/-- CLEAR written with the settings as they stand changes no bit of the register. -/
theorem writtenWord_pmonClear (old : Word) (l : Bool) : writtenWord 0x3C40 old (withFld (old &&& 5#48) F.PMON_CTRL_CLEAR 1) l = old := by
  obtain ⟨-, hw1c, hrw, -⟩ := pmonCtrl_masks
  have hword : withFld (old &&& 5#48) F.PMON_CTRL_CLEAR 1 = ((old &&& 5#48) &&& ~~~2#48) ||| 2#48 := rfl
  have hclear : (2#48 : Word) &&& 5#48 = 0#48 := by decide
  rw [writtenWord, hw1c, hrw, hword]
  apply BitVec.eq_of_getLsbD_eq
  intro i hi
  have hbit : ((2#48 : Word).getLsbD i && (5#48 : Word).getLsbD i) = false := by rw [← BitVec.getLsbD_and, hclear, BitVec.getLsbD_zero]
  simp only [BitVec.and_zero, BitVec.not_zero, BitVec.and_allOnes, BitVec.getLsbD_or, BitVec.getLsbD_and, BitVec.getLsbD_not, hi, decide_true, Bool.true_and]
  revert hbit
  cases old.getLsbD i <;> cases (5#48 : Word).getLsbD i <;> cases (2#48 : Word).getLsbD i <;> decide

theorem rawReg_quiet_pmonCtrl {s t : State} (h : Quiet s t) : rawReg t 0x3C40 = rawReg s 0x3C40 := by
  have hword : ∀ x : State, rd x ⟨0x3C40, 0, 48⟩ = (rawReg x 0x3C40).toNat := fun x => by
    rw [rd, fldOf, bits, Nat.pow_zero, Nat.div_one, Nat.mod_eq_of_lt (rawReg x 0x3C40).isLt]
  exact BitVec.eq_of_toNat_eq ((hword t).symm.trans ((h.fields ⟨0x3C40, 0, 48⟩ (by decide +kernel)).trans (hword s)))

/-- The counters as fields. -/
def pmonCounters : List Fld := (List.range 32).map F.PMON_CNT_COUNT

theorem pmonClear_eq (s : State) : pmonClear s = zeroed pmonCounters s := by
  rw [pmonClear, zeroed, foldS, foldS, pmonCounters, List.foldl_map]
theorem rawReg_pmonClear (s : State) {k : Nat} (hk : k < 32) : rawReg (pmonClear s) (F.PMON_CNT_COUNT k).idx = 0#48 := by
  have hzero : rd (pmonClear s) (F.PMON_CNT_COUNT k) = 0 := by
    rw [pmonClear_eq]
    exact rd_zeroed (List.mem_map_of_mem (List.mem_range.mpr hk)) (by rfl) (by decide +kernel) s
  have hword : rd (pmonClear s) (F.PMON_CNT_COUNT k) = (rawReg (pmonClear s) (F.PMON_CNT_COUNT k).idx).toNat := by
    have hfld : ∀ x : Word, fldOf x (F.PMON_CNT_COUNT k) = x.toNat % 2 ^ 48 := fun x => by rw [fldOf, bits]; simp [F.PMON_CNT_COUNT]
    rw [rd, hfld, Nat.mod_eq_of_lt (BitVec.isLt _)]
  exact BitVec.eq_of_toNat_eq (hword.symm.trans hzero)
/-- A field that no command's end counts stands as the counters are cleared. -/
theorem rd_pmonClear {g : Fld} (hg : steadyField g = true) (s : State) : rd (pmonClear s) g = rd s g := by
  simp only [steadyField, Bool.and_eq_true, decide_eq_true_eq, List.all_eq_true] at hg
  obtain ⟨hw, hap⟩ := hg
  rw [pmonClear_eq]
  exact rd_zeroed_apart hw (fun f hf => hap f (List.mem_append_left _ (List.mem_append_right _ hf))) s

theorem pathKeeps_pmonCounter (s : State) (p : Path) (i : Nat) {k : Nat} (hk : k < 32) :
    rawReg (pathKeeps s p i) (F.PMON_CNT_COUNT k).idx = rawReg s (F.PMON_CNT_COUNT k).idx := by
  have hne : homeIdx (F.PMON_CNT_COUNT k).idx ≠ homeIdx F.SB_LAST_INDEX.idx := by
    interval_cases k <;> decide
  unfold pathKeeps
  split
  · exact (rawReg_wr_other _ F.SB_LAST_RESULT _ _ hne).trans (rawReg_wr_other _ F.SB_LAST_INDEX _ _ hne)
  · rfl

section
variable {s : State} {p : Path} (hp : pathWrites s p F.PMON_CTRL_FREEZE.idx = true)
include hp

theorem pmonCtrl_served : (mainOff s && regDomain 0x3C40 = .main) = false := pathWrites_served hp (by decide +kernel)

theorem rd_committed_pmonClear {g : Fld} (hg : steadyField g = true) :
    rd (committed s p 0x3C40 (withFld (rawReg s 0x3C40 &&& 5#48) F.PMON_CTRL_CLEAR 1)) g = rd s g := by
  obtain ⟨hk, -, -, -⟩ := pmonCtrl_masks
  have hq := quiet_beforeCommit s p 0x3C40
  rw [rd, committed, commitWrite_unlocked _ _ hk (mainOn_beforeCommit (pmonCtrl_served hp)), ← rawReg_quiet_pmonCtrl hq, writtenWord_pmonClear, rawReg_setReg_rawReg]
  exact hq.fields g hg

theorem pmonClear_answers : Answers (.pmonClear p) s (fun u t => (∀ k, k < 32 → rawReg u (F.PMON_CNT_COUNT k).idx = 0#48) ∧ (∀ g, pathField g = true → rd t g = rd s g) ∧ Still s t) := by
  obtain ⟨-, -, -, hrw⟩ := pmonCtrl_masks
  have hfield : regField s p F.PMON_CTRL_CLEAR 1 = regWord s p 0x3C40 (withFld (rawReg s 0x3C40 &&& 5#48) F.PMON_CTRL_CLEAR 1) := by
    rw [← hrw]
    rfl
  have hc : exec (.pmonClear p) s = done (regWord s p 0x3C40 (withFld (rawReg s 0x3C40 &&& 5#48) F.PMON_CTRL_CLEAR 1)) := congrArg done hfield
  have hbit : bitOf (withFld (rawReg s 0x3C40 &&& 5#48) F.PMON_CTRL_CLEAR 1).toNat 1 = true := by
    have h := testBit_withFld (rawReg s 0x3C40 &&& 5#48) F.PMON_CTRL_CLEAR 1 1
    simpa [bitOf, Nat.testBit_eq_decide_div_mod_eq, F.PMON_CTRL_CLEAR] using h
  have ht : ∀ x pin, trigger x 0x3C40 (withFld (rawReg s 0x3C40 &&& 5#48) F.PMON_CTRL_CLEAR 1) pin = pmonClear x := fun x pin => by
    have hwhen : trigger x 0x3C40 (withFld (rawReg s 0x3C40 &&& 5#48) F.PMON_CTRL_CLEAR 1) pin
        = whenS (bitOf (withFld (rawReg s 0x3C40 &&& 5#48) F.PMON_CTRL_CLEAR 1).toNat 1) pmonClear x := rfl
    rw [hwhen, hbit]
    rfl
  refine answers_of_write hc hp (fun _ => rfl) (pmonCtrl_served hp) ?_
  rw [ht]
  refine ⟨fun k hk => ?_, fun g hg => ?_, ?_⟩
  · rw [pathKeeps_pmonCounter _ _ _ hk, rawReg_pmonClear _ hk]
  · rw [rd_finish_pathKeeps _ _ _ hg, rd_pmonClear (pathField_steady hg), rd_committed_pmonClear hp (pathField_steady hg)]
  · rw [pmonClear_eq]
    exact (((still_committed_served _ (pmonCtrl_served hp)).trans (still_zeroed ..)).trans (still_pathKeeps ..)).trans (quiet_finish _).still

/-- A field that PMON_CTRL's write sets reads as the word gives it, whether or not the word clears the counters too. -/
theorem rd_pmonFreeze (w : Word) {f : FieldRow} (hf : f ∈ regFields 0x3C40) (hrw : f.access = .rw) (hg : pathField ⟨0x3C40, f.lo, f.width⟩ = true) :
    rd (finish (pathKeeps (whenS (bitOf w.toNat 1) pmonClear (committed s p 0x3C40 w)) p 0x3C40)) ⟨0x3C40, f.lo, f.width⟩ = fldOf w ⟨0x3C40, f.lo, f.width⟩ := by
  have hwritten := rd_committed_self w (p := p) (pmonCtrl_served hp) hf (pathField_steady hg)
  rw [hrw] at hwritten
  rw [rd_finish_pathKeeps _ _ _ hg, whenS]
  split
  · exact (rd_pmonClear (pathField_steady hg) _).trans hwritten
  · exact hwritten

theorem pmonFreeze_answers (w : Word) : Answers (.pmonFreeze p w) s (fun _ t => rd t F.PMON_CTRL_FREEZE = fldOf w F.PMON_CTRL_FREEZE
    ∧ rd t F.PMON_CTRL_WRAP_EVENT = fldOf w F.PMON_CTRL_WRAP_EVENT
    ∧ (pmonRuns t = true ↔ fldOf w F.PMON_CTRL_FREEZE = 0 ∧ s.modes.mode ≠ .dark ∧ s.modes.mode ≠ .hold) ∧ Still s t) := by
  have ht : ∀ x pin, trigger x 0x3C40 w pin = whenS (bitOf w.toNat 1) pmonClear x := fun _ _ => rfl
  refine answers_of_write (i := 0x3C40) rfl hp (fun _ => rfl) (pmonCtrl_served hp) ?_
  rw [ht]
  have hfreeze := rd_pmonFreeze hp w (f := ⟨0, 1, .rw, 0⟩) (by decide +kernel) rfl (by decide +kernel)
  have hwrap := rd_pmonFreeze hp w (f := ⟨2, 1, .rw, 0⟩) (by decide +kernel) rfl (by decide +kernel)
  have hclear : Still (committed s p 0x3C40 w) (whenS (bitOf w.toNat 1) pmonClear (committed s p 0x3C40 w)) := by
    rw [whenS, pmonClear_eq]
    split
    · exact still_zeroed ..
    · exact (Quiet.refl _).still
  have hstill := (((still_committed_served w (pmonCtrl_served hp)).trans hclear).trans (still_pathKeeps _ p 0x3C40)).trans (quiet_finish _).still
  refine ⟨hfreeze, hwrap, ?_, hstill⟩
  have hfreeze' : rd (finish (pathKeeps (whenS (bitOf w.toNat 1) pmonClear (committed s p 0x3C40 w)) p 0x3C40)) F.PMON_CTRL_FREEZE = fldOf w F.PMON_CTRL_FREEZE := hfreeze
  simp only [pmonRuns, hstill.modes, hfreeze', Bool.and_eq_true, decide_eq_true_eq, beq_iff_eq]
  tauto
end

/-- Settles O8, command by command: a clear writes a register without writable fields and so sets its field to 0; PMON_CTRL keeps the settings that PMON_CLEAR writes back. -/
theorem registerClears : Obligations.RegisterClears := by
  unfold Obligations.RegisterClears
  intro s p n
  exact ⟨ldgHoldMaxClear_answers, restoreTouchMaxClear_answers, glbAccessClear_answers, stageXbarFaultClear_answers, cpdPowerClearPeak_answers,
    fun w hp => ⟨pmonClear_answers hp, pmonFreeze_answers hp w⟩⟩

end Sys2Proof.Machine
end

section
/-! Proofs: counting and sampling an access, and what the ledger's shared operations leave of a state (R73 to R83, R92, R121, R196, R641). -/

namespace Sys2Proof.Machine

/-! An access counted and sampled. -/

/-- Counting a response's DevLoad writes registers at most (R641). -/
theorem regsOnly_loadHit (s : State) (port load : Nat) : RegsOnly s (loadHit s port load) := .ite _ (regsOnly_pmonHit ..) (.ite _ (regsOnly_pmonHit ..) (.refl s))

/-- A field that neither the end of a command nor the heat ring counts in. -/
def accessField (g : Fld) : Bool := steadyField g && apart F.RESTORE_HEAT_DROPPED g

/-- `t` is `s` with accesses counted and sampled. -/
structure Counted (s t : State) : Prop where
  rest : ∃ r e h, t = { s with regs := r, evs := e, heat := h }
  fields : ∀ g, accessField g = true → rd t g = rd s g

namespace Counted

theorem refl (s : State) : Counted s s := ⟨⟨s.regs, s.evs, s.heat, rfl⟩, fun _ _ => rfl⟩
theorem trans {s t u : State} (h : Counted s t) (k : Counted t u) : Counted s u := by
  obtain ⟨r, e, x, rfl⟩ := h.rest
  obtain ⟨r', e', x', rfl⟩ := k.rest
  exact ⟨⟨r', e', x', rfl⟩, fun g hg => (k.fields g hg).trans (h.fields g hg)⟩
theorem ite {s a b : State} (c : Prop) [Decidable c] (ha : Counted s a) (hb : Counted s b) : Counted s (if c then a else b) := by
  split
  · exact ha
  · exact hb

theorem pmonHit (s : State) (g i k n : Nat) : Counted s (pmonHit s g i k n) := by
  have q := quiet_pmonHit s g i k n
  obtain ⟨r, e, he⟩ := regsOnly_pmonHit s g i k n
  refine ⟨⟨r, s.evs ++ e, s.heat, he⟩, fun f hf => q.fields f ?_⟩
  rw [accessField, Bool.and_eq_true] at hf
  exact hf.1
theorem loadHit (s : State) (port load : Nat) : Counted s (loadHit s port load) := .ite _ (pmonHit ..) (.ite _ (pmonHit ..) (.refl s))
theorem sampled (s : State) (h : Quad HeatState) : Counted s { s with heat := h } := ⟨⟨s.regs, s.evs, h, rfl⟩, fun _ _ => rfl⟩
theorem dropped (s : State) (k : Nat) : Counted s (incSat s F.RESTORE_HEAT_DROPPED k) := by
  refine ⟨⟨(incSat s F.RESTORE_HEAT_DROPPED k).regs, s.evs, s.heat, rfl⟩, fun g hg => ?_⟩
  rw [accessField, steadyField, Bool.and_eq_true, Bool.and_eq_true, decide_eq_true_eq] at hg
  obtain ⟨⟨hw, -⟩, hap⟩ := hg
  exact rd_wr_apart _ _ _ _ hw hap
theorem heatSample (s : State) (n : Stage) (f : Nat) : Counted s (heatSample s n f) := by
  unfold Machine.heatSample
  refine .ite _ (.refl s) (.ite _ (.sampled ..) (.ite _ ((pmonHit ..).trans (.sampled ..)) ?_))
  exact (((pmonHit ..).trans (.sampled ..)).trans (pmonHit ..)).trans (.dropped ..)
theorem heatArrive (s : State) (n : Stage) (l : Nat) (w : Bool) : Counted s (heatArrive s n l w) := .ite _ (.refl s) (.heatSample ..)

section
variable {s t : State} (h : Counted s t)
include h

theorem now : t.now = s.now := by obtain ⟨_, _, _, rfl⟩ := h.rest; rfl
theorem modes : t.modes = s.modes := by obtain ⟨_, _, _, rfl⟩ := h.rest; rfl
theorem dram : t.dram = s.dram := by obtain ⟨_, _, _, rfl⟩ := h.rest; rfl
theorem ledger : t.ledger = s.ledger := by obtain ⟨_, _, _, rfl⟩ := h.rest; rfl
theorem restore : t.restore = s.restore := by obtain ⟨_, _, _, rfl⟩ := h.rest; rfl
theorem flash : t.flash = s.flash := by obtain ⟨_, _, _, rfl⟩ := h.rest; rfl
theorem saves : t.saves = s.saves := by obtain ⟨_, _, _, rfl⟩ := h.rest; rfl
theorem saveDev : t.saveDev = s.saveDev := by obtain ⟨_, _, _, rfl⟩ := h.rest; rfl
theorem cxl : t.cxl = s.cxl := by obtain ⟨_, _, _, rfl⟩ := h.rest; rfl
theorem out : t.out = s.out := by obtain ⟨_, _, _, rfl⟩ := h.rest; rfl
theorem led (n : Stage) : Machine.led t n = Machine.led s n := congrArg (qget · n) h.ledger
theorem rst (n : Stage) : Machine.rst t n = Machine.rst s n := congrArg (qget · n) h.restore
theorem stageSt (n : Stage) : Machine.stageSt t n = Machine.stageSt s n := by rw [Machine.stageSt, h.modes]; rfl
theorem frameState (n : Stage) (f : Nat) : Machine.frameState t n f = Machine.frameState s n f := by rw [Machine.frameState, h.led]; rfl
theorem mapLine (n : Stage) (l : Nat) : Machine.mapLine t n l = Machine.mapLine s n l := by obtain ⟨_, _, _, rfl⟩ := h.rest; rfl
theorem gateHolds (n : Stage) : Machine.gateHolds t n = Machine.gateHolds s n := by simp only [Machine.gateHolds, h.led, h.saveDev, sav, h.saves]
theorem isRestored (n : Stage) (f : Nat) : Machine.isRestored t n f = Machine.isRestored s n f := by simp only [Machine.isRestored, h.rst]
theorem touchKnown (n : Stage) (f : Nat) : Machine.touchKnown t n f = Machine.touchKnown s n f := by simp only [Machine.touchKnown, h.rst]
theorem rawLines (n : Stage) : Machine.rawLines t n = Machine.rawLines s n := by
  rw [Machine.rawLines, h.fields _ (by fin_cases n <;> decide +kernel)]; rfl
theorem hostLines (n : Stage) : Machine.hostLines t n = Machine.hostLines s n := by
  rw [Machine.hostLines, h.fields _ (by fin_cases n <;> decide +kernel)]; rfl
theorem stagePort (n : Stage) : Machine.stagePort t n = Machine.stagePort s n := h.fields _ (by fin_cases n <;> decide +kernel)
theorem bound (n : Stage) : Machine.bound t n = Machine.bound s n := by
  rw [Machine.bound, rdb, h.fields _ (by fin_cases n <;> decide +kernel)]; rfl
theorem portMld : Machine.portMld t = Machine.portMld s := by obtain ⟨_, _, _, rfl⟩ := h.rest; rfl
theorem ldStage (port ld : Nat) : Machine.ldStage t port ld = Machine.ldStage s port ld := by
  have hld : ∀ n : Stage, rd t (F.STAGE_BIND_LD_ID n.val) = rd s (F.STAGE_BIND_LD_ID n.val) := fun n => h.fields _ (by fin_cases n <;> decide +kernel)
  rw [Machine.ldStage, Machine.ldStage, funext h.bound, funext h.stagePort, h.portMld]
  simp only [hld]
theorem noCredit (n : Stage) (w : Bool) : Machine.noCredit t n w = Machine.noCredit s n w := by
  rw [Machine.noCredit, Machine.noCredit, creditPeers, creditPeers, funext h.stagePort, funext h.bound, h.portMld, h.cxl]
theorem capHolds (n : Stage) : Machine.capHolds t n = Machine.capHolds s n := by
  have hres : residue t n = residue s n := h.fields _ (by fin_cases n <;> decide +kernel)
  have hcap : stageCap t n = stageCap s n := h.fields _ (by fin_cases n <;> decide +kernel)
  rw [Machine.capHolds, Machine.capHolds, spaceHolds, spaceHolds, h.led, hres, hcap, h.stageSt, fsys, fsys, h.flash]
theorem releasable (n : Stage) : Machine.releasable t n = Machine.releasable s n := by
  simp only [Machine.releasable, h.led, h.isRestored, h.capHolds, firstTouch, h.frameState]
end
end Counted

/-! The ledger of a stage as single operations leave it. -/

theorem led_setLedger (s : State) (n m : Stage) (l : LedgerState) : led (setLedger s n l) m = if m = n then l else led s m := qget_qset ..
theorem led_setLedger_self (s : State) (n : Stage) (l : LedgerState) : led (setLedger s n l) n = l := qget_qset_self ..
theorem rst_setRst (s : State) (n m : Stage) (r : RestoreState) : rst (setRst s n r) m = if m = n then r else rst s m := qget_qset ..

/-- `t` is `s` with other registers, events and restores; of the ledgers at most the marks of the soft watermark differ. -/
structure Refreshed (s t : State) : Prop where
  rest : ∃ r e l q, t = { s with regs := r, evs := e, ledger := l, restore := q }
  ledgers : ∀ n, ∃ b, led t n = { led s n with aboveSoft := b }

theorem regsOnly_spaceRefresh (s : State) (n : Stage) : RegsOnly s (spaceRefresh s n) := by
  unfold spaceRefresh
  exact ((RegsOnly.refl s).when _ _ fun s => regsOnly_event s ..).trans (regsOnly_wr ..)

namespace Refreshed

theorem trans {s t u : State} (h : Refreshed s t) (k : Refreshed t u) : Refreshed s u := by
  refine ⟨?_, fun n => ?_⟩
  · obtain ⟨r, e, l, q, rfl⟩ := h.rest
    obtain ⟨r', e', l', q', rfl⟩ := k.rest
    exact ⟨r', e', l', q', rfl⟩
  · obtain ⟨b, hb⟩ := h.ledgers n
    obtain ⟨b', hb'⟩ := k.ledgers n
    exact ⟨b', by rw [hb', hb]⟩
theorem of_regsOnly {s t : State} (h : RegsOnly s t) : Refreshed s t := by
  obtain ⟨r, e, rfl⟩ := h
  exact ⟨⟨r, s.evs ++ e, s.ledger, s.restore, rfl⟩, fun n => ⟨(led s n).aboveSoft, rfl⟩⟩
theorem setRst (s : State) (n : Stage) (r : RestoreState) : Refreshed s (setRst s n r) :=
  ⟨⟨s.regs, s.evs, s.ledger, _, rfl⟩, fun m => ⟨(led s m).aboveSoft, rfl⟩⟩
theorem aboveSoft (s : State) (n : Stage) (b : Bool) : Refreshed s (setLedger s n { led s n with aboveSoft := b }) := by
  refine ⟨⟨s.regs, s.evs, _, s.restore, rfl⟩, fun m => ?_⟩
  rw [led_setLedger]
  split
  · next h => exact ⟨b, by rw [h]⟩
  · exact ⟨(led s m).aboveSoft, rfl⟩
theorem ledRefresh (s : State) (n : Stage) : Refreshed s (ledRefresh s n) := by
  have hstatus := fun a b c d => (((regsOnly_wr s (F.LDG_STATUS_ABOVE_SOFT n.val) a).trans (regsOnly_wr _ (F.LDG_STATUS_AT_CAP n.val) b)).trans
    (regsOnly_wr _ (F.LDG_STATUS_OVER_CAP n.val) c)).trans (regsOnly_wr _ (F.LDG_STATUS_HELD n.val) d)
  unfold Machine.ledRefresh
  refine Refreshed.trans (Refreshed.trans ?_ (aboveSoft ..)) (of_regsOnly (regsOnly_spaceRefresh ..))
  exact of_regsOnly ((hstatus _ _ _ _).when _ _ fun s => regsOnly_event s ..)

section
variable {s t : State} (h : Refreshed s t)
include h

theorem now : t.now = s.now := by obtain ⟨_, _, _, _, rfl⟩ := h.rest; rfl
theorem modes : t.modes = s.modes := by obtain ⟨_, _, _, _, rfl⟩ := h.rest; rfl
theorem dram : t.dram = s.dram := by obtain ⟨_, _, _, _, rfl⟩ := h.rest; rfl
theorem cxl : t.cxl = s.cxl := by obtain ⟨_, _, _, _, rfl⟩ := h.rest; rfl
theorem flash : t.flash = s.flash := by obtain ⟨_, _, _, _, rfl⟩ := h.rest; rfl
theorem saveDev : t.saveDev = s.saveDev := by obtain ⟨_, _, _, _, rfl⟩ := h.rest; rfl
theorem out : t.out = s.out := by obtain ⟨_, _, _, _, rfl⟩ := h.rest; rfl
theorem frames (n : Stage) : (led t n).ledger = (led s n).ledger := by obtain ⟨b, hb⟩ := h.ledgers n; rw [hb]
theorem held (n : Stage) : (led t n).held = (led s n).held := by obtain ⟨b, hb⟩ := h.ledgers n; rw [hb]
theorem holdSince (n : Stage) : (led t n).holdSince = (led s n).holdSince := by obtain ⟨b, hb⟩ := h.ledgers n; rw [hb]
theorem frameState (n : Stage) (f : Nat) : frameState t n f = frameState s n f := congrArg (mget 0 · f) (h.frames n)
end
end Refreshed

theorem ledRefresh_restore (s : State) (n : Stage) : (ledRefresh s n).restore = s.restore := by
  unfold ledRefresh spaceRefresh whenS
  dsimp only
  split <;> split <;> rfl

/-! A frame's state changed (R74). -/

theorem qset_qget_self {α : Type} (q : Quad α) (i : Fin 4) : qset q i (qget q i) = q := by fin_cases i <;> rfl

/-- A frame's change writes registers and, of its stage's ledger, states, line counts, settle counters and the marks of the clock. -/
theorem setFrame_eq (s : State) (n : Stage) (f v : Nat) : ∃ r lg lc st mk,
    setFrame s n f v = { s with regs := r, ledger := qset s.ledger n { led s n with ledger := lg, lineCount := lc, settle := st, marks := mk } }
      ∧ ∀ g, mget 0 lg g = if g = f then v else frameState s n g := by
  unfold setFrame
  dsimp only
  split
  · next h =>
    refine ⟨s.regs, (led s n).ledger, (led s n).lineCount, (led s n).settle, (led s n).marks, ?_, fun g => ?_⟩
    · rw [led, qset_qget_self]
    · split
      · next hg => rw [hg, ← h]
      · rfl
  · split
    · exact ⟨_, _, _, _, _, rfl, fun g => mget_mset ..⟩
    · split
      · exact ⟨_, _, _, _, _, rfl, fun g => mget_mset ..⟩
      · exact ⟨s.regs, _, _, _, _, rfl, fun g => mget_mset ..⟩

theorem frameState_setFrame (s : State) (n m : Stage) (f g v : Nat) :
    frameState (setFrame s n f v) m g = if m = n ∧ g = f then v else frameState s m g := by
  obtain ⟨r, lg, lc, st, mk, he, hlg⟩ := setFrame_eq s n f v
  rw [he, frameState, led, qget_qset]
  by_cases hm : m = n
  · subst hm
    simp [hlg]
  · simp [hm, frameState, led]

end Sys2Proof.Machine
end

section
/-! Proofs: a CXL.mem request as it arrives at a Live stage with nothing before it (R372, R376, R377, R383). -/

namespace Sys2Proof.Machine

/-! What the end of a command leaves. -/

theorem led_finish (s : State) (n : Stage) : led (finish s) n = led s n := congrArg (qget · n) (quiet_finish s).ledger
theorem rst_finish (s : State) (n : Stage) : rst (finish s) n = rst s n := congrArg (qget · n) (quiet_finish s).restore
theorem portOf_finish (s : State) (k : Nat) : portOf (finish s) k = portOf s k := by
  have h0 : (finish s).cxl.p0 = s.cxl.p0 := (congrArg CxlState.p0 (quiet_finish s).cxl :)
  have h1 : (finish s).cxl.p1 = s.cxl.p1 := (congrArg CxlState.p1 (quiet_finish s).cxl :)
  rw [portOf, portOf, h0, h1]

/-! A request at its port. -/

theorem stallGo_none {s : State} {n : Stage} (hw : (led s n).stallW = []) (hr : (led s n).stallR = []) : stallGo s n = s := by
  simp [stallGo, hw, hr]
/-- Stated for any line, so that the kernel never evaluates the comparison with a capacity of millions of lines. -/
theorem mapped_eq (s : State) (n : Stage) (o : Option Nat) : mapped s n o = o.bind (fun l => if l < hostLines s n then some l else none) := by rw [mapped]
theorem mapped_below {s : State} {n : Stage} {l : Nat} (h : l < hostLines s n) : mapped s n (some l) = some l := by rw [mapped_eq, Option.bind_some, if_pos h]
theorem mapped_above {s : State} {n : Stage} {l : Nat} (h : hostLines s n ≤ l) : mapped s n (some l) = none := by
  rw [mapped_eq, Option.bind_some, if_neg (Nat.not_lt.mpr h)]

/-- A request of line `l` reaches the memory of stage `n`: the stage Live, the line below the host capacity and mapped, no request of
the stage standing at its port, its credits there. -/
structure Reaches (s : State) (n : Stage) (l : Nat) (write : Bool) : Prop where
  live : stageSt s n = .live
  capacity : l < hostLines s n
  line : (mapLine s n l).isSome = true
  noWrites : (led s n).stallW = []
  noReads : (led s n).stallR = []
  credit : noCredit s n write = false

theorem Reaches.counted {s t : State} {n : Stage} {l : Nat} {w : Bool} (h : Reaches s n l w) (k : Counted s t) : Reaches t n l w := by
  obtain ⟨hlive, hcap, hline, hnw, hnr, hcr⟩ := h
  refine ⟨?_, ?_, ?_, ?_, ?_, ?_⟩
  · rw [k.stageSt, hlive]
  · rw [k.hostLines]; exact hcap
  · rw [k.mapLine, hline]
  · rw [k.led, hnw]
  · rw [k.led, hnr]
  · rw [k.noCredit, hcr]

/-- The port's flush flag and its PME_Turn_Off cleared, as a write does (R383). -/
def flagsCleared (s : State) (port : Nat) : State := setPort s port { portOf s port with flushFlag := false, pmeOff := false }

theorem flagsCleared_eq (s : State) (port : Nat) : ∃ a b, flagsCleared s port = { s with cxl := { s.cxl with p0 := a, p1 := b } } := by
  unfold flagsCleared setPort
  split
  · exact ⟨_, s.cxl.p1, rfl⟩
  · exact ⟨s.cxl.p0, _, rfl⟩
theorem portOf_flagsCleared (s : State) (port : Nat) : portOf (flagsCleared s port) port = { portOf s port with flushFlag := false, pmeOff := false } := by
  unfold flagsCleared setPort
  split
  · next h => rw [portOf, if_pos h]
  · next h => rw [portOf, if_neg h]
theorem Reaches.flagsCleared {s : State} {n : Stage} {l : Nat} {w : Bool} (h : Reaches s n l w) (port : Nat) : Reaches (flagsCleared s port) n l w := by
  obtain ⟨a, b, he⟩ := flagsCleared_eq s port
  rw [he]
  exact ⟨h.live, h.capacity, h.line, h.noWrites, h.noReads, h.credit⟩

section
variable {s : State} {port ld : Nat} {n : Stage} (hup : portUp s port = true) (hex : portExists s port = true)
include hup hex

/-- A write of a line that a decoder maps arrives at its stage. -/
theorem memWrite_arrives {x : State} {line : Option Nat} {l : Nat} (hx : pmonHit (flagsCleared s port) 0 1 port 1 = x) (hld : ldStage x port ld = some n)
    (hl : mapped x n line = some l) (tag : Nat) (data : BitVec 512) (mask : Option (BitVec 64)) (poison : Bool) :
    memWrite s port ld tag line data mask poison
      = writeArrive (heatArrive (stallGo x n) n l true) n ld ⟨.mem port tag, port, l, data, mask, poison, x.now, false, false, false, false, false⟩ := by
  rw [memWrite, hup, hex]
  simp only [Bool.and_self, Bool.not_true, Bool.false_eq_true, if_false]
  rw [show setPort s port { portOf s port with flushFlag := false, pmeOff := false } = flagsCleared s port from rfl, hx, hld]
  simp only [hl]

/-- A read of a line that a decoder maps arrives at its stage. -/
theorem memRead_arrives {x : State} {line : Option Nat} {l : Nat} (hx : pmonHit s 0 0 port 1 = x) (hld : ldStage x port ld = some n) (hl : mapped x n line = some l) (tag : Nat) :
    memRead s port ld tag line = readArrive (heatArrive (stallGo x n) n l false) n ld ⟨port, tag, l, x.now, false⟩ := by
  rw [memRead, hup, hex]
  simp only [Bool.and_self, Bool.not_true, Bool.false_eq_true, if_false]
  rw [hx, hld]
  simp only [hl]

/-- A read of a line that no decoder maps is logged and answered with poison (R377). -/
theorem memRead_unmapped {x : State} {line : Option Nat} (hx : pmonHit s 0 0 port 1 = x) (hld : ldStage x port ld = some n) (hl : mapped x n line = none) (tag : Nat) :
    memRead s port ld tag line = readPoison (event x 0x608 1 n.val (ldArg x port ld)) n port tag := by
  rw [memRead, hup, hex]
  simp only [Bool.and_self, Bool.not_true, Bool.false_eq_true, if_false]
  rw [hx, hld]
  simp only [hl]

variable {l : Nat} (hld : ldStage s port ld = some n)
include hld

/-- A write that reaches a stage whose gate is open goes on to the restore check and the tap. -/
theorem memWrite_goes (h : Reaches s n l true) (hgate : (led s n).gated = false) (tag : Nat) (data : BitVec 512) (mask : Option (BitVec 64)) (poison : Bool) :
    ∃ x, Counted (flagsCleared s port) x
      ∧ memWrite s port ld tag (some l) data mask poison = writeGo x n ⟨.mem port tag, port, l, data, mask, poison, s.now, false, false, false, false, false⟩ := by
  obtain ⟨a, b, he⟩ := flagsCleared_eq s port
  have hcount : Counted (flagsCleared s port) (pmonHit (flagsCleared s port) 0 1 port 1) := .pmonHit ..
  have hx := (h.flagsCleared port).counted hcount
  have hall := hcount.trans (.heatArrive _ n l true)
  have hh := (h.flagsCleared port).counted hall
  have hgate' : gateHolds (heatArrive (pmonHit (flagsCleared s port) 0 1 port 1) n l true) n = false := by
    rw [hall.gateHolds, he, gateHolds]
    exact congrArg (· && _) hgate
  refine ⟨_, hall, ?_⟩
  rw [memWrite_arrives hup hex rfl (by rw [hcount.ldStage, he]; exact hld) (mapped_below hx.capacity), stallGo_none hx.noWrites hx.noReads, hcount.now, he]
  rw [he] at hgate' hh
  rw [writeArrive, hgate', hh.credit]
  simp only [hh.live, ne_eq, not_true_eq_false, Option.isNone_eq_false_iff.mpr hh.line, Bool.false_eq_true, if_false]

/-- A read that reaches a stage goes on to the held-write check. -/
theorem memRead_goes (h : Reaches s n l false) (tag : Nat) :
    ∃ x, Counted s x ∧ memRead s port ld tag (some l) = readCheck x n ⟨port, tag, l, s.now, false⟩ := by
  have hcount : Counted s (pmonHit s 0 0 port 1) := .pmonHit ..
  have hx := h.counted hcount
  have hall := hcount.trans (.heatArrive _ n l false)
  have hh := h.counted hall
  refine ⟨_, hall, ?_⟩
  rw [memRead_arrives hup hex rfl ((hcount.ldStage port ld).trans hld) (mapped_below hx.capacity), stallGo_none hx.noWrites hx.noReads, hcount.now, readArrive, hh.credit]
  simp only [hh.live, ne_eq, not_true_eq_false, Option.isNone_eq_false_iff.mpr hh.line, Bool.false_eq_true, if_false]
end
end Sys2Proof.Machine
end

section
/-! Proofs: host writes at the tap (R74, R83, R91, R92, R191, R372, R376, R378). -/

namespace Sys2Proof.Machine

/-! The way of an admitted write to DRAM and to its host. -/

/-- What an admitted write's way to DRAM and to its host leaves alone: the ports, the stored lines, the restores; of a stage's ledger the frames, the
held writes and write-through operation. -/
structure Aside (s t : State) : Prop where
  p0 : t.cxl.p0 = s.cxl.p0
  p1 : t.cxl.p1 = s.cxl.p1
  lines : t.dram.lines = s.dram.lines
  restore : t.restore = s.restore
  frames : ∀ n, (led t n).ledger = (led s n).ledger
  held : ∀ n, (led t n).held = (led s n).held
  through : ∀ n, (led t n).writeThrough = (led s n).writeThrough

namespace Aside

theorem refl (s : State) : Aside s s := ⟨rfl, rfl, rfl, rfl, fun _ => rfl, fun _ => rfl, fun _ => rfl⟩
theorem trans {s t u : State} (h : Aside s t) (k : Aside t u) : Aside s u :=
  ⟨k.p0.trans h.p0, k.p1.trans h.p1, k.lines.trans h.lines, k.restore.trans h.restore,
    fun n => (k.frames n).trans (h.frames n), fun n => (k.held n).trans (h.held n), fun n => (k.through n).trans (h.through n)⟩
theorem ite {s a b : State} (c : Prop) [Decidable c] (ha : Aside s a) (hb : Aside s b) : Aside s (if c then a else b) := by
  split
  · exact ha
  · exact hb
theorem regs {s t : State} (h : RegsOnly s t) : Aside s t := by
  obtain ⟨_, _, rfl⟩ := h
  exact ⟨rfl, rfl, rfl, rfl, fun _ => rfl, fun _ => rfl, fun _ => rfl⟩
theorem pmonHit (s : State) (g i k n : Nat) : Aside s (pmonHit s g i k n) := regs (regsOnly_pmonHit ..)
theorem event (s : State) (a b c d : Nat) : Aside s (event s a b c d) := regs (regsOnly_event ..)
theorem emit (s : State) (o : Output) : Aside s (emit s o) := ⟨rfl, rfl, rfl, rfl, fun _ => rfl, fun _ => rfl, fun _ => rfl⟩
theorem of_refreshed {s t : State} (h : Refreshed s t) (hr : t.restore = s.restore) : Aside s t :=
  ⟨by rw [h.cxl], by rw [h.cxl], by rw [h.dram], hr, h.frames, h.held, fun n => by obtain ⟨b, hb⟩ := h.ledgers n; rw [hb]⟩
theorem ledRefresh (s : State) (n : Stage) : Aside s (ledRefresh s n) := of_refreshed (.ledRefresh s n) (ledRefresh_restore s n)
theorem setLedger (s : State) (n : Stage) (l : LedgerState) (hf : l.ledger = (led s n).ledger) (hh : l.held = (led s n).held)
    (hw : l.writeThrough = (led s n).writeThrough) : Aside s (setLedger s n l) := by
  refine ⟨rfl, rfl, rfl, rfl, fun m => ?_, fun m => ?_, fun m => ?_⟩
  all_goals
    rw [led_setLedger]
    split
    · next h => simp only [h, hf, hh, hw]
    · rfl

theorem dramPut (s : State) (r : DramReq) : Aside s (dramPut s r) := by
  unfold Machine.dramPut xbarFault
  split
  · exact refl s
  · split
    · exact regs ((((regsOnly_wr ..).trans (regsOnly_wr ..)).trans (regsOnly_wr ..)).trans ((regsOnly_wr ..).trans (regsOnly_event ..)))
    · exact ⟨rfl, rfl, rfl, rfl, fun _ => rfl, fun _ => rfl, fun _ => rfl⟩
theorem dramPair (s : State) (port cls : Nat) (n : Stage) (line target : Nat) (use : DramUse) : Aside s (dramPair s port cls n line target use) :=
  have hpair : Aside s { s with dram := { s.dram with nextPair := s.dram.nextPair + 1 } } := ⟨rfl, rfl, rfl, rfl, fun _ => rfl, fun _ => rfl, fun _ => rfl⟩
  (hpair.trans (dramPut ..)).trans (dramPut ..)

theorem poisonFull (s : State) (n : Stage) : Aside s (poisonFull s n) := ⟨rfl, rfl, rfl, rfl, fun _ => rfl, fun _ => rfl, fun _ => rfl⟩
theorem poisonAdd (s : State) (n : Stage) (e : PoisonEntry) : Aside s (poisonAdd s n e) := by
  unfold Machine.poisonAdd
  exact ite _ (refl s) (ite _ ⟨rfl, rfl, rfl, rfl, fun _ => rfl, fun _ => rfl, fun _ => rfl⟩ (poisonFull s n))
theorem poisonRemove (s : State) (n : Stage) (line : Nat) : Aside s (poisonRemove s n line) := by
  unfold Machine.poisonRemove
  dsimp only
  split
  · split
    · exact ⟨rfl, rfl, rfl, rfl, fun _ => rfl, fun _ => rfl, fun _ => rfl⟩
    · exact ⟨rfl, rfl, rfl, rfl, fun _ => rfl, fun _ => rfl, fun _ => rfl⟩
  · exact ⟨rfl, rfl, rfl, rfl, fun _ => rfl, fun _ => rfl, fun _ => rfl⟩
theorem cxlRecord (s : State) (n : Stage) (k : Nat) (r : CxlRec) : Aside s (cxlRecord s n k r) := by
  have hlog : ∀ l, Aside s (setLdLog s (stageKey s n) k l) := fun _ => ⟨rfl, rfl, rfl, rfl, fun _ => rfl, fun _ => rfl, fun _ => rfl⟩
  unfold Machine.cxlRecord
  exact ite _ (ite _ ((hlog _).trans (emit ..)) (hlog _)) (ite _ (hlog _) ((hlog _).trans (event ..)))
theorem tapStore (s : State) (n : Stage) (w : HostWrite) : Aside s (tapStore s n w) := by
  unfold Machine.tapStore
  split
  · refine ite _ ((dramPut ..).trans (poisonRemove ..)) ?_
    split
    · exact ((dramPut ..).trans (poisonAdd ..)).trans (cxlRecord ..)
    · exact ((dramPut ..).trans (poisonAdd ..)).trans (cxlRecord ..)
  · exact dramPair ..
theorem writeComplete (s : State) (n : Stage) (o : WriteDone) : Aside s (writeComplete s n o) := by
  cases o with
  | mem port tag => exact ite _ ((regs (regsOnly_loadHit ..)).trans (emit ..)) (refl s)
  | mailbox => exact emit ..

theorem portOf {s t : State} (h : Aside s t) (k : Nat) : portOf t k = portOf s k := by rw [Machine.portOf, Machine.portOf, h.p0, h.p1]
theorem portIn {s t : State} (h : Aside s t) (k : Nat) : portIn t k = portIn s k := by rw [Machine.portIn, Machine.portIn, h.p0, h.p1]
theorem frameState {s t : State} (h : Aside s t) (n : Stage) (f : Nat) : frameState t n f = frameState s n f := congrArg (mget 0 · f) (h.frames n)
end Aside

/-! Reads that waited for the write, while no restore is pending (R94, R188). -/

theorem dramPut_out (s : State) (r : DramReq) : (dramPut s r).out = s.out := by
  unfold dramPut
  split
  · rfl
  · split <;> rfl
theorem readTouch_restored {s : State} {n : Stage} (h : (rst s n).pending = false) (r : HeldRead) : readTouch s n r = readIssue s n r := by
  simp only [readTouch, h, Bool.not_false, if_true]

/-- The reads go to the crossbar: nothing is sent yet. -/
theorem readsGo_restored {s : State} {n : Stage} (h : (rst s n).pending = false) : Aside s (readsGo s n) ∧ (readsGo s n).out = s.out := by
  have hread : ∀ (rs : List HeldRead) (t : State), Aside s t ∧ t.out = s.out →
      Aside s (foldS rs (fun s r => readTouch s n r) t) ∧ (foldS rs (fun s r => readTouch s n r) t).out = s.out := by
    intro rs
    induction rs with
    | nil => exact fun _ ht => ht
    | cons r rs ih =>
      rintro t ⟨ht, hout⟩
      have hp : (rst t n).pending = false := by rw [rst, ht.restore]; exact h
      have hgo := ih (readTouch t n r)
      rw [readTouch_restored hp, readIssue, dramRead] at hgo
      have hput := hgo ⟨ht.trans (.dramPut ..), (dramPut_out ..).trans hout⟩
      rw [foldS, List.foldl_cons, readTouch_restored hp, readIssue, dramRead]
      exact hput
  exact hread _ _ ⟨.setLedger _ _ _ rfl rfl rfl, rfl⟩

/-! A write admitted (R74, R83). -/

/-- The state that an admitted write gives its frame: clean becomes dirty, in-flight becomes dirty-again (R74). -/
def admitted (v : Nat) : Nat := if v = 0 then 1 else if v = 2 then 3 else v

/-- Write-through operation has nothing to catch up with while it is off. -/
theorem wtQueue_off {s : State} {n : Stage} (h : (led s n).writeThrough = false) : wtQueue s n = s := by
  simp [wtQueue, wtDirty, h, foldS]
theorem wtCatch_off {s : State} {n : Stage} (h : (led s n).writeThrough = false) : wtCatch s n = s := by
  rw [wtCatch]
  split
  · dsimp only
    rw [wtQueue_off (s := { s with now := ((led s n).marks.edge + 1) * unitsPerClock }) h]
  · rfl

theorem changedNow_none {s : State} {n : Stage} (h : (led s n).marks.edge ≠ edgeOf s.now) (f : Nat) : changedNow s n f = false := by
  rw [changedNow, marksOf, if_neg h]
  rfl

/-- One frame takes a state: other frames, held writes, restores, ports, DRAM and the stage's write-through operation stand. -/
structure FrameTakes (s t : State) (n : Stage) (f v : Nat) : Prop where
  frames : ∀ m g, frameState t m g = if m = n ∧ g = f then v else frameState s m g
  held : ∀ m, (led t m).held = (led s m).held
  restore : t.restore = s.restore
  cxl : t.cxl = s.cxl
  dram : t.dram = s.dram
  through : (led t n).writeThrough = (led s n).writeThrough

theorem setFrame_takes (s : State) (n : Stage) (f v : Nat) : FrameTakes s (setFrame s n f v) n f v := by
  obtain ⟨r, lg, lc, st, mk, he, -⟩ := setFrame_eq s n f v
  refine ⟨fun m g => frameState_setFrame .., fun m => ?_, by rw [he], by rw [he], by rw [he], ?_⟩
  · rw [he, led, qget_qset]
    split
    · next hm => rw [hm]
    · rfl
  · rw [he, led, qget_qset_self]
theorem FrameTakes.regs {s t u : State} {n : Stage} {f v : Nat} (h : FrameTakes s t n f v) (k : RegsOnly t u) : FrameTakes s u n f v := by
  obtain ⟨_, _, rfl⟩ := k
  exact ⟨h.frames, h.held, h.restore, h.cxl, h.dram, h.through⟩

/-- On the first ledger event of its clock an admitted write gives its frame its state. -/
theorem writeFrame_takes {s : State} {n : Stage} (h : (led s n).marks.edge ≠ edgeOf s.now) (f : Nat) : FrameTakes s (writeFrame s n f) n f (admitted (frameState s n f)) := by
  unfold writeFrame
  split
  · next h0 =>
    rw [h0]
    exact (setFrame_takes s n f 1).regs ((regsOnly_wr ..).trans (regsOnly_pmonHit ..))
  · next h2 =>
    rw [changedNow_none h, h2, Bool.false_and, if_neg Bool.false_ne_true]
    exact (setFrame_takes s n f 3).regs (regsOnly_wr ..)
  · next h0 h2 =>
    refine ⟨fun m g => ?_, fun _ => rfl, rfl, rfl, rfl, rfl⟩
    split
    · next hm => rw [admitted, if_neg h0, if_neg h2, hm.1, hm.2]
    · rfl

/-- A write to a port in L0 is answered. -/
theorem writeComplete_sends {s : State} {n : Stage} {port tag : Nat} (h : portIn s port = true) :
    ∃ load, (.memDone port tag load : Output) ∈ (writeComplete s n (.mem port tag)).out := by
  refine ⟨loadOf s n, ?_⟩
  rw [writeComplete, if_pos h]
  exact List.mem_append_right _ (List.mem_singleton_self _)

/-- A port that exists and is up is in L0. -/
theorem portIn_of_up {s : State} {port : Nat} (hup : portUp s port = true) (hex : portExists s port = true) : portIn s port = true := by
  simp only [portUp, portExists, portIn, Bool.and_eq_true, Bool.or_eq_true, beq_iff_eq] at hup hex ⊢
  obtain ⟨⟨hl, -⟩, -⟩ := hup
  rcases hex with rfl | ⟨rfl, -⟩
  · exact .inl ⟨rfl, hl⟩
  · exact .inr ⟨rfl, hl⟩

/-- What an admitted write leaves: its frame in its new state, its completion sent, other frames, the held writes, the stored lines and the ports as they were. -/
structure Admitted (s t : State) (n : Stage) (f port tag : Nat) : Prop where
  frames : ∀ m g, frameState t m g = if m = n ∧ g = f then admitted (frameState s n f) else frameState s m g
  held : ∀ m, (led t m).held = (led s m).held
  lines : t.dram.lines = s.dram.lines
  p0 : t.cxl.p0 = s.cxl.p0
  p1 : t.cxl.p1 = s.cxl.p1
  sent : ∃ load, (.memDone port tag load : Output) ∈ t.out

theorem Admitted.quiet {s t u : State} {n : Stage} {f port tag : Nat} (h : Admitted s t n f port tag) (k : Refreshed t u) : Admitted s u n f port tag where
  frames m g := (k.frameState m g).trans (h.frames m g)
  held m := (k.held m).trans (h.held m)
  lines := by rw [k.dram, h.lines]
  p0 := by rw [k.cxl, h.p0]
  p1 := by rw [k.cxl, h.p1]
  sent := by rw [k.out]; exact h.sent

theorem admitWrite_admits {s : State} {n : Stage} {w : HostWrite} {port tag : Nat} (hnew : (led s n).marks.edge ≠ edgeOf s.now) (hwt : (led s n).writeThrough = false)
    (hrst : (rst s n).pending = false) (howner : w.owner = .mem port tag) (hsilent : w.silent = false) (hport : portIn s port = true) :
    Admitted s (admitWrite s n w) n (w.line / 64) port tag := by
  obtain ⟨hframes, hheld, hr, hc, hd, hw⟩ := writeFrame_takes hnew (w.line / 64)
  rw [admitWrite, wtCatch_off hwt]
  have hstore : Aside (writeFrame s n (w.line / 64)) (tapStore (writeFrame s n (w.line / 64)) n w) := .tapStore ..
  have hdone := hstore.trans (.writeComplete _ n w.owner)
  have hpass : portIn (tapStore (writeFrame s n (w.line / 64)) n w) port = true := by rw [hstore.portIn, portIn, hc]; exact hport
  have hlive : (rst (writeComplete (tapStore (writeFrame s n (w.line / 64)) n w) n w.owner) n).pending = false := by
    rw [rst, hdone.restore, hr]
    exact hrst
  obtain ⟨hreads, hout⟩ := readsGo_restored hlive
  have hall := hdone.trans hreads
  dsimp only
  rw [hsilent, if_neg Bool.false_ne_true, hstore.through, hw, hwt, if_neg Bool.false_ne_true]
  refine Admitted.quiet ⟨fun m g => (hall.frameState m g).trans (hframes m g), fun m => (hall.held m).trans (hheld m), hall.lines.trans (by rw [hd]),
    hall.p0.trans (by rw [hc]), hall.p1.trans (by rw [hc]), ?_⟩ (.ledRefresh ..)
  rw [hout, howner]
  exact writeComplete_sends hpass

/-! A write held (R91, R92, R191). -/

/-- What a held write leaves: it is the last of the held writes; the frames, DRAM, the ports and what was sent are as they were. -/
structure Holds (s t : State) (n : Stage) (l : Nat) : Prop where
  frames : ∀ m, (led t m).ledger = (led s m).ledger
  held : (led t n).held.map (fun w => w.line) = (led s n).held.map (fun w => w.line) ++ [l]
  dram : t.dram = s.dram
  out : t.out = s.out

theorem Holds.refreshed {s t u : State} {n : Stage} {l : Nat} (h : Holds s t n l) (k : Refreshed t u) : Holds s u n l where
  frames m := (k.frames m).trans (h.frames m)
  held := by rw [k.held, h.held]
  dram := k.dram.trans h.dram
  out := k.out.trans h.out
theorem Holds.frameState {s t : State} {n : Stage} {l : Nat} (h : Holds s t n l) (m : Stage) (f : Nat) : frameState t m f = frameState s m f := congrArg (mget 0 · f) (h.frames m)

theorem holdBegin_ledgers (s : State) (n m : Stage) : ∃ t, led (holdBegin s n) m = { led s m with holdSince := t } := by
  unfold holdBegin
  dsimp only
  split
  · rw [led_setLedger]
    split
    · next h => exact ⟨some s.now, by rw [h]⟩
    · exact ⟨(led s m).holdSince, rfl⟩
  · exact ⟨(led s m).holdSince, rfl⟩
theorem holdBegin_leaves (s : State) (n : Stage) : (holdBegin s n).dram = s.dram ∧ (holdBegin s n).out = s.out ∧ (holdBegin s n).restore = s.restore := by
  unfold holdBegin
  dsimp only
  split <;> exact ⟨rfl, rfl, rfl⟩
theorem holdBegin_holds {s : State} {n : Stage} (h : (led s n).held.any (fun w => !w.touch) = true) : (led (holdBegin s n) n).holdSince.isSome = true := by
  unfold holdBegin
  dsimp only
  rw [h, Bool.and_true]
  split
  · rw [led_setLedger_self]
    rfl
  · next hs => rw [← Option.not_isNone, Bool.eq_false_iff.mpr hs, Bool.not_false]

/-- A write that finds two places free in the buffer takes one; one not held for a touch fetch begins the holding. -/
theorem holdWrite_holds {s : State} {n : Stage} {w : HostWrite} (hroom : (led s n).held.length < 255) :
    Holds s (holdWrite s n w) n w.line ∧ (w.touch = false → (led (holdWrite s n w) n).holdSince.isSome = true) ∧ (holdWrite s n w).restore = s.restore := by
  rw [holdWrite]
  dsimp only
  rw [if_neg (by omega), whenS, if_neg (by simp; omega)]
  generalize hin : setLedger s n { led s n with held := (led s n).held ++ [{ w with since := s.now, wasHeld := true }] } = x
  have hx : led x n = { led s n with held := (led s n).held ++ [{ w with since := s.now, wasHeld := true }] } := by rw [← hin, led_setLedger_self]
  obtain ⟨hd, ho, hr⟩ := holdBegin_leaves x n
  have hregs : RegsOnly (holdBegin x n) (pmonHit (incWrap (holdBegin x n) (F.LDG_HELD_COUNT_COUNT n.val) 1) 1 1 n.val 1) := (regsOnly_wr ..).trans (regsOnly_pmonHit ..)
  have hfol : Refreshed (holdBegin x n) _ := (Refreshed.of_regsOnly hregs).trans (.ledRefresh _ n)
  have hbegun : Holds s (holdBegin x n) n w.line := by
    refine ⟨fun m => ?_, ?_, by rw [hd, ← hin]; rfl, by rw [ho, ← hin]; rfl⟩
    · obtain ⟨t, ht⟩ := holdBegin_ledgers x n m
      rw [ht, ← hin, led_setLedger]
      split
      · next hm => rw [hm]
      · rfl
    · obtain ⟨t, ht⟩ := holdBegin_ledgers x n n
      rw [ht, hx]
      exact List.map_append ..
  refine ⟨hbegun.refreshed hfol, fun hw => ?_, ?_⟩
  · rw [hfol.holdSince]
    refine holdBegin_holds ?_
    rw [hx, List.any_append, Bool.or_eq_true]
    exact .inr (by simp [hw])
  · rw [ledRefresh_restore, hregs.restore, hr, ← hin]
    rfl

theorem regsOnly_touchStatus (s : State) (n : Stage) : RegsOnly s (touchStatus s n) := (regsOnly_wr ..).trans (regsOnly_wr ..)
theorem rst_touchStatus (s : State) (n : Stage) (r : RestoreState) : rst (touchStatus (setRst s n r) n) n = r := by
  rw [rst, (regsOnly_touchStatus ..).restore]
  exact (rst_setRst ..).trans (if_pos rfl)

/-- A fetch that finds a place in the touch queue stands there afterwards. -/
theorem touchEnqueue_queued {s : State} {n : Stage} {f : Nat} (h : (rst s n).touchQ.length < 32) :
    Refreshed s (touchEnqueue s n f) ∧ ∃ q ∈ (rst (touchEnqueue s n f) n).touchQ, q.frame = f := by
  unfold touchEnqueue
  dsimp only
  split
  · next hin =>
    obtain ⟨q, hq, hqf⟩ := List.any_eq_true.mp (hin.resolve_right (by omega))
    exact ⟨.of_regsOnly (.refl s), q, hq, eq_of_beq hqf⟩
  · refine ⟨Refreshed.trans (Refreshed.trans (.of_regsOnly (regsOnly_pmonHit s 2 2 n.val 1)) (.setRst _ n _)) (.of_regsOnly (regsOnly_touchStatus ..)), ?_⟩
    rw [rst_touchStatus]
    exact ⟨_, List.mem_append_right _ (List.mem_singleton_self _), rfl⟩

/-! The tap, and the restore check before it. -/

/-- With no held write that may go before it, a write goes straight to the restore check. -/
theorem writeGo_first {s : State} {n : Stage} {w : HostWrite} (h : releasable s n = none) : writeGo s n w = ledRefresh (writeTouch s n w) n := by
  have hpump : ∀ k, heldPump k s n = s := fun k => by cases k <;> simp [heldPump, h]
  rw [writeGo, hpump]

theorem writeTouch_restored {s : State} {n : Stage} {w : HostWrite} (h : (rst s n).pending = false) (hw : w.touch = false) : writeTouch s n w = tapWrite s n w := by
  rw [writeTouch, h, Bool.not_false, Bool.or_true, if_pos rfl, ← hw]

/-- A write whose ledger line is cached is held as a first touch at the cap, and else admitted. -/
theorem tapWrite_cached {s : State} {n : Stage} {w : HostWrite} (h : (led s n).cached.contains (w.line / 64 / 256) = true) (hgate : (led s n).gated = false) :
    ∃ x, Counted s x ∧ RegsOnly s x ∧ tapWrite s n w = if frameState s n (w.line / 64) = 0 ∧ capHolds s n = true then holdWrite x n w else admitWrite x n w := by
  have hx : Counted s (pmonHit s 1 3 n.val 1) := .pmonHit ..
  refine ⟨_, hx, regsOnly_pmonHit .., ?_⟩
  rw [tapWrite]
  simp only [h, Bool.not_true, Bool.false_eq_true, if_false, firstTouch, hx.frameState, hx.capHolds, hx.led, hgate, beq_iff_eq, and_true]

/-- A write to a frame known not to be restored is held for its touch fetch. -/
theorem writeTouch_waits {s : State} {n : Stage} {w : HostWrite} (hres : isRestored s n (w.line / 64) = false) (hknown : touchKnown s n (w.line / 64) = true)
    (hroom : (led s n).held.length < 255) : writeTouch s n w = touchEnqueue (holdWrite (touchCount s n) n { w with touch := true }) n (w.line / 64) := by
  have hpending : (rst s n).pending = true := by
    rw [isRestored, Bool.or_eq_false_iff, Bool.not_eq_false'] at hres
    exact hres.1
  rw [writeTouch, hres, hknown, hpending]
  simp only [Bool.false_and, Bool.not_true, Bool.or_self, Bool.false_eq_true, if_false]
  rw [if_neg (by omega)]

/-! A write at its port, to the end of its command. -/

/-- The write that a request brings. -/
abbrev arriving (s : State) (port tag l : Nat) (data : BitVec 512) (mask : Option (BitVec 64)) (poison : Bool) : HostWrite :=
  ⟨.mem port tag, port, l, data, mask, poison, s.now, false, false, false, false, false⟩

theorem portIn_flagsCleared (s : State) (port k : Nat) : portIn (flagsCleared s port) k = portIn s k := by
  unfold flagsCleared setPort portIn portOf
  split <;> rfl

/-- What both write requests answer is what their common effect leaves, whatever bytes they name. -/
theorem answers_memWrite {s : State} {port ld tag : Nat} {line : Option Nat} {data : BitVec 512} {mask : BitVec 64} {poison : Bool} {c : Instr}
    (hc : c = .memWr port ld tag line data poison ∨ c = .memWrPtl port ld tag line data mask poison) {post : State → State → Prop}
    (h : ∀ m, post (memWrite s port ld tag line data m poison) (finish (memWrite s port ld tag line data m poison))) : Answers c s post := by
  obtain rfl | rfl := hc
  · exact ⟨_, rfl, h none⟩
  · exact ⟨_, rfl, h (some mask)⟩

section
variable {s : State} {port ld l : Nat} {n : Stage} (hup : portUp s port = true) (hex : portExists s port = true) (hld : ldStage s port ld = some n) (hreach : Reaches s n l true)
  (hgate : (led s n).gated = false) (hfirst : releasable s n = none) (tag : Nat) (data : BitVec 512) (mask : Option (BitVec 64)) (poison : Bool)
include hup hex hld hreach hgate hfirst

/-- A write that nothing hinders passes the restore check on a state that differs from the one at its port in counts, samples and the port's flags. -/
theorem memWrite_passes : ∃ x, Counted (flagsCleared s port) x
    ∧ memWrite s port ld tag (some l) data mask poison = ledRefresh (writeTouch x n (arriving s port tag l data mask poison)) n := by
  obtain ⟨x, hx, hgo⟩ := memWrite_goes hup hex hld hreach hgate tag data mask poison
  obtain ⟨a, b, he⟩ := flagsCleared_eq s port
  refine ⟨x, hx, hgo.trans (writeGo_first ?_)⟩
  rw [hx.releasable, he]
  exact hfirst

/-- It takes no time and changes no mode. -/
theorem memWrite_keeps : (memWrite s port ld tag (some l) data mask poison).modes = s.modes ∧ (memWrite s port ld tag (some l) data mask poison).now = s.now := by
  obtain ⟨x, hx, hgo⟩ := memWrite_passes hup hex hld hreach hgate hfirst tag data mask poison
  obtain ⟨a, b, he⟩ := flagsCleared_eq s port
  have hk := ((Keeps.refl x).writeTouch n (arriving s port tag l data mask poison)).ledRefresh n
  rw [hgo]
  exact ⟨hk.modes.trans (hx.modes.trans (by rw [he])), hk.now.trans (hx.now.trans (by rw [he]))⟩

/-- With no restore pending and its ledger line cached, it is admitted unless the cap holds its clean frame. -/
theorem memWrite_admits (hpending : (rst s n).pending = false) (hcached : (led s n).cached.contains (l / 64 / 256) = true) (hnew : (led s n).marks.edge ≠ edgeOf s.now)
    (hwt : (led s n).writeThrough = false) (hroom : frameState s n (l / 64) ≠ 0 ∨ capHolds s n = false) :
    Admitted (flagsCleared s port) (memWrite s port ld tag (some l) data mask poison) n (l / 64) port tag := by
  obtain ⟨x, hx, hgo⟩ := memWrite_passes hup hex hld hreach hgate hfirst tag data mask poison
  obtain ⟨a, b, he⟩ := flagsCleared_eq s port
  have hledx : led x n = led s n := by rw [hx.led, he]; rfl
  rw [hgo, writeTouch_restored (by rw [hx.rst, he]; exact hpending) rfl]
  obtain ⟨y, hy, -, htap⟩ := tapWrite_cached (s := x) (n := n) (w := (arriving s port tag l data mask poison)) (by rw [hledx]; exact hcached) (by rw [hledx]; exact hgate)
  have hfs : frameState x n (l / 64) = frameState s n (l / 64) := by rw [hx.frameState, he]; rfl
  have hcap : capHolds x n = capHolds s n := by rw [hx.capHolds, he]; rfl
  have hxy := hx.trans hy
  have hledy : led y n = led s n := by rw [hy.led, hledx]
  have hin : portIn y port = true := by
    rw [portIn, hxy.cxl]
    exact (portIn_flagsCleared s port port).trans (portIn_of_up hup hex)
  rw [htap, hfs, hcap, if_neg (by rintro ⟨h0, h1⟩; rcases hroom with h | h <;> simp_all)]
  have hadm := admitWrite_admits (s := y) (n := n) (w := (arriving s port tag l data mask poison)) (port := port) (tag := tag)
    (by rw [hledy, hxy.now, he]; exact hnew) (by rw [hledy]; exact hwt) (by rw [hxy.rst, he]; exact hpending) rfl rfl hin
  obtain ⟨hf, hh, hl, h0, h1, hsent⟩ := hadm.quiet (.ledRefresh _ n)
  refine ⟨fun m g => ?_, fun m => ?_, hl.trans (by rw [hxy.dram]), h0.trans (by rw [hxy.cxl]), h1.trans (by rw [hxy.cxl]), hsent⟩
  · rw [hf, hxy.frameState, hxy.frameState]
  · rw [hh, hxy.led]

/-- With no restore pending and its ledger line cached, one to a clean frame is held at the cap. -/
theorem memWrite_holds (hpending : (rst s n).pending = false) (hcached : (led s n).cached.contains (l / 64 / 256) = true) (hclean : frameState s n (l / 64) = 0)
    (hcap : capHolds s n = true) (hroom : (led s n).held.length < 255) :
    Holds s (memWrite s port ld tag (some l) data mask poison) n l ∧ (led (memWrite s port ld tag (some l) data mask poison) n).holdSince.isSome = true := by
  obtain ⟨x, hx, hgo⟩ := memWrite_passes hup hex hld hreach hgate hfirst tag data mask poison
  obtain ⟨a, b, he⟩ := flagsCleared_eq s port
  have hledx : led x n = led s n := by rw [hx.led, he]; rfl
  rw [hgo, writeTouch_restored (by rw [hx.rst, he]; exact hpending) rfl]
  obtain ⟨y, hy, -, htap⟩ := tapWrite_cached (s := x) (n := n) (w := arriving s port tag l data mask poison) (by rw [hledx]; exact hcached) (by rw [hledx]; exact hgate)
  have hfs : frameState x n (l / 64) = 0 := by rw [hx.frameState, he]; exact hclean
  have hcapx : capHolds x n = true := by rw [hx.capHolds, he]; exact hcap
  have hxy := hx.trans hy
  rw [htap, if_pos ⟨hfs, hcapx⟩]
  obtain ⟨hholds, hsince, -⟩ := holdWrite_holds (s := y) (n := n) (w := arriving s port tag l data mask poison) (by rw [hy.led, hledx]; exact hroom)
  obtain ⟨hf, hh, hd, ho⟩ := hholds.refreshed (.ledRefresh _ n)
  refine ⟨⟨fun m => ?_, ?_, ?_, ?_⟩, ?_⟩
  · rw [hf, hxy.led, he]; rfl
  · rw [hh, hxy.led, he]; rfl
  · rw [hd, hxy.dram, he]
  · rw [ho, hxy.out, he]
  · rw [(Refreshed.ledRefresh _ n).holdSince]
    exact hsince rfl

/-- One to a frame known not to be restored is held, and its frame's fetch is queued. -/
theorem memWrite_waits (hres : isRestored s n (l / 64) = false) (hknown : touchKnown s n (l / 64) = true) (hroom : (led s n).held.length < 255)
    (hqueue : (rst s n).touchQ.length < 32) :
    Holds s (memWrite s port ld tag (some l) data mask poison) n l ∧ ∃ q ∈ (rst (memWrite s port ld tag (some l) data mask poison) n).touchQ, q.frame = l / 64 := by
  obtain ⟨x, hx, hgo⟩ := memWrite_passes hup hex hld hreach hgate hfirst tag data mask poison
  obtain ⟨a, b, he⟩ := flagsCleared_eq s port
  have hcount : RegsOnly x (touchCount x n) := regsOnly_wr ..
  have hledx : ∀ m, led (touchCount x n) m = led s m := fun m => (hx.led m).trans (by rw [he]; rfl)
  rw [hgo, writeTouch_waits (by rw [hx.isRestored, he]; exact hres) (by rw [hx.touchKnown, he]; exact hknown) (by rw [hx.led, he]; exact hroom)]
  obtain ⟨hholds, -, hrst⟩ := holdWrite_holds (s := touchCount x n) (n := n) (w := { arriving s port tag l data mask poison with touch := true }) (by rw [hledx]; exact hroom)
  obtain ⟨hqueued, hq⟩ := touchEnqueue_queued (f := l / 64) (s := holdWrite (touchCount x n) n { arriving s port tag l data mask poison with touch := true }) (n := n)
    (by rw [rst, hrst, hcount.restore, ← rst, hx.rst, he]; exact hqueue)
  obtain ⟨hf, hh, hd, ho⟩ := (hholds.refreshed hqueued).refreshed (.ledRefresh _ n)
  refine ⟨⟨fun m => ?_, ?_, ?_, ?_⟩, ?_⟩
  · rw [hf, hledx]
  · rw [hh, hledx]
  · rw [hd, hcount.dram, hx.dram, he]
  · exact ho.trans (hx.out.trans (by rw [he]))
  · rw [rst, ledRefresh_restore]
    exact hq
end

/-- Settles O27: the write comes to the restore check past counts and samples; there it is admitted, held at the cap, or held for its touch fetch. -/
theorem hostWritesAtTheTap : Obligations.HostWritesAtTheTap := by
  unfold Obligations.HostWritesAtTheTap
  intro s port ld tag l data mask poison n hup hex hld hcap hgate hlive hline hnw hnr hcredit hfirst hnew c hc
  have hreach : Reaches s n l true := ⟨hlive, hcap, hline, hnw, hnr, hcredit⟩
  have hkeep := memWrite_keeps hup hex hld hreach hgate hfirst tag data
  refine ⟨fun hpending hcached hwt => ⟨fun hroom => ?_, fun hclean hfull hroom => ?_⟩, fun hres hknown hroom hqueue => ?_⟩
  · refine answers_memWrite hc fun m => ?_
    obtain ⟨hf, hh, hl, h0, h1, hsent⟩ := memWrite_admits hup hex hld hreach hgate hfirst tag data m poison hpending hcached hnew hwt hroom
    obtain ⟨hm, hn⟩ := hkeep m poison
    generalize memWrite s port ld tag (some l) data m poison = u at *
    obtain ⟨a, b, he⟩ := flagsCleared_eq s port
    have q := quiet_finish u
    have hfs : ∀ m g, frameState (flagsCleared s port) m g = frameState s m g := fun m g => by rw [he]; rfl
    refine ⟨?_, fun m g hmg => ?_, hsent, ?_, ?_, ?_, q.modes.trans hm, q.now.trans hn⟩
    · rw [frameState_finish, hf, if_pos ⟨rfl, rfl⟩, hfs]
      rfl
    · rw [frameState_finish, hf, if_neg (by rintro ⟨h, h'⟩; exact hmg.elim (· h) (· h')), hfs]
    · rw [portOf_finish, portOf, h0, h1, ← portOf, portOf_flagsCleared]
    · rw [led_finish, hh, he]
      rfl
    · exact (congrArg Dram.lines q.dram : _).trans (hl.trans (by rw [he]))
  · refine answers_memWrite hc fun m => ?_
    obtain ⟨hholds, hsince⟩ := memWrite_holds hup hex hld hreach hgate hfirst tag data m poison hpending hcached hclean hfull hroom
    obtain ⟨hm, hn⟩ := hkeep m poison
    have q := quiet_finish (memWrite s port ld tag (some l) data m poison)
    refine ⟨fun k g => (frameState_finish ..).trans (hholds.frameState ..), ?_, ?_, hholds.out, ?_, q.modes.trans hm, q.now.trans hn⟩
    · rw [led_finish, hholds.held]
    · rw [led_finish, hsince]
    · exact q.dram.trans (by rw [hholds.dram])
  · refine answers_memWrite hc fun m => ?_
    obtain ⟨hholds, hfetch⟩ := memWrite_waits hup hex hld hreach hgate hfirst tag data m poison hres hknown hroom hqueue
    obtain ⟨hm, hn⟩ := hkeep m poison
    have q := quiet_finish (memWrite s port ld tag (some l) data m poison)
    refine ⟨fun k g => (frameState_finish ..).trans (hholds.frameState ..), ?_, ?_, hholds.out, ?_, q.modes.trans hm, q.now.trans hn⟩
    · rw [led_finish, hholds.held]
    · rw [rst_finish]
      exact hfetch
    · exact q.dram.trans (by rw [hholds.dram])

end Sys2Proof.Machine
end

section
/-! Proofs: host reads, invalidations and speculative reads at their ports (R94, R188, R266, R372, R377, R378, R380, R400). -/

namespace Sys2Proof.Machine

/-! A read put at the crossbar (R266, R380). -/

/-- The end of a command leaves the requests of a subchannel. -/
theorem waiting_finish (s : State) (c : DramCh) (b : Bool) : (subch (finish s) c b).waiting = (subch s c b).waiting := by
  have hcalm : calmChannel (chan (finish s) c) = calmChannel (chan s c) := by
    have h := congrArg (fun d : Dram => qget d.ch c) (quiet_finish s).dram
    rw [qget_qmap, qget_qmap] at h
    exact h
  have ha : (chan (finish s) c).subA = (chan s c).subA := (congrArg Channel.subA hcalm :)
  have hb : (chan (finish s) c).subB = (chan s c).subB := (congrArg Channel.subB hcalm :)
  rw [subch, subch, ha, hb]

theorem subch_setSub (s : State) (c : DramCh) (b : Bool) (x : SubCh) : subch (setSub s c b x) c b = x := by
  rw [subch, chan, setSub, setChan, qget_qset_self]
  split <;> rfl

/-- A new request of a mapped line waits at the subchannel of the line, with the next request number. -/
theorem dramPut_mapped {s : State} {r : DramReq} {k : Coord} (hraw : r.line < rawLines s r.stage) (hmap : mapLine s r.stage r.line = some k) (hid : r.id = 0) :
    dramPut s r = setSub { s with dram := { s.dram with nextId := s.dram.nextId + 1 } } k.ch k.sub
      { subch s k.ch k.sub with waiting := (subch s k.ch k.sub).waiting ++ [{ r with id := s.dram.nextId, panicPorts := [r.port] }] } := by
  rw [dramPut, if_neg (Nat.not_le.mpr hraw), hmap]
  simp only [hid, if_true]

/-! Reads of a Live stage (R94, R188). -/

/-- What both read requests answer is what their common effect leaves. -/
theorem answers_memRead {s : State} {port ld tag : Nat} {line : Option Nat} {c : Instr} (hc : c = .memRd port ld tag line ∨ c = .memRdData port ld tag line)
    {post : State → State → Prop} (h : post (memRead s port ld tag line) (finish (memRead s port ld tag line))) : Answers c s post := by
  obtain rfl | rfl := hc <;> exact ⟨_, rfl, h⟩

section
variable {s : State} {port ld l : Nat} {n : Stage} (hup : portUp s port = true) (hex : portExists s port = true) (hld : ldStage s port ld = some n) (tag : Nat)
include hup hex hld

/-- A read of a line that a held write writes waits behind it. -/
theorem memRead_behind (hreach : Reaches s n l false) (hheld : (led s n).held.any (fun w => w.line == l) = true) :
    ∃ x, Counted s x ∧ memRead s port ld tag (some l) = setLedger x n { led s n with waitReads := (led s n).waitReads ++ [⟨port, tag, l, s.now, false⟩] } := by
  obtain ⟨x, hx, hgo⟩ := memRead_goes hup hex hld hreach tag
  refine ⟨x, hx, ?_⟩
  rw [hgo, readCheck, hx.led]
  exact if_pos hheld

/-- A read of a line that no held write writes enters the crossbar, where no restore is pending. -/
theorem memRead_issues (hreach : Reaches s n l false) (hheld : (led s n).held.any (fun w => w.line == l) = false) (hpending : (rst s n).pending = false) :
    ∃ x, Counted s x ∧ memRead s port ld tag (some l) = dramPut x (mkReq 2 1 false n l 0#512 false (.hostRead port tag)) := by
  obtain ⟨x, hx, hgo⟩ := memRead_goes hup hex hld hreach tag
  refine ⟨x, hx, ?_⟩
  rw [hgo, readCheck, hx.led]
  dsimp only
  rw [hheld, if_neg Bool.false_ne_true, readTouch_restored (by rw [hx.rst, hpending])]
  rfl

/-- A read that waits for nothing stands at the subchannel of its line; stored lines, ledger, modes and time are as they were. -/
theorem memRead_waits {k : Coord} (hreach : Reaches s n l false) (hheld : (led s n).held.any (fun w => w.line == l) = false) (hpending : (rst s n).pending = false)
    (hraw : l < rawLines s n) (hmap : mapLine s n l = some k) :
    (∃ r ∈ (subch (memRead s port ld tag (some l)) k.ch k.sub).waiting,
        r.use = .hostRead port tag ∧ r.line = l ∧ r.stage = n ∧ r.cls = 1 ∧ r.port = 2 ∧ r.write = false ∧ r.id = s.dram.nextId)
      ∧ (memRead s port ld tag (some l)).dram.lines = s.dram.lines ∧ (memRead s port ld tag (some l)).ledger = s.ledger ∧ (memRead s port ld tag (some l)).modes = s.modes
      ∧ (memRead s port ld tag (some l)).now = s.now := by
  obtain ⟨x, hx, hgo⟩ := memRead_issues hup hex hld tag hreach hheld hpending
  have hput := dramPut_mapped (s := x) (r := mkReq 2 1 false n l 0#512 false (.hostRead port tag)) (k := k)
    (by rw [mkReq, hx.rawLines]; exact hraw) ((hx.mapLine n l).trans hmap) rfl
  rw [hgo, hput]
  refine ⟨?_, (congrArg Dram.lines hx.dram :), hx.ledger, hx.modes, hx.now⟩
  rw [subch_setSub]
  exact ⟨_, List.mem_append_right _ (List.mem_singleton_self _), rfl, rfl, rfl, rfl, rfl, rfl, congrArg Dram.nextId hx.dram⟩
end

/-! Reads that reach no memory (R377, R378). -/

/-- `t` is `s` but for what no read without memory touches: DRAM, modes, ports and frames stand. -/
structure Aloof (s t : State) : Prop where
  dram : t.dram = s.dram
  modes : t.modes = s.modes
  cxl : t.cxl = s.cxl
  frames : ∀ m f, frameState t m f = frameState s m f

namespace Aloof

theorem trans {s t u : State} (h : Aloof s t) (k : Aloof t u) : Aloof s u :=
  ⟨k.dram.trans h.dram, k.modes.trans h.modes, k.cxl.trans h.cxl, fun m f => (k.frames m f).trans (h.frames m f)⟩
theorem ite {s a b : State} (c : Prop) [Decidable c] (ha : Aloof s a) (hb : Aloof s b) : Aloof s (if c then a else b) := by
  split
  · exact ha
  · exact hb
theorem of_counted {s t : State} (h : Counted s t) : Aloof s t := ⟨h.dram, h.modes, h.cxl, h.frameState⟩
theorem event (s : State) (a b c d : Nat) : Aloof s (event s a b c d) := ⟨rfl, rfl, rfl, fun _ _ => rfl⟩
theorem emit (s : State) (o : Output) : Aloof s (emit s o) := ⟨rfl, rfl, rfl, fun _ _ => rfl⟩
theorem freshLine (s : State) : Aloof s (freshLine s).2 := ⟨rfl, rfl, rfl, fun _ _ => rfl⟩
theorem notLive (s : State) (n : Stage) (arg : Nat) : Aloof s (notLive s n arg) := by
  refine .ite _ ⟨rfl, rfl, rfl, fun _ _ => rfl⟩ ⟨rfl, rfl, rfl, fun m f => ?_⟩
  rw [frameState, led_setLedger]
  split
  · next h => rw [h]; rfl
  · rfl
end Aloof

/-- A read that reaches no memory is completed with poison. -/
theorem readPoison_poisons {s : State} {n : Stage} {port tag : Nat} (h : portIn s port = true) :
    (∃ d load, (.memData port tag d true load : Output) ∈ (readPoison s n port tag).out) ∧ Aloof s (readPoison s n port tag) := by
  have hreply : ∀ d, readReply (freshLine s).2 n port tag d true
      = emit (loadHit (pmonHit (freshLine s).2 0 2 port 1) port (loadOf (freshLine s).2 n)) (.memData port tag d true (loadOf (freshLine s).2 n)) := fun d => if_pos h
  rw [show readPoison s n port tag = _ from hreply _]
  exact ⟨⟨_, _, List.mem_append_right _ (List.mem_singleton_self _)⟩, ((Aloof.freshLine s).trans (.of_counted ((Counted.pmonHit ..).trans (.loadHit ..)))).trans (.emit ..)⟩

section
variable {s : State} {port ld l : Nat} {n : Stage} (hup : portUp s port = true) (hex : portExists s port = true) (hld : ldStage s port ld = some n) (tag : Nat)
include hup hex hld

/-- A read beyond the capacity of its stage, or to a stage that is not Live, completes with poison. -/
theorem memRead_poisons (hout : hostLines s n ≤ l ∨ (stageSt s n ≠ .live ∧ (led s n).stallW = [] ∧ (led s n).stallR = [])) :
    (∃ d load, (.memData port tag d true load : Output) ∈ (memRead s port ld tag (some l)).out) ∧ Aloof s (memRead s port ld tag (some l)) := by
  have hx : Counted s (pmonHit s 0 0 port 1) := .pmonHit ..
  have hin : ∀ t : State, t.cxl = s.cxl → portIn t port = true := fun t ht => by rw [portIn, ht]; exact portIn_of_up hup hex
  have hldx := (hx.ldStage port ld).trans hld
  by_cases hl : hostLines s n ≤ l
  · have hnone : mapped (pmonHit s 0 0 port 1) n (some l) = none := mapped_above (by rw [hx.hostLines]; exact hl)
    have hgo := memRead_unmapped hup hex rfl hldx hnone tag
    have hlog := (Aloof.of_counted hx).trans (.event _ 0x608 1 n.val (ldArg (pmonHit s 0 0 port 1) port ld))
    obtain ⟨hsent, hgone⟩ := readPoison_poisons (n := n) (tag := tag) (hin _ hlog.cxl)
    rw [hgo]
    exact ⟨hsent, hlog.trans hgone⟩
  · obtain ⟨hlive, hnw, hnr⟩ := hout.resolve_left hl
    have hall := hx.trans (.heatArrive _ n l false)
    have hsome : mapped (pmonHit s 0 0 port 1) n (some l) = some l := mapped_below (by rw [hx.hostLines]; exact Nat.lt_of_not_le hl)
    have hgo := memRead_arrives hup hex rfl hldx hsome tag
    rw [stallGo_none (by rw [hx.led, hnw]) (by rw [hx.led, hnr]), readArrive, if_pos (by rw [hall.stageSt]; exact hlive)] at hgo
    have hlog : ∀ c arg, Aloof s (whenS c (fun s => notLive s n arg) (heatArrive (pmonHit s 0 0 port 1) n l false)) := fun c arg =>
      .ite _ ((Aloof.of_counted hall).trans (.notLive ..)) (.of_counted hall)
    obtain ⟨hsent, hgone⟩ := readPoison_poisons (n := n) (tag := tag) (hin _ (hlog _ _).cxl)
    rw [hgo]
    exact ⟨hsent, (hlog _ _).trans hgone⟩
end

/-! Invalidations and speculative reads (R372). -/

/-- A request no decoder maps is logged, and nothing else happens. -/
theorem outside_unbound {s : State} {port ld : Nat} (hld : ldStage s port ld = none) (line : Option Nat) : outside s port ld line = event s 0x608 1 0 (ldArg s port ld) := by
  rw [outside, hld]
theorem outside_bound {s : State} {port ld : Nat} {n : Stage} (hld : ldStage s port ld = some n) (line : Option Nat) :
    outside s port ld line = whenS (mapped s n line).isNone (fun s => event s 0x608 1 n.val (ldArg s port ld)) s := by
  rw [outside, hld]

theorem counted_outside (s : State) (port ld : Nat) (line : Option Nat) : Counted s (outside s port ld line) := by
  have hlog : ∀ n, Counted s (event s 0x608 1 n (ldArg s port ld)) := fun _ => ⟨⟨s.regs, _, s.heat, rfl⟩, fun _ _ => rfl⟩
  unfold outside
  split
  · exact hlog 0
  · exact .ite _ (hlog _) (.refl s)

theorem answers_memInv {s : State} {port ld : Nat} {req : InvReq} {c : Instr} (hc : c = .memInv port ld req ∨ c = .memInvNt port ld req)
    {post : State → State → Prop} (h : post (memInvalid s port ld req) (finish (memInvalid s port ld req))) : Answers c s post := by
  obtain rfl | rfl := hc <;> exact ⟨_, rfl, h⟩

theorem quiet_loadHit (s : State) (port load : Nat) : Quiet s (loadHit s port load) := quiet_ite _ (quiet_pmonHit ..) (quiet_ite _ (quiet_pmonHit ..) (.refl s))

section
variable {s : State} {port ld : Nat} (hup : portUp s port = true) (hex : portExists s port = true)
include hup hex

theorem memInvalid_unbound (hld : ldStage s port ld = none) (req : InvReq) :
    memInvalid s port ld req = emit (event s 0x608 1 0 (ldArg s port ld)) (.memDone port req.tag 0) := by
  have hout := (counted_outside s port ld req.line).ldStage port ld
  rw [hld, outside_unbound hld] at hout
  rw [memInvalid, hup, hex, outside_unbound hld]
  dsimp only
  rw [hout]
  rfl
theorem memInvalid_bound {n : Stage} (hld : ldStage s port ld = some n) (req : InvReq) :
    ∃ load, memInvalid s port ld req = emit (loadHit (outside s port ld req.line) port load) (.memDone port req.tag load) := by
  have hout := counted_outside s port ld req.line
  have hin : portIn (outside s port ld req.line) port = true := by
    rw [portIn, hout.cxl]
    exact portIn_of_up hup hex
  refine ⟨loadOf (outside s port ld req.line) n, ?_⟩
  rw [memInvalid, hup, hex]
  dsimp only
  rw [hout.ldStage, hld]
  exact if_pos hin
theorem specRead_outside (line : Option Nat) : specRead s port ld line = outside s port ld line := by
  rw [specRead, hup, hex]
  rfl
end

/-- An invalidation for a logical device that carries no stage is logged and completed with Light Load; nothing else of the engines changes. -/
theorem memInv_unbound_answers {s : State} {port ld : Nat} (hup : portUp s port = true) (hex : portExists s port = true)
    (hld : ldStage s port ld = none) {req : InvReq} {c : Instr}
    (hc : c = .memInv port ld req ∨ c = .memInvNt port ld req) : Answers c s (fun u t => (⟨0x608, 1, 0, ldArg s port ld⟩ : Ev) ∈ u.evs
      ∧ Sends s u (.memDone port req.tag 0) ∧ (∀ g, steadyField g = true → rd t g = rd s g) ∧ Still s t) := by
  refine answers_memInv hc ?_
  rw [memInvalid_unbound hup hex hld]
  have hq := ((quiet_event s 0x608 1 0 (ldArg s port ld)).trans (quiet_emit _ (.memDone port req.tag 0))).trans (quiet_finish _)
  exact ⟨List.mem_append_right _ (List.mem_singleton_self _), rfl, hq.fields, hq.still⟩

/-- One for a stage is completed; it is logged where no decoder maps its line. -/
theorem memInv_bound_answers {s : State} {port ld : Nat} {n : Stage} (hup : portUp s port = true) (hex : portExists s port = true)
    (hld : ldStage s port ld = some n) {req : InvReq} {c : Instr}
    (hc : c = .memInv port ld req ∨ c = .memInvNt port ld req) :
    Answers c s (fun u t => ((mapped s n req.line).isNone = true → (⟨0x608, 1, n.val, ldArg s port ld⟩ : Ev) ∈ u.evs)
      ∧ (portIn s port = true → ∃ load, Sends s u (.memDone port req.tag load)) ∧ (∀ g, steadyField g = true → rd t g = rd s g) ∧ Still s t) := by
  refine answers_memInv hc ?_
  obtain ⟨load, hgo⟩ := memInvalid_bound hup hex hld req
  have hwhen := outside_bound hld req.line
  have hout : Quiet s (outside s port ld req.line) := by
    rw [hwhen]
    exact quiet_whenEvent ..
  have hload := regsOnly_loadHit (outside s port ld req.line) port load
  rw [hgo]
  have hq := ((hout.trans (quiet_loadHit _ port load)).trans (quiet_emit _ (.memDone port req.tag load))).trans (quiet_finish _)
  refine ⟨fun hnone => hload.evs ?_, fun _ => ⟨load, ?_⟩, hq.fields, hq.still⟩
  · rw [hwhen, hnone, whenS, if_pos rfl]
    exact List.mem_append_right _ (List.mem_singleton_self _)
  · exact congrArg (· ++ [Output.memDone port req.tag load]) ((counted_outside s port ld req.line).trans (.loadHit ..)).out

/-- Settles O28: a read goes to the crossbar or behind its held write; one that reaches no memory is poisoned; the requests that move no data do so at the port. -/
theorem hostReadsAndInvalidates : Obligations.HostReadsAndInvalidates := by
  unfold Obligations.HostReadsAndInvalidates
  intro s port ld tag l hup hex
  refine ⟨fun n k hld hcap hraw hlive hmap hpending hnw hnr hcredit c hc => ⟨fun hheld => ?_, fun hheld => ?_⟩, fun n hld hout c hc => ?_,
    fun req c hc => ⟨fun hld => memInv_unbound_answers hup hex hld hc, fun n hld => memInv_bound_answers hup hex hld hc⟩,
    fun hld => ?_, fun n hld hl => ?_, fun n hld hl => ?_⟩
  · obtain ⟨x, hx, hgo⟩ := memRead_behind hup hex hld tag ⟨hlive, hcap, by rw [hmap]; rfl, hnw, hnr, hcredit⟩ hheld
    refine answers_memRead hc ?_
    rw [hgo]
    have q := quiet_finish (setLedger x n { led s n with waitReads := (led s n).waitReads ++ [⟨port, tag, l, s.now, false⟩] })
    refine ⟨?_, hx.out, q.dram.trans (by rw [← hx.dram]; rfl), q.modes.trans hx.modes, q.now.trans hx.now⟩
    rw [led_finish, led_setLedger_self]
  · obtain ⟨hwaits, hl, hg, hm, hn⟩ := memRead_waits hup hex hld tag ⟨hlive, hcap, by rw [hmap]; rfl, hnw, hnr, hcredit⟩ hheld hpending hraw hmap
    refine answers_memRead hc ?_
    have q := quiet_finish (memRead s port ld tag (some l))
    refine ⟨?_, (congrArg Dram.lines q.dram :).trans hl, q.ledger.trans hg, q.modes.trans hm, q.now.trans hn⟩
    rw [waiting_finish]
    exact hwaits
  · obtain ⟨hsent, hgone⟩ := memRead_poisons hup hex hld tag hout
    refine answers_memRead hc ?_
    have q := quiet_finish (memRead s port ld tag (some l))
    exact ⟨hsent, q.dram.trans (by rw [hgone.dram]), q.modes.trans hgone.modes, fun m f => (frameState_finish ..).trans (hgone.frames m f)⟩
  · exact congrArg done ((specRead_outside hup hex _).trans (outside_unbound hld _))
  · have hnone : (mapped s n (some l)).isNone = true := by rw [mapped_above hl]; rfl
    exact congrArg done ((specRead_outside hup hex _).trans ((outside_bound hld _).trans (by rw [hnone, whenS, if_pos rfl])))
  · have hsome : (mapped s n (some l)).isNone = false := by rw [mapped_below hl]; rfl
    exact congrArg done ((specRead_outside hup hex _).trans ((outside_bound hld _).trans (by rw [hsome, whenS, if_neg Bool.false_ne_true])))

end Sys2Proof.Machine
end

section
/-! Proofs: the status of a page program that carries one trickle codeword (R74, R75, R216, R224, R225, R232, R252, R683). -/

namespace Sys2Proof.Machine

/-! The flash set's accounts: what follows a program beside the stored pages, the channels and the frame maps. -/

/-- `t` is `s` with other registers, events added, and of the flash at most the accounts changed: stored pages, channels, frame maps and waiting pages stand. -/
structure Accounts (s t : State) : Prop where
  rest : ∃ r e fl, t = { s with regs := r, evs := s.evs ++ e, flash := fl }
  stored : t.flash.pages = s.flash.pages
  chans : t.flash.chans = s.flash.chans
  maps : ∀ m, (fset t m).fmap = (fset s m).fmap
  waiting : ∀ m, (fset t m).pages = (fset s m).pages

namespace Accounts

theorem refl (s : State) : Accounts s s := ⟨⟨s.regs, [], s.flash, by rw [List.append_nil]⟩, rfl, rfl, fun _ => rfl, fun _ => rfl⟩

section
variable {s t : State}

theorem trans {u : State} (h : Accounts s t) (k : Accounts t u) : Accounts s u := by
  refine ⟨?_, k.stored.trans h.stored, k.chans.trans h.chans, fun m => (k.maps m).trans (h.maps m), fun m => (k.waiting m).trans (h.waiting m)⟩
  obtain ⟨r, e, fl, rfl⟩ := h.rest
  obtain ⟨r', e', fl', rfl⟩ := k.rest
  exact ⟨r', e ++ e', fl', by simp⟩
theorem regs {u : State} (h : Accounts s t) (k : RegsOnly t u) : Accounts s u := by
  obtain ⟨r, e, rfl⟩ := k
  exact h.trans ⟨⟨r, e, t.flash, rfl⟩, rfl, rfl, fun _ => rfl, fun _ => rfl⟩
theorem wr (h : Accounts s t) (f : Fld) (v : Nat) : Accounts s (wr t f v) := h.regs (regsOnly_wr ..)
theorem event (h : Accounts s t) (a b c d : Nat) : Accounts s (event t a b c d) := h.regs (regsOnly_event ..)
theorem ite (c : Prop) [Decidable c] {a b : State} (ha : Accounts s a) (hb : Accounts s b) : Accounts s (if c then a else b) := by
  split
  · exact ha
  · exact hb
theorem whenS (h : Accounts s t) (c : Bool) (f : State → State) (hf : ∀ u, Accounts s u → Accounts s (f u)) : Accounts s (whenS c f t) := .ite _ (hf t h) h
theorem fold {α : Type} (h : Accounts s t) (xs : List α) (f : State → α → State) (hf : ∀ u a, Accounts s u → Accounts s (f u a)) : Accounts s (foldS xs f t) := by
  unfold foldS
  induction xs generalizing t with
  | nil => exact h
  | cons x xs ih => exact ih (hf t x h)
theorem setBlock (h : Accounts s t) (lun b : Nat) (x : Block) : Accounts s (setBlock t lun b x) :=
  h.trans ⟨⟨t.regs, [], _, by rw [List.append_nil]; rfl⟩, rfl, rfl, fun _ => rfl, fun _ => rfl⟩
theorem setFsys (h : Accounts s t) (n : Stage) (x : StageSys) : Accounts s (setFsys t n x) :=
  h.trans ⟨⟨t.regs, [], _, by rw [List.append_nil]; rfl⟩, rfl, rfl, fun _ => rfl, fun _ => rfl⟩
theorem setFset (h : Accounts s t) (n : Stage) (x : StageFlash) (hm : x.fmap = (fset t n).fmap := by rfl) (hp : x.pages = (fset t n).pages := by rfl) :
    Accounts s (setFset t n x) := by
  refine h.trans ⟨⟨t.regs, [], _, by rw [List.append_nil]; rfl⟩, rfl, rfl, fun m => ?_, fun m => ?_⟩
  all_goals
    rw [fset, Machine.setFset, qget_qset]
    split
    · next he => rw [he]; assumption
    · rfl

theorem spaceFollow (h : Accounts s t) (n : Stage) : Accounts s (spaceFollow t n false) := by
  unfold Machine.spaceFollow freeFollow
  exact ((((((h.setFsys ..).wr _ _).regs (regsOnly_spaceRefresh ..)).whenS _ _ fun _ k => k.event ..).setFsys ..).wr _ _)
theorem strikeFollow (h : Accounts s t) (n : Stage) : Accounts s (strikeFollow t n) := by
  unfold Machine.strikeFollow setVictim
  exact ((((((h.whenS _ _ fun _ k => k.event ..).whenS _ _ fun _ k => k.event ..).setFsys ..).wr _ _).wr _ _).setFsys ..).wr _ _
theorem blocksFollow (h : Accounts s t) (n : Stage) : Accounts s (blocksFollow t n) := by
  unfold Machine.blocksFollow wearFollow capacityFollow
  exact ((((((((h.whenS _ _ fun _ k => k.event ..).wr _ _).wr _ _).wr _ _).wr _ _).wr _ _).wr _ _).wr _ _).wr _ _
theorem recStart (h : Accounts s t) (n : Stage) (owner : Nat) (ps : List (Nat × List Byte)) : Accounts s (recStart t n owner false ps) := by
  unfold Machine.recStart putWriter
  exact ((h.setFset ..).setFset ..).fold _ _ fun _ _ k => k.setFset ..
theorem tablesStart (h : Accounts s t) (n : Stage) : Accounts s (tablesStart t n) := by
  unfold Machine.tablesStart
  have hbad := Accounts.ite ((fset t n).badDue && (writerOf t n 9).isNone) ((h.setFset n { fset t n with badDue := false }).recStart n 9
    (if ((packEntries 4 (badEntries t n)).map (fun p => (9, p))).isEmpty then [(9, padPayload [] 0xFF#8)] else (packEntries 4 (badEntries t n)).map (fun p => (9, p)))) h
  exact .ite _ h (.ite _ ((hbad.setFset ..).recStart ..) hbad)

theorem modes (h : Accounts s t) : t.modes = s.modes := by obtain ⟨_, _, _, rfl⟩ := h.rest; rfl
theorem dram (h : Accounts s t) : t.dram = s.dram := by obtain ⟨_, _, _, rfl⟩ := h.rest; rfl
theorem ledger (h : Accounts s t) : t.ledger = s.ledger := by obtain ⟨_, _, _, rfl⟩ := h.rest; rfl
theorem saveDev (h : Accounts s t) : t.saveDev = s.saveDev := by obtain ⟨_, _, _, rfl⟩ := h.rest; rfl
theorem led (h : Accounts s t) (n : Stage) : led t n = Machine.led s n := congrArg (qget · n) h.ledger
theorem frameState (h : Accounts s t) (n : Stage) (f : Nat) : frameState t n f = Machine.frameState s n f := by
  rw [Machine.frameState, h.led]
  rfl
theorem evs (h : Accounts s t) : s.evs ⊆ t.evs := by obtain ⟨_, _, _, rfl⟩ := h.rest; exact List.subset_append_left ..
end
end Accounts

/-! A report to the ledger (R74, R75). -/

/-- `t` follows `s` in the ledger alone: its frames are in the states `fr`; flash, modes and DRAM stand, and so does write-through operation. -/
structure Leaves (s t : State) (fr : Stage → Nat → Nat) : Prop where
  flash : t.flash = s.flash
  modes : t.modes = s.modes
  dram : t.dram = s.dram
  evs : s.evs ⊆ t.evs
  through : ∀ m, (led t m).writeThrough = (led s m).writeThrough
  frames : ∀ m g, frameState t m g = fr m g

namespace Leaves

theorem refl (s : State) : Leaves s s (frameState s) := ⟨rfl, rfl, rfl, List.Subset.refl _, fun _ => rfl, fun _ _ => rfl⟩

section
variable {s t : State} {fr : Stage → Nat → Nat}

theorem ite (c : Prop) [Decidable c] {a b : State} (ha : Leaves s a fr) (hb : Leaves s b fr) : Leaves s (if c then a else b) fr := by
  split
  · exact ha
  · exact hb
theorem regs {u : State} (h : Leaves s t fr) (k : RegsOnly t u) : Leaves s u fr := by
  obtain ⟨r, e, rfl⟩ := k
  exact ⟨h.flash, h.modes, h.dram, List.Subset.trans h.evs (List.subset_append_left ..), h.through, h.frames⟩
theorem emit (h : Leaves s t fr) (o : Output) : Leaves s (emit t o) fr := ⟨h.flash, h.modes, h.dram, h.evs, h.through, h.frames⟩
theorem clockNext (h : Leaves s t fr) : Leaves s (clockNext t) fr := ⟨h.flash, h.modes, h.dram, h.evs, h.through, h.frames⟩
theorem setLedger (h : Leaves s t fr) (n : Stage) (l : LedgerState) (hf : l.ledger = (led t n).ledger := by rfl) (hw : l.writeThrough = (led t n).writeThrough := by rfl) :
    Leaves s (setLedger t n l) fr := by
  refine ⟨h.flash, h.modes, h.dram, h.evs, fun m => (?_ : _ = (led t m).writeThrough).trans (h.through m), fun m g => (?_ : _ = Machine.frameState t m g).trans (h.frames m g)⟩
  · rw [led_setLedger]
    split
    · next hm => rw [hm, hw]
    · rfl
  · rw [frameState, led_setLedger]
    split
    · next hm => rw [hm, hf]; rfl
    · rfl
theorem ledRefresh (h : Leaves s t fr) (n : Stage) : Leaves s (ledRefresh t n) fr := by
  have k := Refreshed.ledRefresh t n
  refine ⟨k.flash.trans h.flash, k.modes.trans h.modes, k.dram.trans h.dram, List.Subset.trans h.evs ((Keeps.refl t).ledRefresh n).evs,
    fun m => ?_, fun m g => (k.frameState m g).trans (h.frames m g)⟩
  obtain ⟨b, hb⟩ := k.ledgers m
  rw [hb]
  exact h.through m
theorem setFrame (h : Leaves s t fr) (n : Stage) (f v : Nat) : Leaves s (setFrame t n f v) (fun m g => if m = n ∧ g = f then v else fr m g) := by
  obtain ⟨r, lg, lc, st, mk, he, -⟩ := setFrame_eq t n f v
  refine ⟨?_, ?_, ?_, List.Subset.trans h.evs ((Keeps.refl t).setFrame n f v).evs, fun m => ?_, fun m g => ?_⟩
  · rw [he]; exact h.flash
  · rw [he]; exact h.modes
  · rw [he]; exact h.dram
  · rw [← h.through m, he, led, qget_qset]
    split
    · next hm => rw [hm]
    · rfl
  · rw [frameState_setFrame, h.frames]
theorem writeComplete (h : Leaves s t fr) (n : Stage) (o : WriteDone) : Leaves s (writeComplete t n o) fr := by
  cases o with
  | mem port tag =>
    exact .ite _ ((h.regs (regsOnly_loadHit ..)).emit _) h
  | mailbox => exact h.emit _
theorem wtRelease (h : Leaves s t fr) (n : Stage) (f : Nat) : Leaves s (wtRelease t n f) fr := by
  have hfold : ∀ (es : List (Nat × WriteDone)) (u : State), Leaves s u fr → Leaves s (foldS es (fun s e => Machine.writeComplete s n e.2) u) fr := by
    intro es
    induction es with
    | nil => exact fun _ hu => hu
    | cons e es ih => exact fun u hu => ih _ (hu.writeComplete n e.2)
  exact hfold _ _ (h.setLedger ..)
/-- The clock of the report ends; outside write-through operation nothing is selected on the next. -/
theorem clockEnd (h : Leaves s t fr) {n : Stage} (hw : (led s n).writeThrough = false) : Leaves s (Machine.ledRefresh (wtQueue (Machine.clockNext t) n) n) fr := by
  have hn := h.clockNext
  rw [wtQueue_off (by rw [hn.through, hw])]
  exact hn.ledRefresh n
end
end Leaves

theorem dropFirst_only {α : Type} {p : α → Bool} {xs : List α} (h : (xs.filter p).length ≤ 1) : (dropFirst p xs).any p = false := by
  induction xs with
  | nil => rfl
  | cons x xs ih =>
    cases hx : p x with
    | true =>
      rw [List.filter_cons_of_pos hx, List.length_cons] at h
      have hnone := List.filter_eq_nil_iff.mp (List.eq_nil_of_length_eq_zero (Nat.le_zero.mp (Nat.le_of_succ_le_succ h)))
      rw [dropFirst, if_pos hx, List.any_eq_false]
      exact hnone
    | false =>
      rw [List.filter_cons_of_neg (by simp [hx])] at h
      rw [dropFirst, if_neg (by simp [hx]), List.any_cons, hx, ih h]
      rfl

section
variable {s : State} {n : Stage} {f : Nat} (hf : frameState s n f = 2 ∨ frameState s n f = 3) (hgated : (led s n).gated = false) (hgate : s.saveDev.gate = false)
  (hwt : (led s n).writeThrough = false) (hq : ((led s n).queue.filter (fun q => q.frame == f)).length ≤ 1)
include hf hgated hgate hq

/-- Nothing keeps the report from the frame: its stage's gate is open and no other entry of the frame stands in the queue. -/
theorem trickleReport_takes : ¬ (((led s n).gated || s.saveDev.gate) = true ∨ (frameState s n f ≠ 2 ∧ frameState s n f ≠ 3)
    ∨ (led (trickleFree s n f) n).queue.any (fun q => q.frame == f) = true) := by
  have hfree : (led (trickleFree s n f) n).queue.any (fun q => q.frame == f) = false := by
    rw [trickleFree, led_setLedger_self]
    exact dropFirst_only hq
  rw [hgated, hgate, hfree]
  rintro (h | ⟨h2, h3⟩ | h)
  · exact Bool.false_ne_true h
  · exact hf.elim h2 h3
  · exact Bool.false_ne_true h

include hwt

/-- The last codeword of a frame's copy that passes cleans the frame, or leaves it dirty where it was written meanwhile. -/
theorem trickleReport_passes : (trickleReport s n f true).1 = true
    ∧ Leaves s (trickleReport s n f true).2 (fun m g => if m = n ∧ g = f then if frameState s n f = 2 then 0 else 1 else frameState s m g) := by
  have hfree : Leaves s (trickleFree s n f) (frameState s) := (Leaves.refl s).setLedger n _
  have hcount : RegsOnly (trickleFree s n f) (pmonHit (incWrap (trickleFree s n f) (F.LDG_TRICKLED_COUNT n.val) 1) 1 6 n.val 1) := (regsOnly_wr ..).trans (regsOnly_pmonHit ..)
  have hset := (hfree.regs hcount).setFrame n f (if frameState s n f = 2 then 0 else 1)
  rw [trickleReport]
  dsimp only
  rw [if_neg (trickleReport_takes hf hgated hgate hq), if_pos rfl]
  exact ⟨rfl, Leaves.clockEnd (.ite _ (hset.wtRelease n f) hset) hwt⟩
/-- One that fails leaves the frame dirty and is logged. -/
theorem trickleReport_fails : Leaves s (trickleReport s n f false).2 (fun m g => if m = n ∧ g = f then 1 else frameState s m g)
    ∧ (⟨0x108, 1, n.val, f⟩ : Ev) ∈ (trickleReport s n f false).2.evs := by
  have hfree : Leaves s (trickleFree s n f) (frameState s) := (Leaves.refl s).setLedger n _
  have hlog := ((hfree.setFrame n f 1).regs (regsOnly_pmonHit _ 1 7 n.val 1)).regs (regsOnly_event _ 0x108 1 n.val f)
  have hend := hlog.clockEnd hwt
  rw [trickleReport]
  dsimp only
  rw [if_neg (trickleReport_takes hf hgated hgate hq), if_neg Bool.false_ne_true]
  refine ⟨hend, ?_⟩
  have hkept := (Leaves.refl (event (pmonHit (setFrame (trickleFree s n f) n f 1) 1 7 n.val 1) 0x108 1 n.val f)).clockEnd (n := n) ((hlog.through n).trans hwt)
  exact hkept.evs (List.mem_append_right _ (List.mem_singleton_self _))
end

/-! The program's end (R216, R224, R252, R683). -/

theorem flashStage_lt {s : State} {ch : Nat} {n : Stage} (h : flashStage s ch = some n) : ch < 16 := by
  have hin := List.find?_some h
  rw [List.contains_iff_mem, stageFlashChs] at hin
  split at hin
  · exact List.mem_range.mp (List.mem_filter.mp hin).1
  · exact absurd hin List.not_mem_nil

/-- The status register of a channel's outstanding commands lies apart from what decides a program's end. -/
theorem outstanding_apart : ∀ c < 16, apart (F.FL_CH_STATUS_OUTSTANDING c) F.FL_INJECT_ARM = true ∧ apart (F.FL_CH_STATUS_OUTSTANDING c) F.FL_CFG_PROG_WORN_PCT = true
    ∧ ∀ n : Stage, apart (F.FL_CH_STATUS_OUTSTANDING c) (F.FL_STAGE_GEOM_PAGES n.val) = true := by decide +kernel

section
variable {s : State} {ch : Nat} (hch : ch < 16) (tag : Nat)

theorem flashDrop_eq : ∃ r, flashDrop s ch tag = { s with regs := r, flash := { s.flash with chans := mset chanFree s.flash.chans ch { fch s ch with
    ops := (fch s ch).ops.filter (fun o => decide (o.tag ≠ tag)), runs := (fch s ch).runs.filter (fun r => decide (r.tag ≠ tag)) } } } := ⟨_, rfl⟩
/-- The tag is free again. -/
theorem fch_flashDrop : ∀ x ∈ (fch (flashDrop s ch tag) ch).ops, x.tag ≠ tag := by
  obtain ⟨r, he⟩ := flashDrop_eq (s := s) (ch := ch) tag
  rw [he, fch, mget_mset_self]
  exact fun x hx => of_decide_eq_true (List.mem_filter.mp hx).2
theorem rd_flashDrop {g : Fld} (hw : g.lo + g.width ≤ 48) (hg : apart (F.FL_CH_STATUS_OUTSTANDING ch) g = true) : rd (flashDrop s ch tag) g = rd s g :=
  rd_wr_apart _ _ _ _ hw hg
include hch
theorem pagesPer_flashDrop (n : Stage) : pagesPer (flashDrop s ch tag) n = pagesPer s n := by
  rw [pagesPer, rd_flashDrop tag (by fin_cases n <;> decide) ((outstanding_apart ch hch).2.2 n)]
  rfl
end

/-- A codeword of a trickle job that passed: the frame map names the copy once the report has been taken. -/
theorem codewordPassed_trickle {s : State} {n : Stage} {lun page slot f : Nat} {p : Placed} (hp : p.job.use = .trickle f) (hok : (trickleReport s n f true).1 = true) :
    ∃ q, codewordPassed s n lun page slot p = { (trickleReport s n f true).2 with flash := { (trickleReport s n f true).2.flash with sets := q } }
      ∧ (qget q n).fmap = mset noCopy (fset (trickleReport s n f true).2 n).fmap f (mkEntry lun page slot (hGen p.cw.header) (hSeq p.cw.header)) := by
  rw [codewordPassed]
  simp only [hp, hok, if_true]
  refine ⟨_, rfl, ?_⟩
  rw [qget_qset_self]
  exact congrArg StageFlash.fmap (qget_qset_self ..)

/-- A block not yet bad is marked and logged (R252). -/
theorem markBad_marks {s : State} {n : Stage} {lun b : Nat} (h : (blockAt s lun b).state ≠ 2) :
    Accounts s (markBad s n lun b 1) ∧ (⟨0x406, 1, n.val, lun + b * 256⟩ : Ev) ∈ (markBad s n lun b 1).evs := by
  rw [markBad, if_neg h]
  have hmarked := ((Accounts.refl s).setBlock lun b { blockAt s lun b with state := 2, cause := 1 }).setFset n
    { fset (setBlock s lun b { blockAt s lun b with state := 2, cause := 1 }) n with badDue := true }
  exact ⟨(Accounts.ite _ hmarked (hmarked.setFsys ..)).event .., List.mem_append_right _ (List.mem_singleton_self _)⟩

/-- With no page waiting, none goes back. -/
theorem accounts_blockPagesBack {s : State} {n : Stage} (h : (fset s n).pages = []) (out : OpenPage → Bool) : Accounts s (blockPagesBack s n out) := by
  rw [blockPagesBack]
  simp only [h, List.filter_nil, List.flatMap_nil, List.reverse_nil, foldS, List.foldl_nil]
  exact (Accounts.refl s).setFset n _ rfl h.symm

/-- A program-path injection not armed changes nothing (R230). -/
theorem injectProg_unarmed {s : State} (h : rd s F.FL_INJECT_ARM = 0) (n : Stage) (ch : Nat) : injectProg s n ch = (([], []), s) := by
  have harm : rdb s F.FL_INJECT_ARM = false := by rw [rdb, h]; rfl
  rw [injectProg, harm]
  exact if_neg fun ⟨hb, _⟩ => Bool.false_ne_true hb

/-- The codeword stored in slot 0 of the program's page, with the blocks as they then are. -/
def stored (s : State) (o : FlashOp) (cw : Codeword) (bl : NMap Block) : State :=
  { s with flash := { s.flash with pages := mset pageInit s.flash.pages (pageKey o.lun o.page) ⟨[some cw], [], []⟩, blocks := bl } }

theorem programPass_stored {s : State} {n : Stage} {o : FlashOp} {j : Job} {cw : Codeword} {pct : Nat} (harm : rd s F.FL_INJECT_ARM = 0)
    (hpct : pct ≤ rd s F.FL_CFG_PROG_WORN_PCT) :
    ∃ bl, programPass s n o [⟨j, cw⟩] pct = strikeFollow (spaceFollow (codewordPassed (stored s o cw bl) n o.lun o.page 0 ⟨j, cw⟩) n false) n := by
  have hfast : ¬ pct > rd (storePage s o.lun o.page [cw] [] []) F.FL_CFG_PROG_WORN_PCT := Nat.not_lt.mpr hpct
  refine ⟨(setBlock s o.lun (o.page / max 1 (pagesPer s n)) { blockAt s o.lun (o.page / max 1 (pagesPer s n)) with slow := 0, lastProg := satN 8 pct }).flash.blocks, ?_⟩
  rw [programPass, injectProg_unarmed harm]
  simp only [List.map_cons, List.map_nil, hfast, if_false, List.zipIdx_cons, List.zipIdx_nil]
  rw [if_neg (by decide)]
  rfl

section
variable {s : State} {n : Stage} {f : Nat} (hf : frameState s n f = 2 ∨ frameState s n f = 3) (hgated : (led s n).gated = false) (hgate : s.saveDev.gate = false)
  (hwt : (led s n).writeThrough = false) (hq : ((led s n).queue.filter (fun q => q.frame == f)).length ≤ 1) {o : FlashOp} {j : Job} {cw : Codeword} (hj : j.use = .trickle f)
include hf hgated hgate hwt hq hj

/-- A passed program of one trickle codeword: the page holds it, the frame map names it, the frame is reported clean, or dirty where it was written meanwhile. -/
theorem programPass_stores (harm : rd s F.FL_INJECT_ARM = 0) {pct : Nat} (hpct : pct ≤ rd s F.FL_CFG_PROG_WORN_PCT) {t : State} (ht : programPass s n o [⟨j, cw⟩] pct = t) :
    mget pageInit t.flash.pages (pageKey o.lun o.page) = ⟨[some cw], [], []⟩ ∧ mget noCopy (fset t n).fmap f = mkEntry o.lun o.page 0 (hGen cw.header) (hSeq cw.header)
      ∧ (∀ m g, frameState t m g = if m = n ∧ g = f then if frameState s n f = 2 then 0 else 1 else frameState s m g)
      ∧ t.flash.chans = s.flash.chans ∧ t.modes = s.modes ∧ t.dram = s.dram := by
  obtain ⟨bl, hpass⟩ := programPass_stored (n := n) (o := o) (j := j) (cw := cw) harm hpct
  obtain ⟨hok, hleft⟩ := trickleReport_passes (s := stored s o cw bl) (n := n) (f := f) hf hgated hgate hwt hq
  obtain ⟨q, hgo, hmap⟩ := codewordPassed_trickle (lun := o.lun) (page := o.page) (slot := 0) (p := ⟨j, cw⟩) hj hok
  have hend : Accounts (codewordPassed (stored s o cw bl) n o.lun o.page 0 ⟨j, cw⟩) t := by
    rw [← ht, hpass]
    exact ((Accounts.refl _).spaceFollow n).strikeFollow n
  rw [hgo] at hend
  refine ⟨?_, ?_, fun m g => (hend.frameState m g).trans (hleft.frames m g), hend.chans.trans (congrArg Flash.chans hleft.flash :),
    hend.modes.trans hleft.modes, hend.dram.trans hleft.dram⟩
  · rw [hend.stored]
    refine (congrArg (fun fl : Flash => mget pageInit fl.pages (pageKey o.lun o.page)) hleft.flash).trans ?_
    exact mget_mset_self pageInit s.flash.pages (pageKey o.lun o.page) ⟨[some cw], [], []⟩
  · rw [hend.maps]
    refine (congrArg (fun m => mget noCopy m f) hmap).trans ?_
    exact mget_mset_self ..

/-- A failed one, of a page whose block is not yet bad and with no other page waiting: the block is marked bad and the frame reported dirty, both logged. -/
theorem programFail_dirties {b : Nat} (hb : b = o.page / max 1 (pagesPer s n)) (hgood : (blockAt s o.lun b).state ≠ 2) (hpages : (fset s n).pages = [])
    {t : State} (ht : programFail s n o [⟨j, cw⟩] false = t) :
    (⟨0x406, 1, n.val, o.lun + b * 256⟩ : Ev) ∈ t.evs ∧ (⟨0x108, 1, n.val, f⟩ : Ev) ∈ t.evs ∧ frameState t n f = 1
      ∧ t.flash.chans = s.flash.chans ∧ t.flash.pages = s.flash.pages := by
  have hcount : Accounts s (incSat s (F.FL_CH_CMD_PROG_FAILS (lunCh o.lun)) 1) := (Accounts.refl s).wr _ _
  obtain ⟨hmark, hbad⟩ := markBad_marks (s := incSat s (F.FL_CH_CMD_PROG_FAILS (lunCh o.lun)) 1) (n := n) (lun := o.lun) (b := b) hgood
  have hfollow := ((Accounts.refl (markBad (incSat s (F.FL_CH_CMD_PROG_FAILS (lunCh o.lun)) 1) n o.lun b 1)).blocksFollow n).spaceFollow n
  have hbefore := (hcount.trans hmark).trans hfollow
  generalize hx : spaceFollow (blocksFollow (markBad (incSat s (F.FL_CH_CMD_PROG_FAILS (lunCh o.lun)) 1) n o.lun b 1) n) n false = x at hfollow hbefore
  obtain ⟨hleft, hlogged⟩ := trickleReport_fails (s := x) (n := n) (f := f) (by rw [hbefore.frameState]; exact hf) (by rw [hbefore.led]; exact hgated)
    (by rw [hbefore.saveDev]; exact hgate) (by rw [hbefore.led]; exact hwt) (by rw [hbefore.led]; exact hq)
  have hfail : ∃ out, t = tablesStart (blockPagesBack (trickleReport x n f false).2 n out) n := by
    refine ⟨fun p => p.lun == o.lun && p.page / max 1 (pagesPer (trickleReport x n f false).2 n) == b, ?_⟩
    rw [← ht, programFail, ← hb, hx, Bool.false_and, if_neg Bool.false_ne_true]
    simp only [List.reverse_singleton, foldS, List.foldl_cons, List.foldl_nil, codewordFailed, hj, if_true, Bool.false_eq_true, if_false]
  obtain ⟨out, hend⟩ := hfail
  have hwaiting : (fset (trickleReport x n f false).2 n).pages = [] := by rw [fset, hleft.flash, ← fset, hbefore.waiting, hpages]
  have hlast : Accounts (trickleReport x n f false).2 t := by
    rw [hend]
    exact (accounts_blockPagesBack hwaiting out).tablesStart n
  refine ⟨hlast.evs (hleft.evs (hfollow.evs hbad)), hlast.evs hlogged, ?_, ?_, ?_⟩
  · rw [hlast.frameState, hleft.frames, if_pos ⟨rfl, rfl⟩]
  · rw [hlast.chans, hleft.flash, hbefore.chans]
  · rw [hlast.stored, hleft.flash, hbefore.stored]
end

/-- Settles O37: the program's page and accounts change beside the ledger, the frame's report in the ledger alone. -/
theorem pageProgramsEnd : Obligations.PageProgramsEnd := by
  unfold Obligations.PageProgramsEnd
  intro s n ch tag epoch pct f o j cw hop hstage hlun hact hj hf hgated hgate hwt hnew hq
  have hch := flashStage_lt hstage
  obtain ⟨harmApart, hpctApart, -⟩ := outstanding_apart ch hch
  have hstatus : ∀ pass, programStatus s ch tag epoch pass pct
      = if pass then programPass (flashDrop s ch tag) n o [⟨j, cw⟩] pct else programFail (flashDrop s ch tag) n o [⟨j, cw⟩] false := by
    intro pass
    rw [programStatus, hop]
    simp only [hact, hstage, Option.getD_some]
  have hfree : ∀ t : State, t.flash.chans = (flashDrop s ch tag).flash.chans → ∀ x ∈ (fch (finish t) ch).ops, x.tag ≠ tag := by
    intro t ht
    rw [fch, (quiet_finish t).flash, ht]
    exact fch_flashDrop tag
  refine ⟨fun harm hpct => ⟨_, rfl, ?_⟩, fun hgood hpages => ⟨_, rfl, ?_⟩⟩
  · obtain ⟨hpage, hmap, hframes, hchans, hmodes, hdram⟩ := programPass_stores (s := flashDrop s ch tag) (o := o) (cw := cw) hf hgated hgate hwt hq hj
      ((rd_flashDrop tag (by decide) harmApart).trans harm) (hpct.trans_eq (rd_flashDrop tag (by decide) hpctApart).symm) ((hstatus true).symm)
    have q := quiet_finish (programStatus s ch tag epoch true pct)
    refine ⟨?_, ?_, ?_, fun m g hmg => ?_, hfree _ hchans, q.modes.trans hmodes, q.dram.trans (by rw [hdram]; rfl)⟩
    · rw [q.flash, hpage]
    · rw [fset, q.flash, ← fset, hmap]
    · rw [frameState_finish, hframes, if_pos ⟨rfl, rfl⟩]
      rfl
    · rw [frameState_finish, hframes, if_neg (by rintro ⟨h, h'⟩; exact hmg.elim (· h) (· h'))]
      rfl
  · have hb : o.page / pagesPer s n = o.page / max 1 (pagesPer (flashDrop s ch tag) n) := by
      rw [pagesPer_flashDrop hch tag, pagesPer, ← max_assoc, max_self]
    obtain ⟨hbad, hlog, hdirty, hchans, hstored⟩ := programFail_dirties (s := flashDrop s ch tag) (o := o) (cw := cw) hf hgated hgate hwt hq hj hb hgood
      hpages ((hstatus false).symm)
    refine ⟨hbad, hlog, ?_, hfree _ hchans, ?_⟩
    · rw [frameState_finish, hdirty]
    · rw [(quiet_finish _).flash, hstored]
      rfl

end Sys2Proof.Machine
end

section
/-! Proofs: sealed generations as the seal logs show them (R144). -/

namespace Sys2Proof.Machine

/-- A list of seal-log records holds one of a kind for a generation. -/
theorem any_sealRec {l : List SealRec} {k g : Nat} : l.any (fun r => r.sub == k && r.gen == g) = true ↔ ∃ r ∈ l, r.sub = k ∧ r.gen = g := by
  simp only [List.any_eq_true, Bool.and_eq_true, beq_iff_eq]

/-- Settles O42: the void records, the sealed records of each list and the later open records, read as the statement has them. -/
theorem generationSealed : Obligations.GenerationSealed := by
  unfold Obligations.GenerationSealed
  intro a b g
  have hvoid : (!(a ++ b).any (fun r => r.sub == 3 && r.gen == g)) = true ↔ ∀ r ∈ a ++ b, r.sub = 3 → r.gen ≠ g := by
    rw [Bool.not_eq_true', ← Bool.not_eq_true, any_sealRec]
    simp only [not_exists, not_and, ne_eq]
  have hlater : (a ++ b).any (fun r => r.sub == 2 && decide (r.gen > g)) = true ↔ ∃ r ∈ a ++ b, r.sub = 2 ∧ g < r.gen := by
    simp only [List.any_eq_true, Bool.and_eq_true, beq_iff_eq, decide_eq_true_eq, gt_iff_lt]
  have heither : (a.any (fun r => r.sub == 1 && r.gen == g) || b.any (fun r => r.sub == 1 && r.gen == g)) = true ↔ ∃ r ∈ a ++ b, r.sub = 1 ∧ r.gen = g := by
    rw [← List.any_append, any_sealRec]
  rw [genSealed, Bool.and_eq_true, hvoid, Bool.or_eq_true, Bool.and_eq_true, Bool.and_eq_true, heither, hlater, any_sealRec, any_sealRec]

end Sys2Proof.Machine
end

section
/-! Proofs: host writes that reach no stage, and host writes behind a closed gate (R133, R377, R378, R400). -/

namespace Sys2Proof.Machine

/-! A write at its port (R372, R383). -/

/-- `x` is the state in which a write of the port is checked: the port's flush flags cleared, the request counted and its access sampled at most. -/
abbrev Received (s : State) (port : Nat) (x : State) : Prop := Counted (flagsCleared s port) x

namespace Received
variable {s x : State} {port : Nat} (h : Received s port x)
include h

theorem dram : x.dram = s.dram := by
  obtain ⟨a, b, he⟩ := flagsCleared_eq s port
  rw [Counted.dram h, he]
theorem modes : x.modes = s.modes := by
  obtain ⟨a, b, he⟩ := flagsCleared_eq s port
  rw [Counted.modes h, he]
theorem ledger : x.ledger = s.ledger := by
  obtain ⟨a, b, he⟩ := flagsCleared_eq s port
  rw [Counted.ledger h, he]
theorem out : x.out = s.out := by
  obtain ⟨a, b, he⟩ := flagsCleared_eq s port
  rw [Counted.out h, he]
theorem led (n : Stage) : Machine.led x n = Machine.led s n := congrArg (qget · n) (ledger h)
theorem frameState (n : Stage) (f : Nat) : Machine.frameState x n f = Machine.frameState s n f := by rw [Machine.frameState, led h]; rfl
theorem ldStage (ld : Nat) : Machine.ldStage x port ld = Machine.ldStage s port ld := by
  obtain ⟨a, b, he⟩ := flagsCleared_eq s port
  rw [Counted.ldStage h, he]
  rfl
theorem hostLines (n : Stage) : Machine.hostLines x n = Machine.hostLines s n := by
  obtain ⟨a, b, he⟩ := flagsCleared_eq s port
  rw [Counted.hostLines h, he]
  rfl
theorem stageSt (n : Stage) : Machine.stageSt x n = Machine.stageSt s n := by rw [Machine.stageSt, modes h]; rfl
theorem gateHolds (n : Stage) : Machine.gateHolds x n = Machine.gateHolds s n := by
  obtain ⟨a, b, he⟩ := flagsCleared_eq s port
  rw [Counted.gateHolds h, he]
  rfl
theorem ldArg (ld : Nat) : Machine.ldArg x port ld = Machine.ldArg s port ld := by
  obtain ⟨a, b, he⟩ := flagsCleared_eq s port
  rw [Machine.ldArg, portNo, Counted.cxl h, he]
  rfl
theorem portIn (hin : Machine.portIn s port = true) : Machine.portIn x port = true := by
  rw [Machine.portIn, Counted.cxl h, ← Machine.portIn, portIn_flagsCleared, hin]
end Received

/-- A write that comes to its port has been received. -/
theorem received_count (s : State) (port : Nat) : Received s port (pmonHit (flagsCleared s port) 0 1 port 1) := .pmonHit ..

/-- A write's completion leaves the ledger, DRAM, modes and the events logged. -/
theorem writeComplete_leaves (s : State) (n : Stage) (port tag : Nat) :
    s.evs ⊆ (writeComplete s n (.mem port tag)).evs ∧ (writeComplete s n (.mem port tag)).ledger = s.ledger ∧ (writeComplete s n (.mem port tag)).dram = s.dram
      ∧ (writeComplete s n (.mem port tag)).modes = s.modes := by
  have hload : Counted s (loadHit s port (loadOf s n)) := .loadHit ..
  rw [writeComplete]
  split
  · exact ⟨(regsOnly_loadHit s port (loadOf s n)).evs, hload.ledger, hload.dram, hload.modes⟩
  · exact ⟨List.Subset.refl _, rfl, rfl, rfl⟩

/-- Event 0x603 is logged once for the stage's state (R378). -/
theorem notLive_logs (s : State) (n : Stage) (arg : Nat) :
    ((led s n).notLiveLogged = false → (⟨0x603, 1, n.val, arg⟩ : Ev) ∈ (notLive s n arg).evs) ∧ (led (notLive s n arg) n).notLiveLogged = true := by
  unfold notLive
  split
  · next h => exact ⟨fun hno => absurd h (by rw [hno]; exact Bool.false_ne_true), h⟩
  · exact ⟨fun _ => List.mem_append_right _ (List.mem_singleton_self _), by rw [led_setLedger_self]⟩

section
variable {s : State} {port ld l : Nat} (hup : portUp s port = true) (hex : portExists s port = true) (tag : Nat) (data : BitVec 512) (mask : Option (BitVec 64)) (poison : Bool)
include hup hex

/-! Where the write goes. -/

/-- A write to a logical device that carries no stage is logged and completed with Light Load (R377, R381). -/
theorem memWrite_unbound (hld : ldStage s port ld = none) (line : Option Nat) :
    ∃ x, Received s port x ∧ memWrite s port ld tag line data mask poison = emit (event x 0x608 1 0 (ldArg s port ld)) (.memDone port tag 0) := by
  have hx := received_count s port
  refine ⟨_, hx, ?_⟩
  rw [memWrite, hup, hex, ← hx.ldArg]
  simp only [Bool.and_self, Bool.not_true, Bool.false_eq_true, if_false]
  rw [show setPort s port { portOf s port with flushFlag := false, pmeOff := false } = flagsCleared s port from rfl, hx.ldStage, hld]

/-- A write of a line that no decoder maps is logged and completed (R377). -/
theorem memWrite_unmapped {n : Stage} (hld : ldStage s port ld = some n) {line : Option Nat} (hl : ∀ x, Received s port x → mapped x n line = none) :
    ∃ x, Received s port x ∧ memWrite s port ld tag line data mask poison = writeComplete (event x 0x608 1 n.val (ldArg s port ld)) n (.mem port tag) := by
  have hx := received_count s port
  refine ⟨_, hx, ?_⟩
  rw [memWrite, hup, hex, ← hx.ldArg]
  simp only [Bool.and_self, Bool.not_true, Bool.false_eq_true, if_false]
  rw [show setPort s port { portOf s port with flushFlag := false, pmeOff := false } = flagsCleared s port from rfl, hx.ldStage, hld]
  simp only [hl _ hx]

variable {n : Stage} (hld : ldStage s port ld = some n) (hl : l < hostLines s n) (hnw : (led s n).stallW = []) (hnr : (led s n).stallR = [])
include hld hl hnw hnr

/-- A write below the capacity, with no request of the stage before it, arrives at its stage. -/
theorem memWrite_meets : ∃ x, Received s port x ∧ memWrite s port ld tag (some l) data mask poison = writeArrive x n ld (arriving s port tag l data mask poison) := by
  have hcount := received_count s port
  have hall : Received s port (heatArrive (pmonHit (flagsCleared s port) 0 1 port 1) n l true) := Counted.trans hcount (.heatArrive ..)
  refine ⟨_, hall, ?_⟩
  have hnow : (flagsCleared s port).now = s.now := by
    obtain ⟨a, b, he⟩ := flagsCleared_eq s port
    rw [he]
  rw [memWrite_arrives hup hex rfl ((hcount.ldStage ld).trans hld) (mapped_below (by rw [hcount.hostLines]; exact hl)),
    stallGo_none (by rw [hcount.led, hnw]) (by rw [hcount.led, hnr]), Counted.now hcount, hnow]

/-- Behind a closed gate it is held (R133). -/
theorem memWrite_gated (hgate : gateHolds s n = true) :
    ∃ x, Received s port x ∧ memWrite s port ld tag (some l) data mask poison = holdAfterGate x n (arriving s port tag l data mask poison) := by
  obtain ⟨x, hx, hgo⟩ := memWrite_meets hup hex tag data mask poison hld hl hnw hnr
  exact ⟨x, hx, hgo.trans (if_pos (by rw [hx.gateHolds, hgate]))⟩

/-- To a stage that is not Live it is completed, with event 0x603 at most (R378). -/
theorem memWrite_notLive (hgate : gateHolds s n = false) (hlive : stageSt s n ≠ .live) :
    ∃ x, Received s port x ∧ memWrite s port ld tag (some l) data mask poison = writeComplete (notLive x n (ldArg s port ld + 16)) n (.mem port tag) := by
  obtain ⟨x, hx, hgo⟩ := memWrite_meets hup hex tag data mask poison hld hl hnw hnr
  refine ⟨x, hx, ?_⟩
  rw [hgo, writeArrive, hx.gateHolds, hgate, if_neg Bool.false_ne_true, if_pos (by rw [hx.stageSt]; exact hlive), ← hx.ldArg]
end

/-- Settles O29: the write is received at its port; there it is completed without a memory, or kept behind the closed gate. -/
theorem writesThatReachNoStage : Obligations.WritesThatReachNoStage := by
  unfold Obligations.WritesThatReachNoStage
  intro s port ld tag l data mask poison hup hex c hc
  have hin := portIn_of_up hup hex
  refine ⟨fun hld => answers_memWrite hc fun m => ?_, fun n hld hl => answers_memWrite hc fun m => ?_, fun n hld hl hnw hnr hgate hlive => answers_memWrite hc fun m => ?_,
    fun n hld hl hnw hnr hgate => answers_memWrite hc fun m => ?_⟩
  · obtain ⟨x, hx, hgo⟩ := memWrite_unbound hup hex tag data m poison hld (some l)
    rw [hgo]
    have q := quiet_finish (emit (event x 0x608 1 0 (ldArg s port ld)) (.memDone port tag 0))
    exact ⟨List.mem_append_right _ (List.mem_singleton_self _), List.mem_append_right _ (List.mem_singleton_self _), q.ledger.trans hx.ledger, q.dram.trans (by rw [← hx.dram]; rfl),
      q.modes.trans hx.modes⟩
  · obtain ⟨x, hx, hgo⟩ := memWrite_unmapped hup hex tag data m poison hld (line := some l) fun x hx => mapped_above (by rw [hx.hostLines]; exact hl)
    obtain ⟨hevs, hledger, hdram, hmodes⟩ := writeComplete_leaves (event x 0x608 1 n.val (ldArg s port ld)) n port tag
    rw [hgo]
    have q := quiet_finish (writeComplete (event x 0x608 1 n.val (ldArg s port ld)) n (.mem port tag))
    exact ⟨hevs (List.mem_append_right _ (List.mem_singleton_self _)), writeComplete_sends (hx.portIn hin), q.ledger.trans (hledger.trans hx.ledger), q.dram.trans (by rw [hdram, ← hx.dram]; rfl),
      q.modes.trans (hmodes.trans hx.modes)⟩
  · obtain ⟨x, hx, hgo⟩ := memWrite_notLive hup hex tag data m poison hld hl hnw hnr hgate hlive
    have haloof := Aloof.notLive x n (ldArg s port ld + 16)
    obtain ⟨hlog, hlogged⟩ := notLive_logs x n (ldArg s port ld + 16)
    obtain ⟨hevs, hledger, hdram, hmodes⟩ := writeComplete_leaves (notLive x n (ldArg s port ld + 16)) n port tag
    rw [hgo]
    have q := quiet_finish (writeComplete (notLive x n (ldArg s port ld + 16)) n (.mem port tag))
    refine ⟨fun hno => hevs (hlog (by rw [hx.led, hno])), ?_, writeComplete_sends (by rw [portIn, haloof.cxl]; exact hx.portIn hin), fun k f => ?_, q.dram.trans (by rw [hdram, haloof.dram, hx.dram]), q.modes.trans (hmodes.trans (haloof.modes.trans hx.modes))⟩
    · rw [led_finish, led, hledger]
      exact hlogged
    · rw [frameState_finish, frameState, led, hledger]
      exact (haloof.frames k f).trans (hx.frameState k f)
  · obtain ⟨x, hx, hgo⟩ := memWrite_gated hup hex tag data m poison hld hl hnw hnr hgate
    rw [hgo]
    have q := quiet_finish (holdAfterGate x n (arriving s port tag l data m poison))
    refine ⟨?_, hx.out, fun k f => ?_, q.dram.trans (by rw [← hx.dram]; rfl), q.modes.trans hx.modes⟩
    · rw [led_finish, holdAfterGate, led_setLedger_self, hx.led, List.map_append]
      rfl
    · rw [frameState_finish, holdAfterGate, frameState, led_setLedger, ← hx.frameState]
      split
      · next h => rw [h]; rfl
      · rfl

end Sys2Proof.Machine
end

section
/-! Proofs: what the operations of a save leave alone: time, power, the device save, the mode, and the fields that the save's decisions read (R148 to R153, R448). -/

namespace Sys2Proof.Machine

/-- The fields that choose a cue program's source and the way out of a save (R148, R448, R524). -/
def decisionFields : List Fld := [F.PWR_VIN_STATUS_SUPPLY_GOOD, F.MODE_HOLD_HOLD_DEADLINE, F.IMG_STATUS_VALID, F.CUE_CFG_FORCE_TABLE]
/-- A field whose write leaves them. -/
def plainField (f : Fld) : Bool := decisionFields.all (apart f)

theorem decisionFields_width : ∀ g ∈ decisionFields, g.lo + g.width ≤ 48 := by decide

/-- What the operations of a save leave alone; of the modes they change at most stage states. -/
structure Undecided (s t : State) : Prop where
  now : t.now = s.now
  power : t.power = s.power
  saveDev : t.saveDev = s.saveDev
  modes : { t.modes with stages := s.modes.stages } = s.modes
  evs : s.evs ⊆ t.evs
  fields : ∀ g ∈ decisionFields, rd t g = rd s g

namespace Undecided

theorem refl (s : State) : Undecided s s := ⟨rfl, rfl, rfl, rfl, List.Subset.refl _, fun _ _ => rfl⟩
theorem trans {s t u : State} (h : Undecided s t) (k : Undecided t u) : Undecided s u where
  now := k.now.trans h.now
  power := k.power.trans h.power
  saveDev := k.saveDev.trans h.saveDev
  modes := by rw [← h.modes, ← k.modes]
  evs := List.Subset.trans h.evs k.evs
  fields g hg := (k.fields g hg).trans (h.fields g hg)

section
variable {s t : State}

/-! Single changes of the state. -/

/-- A change of no register that keeps what the relation names. -/
theorem apply (h : Undecided s t) (f : State → State) (hnow : (f t).now = t.now := by rfl) (hregs : (f t).regs = t.regs := by rfl) (hpower : (f t).power = t.power := by rfl)
    (hdev : (f t).saveDev = t.saveDev := by rfl) (hmodes : (f t).modes = t.modes := by rfl) (hevs : (f t).evs = t.evs := by rfl) : Undecided s (f t) :=
  h.trans ⟨hnow, hpower, hdev, by rw [hmodes], by rw [hevs]; exact List.Subset.refl _, fun g _ => by rw [rd, rawReg, hregs]; rfl⟩
theorem wr (h : Undecided s t) (f : Fld) (v : Nat) (hf : plainField f = true := by clear * -; decide +revert) : Undecided s (wr t f v) :=
  h.trans ⟨rfl, rfl, rfl, rfl, List.Subset.refl _, fun g hg => rd_wr_apart t f g v (decisionFields_width g hg) (List.all_eq_true.mp hf g hg)⟩
theorem event (h : Undecided s t) (a b c d : Nat) : Undecided s (event t a b c d) :=
  h.trans ⟨rfl, rfl, rfl, rfl, List.subset_append_left .., fun _ _ => rfl⟩
theorem emit (h : Undecided s t) (o : Output) : Undecided s (emit t o) := h.apply fun t => Machine.emit t o
theorem setSub (h : Undecided s t) (c : DramCh) (b : Bool) (x : SubCh) : Undecided s (setSub t c b x) := h.apply fun t => Machine.setSub t c b x
theorem setSav (h : Undecided s t) (n : Stage) (x : StageSave) : Undecided s (setSav t n x) := h.apply fun t => Machine.setSav t n x
theorem setRst (h : Undecided s t) (n : Stage) (x : RestoreState) : Undecided s (setRst t n x) := h.apply fun t => Machine.setRst t n x
theorem setLedger (h : Undecided s t) (n : Stage) (x : LedgerState) : Undecided s (setLedger t n x) := h.apply fun t => Machine.setLedger t n x
theorem setFset (h : Undecided s t) (n : Stage) (x : StageFlash) : Undecided s (setFset t n x) := h.apply fun t => Machine.setFset t n x
theorem setFsys (h : Undecided s t) (n : Stage) (x : StageSys) : Undecided s (setFsys t n x) := h.apply fun t => Machine.setFsys t n x
theorem cxl (h : Undecided s t) (c : CxlState) : Undecided s { t with cxl := c } := h.apply fun t => { t with cxl := c }
theorem putStage (h : Undecided s t) (n : Stage) (x : StageState) : Undecided s (putStage t n x) :=
  h.trans ⟨rfl, rfl, rfl, rfl, List.Subset.refl _, fun _ _ => rfl⟩

/-- Two states that carry another save. -/
theorem withSave (h : Undecided s t) (d : SaveDev) : Undecided { s with saveDev := d } { t with saveDev := d } := ⟨h.now, h.power, rfl, h.modes, h.evs, h.fields⟩

/-! Control. -/

theorem ite (c : Prop) [Decidable c] {a b : State} (ha : Undecided s a) (hb : Undecided s b) : Undecided s (if c then a else b) := by
  split
  · exact ha
  · exact hb
theorem whenS (h : Undecided s t) (c : Bool) (f : State → State) (hf : ∀ u, Undecided s u → Undecided s (f u)) : Undecided s (whenS c f t) := .ite _ (hf t h) h
theorem fold {α : Type} (h : Undecided s t) (xs : List α) (f : State → α → State) (hf : ∀ u a, Undecided s u → Undecided s (f u a)) : Undecided s (foldS xs f t) := by
  unfold foldS
  induction xs generalizing t with
  | nil => exact h
  | cons x xs ih => exact ih (hf t x h)

/-! Status and records of a save (R166, R167), the ledger's status, CHG_EN. -/

theorem saveStatus (h : Undecided s t) : Undecided s (saveStatus t) := by
  unfold Machine.saveStatus
  exact ((((h.wr _ _).wr _ _).wr _ _).wr _ _).wr _ _
theorem savePhase (h : Undecided s t) (n : Stage) (p : SavePhase) : Undecided s (savePhase t n p) := (h.setSav ..).saveStatus
theorem saveLast (h : Undecided s t) (k : Nat) : Undecided s (saveLast t k) := by
  unfold Machine.saveLast alert
  exact ((((((h.wr _ _).wr _ _).wr _ _).wr _ _).wr _ _).wr _ _).wr _ _
theorem ledRefresh (h : Undecided s t) (n : Stage) : Undecided s (ledRefresh t n) := by
  unfold Machine.ledRefresh spaceRefresh
  exact ((((((((h.wr _ _).wr _ _).wr _ _).wr _ _).whenS _ _ fun _ k => k.event ..).setLedger ..)).whenS _ _ fun _ k => k.event ..).wr _ _
theorem chgFollow (h : Undecided s t) : Undecided s (chgFollow t) := by
  unfold Machine.chgFollow
  exact .ite _ h (((h.wr _ _).emit _).whenS _ _ fun _ k => k.apply fun u => { u with gauge := { u.gauge with learning := none } })

/-! A stage's transition (R48), its drain (R132), its ledger in an abort (R85), its checkpoint stream given up (R141). -/

theorem leaveLive (h : Undecided s t) (n : Stage) : Undecided s (leaveLive t n) := by
  unfold Machine.leaveLive
  exact ((((((((h.wr _ _).wr _ _).wr _ _).wr _ _).whenS _ _ fun _ k => k.event ..).wr _ _).wr _ _).wr _ _).setLedger ..
theorem stageTo (h : Undecided s t) (n : Stage) (x : StageState) : Undecided s (stageTo t n x) := by
  unfold Machine.stageTo countsZero
  have k := (((h.putStage n x).event 0x002 0 n.val (stageCode (stageSt t n) + 8 * stageCode x)).setLedger n
    { led (Machine.event (Machine.putStage t n x) 0x002 0 n.val (stageCode (stageSt t n) + 8 * stageCode x)) n with notLiveLogged := false }).whenS (x == .dressing) _
    fun _ k => (((k.wr (F.LDG_FIRST_TOUCH_COUNT n.val) 0).wr (F.LDG_HELD_COUNT_COUNT n.val) 0).wr (F.LDG_TRICKLED_COUNT n.val) 0).wr (F.LDG_REDIRTY_COUNT n.val) 0
  exact .ite _ h (.ite _ (k.leaveLive n) k)
theorem drainStage (h : Undecided s t) (n : Stage) : Undecided s (drainStage t n) := by
  unfold Machine.drainStage
  exact (((h.whenS _ _ fun _ k => k.event ..).setSav ..).savePhase ..).ledRefresh n
theorem abortLedger (h : Undecided s t) (n : Stage) : Undecided s (abortLedger t n) := by
  unfold Machine.abortLedger dropQueued
  exact (((h.setLedger ..).setFset ..).setFsys ..).setFset .. |>.ledRefresh n
theorem leftEnd (h : Undecided s t) : Undecided s (leftEnd t) := by
  unfold Machine.leftEnd
  exact h.fold _ _ fun _ n k => (k.event ..).stageTo n _
theorem gateCredits (h : Undecided s t) (n : Stage) : Undecided s (gateCredits t n) := by
  unfold Machine.gateCredits
  exact .ite _ h ((h.cxl _).emit _)

/-! Self-refresh of a stage's channels (R288, R290). -/

theorem srPrecharge (h : Undecided s t) (c : DramCh) (b : Bool) : Undecided s (srPrecharge t c b) := by
  unfold Machine.srPrecharge
  exact (h.setSub ..).fold _ _ fun _ _ k => k.emit _
theorem srCommit (h : Undecided s t) (c : DramCh) (b idle : Bool) : Undecided s (srCommit t c b idle) := by
  unfold Machine.srCommit incWrap
  exact ((h.setSub ..).wr _ _).fold _ _ fun _ _ k => k.emit _
theorem srEnter (h : Undecided s t) (c : DramCh) (b : Bool) : Undecided s (srEnter t c b) := by
  unfold Machine.srEnter
  split
  · exact h.setSub ..
  · exact (h.whenS _ _ fun _ k => k.srPrecharge c b).srCommit ..
theorem stageSelfRefresh (h : Undecided s t) (n : Stage) : Undecided s (stageSelfRefresh t n) := by
  unfold Machine.stageSelfRefresh
  exact h.fold _ _ fun _ c k => (k.srEnter c false).srEnter c true

end

/-! What the decisions read. -/

section
variable {s t : State} (h : Undecided s t)
include h

theorem rdb {g : Fld} (hg : g ∈ decisionFields) : rdb t g = rdb s g := by rw [Machine.rdb, h.fields g hg]; rfl
theorem mode : t.modes.mode = s.modes.mode := (congrArg ModeState.mode h.modes :)
theorem latched : t.modes.mrLatched = s.modes.mrLatched := (congrArg ModeState.mrLatched h.modes :)
theorem interWait : t.modes.interWait = s.modes.interWait := (congrArg ModeState.interWait h.modes :)
theorem tableValid : tableValid t = tableValid s := tableValid_congr h.power
theorem progValid (p : Nat) : progValid t p = progValid s p := by
  unfold Machine.progValid progPlace cueWords cueWord
  rw [h.power]
theorem noImage : noImage t = noImage s := by
  have hboot : t.modes.booting = s.modes.booting := (congrArg ModeState.booting h.modes :)
  have hrec : t.modes.recovery = s.modes.recovery := (congrArg ModeState.recovery h.modes :)
  rw [Machine.noImage, h.mode, hboot, hrec, h.rdb (by decide)]
  rfl
theorem downRuns : downRuns t = downRuns s := by rw [Machine.downRuns, h.power]; rfl
theorem savingStages : savingStages t = savingStages s := by rw [Machine.savingStages, h.saveDev]; rfl
end
end Undecided
end Sys2Proof.Machine
end

section
/-! Proofs: the commands that move a save on: drain, post-seal decision, abort and the hold deadline (R56, R132, R136, R148 to R153, R455). -/

namespace Sys2Proof.Machine

/-! Cue programs that start, or wait for the one that runs (R448, R455, R457). -/

/-- A run put in place writes registers and logs at most one event. -/
theorem regsOnly_cueBegin (s : State) (p : Nat) :
    RegsOnly { s with power := { s.power with run := some ⟨p, (cueSource s p).1, (cueSource s p).2, 0, .none, 0⟩ } } (cueBegin s p) := by
  have hstatus := fun (x : State) a b c => ((regsOnly_wr x F.CUE_STATUS_RUNNING a).trans (regsOnly_wr _ F.CUE_STATUS_SOURCE b)).trans (regsOnly_wr _ F.CUE_STATUS_PC c)
  have hcommit := fun (x : State) => RegsOnly.ite (p = 0) (regsOnly_wr x F.CUE_STATUS_COMMITTED 0) (.ite (p = 1) (regsOnly_wr x F.CUE_STATUS_COMMITTED 1) (.refl x))
  unfold cueBegin
  exact .ite _ ((hstatus ..).trans (hcommit _)) (((hstatus ..).trans (hcommit _)).trans (regsOnly_event ..))

/-- A valid program of a table that is not forced is run from the cue memory. -/
theorem cueSource_program {s : State} {p : Nat} (hv : tableValid s = true) (hi : noImage s = false) (hf : rdb s F.CUE_CFG_FORCE_TABLE = false) (hp : progValid s p = true) :
    cueSource s p = (0, false) := by
  simp [cueSource, hv, hi, hf, hp]

/-- SAVE_RAILS runs from its first word where nothing runs and its program is valid; the save stands. -/
theorem startSaveRails_program {s : State} (hrun : s.power.run = none) (hv : tableValid s = true) (hi : noImage s = false) (hf : rdb s F.CUE_CFG_FORCE_TABLE = false)
    (hp : progValid s 2 = true) : (startSaveRails s).power.run = some ⟨2, 0, false, 0, .none, 0⟩ ∧ (startSaveRails s).power.queued = []
      ∧ (startSaveRails s).saveDev = s.saveDev ∧ (startSaveRails s).saves = s.saves := by
  have hsrc : cueSource { s with power := { s.power with queued := [], resumeRetry := none, resumeTries := 0 } } 2 = (0, false) := cueSource_program hv hi hf hp
  have hclear : cueClear s 2 = s := by simp [cueClear, hrun]
  have hdown : downRuns s = false := by simp [downRuns, hrun]
  have hgo : startSaveRails s = cueBegin { s with power := { s.power with queued := [], resumeRetry := none, resumeTries := 0 } } 2 := by
    simp only [startSaveRails, hdown, hclear, power_cueBegin, hsrc]
    simp
  obtain ⟨r, e, he⟩ := regsOnly_cueBegin { s with power := { s.power with queued := [], resumeRetry := none, resumeTries := 0 } } 2
  rw [hgo, he, hsrc]
  exact ⟨rfl, rfl, rfl, rfl⟩

/-- A run other than POWER_DOWN's. -/
theorem run_notDown {s : State} (hrun : s.power.run.isSome = true) (hdown : downRuns s = false) : ∃ r, s.power.run = some r ∧ r.prog ≠ 1 := by
  obtain ⟨r, hr⟩ := Option.isSome_iff_exists.mp hrun
  refine ⟨r, hr, fun h => ?_⟩
  simp [downRuns, hr, h] at hdown
/-- The resume run waits for the run under way. -/
theorem startResume_queues {s : State} {r : CueRun} (hrun : s.power.run = some r) (hp : r.prog ≠ 1) :
    startResume s = { s with power := { s.power with queued := s.power.queued ++ [4] } } := by
  simp only [startResume, hrun, hp, if_false]
/-- HOLD_RAILS waits for the run under way. -/
theorem startHold_queues {s : State} {r : CueRun} (hrun : s.power.run = some r) (hp : r.prog ≠ 1) :
    startHold s = { s with power := { s.power with queued := s.power.queued ++ [3] } } := by
  simp only [startHold, hrun, hp, if_false]

/-- POWER_DOWN runs as program 1; modes and time stand. -/
theorem startDown_runs {s : State} (cause : Nat) (hrun : s.power.run = none) (hv : tableValid s = true) (hi : noImage s = false) :
    (startDown s cause).modes = s.modes ∧ (startDown s cause).now = s.now ∧ s.evs ⊆ (startDown s cause).evs
      ∧ (startDown s cause).power.run.elim false (fun r => r.prog == 1) = true ∧ (startDown s cause).power.downCause = cause := by
  rw [startDown_table cause hrun hv hi]
  have hsave : ∀ x : State, RegsOnly x (saveStatus x) := fun x => ((((regsOnly_wr ..).trans (regsOnly_wr ..)).trans (regsOnly_wr ..)).trans (regsOnly_wr ..)).trans (regsOnly_wr ..)
  obtain ⟨r, e, he⟩ := (regsOnly_cueBegin { s with power := { s.power with queued := [], resumeRetry := none, downCause := cause } } 1).trans (hsave _)
  rw [he]
  exact ⟨rfl, rfl, List.subset_append_left .., rfl, rfl⟩

/-! The drain's end (R132, R135, R136). -/

/-- The phase in which a stage rests after its drain: for its touch fetches where writes are still held, else for the rails. -/
def drainedPhase (s : State) (n : Stage) : SavePhase := if (led s n).held.isEmpty then .waitRails else .touch

theorem Refreshed.saves {s t : State} (h : Refreshed s t) : t.saves = s.saves := by obtain ⟨_, _, _, _, rfl⟩ := h.rest; rfl
theorem sav_setSav (s : State) (n m : Stage) (x : StageSave) : sav (setSav s n x) m = if m = n then x else sav s m := qget_qset ..

/-- The drain of one stage ends: its phase changes, held writes stay. -/
theorem drainStage_phase (s : State) (n m : Stage) :
    (sav (drainStage s n) m).phase = (if m = n then drainedPhase s n else (sav s m).phase) ∧ (led (drainStage s n) m).held = (led s m).held := by
  have hlog : RegsOnly s (whenS (decide (residue s n > stageCap s n)) (fun t => event t 0x20D 1 n.val (residue s n - stageCap s n)) s) :=
    (RegsOnly.refl s).when _ _ fun _ => regsOnly_event ..
  unfold drainStage
  dsimp only
  obtain ⟨r, e, he⟩ := hlog
  rw [he]
  have href := fun x => Refreshed.ledRefresh x n
  refine ⟨?_, (href _).held m⟩
  rw [sav, (href _).saves, ← sav]
  change (sav (setSav _ n _) m).phase = _
  rw [sav_setSav]
  split
  · rfl
  · next hm => exact congrArg StageSave.phase ((sav_setSav ..).trans (if_neg hm))

/-- The drains of several stages end. -/
theorem drainStages_phase (ns : List Stage) (s : State) (m : Stage) :
    (sav (foldS ns drainStage s) m).phase = if m ∈ ns then drainedPhase s m else (sav s m).phase := by
  induction ns generalizing s with
  | nil => rfl
  | cons n ns ih =>
    obtain ⟨hphase, hheld⟩ := drainStage_phase s n m
    have hrest : drainedPhase (drainStage s n) m = drainedPhase s m := by rw [drainedPhase, hheld]; rfl
    change (sav (foldS ns drainStage (drainStage s n)) m).phase = _
    rw [ih, hphase, hrest]
    by_cases hm : m = n
    · subst hm
      simp
    · simp [hm]

/-- The stages whose drain can end. -/
def drainingStages (s : State) : List Stage := fours.filter (fun n => (sav s n).phase == .drain && drainDone s n)

theorem mem_fours (n : Stage) : n ∈ fours := by decide +revert

/-- With no stage left in its drain, the drain of a device save is done and SAVE_RAILS starts. -/
theorem drainEnd_of {s y : State} (hy : foldS (drainingStages s) drainStage s = y) (hnone : fours.any (fun n => (sav y n).phase == .drain) = false)
    (hgate : y.saveDev.gate = true) (hdrained : y.saveDev.drained = false) (habort : y.saveDev.abort = 0) :
    drainEnd s = startSaveRails (saveStatus { y with saveDev := { y.saveDev with drained := true } }) := by
  rw [drainEnd, show foldS (fours.filter (fun n => (sav s n).phase == .drain && drainDone s n)) drainStage s = y from hy]
  dsimp only
  rw [hnone, if_neg (fun h => Bool.false_ne_true h.2.2), if_pos ⟨hgate, hdrained⟩]
  exact if_pos habort

/-- The drain of a save that every draining stage has ended starts SAVE_RAILS. -/
theorem drainEnd_starts {s : State} (hgate : s.saveDev.gate = true) (hdrained : s.saveDev.drained = false) (habort : s.saveDev.abort = 0)
    (hall : ∀ n, (sav s n).phase = .drain → drainDone s n = true) :
    drainEnd s = startSaveRails (saveStatus { foldS (drainingStages s) drainStage s with saveDev := { s.saveDev with drained := true } })
      ∧ ∀ n, (sav s n).phase = .drain → (sav (foldS (drainingStages s) drainStage s) n).phase = drainedPhase s n := by
  have hmem : ∀ n, n ∈ drainingStages s ↔ (sav s n).phase = .drain := fun n => by
    rw [drainingStages, List.mem_filter, Bool.and_eq_true, beq_iff_eq]
    exact ⟨fun h => h.2.1, fun h => ⟨mem_fours n, h, hall n h⟩⟩
  have hdev : (foldS (drainingStages s) drainStage s).saveDev = s.saveDev := ((Undecided.refl s).fold _ _ fun _ n k => k.drainStage n).saveDev
  have hphase := drainStages_phase (drainingStages s) s
  have hnone : fours.any (fun n => (sav (foldS (drainingStages s) drainStage s) n).phase == .drain) = false := by
    rw [List.any_eq_false]
    intro n _
    rw [beq_iff_eq, hphase, drainedPhase]
    split
    · split <;> exact SavePhase.noConfusion
    · next h => exact fun hd => h ((hmem n).mpr hd)
  refine ⟨?_, fun n hn => by rw [hphase, if_pos ((hmem n).mpr hn)]⟩
  rw [drainEnd_of rfl hnone (by rw [hdev, hgate]) (by rw [hdev, hdrained]) (by rw [hdev, habort]), hdev]

/-! Leaving Save (R148 to R151). -/

/-- A mode transition changes the mode and writes its records. -/
theorem undecided_modeTo {s : State} {m : Mode} (cause : Nat) (h : s.modes.mode ≠ m) : Undecided { s with modes := { s.modes with mode := m } } (modeTo s m cause) := by
  have hrec := (((((Undecided.refl { s with modes := { s.modes with mode := m } }).wr F.MODE_LAST_FROM (modeCode s.modes.mode)).wr F.MODE_LAST_TO (modeCode m)).wr
    F.MODE_LAST_CAUSE cause).wr F.MODE_LAST_TICK (tickOf s)).apply fun t => { t with pack := { t.pack with woken := 0#56 } }
  rw [modeTo, if_neg h]
  exact hrec.event ..

theorem rd_modeTo (s : State) (m : Mode) (cause : Nat) {g : Fld} (hg : g ∈ decisionFields) : rd (modeTo s m cause) g = rd s g := by
  by_cases h : s.modes.mode = m
  · rw [modeTo, if_pos h]
  · exact (undecided_modeTo cause h).fields g hg

/-- What stands as the device leaves Save: the gate opens, the saved stages are to be brought back. -/
structure LeavesSave (s t : State) : Prop where
  now : t.now = s.now
  power : t.power = s.power
  gate : t.saveDev.gate = false
  mode : t.modes.mode = s.modes.mode
  latched : t.modes.mrLatched = s.modes.mrLatched
  waits : ∀ n ∈ savingStages s, qget t.modes.interWait n = true
  fields : ∀ g ∈ decisionFields, rd t g = rd s g

/-- A saved stage leaves its phase; its restore is kept where `left` says so. -/
def phaseLeft (left : Quad Bool) (s : State) (n : Stage) : State :=
  let s := setRst s n { rst s n with kept := qget left n }
  let s := setLedger s n { led s n with afterGate := [] }
  setSav s n { sav s n with phase := .none, alone := false }
/-- The gate opens, and the stages of `saving` are to be brought back. -/
def gateOpened (saving : Quad Bool) (s : State) : State :=
  { s with
    modes := { s.modes with interWait := qtab (fun n => qget saving n || (s.modes.intermission && qget s.modes.interWait n)) }
    saveDev := { s.saveDev with gate := false, saving := qall false, restoring := qall false } }

theorem saveOver_eq (s : State) (k : Nat) : saveOver s k =
    saveStatus (wr (gateOpened (saveLast s k).saveDev.saving (foldS (savingStages (saveLast s k)) (phaseLeft (saveLast s k).saveDev.restoring) (saveLast s k))) F.SAVE_STATUS_CAUSE 0) := rfl

/-- The records of the save are written, each saved stage leaves its phase, and the gate opens. -/
theorem leavesSave_saveOver (s : State) (k : Nat) : LeavesSave s (saveOver s k) := by
  have hlast := (Undecided.refl s).saveLast k
  have hall := hlast.fold (savingStages (saveLast s k)) (phaseLeft (saveLast s k).saveDev.restoring) fun _ n k => ((k.setRst ..).setLedger ..).setSav ..
  rw [saveOver_eq]
  generalize foldS (savingStages (saveLast s k)) _ (saveLast s k) = y at hall ⊢
  have hend := ((Undecided.refl (gateOpened (saveLast s k).saveDev.saving y)).wr F.SAVE_STATUS_CAUSE 0).saveStatus
  refine ⟨hend.now.trans hall.now, hend.power.trans hall.power, congrArg SaveDev.gate hend.saveDev, hend.mode.trans hall.mode, hend.latched.trans hall.latched, fun n hn => ?_,
    fun g hg => (hend.fields g hg).trans (hall.fields g hg)⟩
  have hsaving : qget s.saveDev.saving n = true := (List.mem_filter.mp hn).2
  exact (congrArg (qget · n) hend.interWait).trans (by rw [gateOpened, qget_qtab, hlast.saveDev, hsaving, Bool.true_or])

/-- An intermission stays while a stage is still to be brought back (R46). -/
theorem interFollow_waits {s : State} {n : Stage} (h : qget s.modes.interWait n = true) : interFollow s = s := by
  have hall : (qlist s.modes.interWait).all (· == false) = false := by
    generalize s.modes.interWait = q at h ⊢
    rw [List.all_eq_false]
    exact ⟨true, by rw [← h]; fin_cases n <;> simp [qlist, qget], by simp⟩
  rw [interFollow, hall, Bool.and_false, if_neg Bool.false_ne_true]

/-- With no MR_N latched nothing follows the transition. -/
theorem mrFollow_unlatched {s : State} (h : s.modes.mrLatched = false) : mrFollow s = s := by
  rw [mrFollow, h, Bool.false_and, if_neg Bool.false_ne_true]

/-- The intermission: Standby, with the saved stages to be brought back and event 0x005 (R150, R201). -/
theorem intermission_enters {s : State} {n : Stage} {r : CueRun} (hmode : s.modes.mode ≠ .standby) (hlatched : s.modes.mrLatched = false)
    (hrun : s.power.run = some r) (hp : r.prog ≠ 1) (hwait : qget s.modes.interWait n = true) :
    (intermission s).modes.mode = .standby ∧ (intermission s).modes.intermission = true ∧ (intermission s).saveDev = s.saveDev
      ∧ ∃ g, (⟨0x005, 0, 0, g⟩ : Ev) ∈ (intermission s).evs := by
  unfold intermission
  dsimp only
  generalize (List.head? (fours.filter fun n => qget s.modes.interWait n && !(rst s n).kept)).elim 0 (fun n => sealedGen s n) % 2 ^ 32 = gen
  have hto := undecided_modeTo (s := { s with modes := { s.modes with intermission := true }, power := { s.power with failedInSave := false } }) (m := .standby) 0x10 hmode
  generalize modeTo _ .standby 0x10 = x at hto ⊢
  have hgates := (Undecided.refl (event x 0x005 0 0 gen)).fold (fours.filter (fun n => qget (event x 0x005 0 0 gen).modes.interWait n)) gateCredits fun _ n k => k.gateCredits n
  have hmoved := (hto.event 0x005 0 0 gen).trans hgates
  generalize foldS _ gateCredits (event x 0x005 0 0 gen) = y at hgates hmoved ⊢
  have hend := hmoved.chgFollow
  rw [interFollow_waits (by rw [hmoved.interWait]; exact hwait), mrFollow_unlatched (hend.latched.trans hlatched),
    startResume_queues ((congrArg Power.run hend.power).trans hrun) hp]
  exact ⟨hend.mode, (congrArg ModeState.intermission hend.modes :), hend.saveDev,
    gen, ((Undecided.refl y).chgFollow).evs (hgates.evs (List.mem_append_right _ (List.mem_singleton_self _)))⟩

/-- Entry to Hold: the deadline is latched and HOLD_RAILS waits for the run under way (R68, R151). -/
theorem holdEnter_enters {s : State} {r : CueRun} (hmode : s.modes.mode ≠ .hold) (hrun : s.power.run = some r) (hp : r.prog ≠ 1) :
    (holdEnter s).modes.mode = .hold ∧ (holdEnter s).modes.holdLen = rd s F.MODE_HOLD_HOLD_DEADLINE ∧ (holdEnter s).modes.holdEntry = tickOf s
      ∧ (holdEnter s).saveDev.gate = false ∧ (holdEnter s).power.queued = s.power.queued ++ [3] := by
  have hover := leavesSave_saveOver s 1
  unfold holdEnter
  generalize saveOver s 1 = w at hover ⊢
  have hto := undecided_modeTo (s := w) (m := .hold) 0x11 (by rw [hover.mode]; exact hmode)
  have hdeadline := (rd_modeTo w .hold 0x11 (by decide)).trans (hover.fields F.MODE_HOLD_HOLD_DEADLINE (by decide))
  dsimp only
  generalize modeTo w .hold 0x11 = x at hto hdeadline ⊢
  have hpower : x.power = s.power := hto.power.trans hover.power
  rw [startHold_queues (r := r) (by rw [hpower, hrun]) hp]
  have hend := (Undecided.refl { x with
    modes := { x.modes with holdLen := rd x F.MODE_HOLD_HOLD_DEADLINE, holdEntry := tickOf x }, power := { x.power with queued := x.power.queued ++ [3] } }).chgFollow
  refine ⟨hend.mode.trans hto.mode, (congrArg ModeState.holdLen hend.modes).trans ?_, (congrArg ModeState.holdEntry hend.modes).trans ?_,
    (congrArg SaveDev.gate (hend.saveDev.trans hto.saveDev)).trans hover.gate, (congrArg Power.queued hend.power).trans ?_⟩
  · exact hdeadline
  · exact congrArg (· / unitsPerTick) (hto.now.trans hover.now)
  · exact congrArg (fun p : Power => p.queued ++ [3]) hpower

/-! The checkpoint streams given up (R141). -/

/-- The streams given up change the flash sets and log events. -/
theorem ckptsAbandon_eq (s : State) : ∃ fl e, ckptsAbandon s = { s with flash := fl, evs := s.evs ++ e } := by
  have hgive : ∀ (ns : List Stage) (s : State), ∃ fl e, foldS ns ckptGiveUp s = { s with flash := fl, evs := s.evs ++ e } := by
    intro ns
    induction ns with
    | nil => exact fun s => ⟨s.flash, [], by rw [List.append_nil]; rfl⟩
    | cons n ns ih =>
      intro s
      have hone : ∃ fl e, ckptGiveUp s n = { s with flash := fl, evs := s.evs ++ e } := by
        unfold ckptGiveUp
        split
        · exact ⟨_, _, rfl⟩
        · exact ⟨s.flash, [], by rw [List.append_nil]⟩
      obtain ⟨fl, e, h⟩ := hone
      obtain ⟨fl', e', h'⟩ := ih (ckptGiveUp s n)
      refine ⟨fl', e ++ e', h'.trans ?_⟩
      rw [h, List.append_assoc]
  exact hgive fours s

theorem Undecided.ckptsAbandon {s t : State} (h : Undecided s t) : Undecided s (ckptsAbandon t) := by
  obtain ⟨fl, e, he⟩ := ckptsAbandon_eq t
  rw [he]
  exact h.trans ⟨rfl, rfl, rfl, rfl, List.subset_append_left .., fun _ _ => rfl⟩

/-! The post-seal decision (R148). -/

/-- The saved stages' DRAM in self-refresh, the stages left Sealed ended (R146, R288). -/
def savedStages (s : State) : State := leftEnd (foldS (savingStages s) stageSelfRefresh s)

theorem undecided_savedStages (s : State) : Undecided s (savedStages s) := ((Undecided.refl s).fold _ _ fun _ n k => k.stageSelfRefresh n).leftEnd

/-- The way out of a save with no torn stage. -/
theorem postSeal_decides {s : State} (hended : savesEnded s = true) (hout : requestsOut s = true) (htorn : s.saveDev.anyTorn = false) :
    postSeal s = if s.saveDev.action = 1 ∧ rdb s F.PWR_VIN_STATUS_SUPPLY_GOOD = true then intermission (saveOver (savedStages s) 3)
      else if s.saveDev.action = 1 ∧ rd s F.MODE_HOLD_HOLD_DEADLINE ≠ 0 ∧ tableValid s = true then holdEnter (savedStages s)
      else startDown (ckptsAbandon (saveLast (savedStages s) 2)) 0x12 := by
  have h := undecided_savedStages s
  rw [postSeal, hended, hout]
  dsimp only
  rw [show leftEnd (foldS (savingStages s) stageSelfRefresh s) = savedStages s from rfl]
  rw [h.saveDev, htorn, h.rdb (by decide), h.fields _ (by decide), h.tableValid]
  simp only [Bool.and_eq_true, beq_iff_eq, decide_eq_true_eq, and_assoc]
  simp

/-- What ends a save finds the device in Save, with no POWER_DOWN under way. -/
theorem savesEnded_save {s : State} (h : savesEnded s = true) : s.modes.mode = .save ∧ downRuns s = false := by
  simp only [savesEnded, Bool.and_eq_true, decide_eq_true_eq, Bool.not_eq_true'] at h
  obtain ⟨⟨⟨⟨⟨hmode, -⟩, -⟩, -⟩, hdown⟩, -⟩ := h
  exact ⟨hmode, hdown⟩

/-! The commands. -/

/-- The drain's end starts SAVE_RAILS. -/
theorem drainComplete_answers {s : State} (hgate : s.saveDev.gate = true) (hdrained : s.saveDev.drained = false) (habort : s.saveDev.abort = 0) (hrun : s.power.run = none)
    (hv : tableValid s = true) (hi : noImage s = false) (hf : rdb s F.CUE_CFG_FORCE_TABLE = false) (hp : progValid s 2 = true)
    (hall : ∀ n, (sav s n).phase = .drain → drainDone s n = true) :
    Answers .drainComplete s (fun _ t => t.saveDev.drained = true ∧ t.power.run = some ⟨2, 0, false, 0, .none, 0⟩ ∧ t.power.queued = []
      ∧ ∀ n, (sav s n).phase = .drain → (sav t n).phase = if (led s n).held.isEmpty then .waitRails else .touch) := by
  obtain ⟨hgo, hphase⟩ := drainEnd_starts hgate hdrained habort hall
  have hfold := (Undecided.refl s).fold (drainingStages s) drainStage fun _ n k => k.drainStage n
  have h := (hfold.withSave { s.saveDev with drained := true }).saveStatus
  obtain ⟨hr, hq, hdev, hsaves⟩ := startSaveRails_program (h.power ▸ hrun) (h.tableValid.trans hv) (h.noImage.trans hi) ((h.rdb (by decide)).trans hf) ((h.progValid 2).trans hp)
  rw [← hgo] at hr hq hdev hsaves
  have q := quiet_finish (drainEnd s)
  refine ⟨drainEnd s, rfl, (congrArg SaveDev.drained (q.saveDev.trans (hdev.trans h.saveDev)) :), (congrArg Power.run q.power).trans hr, (congrArg Power.queued q.power).trans hq,
    fun n hn => ?_⟩
  rw [sav, q.saves, hsaves]
  exact hphase n hn

section
variable {s : State} (hended : savesEnded s = true) (hout : requestsOut s = true) (htorn : s.saveDev.anyTorn = false)
include hended hout htorn

/-- Supply good and action Hold: the intermission. -/
theorem postSealDecision_resumes (hlatched : s.modes.mrLatched = false) (hact : s.saveDev.action = 1) (hgood : rdb s F.PWR_VIN_STATUS_SUPPLY_GOOD = true)
    (hrun : s.power.run.isSome = true) (hsome : savingStages s ≠ []) :
    Answers .postSealDecision s (fun u t => t.modes.mode = .standby ∧ t.modes.intermission = true ∧ t.saveDev.gate = false ∧ ∃ g, (⟨0x005, 0, 0, g⟩ : Ev) ∈ u.evs) := by
  obtain ⟨hmode, hdown⟩ := savesEnded_save hended
  obtain ⟨r, hr, hprog⟩ := run_notDown hrun hdown
  obtain ⟨n, hn⟩ := List.exists_mem_of_ne_nil _ hsome
  have h := undecided_savedStages s
  have hover := leavesSave_saveOver (savedStages s) 3
  obtain ⟨hstandby, hinter, hdev, hlog⟩ := intermission_enters (s := saveOver (savedStages s) 3) (n := n) (r := r) (by rw [hover.mode, h.mode, hmode]; exact Mode.noConfusion)
    (by rw [hover.latched, h.latched, hlatched]) (by rw [hover.power, h.power, hr]) hprog (hover.waits n (by rw [h.savingStages]; exact hn))
  have hgo : postSeal s = intermission (saveOver (savedStages s) 3) := (postSeal_decides hended hout htorn).trans (if_pos ⟨hact, hgood⟩)
  rw [← hgo] at hstandby hinter hdev hlog
  have q := quiet_finish (postSeal s)
  exact ⟨postSeal s, rfl, by rw [q.modes, hstandby], by rw [q.modes, hinter], by rw [q.saveDev, hdev, hover.gate], hlog⟩

/-- Action Hold without supply good: Hold, its deadline latched. -/
theorem postSealDecision_holds (hact : s.saveDev.action = 1) (hbad : rdb s F.PWR_VIN_STATUS_SUPPLY_GOOD = false) (hlen : rd s F.MODE_HOLD_HOLD_DEADLINE ≠ 0)
    (hv : tableValid s = true) (hrun : s.power.run.isSome = true) :
    Answers .postSealDecision s (fun _ t => t.modes.mode = .hold ∧ t.modes.holdLen = rd s F.MODE_HOLD_HOLD_DEADLINE ∧ t.modes.holdEntry = tickOf s
      ∧ t.saveDev.gate = false ∧ t.power.queued = s.power.queued ++ [3]) := by
  obtain ⟨hmode, hdown⟩ := savesEnded_save hended
  obtain ⟨r, hr, hprog⟩ := run_notDown hrun hdown
  have h := undecided_savedStages s
  obtain ⟨hhold, hlatch, hentry, hgate, hqueue⟩ := holdEnter_enters (s := savedStages s) (r := r) (by rw [h.mode, hmode]; exact Mode.noConfusion) (by rw [h.power, hr]) hprog
  have hgo : postSeal s = holdEnter (savedStages s) := by
    rw [postSeal_decides hended hout htorn, if_neg (fun hg => Bool.false_ne_true (hbad.symm.trans hg.2)), if_pos ⟨hact, hlen, hv⟩]
  rw [← hgo] at hhold hlatch hentry hgate hqueue
  have q := quiet_finish (postSeal s)
  exact ⟨postSeal s, rfl, by rw [q.modes, hhold], by rw [q.modes, hlatch, h.fields _ (by decide)], by rw [q.modes, hentry, tickOf, h.now, tickOf], by rw [q.saveDev, hgate],
    by rw [q.power, hqueue, h.power]⟩

/-- Another action: POWER_DOWN, with cause 0x12. -/
theorem postSealDecision_powersDown (hact : s.saveDev.action ≠ 1) (hrun : s.power.run = none) (hv : tableValid s = true) (hi : noImage s = false) :
    Answers .postSealDecision s (fun _ t => t.modes.mode = .save ∧ t.power.run.elim false (fun r => r.prog == 1) = true ∧ t.power.downCause = 0x12) := by
  obtain ⟨hmode, -⟩ := savesEnded_save hended
  have h := ((undecided_savedStages s).saveLast 2).ckptsAbandon
  obtain ⟨hmodes, -, -, hdown, hcause⟩ := startDown_runs 0x12 (h.power ▸ hrun) (h.tableValid.trans hv) (h.noImage.trans hi)
  have hgo : postSeal s = startDown (ckptsAbandon (saveLast (savedStages s) 2)) 0x12 := by
    rw [postSeal_decides hended hout htorn, if_neg (fun hg => hact hg.1), if_neg (fun hg => hact hg.1)]
  rw [← hgo] at hmodes hdown hcause
  have q := quiet_finish (postSeal s)
  exact ⟨postSeal s, rfl, by rw [q.modes, hmodes, h.mode, hmode], by rw [q.power, hdown], by rw [q.power, hcause]⟩
end

/-- With its programs ended and no stage torn, an abort comes to its last step: the resume run. -/
theorem abortDrained_of {s y : State} (hy : foldS (savingStages s) abortLedger s = y) (habort : s.saveDev.abort = 1) (hout : programsOut s = false)
    (htorn : s.saveDev.anyTorn = false) : abortDrained s = startResume (saveStatus { y with saveDev := { y.saveDev with abort := 2 } }) := by
  rw [abortDrained, if_neg (by simp [habort, hout]), htorn, if_neg Bool.false_ne_true, hy]

/-- The programs issued before an abort have ended: the abort's last step, the resume run waiting. -/
theorem abortProgramsDrained_answers {s : State} (habort : s.saveDev.abort = 1) (hout : programsOut s = false) (htorn : s.saveDev.anyTorn = false)
    (hrun : s.power.run.isSome = true) (hdown : downRuns s = false) :
    Answers .abortProgramsDrained s (fun _ t => t.saveDev.abort = 2 ∧ t.power.queued = s.power.queued ++ [4]) := by
  obtain ⟨r, hr, hprog⟩ := run_notDown hrun hdown
  have hfold := (Undecided.refl s).fold (savingStages s) abortLedger fun _ n k => k.abortLedger n
  have h := (hfold.withSave { s.saveDev with abort := 2 }).saveStatus
  have hgo := abortDrained_of rfl habort hout htorn
  rw [hfold.saveDev, startResume_queues ((congrArg Power.run h.power).trans hr) hprog] at hgo
  have q := quiet_finish (abortDrained s)
  refine ⟨abortDrained s, rfl, ?_, ?_⟩
  · rw [q.saveDev, hgo]
    exact congrArg SaveDev.abort h.saveDev
  · rw [q.power, hgo]
    exact congrArg (fun p : Power => p.queued ++ [4]) h.power

/-- The hold deadline: event 0x006 at its tick, and POWER_DOWN with cause 0x13. -/
theorem holdDeadline_answers {s : State} {k : Nat} (hk : holdTick s = some k) (hrun : s.power.run = none) (hv : tableValid s = true) :
    Answers .holdDeadline s (fun u t => (⟨0x006, 0, 0, 0⟩ : Ev) ∈ u.evs ∧ t.now = max s.now (k * unitsPerTick) ∧ t.modes = s.modes
      ∧ t.power.run.elim false (fun r => r.prog == 1) = true ∧ t.power.downCause = 0x13) := by
  have hhold : s.modes.mode = .hold := by
    by_contra hne
    rw [holdTick, if_neg (fun h => hne h.1)] at hk
    exact Option.some_ne_none k hk.symm
  obtain ⟨fl, e, he⟩ := ckptsAbandon_eq (event (untilTick s k) 0x006 0 0 0)
  have hgo : Machine.holdDeadline s = startDown (ckptsAbandon (event (untilTick s k) 0x006 0 0 0)) 0x13 := by rw [Machine.holdDeadline, hk]
  obtain ⟨hmodes, hnow, hevs, hdown, hcause⟩ := startDown_runs (s := { event (untilTick s k) 0x006 0 0 0 with
    flash := fl, evs := (event (untilTick s k) 0x006 0 0 0).evs ++ e }) 0x13 hrun hv (by simp [noImage, hhold, event])
  rw [← he, ← hgo] at hmodes hnow hevs hdown hcause
  have q := quiet_finish (Machine.holdDeadline s)
  refine ⟨Machine.holdDeadline s, rfl, hevs ?_, q.now.trans (hnow.trans ?_), q.modes.trans (hmodes.trans ?_), by rw [q.power, hdown], by rw [q.power, hcause]⟩
  · rw [he]
    exact List.mem_append_left _ (List.mem_append_right _ (List.mem_singleton_self _))
  · rw [he]
    rfl
  · rw [he]
    rfl

/-- Settles O15, command by command: each finds the save where its decision needs it, and starts a cue program or leaves it waiting. -/
theorem savePhaseCommands : Obligations.SavePhaseCommands := by
  unfold Obligations.SavePhaseCommands
  intro s
  refine ⟨fun hgate hdrained habort hrun hv hi hf hp hall => drainComplete_answers hgate hdrained habort hrun hv hi hf hp hall,
    fun hended hout htorn hlatched => ⟨fun hact hgood hrun hsome => postSealDecision_resumes hended hout htorn hlatched hact hgood hrun hsome,
      fun hact hbad hlen hv hrun => postSealDecision_holds hended hout htorn hact hbad hlen hv hrun,
      fun hact hrun hv hi => postSealDecision_powersDown hended hout htorn hact hrun hv hi⟩,
    fun habort hout htorn hrun hdown => abortProgramsDrained_answers habort hout htorn hrun hdown, fun k hk hrun hv => holdDeadline_answers hk hrun hv, fun hnone => ?_⟩
  have hgo : Machine.holdDeadline s = s := by rw [Machine.holdDeadline, hnone]
  exact congrArg done hgo

end Sys2Proof.Machine
end

section
/-! Proofs: a touch fetch behind a closed gate (R161, R199). -/

namespace Sys2Proof.Machine

/-- Behind a closed gate a fetch starts only for a frame that a held write waits for. -/
theorem touchStart_shut {s : State} {n : Stage} (hgate : gateShut s n = true) (hheld : (led s n).held = []) : touchStart s n = s := by
  have hshut : ∀ f, fetchAllowed s n f = false := fun f => by rw [fetchAllowed, hgate, hheld]; rfl
  have hnone : (rst s n).touchQ.find? (fun t => t.progress == 0 && fetchAllowed s n t.frame) = none :=
    List.find?_eq_none.mpr fun t _ => by rw [hshut, Bool.and_false]; exact Bool.false_ne_true
  simp only [touchStart, hnone]

/-- A device save has closed the gate; stage 0 has a fetch waiting for frame 5, which its background restore reads. -/
def fetchBehindGate : State :=
  setRst { State.reset with saveDev := { State.reset.saveDev with gate := true } } 0 { rst State.reset 0 with touchQ := [⟨5, 0⟩], reading := [5] }

/-- Refutes O43: behind a closed gate the oldest waiting touch entry stays as it is, though its frame is being read (R161, R199). -/
theorem not_restoreService : ¬ Obligations.RestoreService := by
  unfold Obligations.RestoreService
  intro h
  obtain ⟨-, htouch, -⟩ := h fetchBehindGate 0 5
  obtain ⟨hjoin, -⟩ := htouch ⟨5, 0⟩ (by decide +kernel)
  obtain ⟨u, ⟨x, hx, -, hjoined⟩, -⟩ := Answers.of_done rfl (hjoin (by decide +kernel))
  rw [touchStart_shut (by decide +kernel) (by decide +kernel), rst_finish] at hx
  have hwaits : ∀ x ∈ (rst fetchBehindGate 0).touchQ, x.progress ≠ 2 := by decide +kernel
  exact hwaits x hx hjoined

end Sys2Proof.Machine
end

section
/-! Proofs: a program or a read issued on an idle LUN (R179, R215, R216, R219, R224, R246, R683). -/

namespace Sys2Proof.Machine

/-! A command issued with a free tag (R219, R224). -/

theorem RegsOnly.flash {s t : State} (h : RegsOnly s t) : t.flash = s.flash := by obtain ⟨_, _, rfl⟩ := h; rfl
theorem RegsOnly.ledger {s t : State} (h : RegsOnly s t) : t.ledger = s.ledger := by obtain ⟨_, _, rfl⟩ := h; rfl

theorem flash_finish (s : State) : (finish s).flash = s.flash := (quiet_finish s).flash
theorem fch_finish (s : State) (c : Nat) : fch (finish s) c = fch s c := congrArg (fun fl : Flash => mget chanFree fl.chans c) (flash_finish s)
theorem fset_finish (s : State) (n : Stage) : fset (finish s) n = fset s n := congrArg (fun fl : Flash => qget fl.sets n) (flash_finish s)
theorem fsys_finish (s : State) (n : Stage) : fsys (finish s) n = fsys s n := congrArg (fun fl : Flash => qget fl.sys n) (flash_finish s)

theorem freeTag_isSome {x : FlashChan} {free : Nat} (hlt : free < 64) (hops : ∀ o ∈ x.ops, o.tag ≠ free) (hout : free ∉ x.awaiting) : ∃ t, freeTag x = some t := by
  rw [← Option.isSome_iff_exists, freeTag, List.find?_isSome]
  refine ⟨free, List.mem_range.mpr hlt, ?_⟩
  have hany : x.ops.any (fun o => o.tag == free) = false := List.any_eq_false.mpr fun o ho => by simpa using hops o ho
  simp [hany, hout]

theorem emits_eq {α : Type} (xs : List α) (o : Output) (s : State) :
    foldS xs (fun s _ => emit s o) s = { s with out := s.out ++ List.replicate xs.length o } := by
  unfold foldS
  induction xs generalizing s with
  | nil => simp
  | cons x xs ih =>
    rw [List.foldl_cons, ih, List.length_cons, List.replicate_succ]
    simp [emit]

/-- `t` is `s` with one command more outstanding on a LUN, and with what was sent for it. -/
structure Issued (s t : State) (lun page : Nat) (act : FlashDo) : Prop where
  rest : ∃ r c o, t = { s with regs := r, flash := { s.flash with chans := c }, out := o }
  op : ∃ o ∈ (fch t (lunCh lun)).ops, o.lun = lun ∧ o.page = page ∧ o.act = act ∧ o.issued = s.now
  sent : (.nand lun (flashKind act) page 15 : Output) ∈ t.out

/-- With a tag free a command is issued. -/
theorem flashIssue_issues {s : State} {n : Stage} {lun page : Nat} {act : FlashDo} (retry : Nat) (soft : Bool) {free : Nat} (hlt : free < 64)
    (hops : ∀ x ∈ (fch s (lunCh lun)).ops, x.tag ≠ free) (hout : free ∉ (fch s (lunCh lun)).awaiting) :
    Issued s (flashIssue s n lun page act retry soft) lun page act := by
  obtain ⟨tag, htag⟩ := freeTag_isSome hlt hops hout
  simp only [flashIssue, htag, emits_eq]
  refine ⟨⟨_, _, _, rfl⟩, ?_, ?_⟩
  · refine ⟨⟨tag, (mget 0 (fch s (lunCh lun)).epochs tag + 1) % 4, lun, page, act, s.now⟩, ?_, rfl, rfl, rfl, rfl⟩
    simp [fch, setFch]
  · refine List.mem_append_right _ (List.mem_replicate.mpr ⟨?_, rfl⟩)
    split <;> simp

namespace Issued
variable {s t : State} {lun page : Nat} {act : FlashDo} (h : Issued s t lun page act)
include h

theorem modes : t.modes = s.modes := by obtain ⟨_, _, _, rfl⟩ := h.rest; rfl
theorem ledger : t.ledger = s.ledger := by obtain ⟨_, _, _, rfl⟩ := h.rest; rfl
theorem stored : t.flash.pages = s.flash.pages := by obtain ⟨_, _, _, rfl⟩ := h.rest; rfl
theorem readQ : t.flash.readQ = s.flash.readQ := by obtain ⟨_, _, _, rfl⟩ := h.rest; rfl
theorem fset (n : Stage) : fset t n = Machine.fset s n := by obtain ⟨_, _, _, rfl⟩ := h.rest; rfl
theorem fsys (n : Stage) : fsys t n = Machine.fsys s n := by obtain ⟨_, _, _, rfl⟩ := h.rest; rfl
end Issued

/-! What a command is chosen for leaves before it is issued. -/

/-- Time, modes, ledger, channels and stored pages stand. -/
structure Poised (s t : State) : Prop where
  now : t.now = s.now
  modes : t.modes = s.modes
  ledger : t.ledger = s.ledger
  chans : t.flash.chans = s.flash.chans
  stored : t.flash.pages = s.flash.pages

namespace Poised

theorem regs {s t : State} (h : RegsOnly s t) : Poised s t := ⟨h.now, h.modes, h.ledger, by rw [h.flash], by rw [h.flash]⟩
theorem trans {s t u : State} (h : Poised s t) (k : Poised t u) : Poised s u :=
  ⟨k.now.trans h.now, k.modes.trans h.modes, k.ledger.trans h.ledger, k.chans.trans h.chans, k.stored.trans h.stored⟩
theorem accounts {s t : State} (h : Accounts s t) : Poised s t := by
  refine ⟨?_, h.modes, h.ledger, h.chans, h.stored⟩
  obtain ⟨_, _, _, rfl⟩ := h.rest
  rfl
theorem fch {s t : State} (h : Poised s t) (c : Nat) : fch t c = Machine.fch s c := by rw [Machine.fch, h.chans]; rfl
end Poised

theorem flash_dramPut (s : State) (r : DramReq) : (dramPut s r).flash = s.flash := by
  unfold dramPut
  split
  · rfl
  · split <;> rfl
theorem poised_dramPut (s : State) (r : DramReq) : Poised s (dramPut s r) := by
  have k := (Keeps.refl s).dramPut r
  refine ⟨k.now, k.modes, ?_, by rw [flash_dramPut], by rw [flash_dramPut]⟩
  unfold dramPut
  split
  · rfl
  · split <;> rfl

section
variable {s x : State} {n : Stage} {lun page : Nat} {act : FlashDo} (h : Poised s x) {free : Nat} (hlt : free < 64)
  (hops : ∀ o ∈ (fch s (lunCh lun)).ops, o.tag ≠ free) (hout : free ∉ (fch s (lunCh lun)).awaiting)
include h hlt hops hout

/-- A command issued behind such a change finds the tag that was free before it. -/
theorem issues_of_poised (retry : Nat) (soft : Bool) : Issued x (flashIssue x n lun page act retry soft) lun page act :=
  flashIssue_issues retry soft hlt (by rwa [h.fch]) (by rwa [h.fch])

/-- A read so issued for an entry of the LUN. -/
theorem readIssueAt_issues {r : ReadReq} (hr : entryLun r.entry = lun) :
    ∃ y, Poised s y ∧ y.flash = x.flash ∧ Issued y (readIssueAt x n r) lun (entryPage r.entry) (.read r false) := by
  subst hr
  have hy := regsOnly_pmonHit x 5 1 (lunCh (entryLun r.entry)) 1
  exact ⟨_, h.trans (.regs hy), hy.flash, issues_of_poised (h.trans (.regs hy)) hlt hops hout _ _⟩
end

/-- The command stands at the end of the command that issued it; stored pages, modes and ledger are as before. -/
theorem Issued.ends {s x t : State} {lun page : Nat} {act : FlashDo} (h : Poised s x) (k : Issued x t lun page act) :
    (∃ o ∈ (fch (finish t) (lunCh lun)).ops, o.lun = lun ∧ o.page = page ∧ o.act = act ∧ o.issued = s.now)
    ∧ (finish t).flash.pages = s.flash.pages ∧ (finish t).modes = s.modes ∧ (finish t).ledger = s.ledger := by
  have q := quiet_finish t
  refine ⟨?_, ?_, ?_, ?_⟩
  · rw [fch_finish, ← h.now]
    exact k.op
  · rw [flash_finish, k.stored, h.stored]
  · rw [q.modes, k.modes, h.modes]
  · rw [q.ledger, k.ledger, h.ledger]

/-! PAGE_PROGRAM_ISSUE (R110, R683). -/

/-- The flash set whose page is programmed, the cursor behind the page where it stood in it. -/
def pageOut (s : State) (n : Stage) (p : OpenPage) : StageFlash :=
  let x := { fset s n with pages := (fset s n).pages.erase p }
  if p.slots.length < 4 ∧ (fset s n).page = p.page % pagesPer s n ∧ (fset s n).pos = p.lun then cursorPast x (pagesPer s n) p.lun p.page else x
/-- The page is taken from the waiting ones, and its trickle from the budget. -/
def pageTaken (s : State) (n : Stage) (lun : Nat) (p : OpenPage) : State :=
  let x := if p.slots.length < 4 then freeFollow (setFset s n (pageOut s n p)) n else setFset s n (pageOut s n p)
  pmonHit (setFsys x n { fsys x n with budget := (fsys x n).budget - (4096 * trickleIn p : Nat) }) 5 0 (lunCh lun) 1

theorem pages_pageOut (s : State) (n : Stage) (p : OpenPage) : (pageOut s n p).pages = (fset s n).pages.erase p := by
  unfold pageOut
  dsimp only
  split <;> rfl

theorem fset_setFset (s : State) (n : Stage) (x : StageFlash) : fset (setFset s n x) n = x := qget_qset_self ..
theorem fsys_setFsys (s : State) (n : Stage) (x : StageSys) : fsys (setFsys s n x) n = x := qget_qset_self ..

section
variable (s : State) (n : Stage) (lun : Nat) (p : OpenPage)

theorem poised_pageTaken : Poised s (pageTaken s n lun p) := by
  unfold pageTaken
  dsimp only
  refine Poised.trans ?_ (.regs (regsOnly_pmonHit ..))
  split <;> exact ⟨rfl, rfl, rfl, rfl, rfl⟩
theorem pages_pageTaken : (fset (pageTaken s n lun p) n).pages = (fset s n).pages.erase p := by
  rw [pageTaken, fset, (regsOnly_pmonHit ..).flash, ← pages_pageOut]
  split <;> exact congrArg StageFlash.pages (fset_setFset ..)
theorem budget_pageTaken : (fsys (pageTaken s n lun p) n).budget = (fsys s n).budget - (4096 * trickleIn p : Nat) := by
  rw [pageTaken, fsys, (regsOnly_pmonHit ..).flash]
  refine (congrArg StageSys.budget (fsys_setFsys ..)).trans ?_
  split
  · rw [freeFollow, fsys_setFsys]
    rfl
  · rfl
end

section
variable {s : State} {n : Stage} {lun : Nat} (hbusy : lunBusy s lun = false) (hlost : chLost s (lunCh lun) = false)
include hbusy hlost

/-- With no system page for the LUN the page of the open band whose turn it is goes. -/
theorem programTurn_page {p : OpenPage} (hon : programsOn s n = true) (hsys : (fset s n).sysQ.find? (fun q => q.lun == lun) = none)
    (hp : (fset s n).pages.find? (fun p => p.lun == lun && pageReady s n p && trickleTurn s n p && !strikeYield s n p) = some p) :
    programTurn s n lun = flashIssue (pageTaken s n lun p) n lun p.page (.program p.slots false) 0 false := by
  have hlost' : (fset s n).sysQ.find? (fun q => q.lun == lun && (sysPlace s n q).isNone) = none := by
    rw [List.find?_eq_none] at hsys ⊢
    exact fun q hq h => hsys q hq (Bool.and_eq_true_iff.mp h).1
  simp only [programTurn, hlost', programIssue, hbusy, hlost, hon, hsys, hp, Bool.not_true, Bool.or_false, Bool.false_eq_true, if_false]
  rfl

/-- The first read that is queued for the LUN goes. -/
theorem readIssueLun_read {r : ReadReq}
    (hr : (qget s.flash.readQ n).find? (fun r => entryLun r.entry == lun && !(((led s n).gated || s.saveDev.gate) && r.use == .record)) = some r) :
    readIssueLun s n lun = readIssueAt { s with flash := { s.flash with readQ := qset s.flash.readQ n ((qget s.flash.readQ n).erase r) } } n r := by
  simp only [readIssueLun, hr, hbusy, hlost, Bool.false_eq_true, if_false]
end

theorem onLun_on {s : State} {lun : Nat} {n : Stage} (hon : mainOn s = true) (hn : lunStage s lun = some n) (f : State → Stage → State) : onLun s lun f = f s n := by
  rw [onLun, if_pos hon, hn]
  rfl

section
variable {s : State} {n : Stage} {lun free : Nat} (hon : mainOn s = true) (hlt : free < 64) (hops : ∀ x ∈ (fch s (lunCh lun)).ops, x.tag ≠ free)
  (hout : free ∉ (fch s (lunCh lun)).awaiting)
include hon hlt hops hout

theorem pageProgramIssue_answers {p : OpenPage} (hn : lunStage s lun = some n) (hbusy : lunBusy s lun = false) (hlost : chLost s (lunCh lun) = false)
    (hprog : programsOn s n = true) (hsys : (fset s n).sysQ.find? (fun q => q.lun == lun) = none)
    (hp : (fset s n).pages.find? (fun p => p.lun == lun && pageReady s n p && trickleTurn s n p && !strikeYield s n p) = some p) :
    Answers (.pageProgramIssue lun) s (fun u t => (∃ o ∈ (fch t (lunCh lun)).ops, o.lun = lun ∧ o.page = p.page ∧ o.act = .program p.slots false ∧ o.issued = s.now)
      ∧ (fset t n).pages = (fset s n).pages.erase p ∧ (fsys t n).budget = (fsys s n).budget - (4096 * trickleIn p : Nat)
      ∧ (.nand lun 0 p.page 15 : Output) ∈ u.out ∧ t.flash.pages = s.flash.pages ∧ t.modes = s.modes ∧ t.ledger = s.ledger) := by
  have hpoised := poised_pageTaken s n lun p
  have hgo : onLun s lun (fun s n => programTurn s n lun) = flashIssue (pageTaken s n lun p) n lun p.page (.program p.slots false) 0 false :=
    (onLun_on hon hn _).trans (programTurn_page hbusy hlost hprog hsys hp)
  have hissued : Issued _ _ lun p.page (.program p.slots false) := issues_of_poised (n := n) hpoised hlt hops hout 0 false
  rw [← hgo] at hissued
  obtain ⟨hop, hstored, hmodes, hledger⟩ := hissued.ends hpoised
  refine ⟨_, rfl, hop, ?_, ?_, hissued.sent, hstored, hmodes, hledger⟩
  · rw [fset_finish, hissued.fset, pages_pageTaken]
  · rw [fsys_finish, hissued.fsys, budget_pageTaken]

theorem pageReadIssue_answers {r : ReadReq} (hn : lunStage s lun = some n) (hbusy : lunBusy s lun = false) (hlost : chLost s (lunCh lun) = false)
    (hr : (qget s.flash.readQ n).find? (fun r => entryLun r.entry == lun && !(((led s n).gated || s.saveDev.gate) && r.use == .record)) = some r) :
    Answers (.pageReadIssue lun) s (fun u t => (∃ o ∈ (fch t (lunCh lun)).ops, o.lun = lun ∧ o.page = entryPage r.entry ∧ o.act = .read r false ∧ o.issued = s.now)
      ∧ qget t.flash.readQ n = (qget s.flash.readQ n).erase r ∧ (.nand lun 1 (entryPage r.entry) 15 : Output) ∈ u.out
      ∧ t.flash.pages = s.flash.pages ∧ t.modes = s.modes ∧ t.ledger = s.ledger) := by
  have hlun : entryLun r.entry = lun := by
    have hmatch := List.find?_some hr
    exact beq_iff_eq.mp (Bool.and_eq_true_iff.mp hmatch).1
  have hgo := (onLun_on hon hn (fun s n => readIssueLun s n lun)).trans (readIssueLun_read hbusy hlost hr)
  have hpoised : Poised s { s with flash := { s.flash with readQ := qset s.flash.readQ n ((qget s.flash.readQ n).erase r) } } := ⟨rfl, rfl, rfl, rfl, rfl⟩
  obtain ⟨y, hy, hflash, hissued⟩ := readIssueAt_issues (n := n) hpoised hlt hops hout hlun
  rw [← hgo] at hissued
  obtain ⟨hop, hstored, hmodes, hledger⟩ := hissued.ends hy
  refine ⟨_, rfl, hop, ?_, hissued.sent, hstored, hmodes, hledger⟩
  rw [flash_finish, hissued.readQ, hflash]
  exact qget_qset_self ..

end

/-! STRIKE_RELOCATION (R246, R248). -/

theorem contains_insertNat (xs : List Nat) (x : Nat) : (insertNat xs x).contains x = true := by
  induction xs with
  | nil => simp [insertNat]
  | cons y ys ih =>
    unfold insertNat
    split
    · next h => simp [h]
    · split
      · simp
      · simpa using Or.inr (by simpa using ih)

/-- The state in which strike has marked the copy as moving and looked its frame up. -/
def copyMoving (s : State) (n : Stage) (q : Nat × Codeword) : State :=
  mapLookup (setFsys s n { fsys s n with moving := insertNat (fsys s n).moving q.1 }) n (hNumber q.2.header)

theorem poised_copyMoving (s : State) (n : Stage) (q : Nat × Codeword) : Poised s (copyMoving s n q) :=
  Poised.trans (t := setFsys s n { fsys s n with moving := insertNat (fsys s n).moving q.1 }) ⟨rfl, rfl, rfl, rfl, rfl⟩ (poised_dramPut ..)
theorem moving_copyMoving (s : State) (n : Stage) (q : Nat × Codeword) : (fsys (copyMoving s n q) n).moving.contains q.1 = true := by
  rw [copyMoving, mapLookup, fsys, flash_dramPut]
  exact (congrArg (fun y : StageSys => y.moving.contains q.1) (fsys_setFsys ..)).trans (contains_insertNat ..)

theorem strikeStep_moves {s : State} {n : Stage} {b : Nat} {q : Nat × Codeword} (hturn : strikeTurn (strikeFollow s n) n = true)
    (hvictim : (fsys (strikeFollow s n) n).victim = some b)
    (hq : ((bandLive (strikeFollow s n) n b).filter (fun q => !(fsys (strikeFollow s n) n).moving.contains q.1)).find?
      (fun q => !lunBusy (strikeFollow s n) (entryLun q.1)) = some q) :
    strikeStep s n = readIssueAt (copyMoving (strikeFollow s n) n q) n ⟨.strike (hNumber q.2.header), q.1, 1, 0⟩ := by
  rw [strikeStep]
  dsimp only
  rw [if_neg (by rw [hturn]; exact Bool.false_ne_true)]
  split
  · next hnone => cases hvictim.symm.trans hnone
  · next c hc =>
    cases hvictim.symm.trans hc
    rw [hq]
    rfl

/-- Settles O36: whatever chooses a command leaves the channels as they were, so the tag that was free is found and the command is issued. -/
theorem pagesIssued : Obligations.PagesIssued := by
  unfold Obligations.PagesIssued
  intro s n lun free hon hlt hops hout
  refine ⟨fun p hn hbusy hlost hprog hsys hp => pageProgramIssue_answers hon hlt hops hout hn hbusy hlost hprog hsys hp,
    fun r hn hbusy hlost hr => pageReadIssue_answers hon hlt hops hout hn hbusy hlost hr, fun b q hturn hvictim hlun hq => ?_⟩
  have hpoised := (Poised.accounts ((Accounts.refl s).strikeFollow n)).trans (poised_copyMoving (strikeFollow s n) n q)
  have hgo : whenS (mainOn s) (fun s => strikeStep s n) s = _ := (if_pos hon).trans (strikeStep_moves hturn hvictim hq)
  obtain ⟨y, hy, hflash, hissued⟩ := readIssueAt_issues (n := n) (r := ⟨.strike (hNumber q.2.header), q.1, 1, 0⟩) hpoised hlt hops hout hlun
  rw [← hgo] at hissued
  obtain ⟨⟨o, ho, hl, hpage, hact, -⟩, hstored, hmodes, hledger⟩ := hissued.ends hy
  refine ⟨_, rfl, ⟨o, ho, hl, hpage, hact⟩, ?_, hstored, hmodes, hledger⟩
  rw [fsys_finish, hissued.fsys, fsys, hflash]
  exact moving_copyMoving ..

end Sys2Proof.Machine
end

section
/-! Proofs: the drain of the heat ring and the halving of the counts (R196, R685). -/

namespace Sys2Proof.Machine

/-! What a drain writes back leaves all but the DRAM's queues (R196, R266). -/

/-- Heat and ledger, time, modes and the stored lines stand. -/
structure WrittenBack (s t : State) : Prop where
  heat : t.heat = s.heat
  now : t.now = s.now
  modes : t.modes = s.modes
  lines : t.dram.lines = s.dram.lines
  ledger : t.ledger = s.ledger

namespace WrittenBack

theorem refl (s : State) : WrittenBack s s := ⟨rfl, rfl, rfl, rfl, rfl⟩
theorem trans {s t u : State} (h : WrittenBack s t) (k : WrittenBack t u) : WrittenBack s u :=
  ⟨k.heat.trans h.heat, k.now.trans h.now, k.modes.trans h.modes, k.lines.trans h.lines, k.ledger.trans h.ledger⟩
theorem dramPut (s : State) (r : DramReq) : WrittenBack s (dramPut s r) := by
  have hheat : (Machine.dramPut s r).heat = s.heat := by
    unfold Machine.dramPut
    split
    · rfl
    · split <;> rfl
  have h := poised_dramPut s r
  exact ⟨hheat, h.now, h.modes, (Aside.dramPut s r).lines, h.ledger⟩
theorem fold {α : Type} (f : State → α → State) (hf : ∀ s a, WrittenBack s (f s a)) (xs : List α) (s : State) : WrittenBack s (foldS xs f s) := by
  unfold foldS
  induction xs generalizing s with
  | nil => exact .refl s
  | cons x xs ih => exact (hf s x).trans (ih (f s x))
/-- The end of the command leaves the same alone. -/
theorem finish {s t : State} (h : WrittenBack s t) : WrittenBack s (finish t) := by
  have q := quiet_finish t
  exact h.trans ⟨q.heat, q.now, q.modes, (congrArg Dram.lines q.dram :), q.ledger⟩

end WrittenBack

/-! HEAT_DRAIN (R196). -/

/-- The counts with the samples of a ring counted in. -/
def countedIn (ring : List Nat) (counts : NMap Nat) : NMap Nat := ring.foldl (fun m f => mset 0 m f (min (mget 0 m f + 1) (2 ^ 32 - 1))) counts

theorem mget_countedIn (ring : List Nat) (counts : NMap Nat) (f : Nat) :
    mget 0 (countedIn ring counts) f = if ring.count f = 0 then mget 0 counts f else min (mget 0 counts f + ring.count f) (2 ^ 32 - 1) := by
  induction ring generalizing counts with
  | nil => rfl
  | cons x xs ih =>
    have hstep : countedIn (x :: xs) counts = countedIn xs (mset 0 counts x (min (mget 0 counts x + 1) (2 ^ 32 - 1))) := rfl
    rw [hstep, ih, mget_mset]
    by_cases hx : f = x
    · subst hx
      rw [if_pos rfl, List.count_cons_self, if_neg (Nat.succ_ne_zero _)]
      split <;> omega
    · rw [if_neg hx, List.count_cons_of_ne (Ne.symm hx)]

/-- The state at a window's opening, its timer set for the next. -/
def windowOpen (s : State) (timer l : Nat) : State :=
  untilTick { s with timers := mset 0 s.timers timer (nextOpening s timer l + max l 1) } (nextOpening s timer l)

/-- A drained ring: empty, its samples counted. -/
def drained (h : HeatState) : HeatState := { h with ring := [], counts := countedIn h.ring h.counts }

theorem heatDrain_live {s : State} {n : Stage} (h : stageSt s n = .live) :
    WrittenBack { s with heat := qset s.heat n (drained (qget s.heat n)), now := max s.now (nextOpening s (timerHeat n.val) (msTicks 10) * unitsPerTick) } (heatDrain s n) := by
  rw [heatDrain, if_neg (not_not.mpr h), window]
  dsimp only
  refine .trans ?_ (.fold _ (fun _ _ => .dramPut ..) _ _)
  exact ⟨rfl, rfl, rfl, rfl, rfl⟩

theorem heatDrain_answers {s : State} {n : Stage} (h : stageSt s n = .live) :
    Answers (.heatDrain n) s (fun _ t => t.now = max s.now (nextOpening s (timerHeat n.val) (msTicks 10) * unitsPerTick) ∧ (qget t.heat n).ring = []
      ∧ (∀ f, mget 0 (qget t.heat n).counts f = (if (qget s.heat n).ring.count f = 0 then mget 0 (qget s.heat n).counts f
        else min (mget 0 (qget s.heat n).counts f + (qget s.heat n).ring.count f) (2 ^ 32 - 1))) ∧ t.modes = s.modes ∧ t.dram.lines = s.dram.lines ∧ t.ledger = s.ledger) := by
  have k := (heatDrain_live h).finish
  have hheat : qget (finish (heatDrain s n)).heat n = drained (qget s.heat n) := by
    rw [k.heat]
    exact qget_qset_self ..
  refine ⟨_, rfl, k.now, ?_, fun f => ?_, k.modes, k.lines, k.ledger⟩
  · rw [hheat]
    rfl
  · rw [hheat]
    exact mget_countedIn ..

/-! HEAT_HALVING (R685). -/

/-- Every count halved; those at 0 leave. -/
def halved (h : HeatState) : HeatState := { h with halved := h.halved + 1, counts := (h.counts.map (fun e => (e.1, e.2 / 2))).filter (fun e => e.2 != 0) }

theorem heatHalving_live {s : State} {n : Stage} (h : stageSt s n = .live) (hl : rd s F.RESTORE_HEAT_HALF_LIFE_S ≠ 0) :
    heatHalving s n = { windowOpen s (timerHalf n.val) (rd s F.RESTORE_HEAT_HALF_LIFE_S * 32768) with heat := qset s.heat n (halved (qget s.heat n)) } := by
  rw [heatHalving]
  dsimp only
  rw [if_neg (not_or.mpr ⟨hl, not_not.mpr h⟩)]
  rfl

theorem heatHalving_answers {s : State} {n : Stage} (h : stageSt s n = .live) (hl : rd s F.RESTORE_HEAT_HALF_LIFE_S ≠ 0) :
    Answers (.heatHalving n) s (fun _ t => t.now = max s.now (nextOpening s (timerHalf n.val) (rd s F.RESTORE_HEAT_HALF_LIFE_S * 32768) * unitsPerTick)
      ∧ (qget t.heat n).counts = ((qget s.heat n).counts.map (fun e => (e.1, e.2 / 2))).filter (fun e => e.2 != 0) ∧ (qget t.heat n).ring = (qget s.heat n).ring
      ∧ (∀ m, m ≠ n → qget t.heat m = qget s.heat m) ∧ t.modes = s.modes ∧ SameDram s t ∧ t.ledger = s.ledger) := by
  have hgo := heatHalving_live h hl
  have q := quiet_finish (heatHalving s n)
  have hheat : (finish (heatHalving s n)).heat = qset s.heat n (halved (qget s.heat n)) := by rw [q.heat, hgo]
  refine ⟨_, rfl, ?_, ?_, ?_, fun m hm => ?_, ?_, ?_, ?_⟩
  · rw [q.now, hgo]
    rfl
  · rw [hheat, qget_qset_self]
    rfl
  · rw [hheat, qget_qset_self]
    rfl
  · rw [hheat, qget_qset_of_ne _ _ hm]
  · rw [q.modes, hgo]
    rfl
  · exact q.dram.trans (by rw [hgo]; rfl)
  · rw [q.ledger, hgo]
    rfl

end Sys2Proof.Machine
end

section
/-! Proofs: what a stage's restore leaves alone as it proceeds: stored lines and pages, where the house records stand, the waits for RESUME and the binding (R172 to R179, R198, R202). -/

namespace Sys2Proof.Machine

/-- The fields a restore reads its set from, and WAIT_RESUME: bindings, the geometry of the blocks. -/
def restoreFields : List Fld :=
  [0, 1, 2, 3].flatMap (fun n => [F.RESTORE_STATUS_WAIT_RESUME n, F.STAGE_BIND_BOUND n, F.STAGE_BIND_FLASH n, F.FL_STAGE_GEOM_PAGES n])
/-- A field whose write leaves them. -/
def besideRestore (f : Fld) : Bool := restoreFields.all (apart f)
/-- An index whose write leaves them. -/
def besideRestoreIdx (i : Nat) : Bool := restoreFields.all (fun g => decide (homeIdx g.idx ≠ homeIdx i))

theorem restoreFields_width : ∀ g ∈ restoreFields, g.lo + g.width ≤ 48 := by decide
theorem restoreFields_path : ∀ g ∈ restoreFields, pathField g = true := by decide +kernel
theorem restoreFields_stage (n : Stage) : F.RESTORE_STATUS_WAIT_RESUME n.val ∈ restoreFields ∧ F.STAGE_BIND_BOUND n.val ∈ restoreFields
    ∧ F.STAGE_BIND_FLASH n.val ∈ restoreFields ∧ F.FL_STAGE_GEOM_PAGES n.val ∈ restoreFields := by decide +revert

/-- What a restore leaves alone as it proceeds. -/
structure Proceeds (s t : State) : Prop where
  evs : s.evs ⊆ t.evs
  lines : t.dram.lines = s.dram.lines
  pages : t.flash.pages = s.flash.pages
  houses : ∀ m, (fsys t m).houseA = (fsys s m).houseA ∧ (fsys t m).houseB = (fsys s m).houseB
  waits : ∀ m, (rst t m).waitResume = (rst s m).waitResume
  fields : ∀ g ∈ restoreFields, rd t g = rd s g

namespace Proceeds

theorem refl (s : State) : Proceeds s s := ⟨List.Subset.refl _, rfl, rfl, fun _ => ⟨rfl, rfl⟩, fun _ => rfl, fun _ _ => rfl⟩
theorem trans {s t u : State} (h : Proceeds s t) (k : Proceeds t u) : Proceeds s u where
  evs := List.Subset.trans h.evs k.evs
  lines := k.lines.trans h.lines
  pages := k.pages.trans h.pages
  houses m := ⟨(k.houses m).1.trans (h.houses m).1, (k.houses m).2.trans (h.houses m).2⟩
  waits m := (k.waits m).trans (h.waits m)
  fields g hg := (k.fields g hg).trans (h.fields g hg)

section
variable {s t : State}

/-! Single changes of the state. -/

/-- A change of no register, event, stored line, flash set or restore. -/
theorem apply (h : Proceeds s t) (f : State → State) (hf : ((f t).regs, (f t).evs, (f t).dram.lines, (f t).flash, (f t).restore) = (t.regs, t.evs, t.dram.lines, t.flash, t.restore)) :
    Proceeds s (f t) := by
  simp only [Prod.mk.injEq] at hf
  obtain ⟨hregs, hevs, hlines, hflash, hrst⟩ := hf
  exact h.trans ⟨by rw [hevs]; exact List.Subset.refl _, hlines, by rw [hflash], fun m => by rw [fsys, hflash]; exact ⟨rfl, rfl⟩, fun m => by rw [rst, hrst]; rfl,
    fun g _ => by rw [rd, rawReg, hregs]; rfl⟩
theorem wr {f : Fld} {v : Nat} (h : Proceeds s t) (hf : besideRestore f = true) : Proceeds s (wr t f v) :=
  h.trans ⟨List.Subset.refl _, rfl, rfl, fun _ => ⟨rfl, rfl⟩, fun _ => rfl, fun g hg => rd_wr_apart t f g v (restoreFields_width g hg) (List.all_eq_true.mp hf g hg)⟩
/-- The same of a field that each stage, or each DRAM channel, has. -/
theorem wrOf {f : Nat → Fld} {n : Fin 4} {v : Nat} (h : Proceeds s t) (hf : ∀ m : Fin 4, besideRestore (f m.val) = true) : Proceeds s (Machine.wr t (f n.val) v) := h.wr (hf n)
theorem incSat {f : Fld} {k : Nat} (h : Proceeds s t) (hf : besideRestore f = true) : Proceeds s (incSat t f k) := h.wr hf
theorem setReg {f : Nat → Fld} {n : Fin 4} {w : Word} (h : Proceeds s t) (hf : ∀ m : Fin 4, besideRestoreIdx (f m.val).idx = true) : Proceeds s (setReg t (f n.val).idx w) := by
  refine h.trans ⟨List.Subset.refl _, rfl, rfl, fun _ => ⟨rfl, rfl⟩, fun _ => rfl, fun g hg => ?_⟩
  rw [rd, rawReg_setReg, if_neg (of_decide_eq_true (List.all_eq_true.mp (hf n) g hg))]
  rfl
theorem event (h : Proceeds s t) (a b c d : Nat) : Proceeds s (event t a b c d) :=
  h.trans ⟨List.subset_append_left .., rfl, rfl, fun _ => ⟨rfl, rfl⟩, fun _ => rfl, fun _ _ => rfl⟩
theorem emit (h : Proceeds s t) (o : Output) : Proceeds s (emit t o) := h.apply (fun t => Machine.emit t o) rfl
theorem fresh (h : Proceeds s t) : Proceeds s (fresh t).2 := h.apply (fun t => (Machine.fresh t).2) rfl
theorem store (h : Proceeds s t) (x : Store) : Proceeds s { t with store := x } := h.apply (fun t => { t with store := x }) rfl
theorem modes (h : Proceeds s t) (x : ModeState) : Proceeds s { t with modes := x } := h.apply (fun t => { t with modes := x }) rfl
theorem setSub (h : Proceeds s t) (c : DramCh) (b : Bool) (x : SubCh) : Proceeds s (setSub t c b x) := h.apply (fun t => Machine.setSub t c b x) rfl
theorem setLedger (h : Proceeds s t) (n : Stage) (x : LedgerState) : Proceeds s (setLedger t n x) := h.apply (fun t => Machine.setLedger t n x) rfl
theorem putStage (h : Proceeds s t) (n : Stage) (x : StageState) : Proceeds s (putStage t n x) := h.apply (fun t => Machine.putStage t n x) rfl
theorem setRst {n : Stage} {x : RestoreState} (h : Proceeds s t) (hx : x.waitResume = (rst t n).waitResume) : Proceeds s (setRst t n x) := by
  refine h.trans ⟨List.Subset.refl _, rfl, rfl, fun _ => ⟨rfl, rfl⟩, fun m => ?_, fun _ _ => rfl⟩
  rw [rst_setRst]
  split
  · next hm => rw [hm, hx]
  · rfl
theorem setFset (h : Proceeds s t) (n : Stage) (x : StageFlash) : Proceeds s (setFset t n x) :=
  h.trans ⟨List.Subset.refl _, rfl, rfl, fun _ => ⟨rfl, rfl⟩, fun _ => rfl, fun _ _ => rfl⟩
theorem setFsys {n : Stage} {x : StageSys} (h : Proceeds s t) (ha : x.houseA = (fsys t n).houseA) (hb : x.houseB = (fsys t n).houseB) : Proceeds s (setFsys t n x) := by
  refine h.trans ⟨List.Subset.refl _, rfl, rfl, fun m => ?_, fun _ => rfl, fun _ _ => rfl⟩
  rw [fsys, Machine.setFsys, qget_qset]
  split
  · next hm => rw [hm]; exact ⟨ha, hb⟩
  · exact ⟨rfl, rfl⟩

/-! Control. -/

theorem ite (c : Prop) [Decidable c] {a b : State} (ha : Proceeds s a) (hb : Proceeds s b) : Proceeds s (if c then a else b) := by
  split
  · exact ha
  · exact hb
theorem whenS (h : Proceeds s t) (c : Bool) (f : State → State) (hf : ∀ u, Proceeds s u → Proceeds s (f u)) : Proceeds s (whenS c f t) := .ite _ (hf t h) h
theorem fold {α : Type} (h : Proceeds s t) (xs : List α) (f : State → α → State) (hf : ∀ u a, Proceeds s u → Proceeds s (f u a)) : Proceeds s (foldS xs f t) := by
  unfold foldS
  induction xs generalizing t with
  | nil => exact h
  | cons x xs ih => exact ih (hf t x h)

/-! Counters, reports, requests to DRAM. -/

theorem pmonHit (h : Proceeds s t) (g i k n : Nat) : Proceeds s (pmonHit t g i k n) := by
  have q := quiet_pmonHit t g i k n
  have r := regsOnly_pmonHit t g i k n
  exact h.trans ⟨r.evs, by rw [r.dram], by rw [r.flash], fun m => by rw [fsys, r.flash]; exact ⟨rfl, rfl⟩, fun m => by rw [rst, q.restore]; rfl,
    fun g hg => q.fields g (pathField_steady (restoreFields_path g hg))⟩
theorem xbarFault (h : Proceeds s t) (n : Stage) (k r : Nat) : Proceeds s (xbarFault t n k r) := by
  unfold Machine.xbarFault
  exact ((((h.wr (by decide)).wr (by decide)).wr (by decide)).incSat (by decide)).event ..
theorem dramPut (h : Proceeds s t) (r : DramReq) : Proceeds s (dramPut t r) := by
  unfold Machine.dramPut
  split
  · exact h
  · split
    · exact h.xbarFault ..
    · exact (h.apply (fun t => { t with dram := { t.dram with nextId := t.dram.nextId + 1 } }) rfl).setSub ..

/-! A stage's transition and its ledger (R48, R112). -/

theorem addResidue (h : Proceeds s t) (n : Stage) (up : Bool) (k : Nat) : Proceeds s (addResidue t n up k) := by
  unfold Machine.addResidue
  exact .ite _ ((h.wrOf (by decide)).wr (by decide)) ((h.wrOf (by decide)).wr (by decide))
theorem ledRefresh (h : Proceeds s t) (n : Stage) : Proceeds s (ledRefresh t n) := by
  unfold Machine.ledRefresh spaceRefresh
  exact ((((((((h.wrOf (by decide)).wrOf (by decide)).wrOf (by decide)).wrOf (by decide)).whenS _ _ fun _ k => k.event ..).setLedger ..)).whenS _ _ fun _ k => k.event ..).wrOf (by decide)
theorem ledgerClear (h : Proceeds s t) (n : Stage) : Proceeds s (ledgerClear t n) := by
  unfold Machine.ledgerClear
  exact ((h.addResidue ..).setLedger ..).ledRefresh n
theorem leaveLive (h : Proceeds s t) (n : Stage) : Proceeds s (leaveLive t n) := by
  unfold Machine.leaveLive
  exact ((((((((h.wrOf (by decide)).wrOf (by decide)).wrOf (by decide)).wrOf (by decide)).whenS _ _ fun _ k => k.event ..).wrOf (by decide)).wrOf (by decide)).wrOf (by decide)).setLedger ..
theorem countsZero (h : Proceeds s t) (n : Stage) : Proceeds s (countsZero t n) := (((h.wrOf (by decide)).wrOf (by decide)).wrOf (by decide)).wrOf (by decide)
theorem stageTo (h : Proceeds s t) (n : Stage) (x : StageState) : Proceeds s (stageTo t n x) := by
  unfold Machine.stageTo
  have k := (((h.putStage n x).event 0x002 0 n.val (stageCode (stageSt t n) + 8 * stageCode x)).setLedger n
    { led (Machine.event (Machine.putStage t n x) 0x002 0 n.val (stageCode (stageSt t n) + 8 * stageCode x)) n with notLiveLogged := false }).whenS (x == .dressing) _
    fun _ k => k.countsZero n
  exact .ite _ h (.ite _ (k.leaveLive n) k)

/-! The device mode, with the script store's part of it (R40, R497, R500, R556 to R563). -/

theorem dirAppend (h : Proceeds s t) (sec kind count : Nat) : Proceeds s (dirAppend t sec kind count) := by
  unfold Machine.dirAppend dirCompact
  exact (Proceeds.ite _ h (((h.fresh.store _).whenS _ _ fun _ k => k.event ..).event ..)).store _
theorem eraseWhole (h : Proceeds s t) (sec : Nat) : Proceeds s (eraseWhole t sec) := by
  unfold Machine.eraseWhole eraseFinish
  exact .ite _ h ((((h.dirAppend ..).fresh.store _).dirAppend ..).whenS _ _ fun _ k => k.event ..)
theorem eraseSuspend (h : Proceeds s t) : Proceeds s (eraseSuspend t) := by
  unfold Machine.eraseSuspend eraseCount
  split
  · exact .ite _ h (((Proceeds.ite _ (((h.wr (by decide)).wr (by decide)).event ..) ((h.wr (by decide)).wr (by decide))).store _).incSat (by decide))
  · exact h
theorem slotProgram (h : Proceeds s t) (tag : Nat) (secs used : List Nat) (seq : Nat) (payload : List Word) (later : Option (Nat × Option (Nat × Nat))) :
    Proceeds s (slotProgram t tag secs used seq payload later).2 := by
  unfold Machine.slotProgram
  dsimp only
  split
  · cases later with
    | none => exact h.store _
    | some => exact h.store _
  · exact (h.store _).event ..
theorem slotWriteAt (h : Proceeds s t) (tag : Nat) (secs : List Nat) (seq : Nat) (payload : List Word) (later : Option (Nat × Option (Nat × Nat))) :
    Proceeds s (slotWriteAt t tag secs seq payload later).2 := by
  unfold Machine.slotWriteAt
  dsimp only
  split
  · exact h
  · exact (h.eraseSuspend.fold _ _ fun _ sec k => k.eraseWhole sec).slotProgram ..
theorem slotWriteBy (h : Proceeds s t) (tag : Nat) (a b : List Nat) (payload : List Word) (later : Option (Nat × Option (Nat × Nat))) :
    Proceeds s (slotWriteBy t tag a b payload later).2 := by
  unfold Machine.slotWriteBy
  dsimp only
  split <;> split <;> exact h.slotWriteAt ..
theorem slotsFollow (h : Proceeds s t) : Proceeds s (slotsFollow t) := by
  unfold Machine.slotsFollow
  refine (h.store _).fold _ _ fun u e k => ?_
  have k' := (k.store (progWord u.store e.mark e.word)).whenS (e.tag == 0x02) (fun s => Machine.wr s F.GAUGE_STATUS_LEARN_WRITE_PENDING 0) fun _ k => k.wr (by decide)
  cases hw : e.who with
  | none => exact k'
  | some => exact k'.emit _
theorem learnedPending (h : Proceeds s t) : Proceeds s (learnedPending t) := by
  unfold Machine.learnedPending learnedCopy
  exact h.slotsFollow.whenS _ _ fun _ k => (k.slotWriteBy ..).wr (by decide)
theorem chgFollow (h : Proceeds s t) : Proceeds s (chgFollow t) := by
  unfold Machine.chgFollow
  exact .ite _ h (((h.wr (by decide)).emit _).whenS _ _ fun _ k => k.apply (fun u => { u with gauge := { u.gauge with learning := none } }) rfl)
theorem modeTo (h : Proceeds s t) (m : Mode) (cause : Nat) : Proceeds s (modeTo t m cause) := by
  unfold Machine.modeTo
  exact .ite _ h ((((((h.wr (by decide)).wr (by decide)).wr (by decide)).wr (by decide)).apply (fun u => { u with modes := { u.modes with mode := m }, pack := { u.pack with woken := 0#56 } }) (by rfl)).event ..)
theorem modeFollow (h : Proceeds s t) (cause : Nat) : Proceeds s (modeFollow t cause) := by
  unfold Machine.modeFollow
  split
  iterate 3 exact h
  exact h.modeTo ..
theorem follow (h : Proceeds s t) (cause : Nat) : Proceeds s (follow t cause) := by
  unfold Machine.follow
  exact .ite _ h (((h.modeFollow cause).whenS _ _ fun _ k => k.learnedPending).chgFollow)

/-! Records of the seal log (R142, R145, R156). -/

theorem sealProg (h : Proceeds s t) (n : Stage) (copy : Nat) (j : SealJob) : Proceeds s (sealProg t n copy j) := by
  unfold Machine.sealProg sysQueue
  exact (h.pmonHit ..).setFset ..
theorem sealStart (h : Proceeds s t) (n : Stage) (sub reason gen lastSeq : Nat) (index : List Nat) : Proceeds s (sealStart t n sub reason gen lastSeq index) := by
  unfold Machine.sealStart
  exact ((h.setFsys (by rfl) (by rfl)).sealProg ..).sealProg ..
theorem openRecord (h : Proceeds s t) (n : Stage) (gen why : Nat) : Proceeds s (openRecord t n gen why) := by
  unfold Machine.openRecord
  exact ((((h.setFset ..).wrOf (by decide)).wrOf (by decide)).setRst (by rfl)).sealStart ..

/-! The phases of a rebuild (R172 to R179). -/

theorem restorePhase (h : Proceeds s t) (n : Stage) (k : Nat) : Proceeds s (restorePhase t n k) := h.wrOf (by decide)
theorem wantRead (h : Proceeds s t) (n : Stage) (p : RPhase) (es : List Nat) : Proceeds s (wantRead t n p es) := by
  unfold Machine.wantRead
  exact ((h.fold _ _ fun _ _ k => k.xbarFault ..).setRst (by rfl)).trans ⟨List.Subset.refl _, rfl, rfl, fun _ => ⟨rfl, rfl⟩, fun _ => rfl, fun _ _ => rfl⟩
theorem liveTry (h : Proceeds s t) (n : Stage) : Proceeds s (liveTry t n) := by
  unfold Machine.liveTry
  exact .ite _ h (.ite _ (h.openRecord ..) h)
theorem restoreStop (h : Proceeds s t) (n : Stage) : Proceeds s (restoreStop t n) := by
  unfold Machine.restoreStop
  exact ((((h.restorePhase ..).setRst (by rfl)).event ..).stageTo ..).follow _
theorem scanStart (h : Proceeds s t) (n : Stage) (gen : Nat) (whole : Bool) : Proceeds s (scanStart t n gen whole) := by
  unfold Machine.scanStart
  have k := (h.wrOf (f := F.RESTORE_STATUS_FULL_SCAN) (n := n) (v := 1) (by decide)).event 0x308 1 n.val gen
  exact (Proceeds.ite _ (k.setFset ..) k).wantRead ..
theorem gensStart (h : Proceeds s t) (n : Stage) : Proceeds s (gensStart t n) := by
  unfold Machine.gensStart
  split
  · exact h.wantRead ..
  · exact h.scanStart ..
theorem candNext (h : Proceeds s t) (n : Stage) : Proceeds s (candNext t n) := by
  unfold Machine.candNext
  split
  · exact ((h.setRst (by rfl)).setFset ..).gensStart n
  · exact h.wantRead ..
theorem candDrop (h : Proceeds s t) (n : Stage) : Proceeds s (candDrop t n) := (h.setRst (by rfl)).candNext n
theorem deadVoid (h : Proceeds s t) (n : Stage) (a b : List SealRec) : Proceeds s (deadVoid t n a b) := by
  unfold Machine.deadVoid voidStart
  split
  · exact .ite _ h (h.sealStart ..)
  · exact h
theorem locateDone (h : Proceeds s t) (n : Stage) (a b : List SealRec) : Proceeds s (locateDone t n a b) := by
  unfold Machine.locateDone
  split
  · exact (h.deadVoid ..).restoreStop n
  · next g _ =>
    exact ((((((((((h.wrOf (by decide)).wrOf (by decide)).wrOf (by decide)).wrOf (by decide)).deadVoid n a b).wrOf (by decide)).event ..).setFsys (by rfl) (by rfl)).setRst (by rfl)).restorePhase ..).candNext n
theorem mapRebuilt (h : Proceeds s t) (n : Stage) : Proceeds s (mapRebuilt t n) := by
  have hwrites : Proceeds t _ := (refl t).fold (mapLinesOf ((fset t n).fmap.map (·.1))) (fun s k => dramWrite s 5 3 n (mapDpa s n k) (mapLineData s n k) false .mapWrite)
    fun _ _ k => k.dramPut _
  unfold Machine.mapRebuilt
  refine h.trans (Proceeds.liveTry (Proceeds.setRst ?_ ?_) n)
  · exact (hwrites.event ..).restorePhase ..
  · exact (hwrites.waits n).symm
theorem restorePhaseEnd (h : Proceeds s t) (n : Stage) : Proceeds s (restorePhaseEnd t n) := by
  unfold Machine.restorePhaseEnd
  dsimp only
  split
  case h_1 =>
    refine Proceeds.wantRead ?_ ..
    split
    · exact h.setFsys (by rfl) (by rfl)
    · exact h
  case h_2 => exact h.locateDone ..
  case h_3 =>
    split
    · exact .ite _ ((h.setRst (by rfl)).wantRead ..) (h.candDrop n)
    · exact h.candDrop n
  case h_4 => exact .ite _ (h.wantRead ..) (h.candDrop n)
  case h_5 => exact .ite _ ((h.setFset ..).gensStart n) (h.candDrop n)
  case h_6 => exact .ite _ ((h.setRst (by rfl)).wantRead ..) (h.scanStart ..)
  case h_7 =>
    split
    · exact .ite _ ((((h.setRst (by rfl)).wrOf (by decide)).setFset ..).scanStart ..) ((h.setRst (by rfl)).scanStart ..)
    · exact (((h.setRst (by rfl)).setFset ..).wrOf (by decide)).mapRebuilt n
  case h_8 => exact ((h.setFset ..).setRst (by rfl)).mapRebuilt n
  case h_9 => exact h
theorem restoreRun (h : Proceeds s t) (fuel : Nat) (n : Stage) : Proceeds s (restoreRun fuel t n) := by
  induction fuel generalizing t with
  | zero => exact h
  | succ fuel ih => exact .ite _ h (ih (h.restorePhaseEnd n))
theorem restoreGo (h : Proceeds s t) (n : Stage) : Proceeds s (restoreGo t n) := .ite _ h (h.restoreRun ..)

/-! Intermission resume of a stage (R46, R201, R355, R356). -/

theorem srExit (h : Proceeds s t) (c : DramCh) (b : Bool) : Proceeds s (srExit t c b) := by
  unfold Machine.srExit
  dsimp only
  split
  · next since _ _ => exact ((h.apply (fun t => { t with now := max t.now (since + srResidency t) }) rfl).setSub ..).emit _
  · exact h
theorem stageSrExit (h : Proceeds s t) (n : Stage) : Proceeds s (stageSrExit t n) := h.fold _ _ fun _ c k => (k.srExit c false).srExit c true
theorem trackSend (h : Proceeds s t) (c : DramCh) (b : Bool) (r runtime : Nat) : Proceeds s (trackSend t c b r runtime) :=
  ((((h.setSub ..).emit _).emit _).emit _).emit _
theorem delaySet (h : Proceeds s t) (k taps : Nat) (staged : Bool) : Proceeds s (delaySet t k taps staged) :=
  .ite _ (h.apply (fun t => { t with dram := { t.dram with staged := mput t.dram.staged k taps } }) rfl)
    (h.apply (fun t => { t with dram := { t.dram with delays := mset 0 t.dram.delays k taps } }) rfl)
theorem moveDq (h : Proceeds s t) (c : DramCh) (b : Bool) (r : Nat) (taps : Int) (staged : Bool) : Proceeds s (moveDq t c b r taps staged) := by
  unfold Machine.moveDq
  refine .ite _ h (h.fold _ _ fun u lane k => ?_)
  dsimp only
  split
  · exact (Proceeds.ite _ k (k.delaySet ..)).delaySet ..
  · exact .ite _ ((Proceeds.ite _ k (k.delaySet ..)).delaySet ..) (Proceeds.ite _ k (k.delaySet ..))
theorem trackRank (h : Proceeds s t) (d : DriftRead) (staged : Bool) : Proceeds s (trackRank t d staged) := by
  obtain ⟨c, b, r, count, hot⟩ := d
  unfold Machine.trackRank
  dsimp only
  refine .ite _ h ?_
  split
  · exact h
  · exact ((((((h.trackSend ..).setSub ..).whenS _ _ fun _ k => k.event ..).moveDq ..).whenS _ _ fun _ k => (k.wrOf (by decide)).event ..).wrOf (by decide)).wrOf (by decide)
theorem resumeTrack (h : Proceeds s t) (n : Stage) : Proceeds s (resumeTrack t n) :=
  h.fold _ _ fun _ _ k => k.fold _ _ fun _ _ k => k.fold _ _ fun _ _ k => k.fresh.fresh.trackRank ..
theorem interDone (h : Proceeds s t) (n : Stage) : Proceeds s (interDone t n) := .ite _ ((h.modes _).modes _) (h.modes _)

end
end Proceeds
end Sys2Proof.Machine
end

section
/-! Proofs: RESTORE_CTRL (R48, R172, R202, R205). -/

namespace Sys2Proof.Machine

/-! What the decision to restore reads (R205). -/

theorem Proceeds.of_regs {s t : State} (h : RegsOnly s t) (hf : ∀ g, steadyField g = true → rd t g = rd s g) : Proceeds s t :=
  ⟨h.evs, by rw [h.dram], by rw [h.flash], fun m => by rw [fsys, h.flash]; exact ⟨rfl, rfl⟩, fun m => by rw [rst, h.restore]; rfl,
    fun g hg => hf g (pathField_steady (restoreFields_path g hg))⟩

theorem stageBlocked_of_regs {s t : State} (h : RegsOnly s t) (hf : ∀ g, steadyField g = true → rd t g = rd s g) (n : Stage) : stageBlocked t n = stageBlocked s n := by
  have hrail : ∀ r, railStage t r n = railStage s r n := fun r => by
    rw [railStage, railStage, railAttr, railAttr, tableValid_congr h.power, cueWord, cueWord, h.power]
  simp only [stageBlocked, h.modes, h.power, rdb, hf _ (show steadyField F.PWR_THERM_TRIPPED = true by decide +kernel), hrail]

/-- A write that leaves the steady fields leaves what decides on a start. -/
theorem startable_of_regs {s t : State} (h : RegsOnly s t) (hf : ∀ g, steadyField g = true → rd t g = rd s g) (n : Stage) : startable t n = startable s n := by
  have hbound : rd t (F.STAGE_BIND_BOUND n.val) = rd s (F.STAGE_BIND_BOUND n.val) := hf _ (by fin_cases n <;> decide +kernel)
  have hreason : rd t (F.STAGE_DRESS_REASON n.val) = rd s (F.STAGE_DRESS_REASON n.val) := hf _ (by fin_cases n <;> decide +kernel)
  simp only [startable, stageSt, bound, rdb, serving, rst, h.modes, h.restore, hbound, hreason, stageBlocked_of_regs h hf]
  rfl

/-! The start of a restore (R48, R172). -/

/-- A transition of a stage is logged. -/
theorem stageTo_logs {s : State} {n : Stage} {x : StageState} (h : stageSt s n ≠ x) :
    (⟨0x002, 0, n.val, stageCode (stageSt s n) + 8 * stageCode x⟩ : Ev) ∈ (stageTo s n x).evs := by
  have hlogged : Proceeds (event (putStage s n x) 0x002 0 n.val (stageCode (stageSt s n) + 8 * stageCode x)) (stageTo s n x) := by
    rw [stageTo]
    dsimp only
    rw [if_neg h]
    have k := ((Proceeds.refl (event (putStage s n x) 0x002 0 n.val (stageCode (stageSt s n) + 8 * stageCode x))).setLedger n
      { led (event (putStage s n x) 0x002 0 n.val (stageCode (stageSt s n) + 8 * stageCode x)) n with notLiveLogged := false }).whenS (x == .dressing) _
      fun _ k => k.countsZero n
    exact .ite _ (k.leaveLive n) k
  exact hlogged.evs (List.mem_append_right _ (List.mem_singleton.mpr rfl))

/-- The entries of the pages of both house blocks. -/
def houseEntries (s : State) (n : Stage) : List Nat :=
  blockEntries s n (houseLun s n 0) (fsys s n).houseA ++ blockEntries s n (houseLun s n 1) (fsys s n).houseB

theorem stageFlashChs_proceeds {s t : State} (h : Proceeds s t) (n : Stage) : stageFlashChs t n = stageFlashChs s n := by
  obtain ⟨-, hbound, hflash, -⟩ := restoreFields_stage n
  simp only [stageFlashChs, rdb, h.fields _ hbound, h.fields _ hflash]
  rfl
theorem flashMine_proceeds {s t : State} (h : Proceeds s t) (n : Stage) : flashMine t n = flashMine s n := by
  funext e
  rw [flashMine, flashMine, stageFlashChs_proceeds h]
theorem houseEntries_proceeds {s t : State} (h : Proceeds s t) (n : Stage) : houseEntries t n = houseEntries s n := by
  obtain ⟨-, -, -, hpages⟩ := restoreFields_stage n
  simp only [houseEntries, blockEntries, blockPages, houseLun, pagesPer, stageFlashChs_proceeds h, h.pages, h.houses n, h.fields _ hpages]
  rfl

/-- A restore started, its house records not asked for yet. -/
def restoreCleared (s : State) (n : Stage) : State :=
  let s := ledgerClear (stageTo s n .restoring) n
  let s := setReg (setReg (setReg s (F.RESTORE_GEN_GEN n.val).idx 0#48) (F.RESTORE_PROGRESS_FRAMES n.val).idx 0#48) (F.RESTORE_POISONED_FRAMES n.val).idx 0#48
  let s := setReg (setReg s (F.RESTORE_TIMES_TO_DONE_10MS n.val).idx 0#48) (F.RESTORE_TOUCH_COUNT_COUNT n.val).idx 0#48
  restorePhase (wr s (F.RESTORE_STATUS_FULL_SCAN n.val) 0) n 1

theorem proceeds_restoreCleared (s : State) (n : Stage) : Proceeds (stageTo s n .restoring) (restoreCleared s n) :=
  ((((((((Proceeds.refl _).ledgerClear n).setReg (by decide)).setReg (by decide)).setReg (by decide)).setReg (by decide)).setReg (by decide)).wrOf (by decide)).restorePhase ..
theorem modes_restoreCleared (s : State) (n : Stage) : (restoreCleared s n).modes = (stageTo s n .restoring).modes := by
  have hledger : Keeps (stageTo s n .restoring) (ledgerClear (stageTo s n .restoring) n) := (((Keeps.refl _).addResidue ..).setLedger ..).ledRefresh n
  have hkeeps : Keeps (stageTo s n .restoring) (restoreCleared s n) := ((((((hledger.setReg _ _).setReg _ _).setReg _ _).setReg _ _).setReg _ _).wr _ _).wr _ _
  exact hkeeps.modes

/-- The restore of a stage at its start: nothing located, restored or held, and no wait. -/
def freshRestore (s : State) (n : Stage) : RestoreState :=
  { rst s n with
    sealed := [], voids := [], cands := [], deltaOf := [], ckptGen := 0, ckptHash := [], heatList := [], heatPos := 0, next := 0, restored := [], writing := [], reading := []
    touchQ := [], heldReads := [], startTime := s.now, pending := false, goLive := none, waitResume := false, kept := false }
/-- The device mode follows a restore that has started; nothing is asked for yet. -/
def restoreOpened (s : State) (n : Stage) : State := follow (setRst (restoreCleared s n) n (freshRestore (restoreCleared s n) n)) 0x05

theorem restoreStart_eq (s : State) (n : Stage) : restoreStart s n = restoreGo (wantRead (restoreOpened s n) n .house (houseEntries (restoreOpened s n) n)) n := rfl

theorem proceeds_restoreOpened {s : State} {n : Stage} (h : (rst s n).waitResume = false) : Proceeds (stageTo s n .restoring) (restoreOpened s n) := by
  have hcleared := proceeds_restoreCleared s n
  refine (hcleared.setRst ?_).follow _
  rw [hcleared.waits, rst, restore_stageTo]
  exact h.symm
theorem stageSt_restoreOpened (s : State) (n : Stage) : stageSt (restoreOpened s n) n = .restoring := by
  obtain ⟨hstages, -, -⟩ := follow_leaves (setRst (restoreCleared s n) n (freshRestore (restoreCleared s n) n)) 0x05
  have hmodes : ∀ (x : State) (r : RestoreState), (setRst x n r).modes = x.modes := fun _ _ => rfl
  rw [stageSt, restoreOpened, hstages, hmodes, modes_restoreCleared]
  exact stageSt_stageTo s n .restoring
theorem proceeds_restoreStart {s : State} {n : Stage} (h : (rst s n).waitResume = false) : Proceeds (stageTo s n .restoring) (restoreStart s n) := by
  rw [restoreStart_eq]
  exact ((proceeds_restoreOpened h).wantRead ..).restoreGo n

/-! A phase that has something to read waits for it (R172). -/

/-- Codewords on channels of other stages are counted as faults of the crossbar; modes stand. -/
theorem modes_wantRead (s : State) (n : Stage) (p : RPhase) (es : List Nat) : (wantRead s n p es).modes = s.modes :=
  (((Keeps.refl s).fold (es.eraseDups.filter (fun e => !flashMine s n e)) (fun s e => xbarFault s n 1 (lunCh (entryLun e))) fun _ _ _ k => k.xbarFault ..).modes :)
theorem rst_wantRead (s : State) (n : Stage) (p : RPhase) (es : List Nat) :
    (rst (wantRead s n p es) n).phase = p ∧ (rst (wantRead s n p es) n).outstanding = (es.eraseDups.filter (flashMine s n)).length := by
  have hrst : rst (wantRead s n p es) n = _ := qget_qset_self ..
  rw [hrst]
  exact ⟨rfl, rfl⟩

theorem restoreGo_waits {s : State} {n : Stage} (h : (rst s n).outstanding ≠ 0) : restoreGo s n = s := by
  have hrun : ∀ fuel, restoreRun fuel s n = s := fun fuel => by
    cases fuel with
    | zero => rfl
    | succ fuel => exact if_pos (.inr (.inr h))
  rw [restoreGo, hrun, ite_self]

/-- With a page of a house block on a channel of the stage the house record is being read. -/
theorem restoreStart_house {s : State} {n : Stage} (hwait : (rst s n).waitResume = false) (h : (houseEntries (stageTo s n .restoring) n).any (flashMine (stageTo s n .restoring) n) = true) :
    stageSt (restoreStart s n) n = .restoring ∧ (rst (restoreStart s n) n).phase = .house := by
  have hopened := proceeds_restoreOpened hwait
  rw [← houseEntries_proceeds hopened, ← flashMine_proceeds hopened, List.any_eq_true] at h
  obtain ⟨e, he, hmine⟩ := h
  obtain ⟨hphase, houtstanding⟩ := rst_wantRead (restoreOpened s n) n .house (houseEntries (restoreOpened s n) n)
  have hsome : (rst (wantRead (restoreOpened s n) n .house (houseEntries (restoreOpened s n) n)) n).outstanding ≠ 0 := by
    rw [houtstanding]
    exact List.length_pos_iff.mpr (List.ne_nil_of_mem (List.mem_filter.mpr ⟨List.mem_eraseDups.mpr he, hmine⟩)) |>.ne'
  rw [restoreStart_eq, restoreGo_waits hsome]
  refine ⟨?_, hphase⟩
  rw [stageSt, modes_wantRead]
  exact stageSt_restoreOpened s n

/-! A stage brought back out of its wait (R201, R202). -/

/-- A stage whose wait for RESUME has ended. -/
def resumeBegun (s : State) (n : Stage) : State := wr (setRst s n { rst s n with waitResume := false }) (F.RESTORE_STATUS_WAIT_RESUME n.val) 0

theorem resumeBegun_waits (s : State) (n : Stage) : (rst (resumeBegun s n) n).waitResume = false ∧ rd (resumeBegun s n) (F.RESTORE_STATUS_WAIT_RESUME n.val) = 0 := by
  have hwidth := restoreFields_width _ (restoreFields_stage n).1
  have hrst : rst (resumeBegun s n) n = { rst s n with waitResume := false } := qget_qset_self ..
  exact ⟨by rw [hrst], (rd_wr_self _ _ _ hwidth).trans (Nat.zero_mod _)⟩

theorem proceeds_interResume (s : State) (n : Stage) : Proceeds (resumeBegun s n) (interResume s n) := by
  have htracked := ((((Proceeds.refl (resumeBegun s n)).stageSrExit n).resumeTrack n).setLedger n { led (resumeTrack (stageSrExit (resumeBegun s n) n) n) n with gated := false })
  exact .ite _ (((((htracked.setRst (by rfl)).stageTo ..).follow _).interDone n).restoreGo n) (htracked.openRecord ..)

/-! RESTORE_CTRL through the registers (R205). -/

theorem restoreCtrl_start (s : State) (n : Stage) : restoreCtrl s n true false = if startable s n then restoreStart s n else ignored s srcRegister := rfl
theorem restoreCtrl_resume (s : State) (n : Stage) : restoreCtrl s n false true = if (rst s n).waitResume then interResume s n else ignored s srcRegister := rfl

theorem trigger_restoreCtrl (s : State) (n : Stage) (w : Word) (pin : Bool) :
    trigger s (F.RESTORE_CTRL_START n.val).idx w pin = restoreCtrl s n (bitOf w.toNat 0) (bitOf w.toNat 1) := by fin_cases n <;> rfl

section
variable {s : State} {p : Path} {n : Stage} (hp : pathWrites s p (F.RESTORE_CTRL_START n.val).idx = true) (hon : mainOff s = false)
include hp hon

/-- What a bit of RESTORE_CTRL answers, given what it starts in a state that the write has left with its steady fields. -/
theorem answers_restoreCtrl {c : Instr} {f : Fld} {start resume : Bool} {post : State → State → Prop} (hi : f.idx = (F.RESTORE_CTRL_START n.val).idx)
    (hc : exec c s = done (regField s p f 1)) (hstart : bitOf (oneField f 1).toNat 0 = start) (hresume : bitOf (oneField f 1).toNat 1 = resume)
    (h : ∀ m, RegsOnly s m → (∀ g, steadyField g = true → rd m g = rd s g) →
      post (pathKeeps (restoreCtrl m n start resume) p (F.RESTORE_CTRL_START n.val).idx) (finish (pathKeeps (restoreCtrl m n start resume) p (F.RESTORE_CTRL_START n.val).idx))) :
    Answers c s post := by
  have hclear : clearOnly (F.RESTORE_CTRL_START n.val).idx = true := by fin_cases n <;> decide +kernel
  have hwindow : ((F.RESTORE_CTRL_START n.val).idx == F.PBOOK_CFG_RL_WINDOW.idx) = false := by fin_cases n <;> decide
  have hserved := served_of_on hon (F.RESTORE_CTRL_START n.val).idx
  rw [regField_clearOnly s p f 1 (hi ▸ hclear), hi] at hc
  refine answers_of_write hc hp (fun x => ?_) hserved ?_
  · fin_cases n <;> rfl
  · rw [trigger_restoreCtrl, hstart, hresume]
    exact h _ (regsOnly_committed s p _ hwindow) fun g hg => rd_committed_clearOnly _ hclear hserved hg

theorem answers_restoreCtrlStart {post : State → State → Prop} (h : ∀ m, RegsOnly s m → (∀ g, steadyField g = true → rd m g = rd s g) →
      post (pathKeeps (restoreCtrl m n true false) p (F.RESTORE_CTRL_START n.val).idx) (finish (pathKeeps (restoreCtrl m n true false) p (F.RESTORE_CTRL_START n.val).idx))) :
    Answers (.restoreCtrlStart p n) s post :=
  answers_restoreCtrl hp hon (f := F.RESTORE_CTRL_START n.val) rfl rfl (by fin_cases n <;> decide) (by fin_cases n <;> decide) h
theorem answers_restoreCtrlResume {post : State → State → Prop} (h : ∀ m, RegsOnly s m → (∀ g, steadyField g = true → rd m g = rd s g) →
      post (pathKeeps (restoreCtrl m n false true) p (F.RESTORE_CTRL_START n.val).idx) (finish (pathKeeps (restoreCtrl m n false true) p (F.RESTORE_CTRL_START n.val).idx))) :
    Answers (.restoreCtrlResume p n) s post :=
  answers_restoreCtrl hp hon (f := F.RESTORE_CTRL_RESUME n.val) rfl rfl (by fin_cases n <;> decide) (by fin_cases n <;> decide) h
end

/-- A command that the stage may not take leaves event 0x00B. -/
theorem ignored_leaves {s m : State} (h : RegsOnly s m) (p : Path) (i : Nat) :
    (⟨0x00B, 0, 0, modeCode s.modes.mode + 4088⟩ : Ev) ∈ (pathKeeps (ignored m srcRegister) p i).evs ∧ (finish (pathKeeps (ignored m srcRegister) p i)).modes = s.modes
      ∧ (finish (pathKeeps (ignored m srcRegister) p i)).flash = s.flash ∧ (finish (pathKeeps (ignored m srcRegister) p i)).ledger = s.ledger := by
  obtain ⟨hmodes, -, hlogged⟩ := ignored_pathKeeps h p i
  have hstill := still_finish_pathKeeps (ignored m srcRegister) p i
  exact ⟨hlogged, hmodes, hstill.flash.trans h.flash, hstill.ledger.trans h.ledger⟩

section
variable {s : State} {p : Path} {n : Stage} (hp : pathWrites s p (F.RESTORE_CTRL_START n.val).idx = true) (hon : mainOff s = false)
include hp hon

theorem restoreCtrlStart_starts (hs : startable s n = true) :
    Answers (.restoreCtrlStart p n) s (fun u t => (⟨0x002, 0, n.val, 28⟩ : Ev) ∈ u.evs
      ∧ ((blockEntries s n (houseLun s n 0) (fsys s n).houseA ++ blockEntries s n (houseLun s n 1) (fsys s n).houseB).any (flashMine s n) = true →
        stageSt t n = .restoring ∧ (rst t n).phase = .house) ∧ t.dram.lines = s.dram.lines) := by
  refine answers_restoreCtrlStart hp hon fun m hm hf => ?_
  have hsealed : stageSt m n = .sealed ∧ (rst m n).waitResume = false := by
    have hm' : startable m n = true := (startable_of_regs hm hf n).trans hs
    simp only [startable, Bool.and_eq_true, decide_eq_true_eq, Bool.not_eq_true'] at hm'
    obtain ⟨⟨⟨⟨⟨⟨⟨⟨hst, -⟩, -⟩, -⟩, -⟩, -⟩, hwait⟩, -⟩, -⟩ := hm'
    exact ⟨hst, hwait⟩
  obtain ⟨hst, hwait⟩ := hsealed
  have hpre : Proceeds s (stageTo m n .restoring) := (Proceeds.of_regs hm hf).stageTo n _
  have hgo := proceeds_restoreStart hwait
  rw [restoreCtrl_start, startable_of_regs hm hf, hs, if_pos rfl]
  have hstill := still_finish_pathKeeps (restoreStart m n) p (F.RESTORE_CTRL_START n.val).idx
  refine ⟨?_, fun hany => ?_, ?_⟩
  · rw [evs_pathKeeps]
    have hlogged := stageTo_logs (s := m) (n := n) (x := .restoring) (by rw [hst]; decide)
    rw [hst] at hlogged
    exact hgo.evs hlogged
  · have hany : (houseEntries (stageTo m n .restoring) n).any (flashMine (stageTo m n .restoring) n) = true := by
      rw [houseEntries_proceeds hpre, flashMine_proceeds hpre]
      exact hany
    rw [stageSt, hstill.modes, rst, hstill.restore]
    exact restoreStart_house hwait hany
  · exact ((congrArg Dram.lines hstill.dram :).trans hgo.lines).trans hpre.lines

theorem restoreCtrlStart_ignored (hs : startable s n = false) :
    Answers (.restoreCtrlStart p n) s (fun u t => (⟨0x00B, 0, 0, modeCode s.modes.mode + 4088⟩ : Ev) ∈ u.evs ∧ t.modes = s.modes ∧ t.flash = s.flash ∧ t.ledger = s.ledger) := by
  refine answers_restoreCtrlStart hp hon fun m hm hf => ?_
  rw [restoreCtrl_start, startable_of_regs hm hf, hs, if_neg Bool.false_ne_true]
  exact ignored_leaves hm p _

theorem restoreCtrlResume_ends (hs : (rst s n).waitResume = true) :
    Answers (.restoreCtrlResume p n) s (fun _ t => (rst t n).waitResume = false ∧ rd t (F.RESTORE_STATUS_WAIT_RESUME n.val) = 0) := by
  refine answers_restoreCtrlResume hp hon fun m hm hf => ?_
  have hwait : (rst m n).waitResume = true := by rw [rst, hm.restore]; exact hs
  rw [restoreCtrl_resume, if_pos hwait]
  have hgo := proceeds_interResume m n
  have hstill := still_finish_pathKeeps (interResume m n) p (F.RESTORE_CTRL_START n.val).idx
  obtain ⟨hended, hzero⟩ := resumeBegun_waits m n
  refine ⟨?_, ?_⟩
  · rw [rst, hstill.restore]
    exact (hgo.waits n).trans hended
  · obtain ⟨hfield, -⟩ := restoreFields_stage n
    rw [rd_finish_pathKeeps _ _ _ (restoreFields_path _ hfield), hgo.fields _ hfield, hzero]

theorem restoreCtrlResume_ignored (hs : (rst s n).waitResume = false) :
    Answers (.restoreCtrlResume p n) s (fun u t => (⟨0x00B, 0, 0, modeCode s.modes.mode + 4088⟩ : Ev) ∈ u.evs ∧ t.modes = s.modes ∧ t.flash = s.flash ∧ t.ledger = s.ledger) := by
  refine answers_restoreCtrlResume hp hon fun m hm hf => ?_
  have hwait : ¬ (rst m n).waitResume = true := by rw [rst, hm.restore]; exact ne_true_of_eq_false hs
  rw [restoreCtrl_resume, if_neg hwait]
  exact ignored_leaves hm p _
end

/-- Settles O44: the drain counts each sample of the ring once, and what a restore does as it proceeds leaves stored lines, house blocks and waits as its start has set them. -/
theorem heatAndRestoreControl : Obligations.HeatAndRestoreControl := by
  unfold Obligations.HeatAndRestoreControl
  intro s n
  exact ⟨heatDrain_answers, heatHalving_answers, fun p hp hon => ⟨restoreCtrlStart_starts hp hon, restoreCtrlStart_ignored hp hon,
    restoreCtrlResume_ends hp hon, restoreCtrlResume_ignored hp hon⟩⟩

end Sys2Proof.Machine
end

section
/-! Proofs: a codeword decrypts under the key it was made with, and its header reads back (R227, R228, R401 to R403). -/

namespace Sys2Proof.Machine

/-! Bytes of numbers (R9). -/

@[simp] theorem length_leBytes (n v : Nat) : (leBytes n v).length = n := by
  induction n generalizing v with
  | zero => rfl
  | succ n ih => rw [leBytes, List.length_cons, ih]
theorem leNat_leBytes (n v : Nat) : leNat (leBytes n v) = v % 2 ^ (8 * n) := by
  induction n generalizing v with
  | zero => rw [leBytes, leNat, Nat.mul_zero, pow_zero, Nat.mod_one]
  | succ n ih =>
    rw [leBytes, leNat, ih, BitVec.toNat_ofNat, Nat.mul_succ, Nat.add_comm (8 * n), pow_add, Nat.mod_mul]
    rfl

/-! The header (R227). -/

theorem crcByteMsb_lt {c : Nat} (hc : c < 2 ^ 16) (b : Byte) : crcByteMsb 16 0x1021 c b < 2 ^ 16 := by
  have hfold : ∀ (is : List Nat) (c : Nat), c < 2 ^ 16 →
      is.foldl (fun c _ => if c / 2 ^ (16 - 1) % 2 = 1 then ((c * 2) % 2 ^ 16) ^^^ 0x1021 else (c * 2) % 2 ^ 16) c < 2 ^ 16 := by
    intro is
    induction is with
    | nil => exact fun _ h => h
    | cons i is ih =>
      intro c _
      refine ih _ ?_
      dsimp only
      have hshift : c * 2 % 2 ^ 16 < 2 ^ 16 := Nat.mod_lt _ (by decide)
      split
      · exact Nat.xor_lt_two_pow hshift (by decide)
      · exact hshift
  have hb : b.toNat * 2 ^ (16 - 8) < 2 ^ 16 := by have := b.isLt; omega
  exact hfold _ _ (Nat.xor_lt_two_pow hc hb)
theorem crc16_lt (bs : List Byte) : crc16 bs < 2 ^ 16 := by
  have hfold : ∀ (bs : List Byte) (c : Nat), c < 2 ^ 16 → bs.foldl (crcByteMsb 16 0x1021) c < 2 ^ 16 := by
    intro bs
    induction bs with
    | nil => exact fun _ h => h
    | cons b bs ih => exact fun c hc => ih _ (crcByteMsb_lt hc b)
  exact hfold bs _ (by decide)

section
variable (n : Stage) (kind number gen seq flags : Nat)

/-- The header without its check. -/
def headerBody : List Byte := leBytes 4 (number % 2 ^ 29 + n.val * 2 ^ 29) ++ leBytes 4 gen ++ leBytes 4 seq ++ leBytes 1 kind ++ leBytes 1 flags

/-- The parts of the header stand where its fields are read. -/
theorem frameHeader_parts : let h := frameHeader n kind number gen seq flags
    slice h 0 4 = leBytes 4 (number % 2 ^ 29 + n.val * 2 ^ 29) ∧ slice h 4 4 = leBytes 4 gen ∧ slice h 8 4 = leBytes 4 seq ∧ slice h 12 1 = leBytes 1 kind
      ∧ slice h 13 1 = leBytes 1 flags ∧ slice h 0 14 = headerBody n kind number gen seq flags ∧ slice h 14 2 = leBytes 2 (crc16 (headerBody n kind number gen seq flags)) :=
  ⟨rfl, rfl, rfl, rfl, rfl, rfl, rfl⟩

/-- The first word of the header: the number below, the stage above it. -/
theorem frameHeader_word : leNat (slice (frameHeader n kind number gen seq flags) 0 4) = number % 2 ^ 29 + n.val * 2 ^ 29 := by
  have hn := n.isLt
  rw [(frameHeader_parts n kind number gen seq flags).1, leNat_leBytes]
  omega

theorem hOk_frameHeader : hOk (frameHeader n kind number gen seq flags) = true := by
  obtain ⟨-, -, -, -, -, hbody, hcheck⟩ := frameHeader_parts n kind number gen seq flags
  have hlen : (frameHeader n kind number gen seq flags).length = 16 := rfl
  have htop : bitOf (number % 2 ^ 29 + n.val * 2 ^ 29) 31 = false := by
    have hn := n.isLt
    rw [bitOf, beq_eq_false_iff_ne]
    omega
  rw [hOk, frameHeader_word, htop, hlen, hbody, hcheck, leNat_leBytes, show 8 * 2 = 16 from rfl, Nat.mod_eq_of_lt (crc16_lt _)]
  simp

theorem headerFields_frameHeader : let h := frameHeader n kind number gen seq flags
    hNumber h = number % 2 ^ 29 ∧ hStage h = n.val ∧ hGen h = gen % 2 ^ 32 ∧ hSeq h = seq % 2 ^ 32 ∧ hKind h = kind % 256 ∧ hFlags h = flags % 256 := by
  obtain ⟨-, hgen, hseq, hkind, hflags, -, -⟩ := frameHeader_parts n kind number gen seq flags
  have hword := frameHeader_word n kind number gen seq flags
  have hn := n.isLt
  refine ⟨?_, ?_, ?_, ?_, ?_, ?_⟩
  · rw [hNumber, hword, bits]; omega
  · rw [hStage, hword, bits]; omega
  · exact (congrArg leNat hgen).trans (leNat_leBytes 4 gen)
  · exact (congrArg leNat hseq).trans (leNat_leBytes 4 seq)
  · exact (congrArg leNat hkind).trans (leNat_leBytes 1 kind)
  · exact (congrArg leNat hflags).trans (leNat_leBytes 1 flags)
end

/-! The key stream: every block of it has 16 bytes (FIPS 197). -/

@[simp] theorem length_xorBytes (a b : List Byte) : (xorBytes a b).length = min a.length b.length := by simp [xorBytes]

/-- One more word of the expanded key, the newest word first. -/
def scheduleStep (wr : List (List Byte) × Byte) (j : Nat) : List (List Byte) × Byte :=
  let i := j + 8
  let prev := wr.1.getD 0 []
  let t := if i % 8 = 0 then
      match (prev.drop 1 ++ prev.take 1).map aesSub with
      | b :: bs => (b ^^^ wr.2) :: bs
      | [] => []
    else if i % 8 = 4 then prev.map aesSub else prev
  (xorBytes (wr.1.getD 7 []) t :: wr.1, if i % 8 = 0 then gfDouble wr.2 else wr.2)
/-- Words of an expanded key: `k` of them, four bytes each. -/
def FourByteWords (k : Nat) (ws : List (List Byte)) : Prop := ws.length = k ∧ ∀ w ∈ ws, w.length = 4

theorem FourByteWords.getD {k i : Nat} {ws : List (List Byte)} (h : FourByteWords k ws) (hi : i < k) : (ws.getD i []).length = 4 := by
  obtain ⟨hlen, hws⟩ := h
  rw [List.getD_eq_getElem _ _ (hlen ▸ hi)]
  exact hws _ (List.getElem_mem _)
theorem FourByteWords.step {k : Nat} {wr : List (List Byte) × Byte} (hk : 8 ≤ k) (h : FourByteWords k wr.1) (j : Nat) : FourByteWords (k + 1) (scheduleStep wr j).1 := by
  have hprev : (wr.1.getD 0 []).length = 4 := h.getD (by omega)
  have hold : (wr.1.getD 7 []).length = 4 := h.getD (by omega)
  refine ⟨congrArg (· + 1) h.1, List.forall_mem_cons.mpr ⟨?_, h.2⟩⟩
  rw [length_xorBytes, hold]
  split
  · split
    · next heq =>
      have hlen := congrArg List.length heq
      simp only [List.length_map, List.length_append, List.length_drop, List.length_take, List.length_cons, hprev] at hlen
      simp only [List.length_cons]
      omega
    · next heq =>
      have hlen := congrArg List.length heq
      simp only [List.length_map, List.length_append, List.length_drop, List.length_take, List.length_nil, hprev] at hlen
      omega
  · split
    · rw [List.length_map, hprev, min_self]
    · rw [hprev, min_self]
theorem FourByteWords.fold (js : List Nat) {k : Nat} {wr : List (List Byte) × Byte} (hk : 8 ≤ k) (h : FourByteWords k wr.1) :
    FourByteWords (k + js.length) (js.foldl scheduleStep wr).1 := by
  induction js generalizing k wr with
  | nil => exact h
  | cons j js ih =>
    rw [List.foldl_cons, List.length_cons, Nat.add_comm js.length, ← Nat.add_assoc]
    exact ih (by omega) (h.step hk j)

/-- A 256-bit key expands to 60 words. -/
theorem aesKeySchedule_words {key : List Byte} (hkey : key.length = 32) : FourByteWords 60 (aesKeySchedule key) := by
  have hstart : FourByteWords 8 ((List.range 8).map fun i => slice key (4 * i) 4).reverse := by
    refine ⟨by simp, fun w hw => ?_⟩
    obtain ⟨i, hi, rfl⟩ := List.mem_map.mp (List.mem_reverse.mp hw)
    have hlt := List.mem_range.mp hi
    rw [slice, List.length_take, List.length_drop, hkey]
    omega
  obtain ⟨hlen, hws⟩ := FourByteWords.fold (List.range 52) (wr := (((List.range 8).map fun i => slice key (4 * i) 4).reverse, 1#8)) le_rfl hstart
  have hgo : aesKeySchedule key = ((List.range 52).foldl scheduleStep (((List.range 8).map fun i => slice key (4 * i) 4).reverse, 1#8)).1.reverse := rfl
  rw [hgo]
  exact ⟨by rw [List.length_reverse, hlen, List.length_range], fun w hw => hws w (List.mem_reverse.mp hw)⟩

theorem length_aesEncrypt {key : List Byte} (hkey : key.length = 32) (block : List Byte) : (aesEncrypt key block).length = 16 := by
  obtain ⟨hlen, hws⟩ := aesKeySchedule_words hkey
  have hround : (aesRoundKey (aesKeySchedule key) 14).length = 16 := by
    have hall : ∀ x ∈ (((aesKeySchedule key).drop (4 * 14)).take 4).map List.length, x = 4 := by
      intro x hx
      obtain ⟨w, hw, rfl⟩ := List.mem_map.mp hx
      exact hws w (List.mem_of_mem_drop (List.mem_of_mem_take hw))
    rw [aesRoundKey, List.length_flatten, List.sum_eq_card_nsmul _ _ hall]
    simp [hlen]
  have hrows : ∀ st : List Byte, (aesShiftRows st).length = 16 := fun st => by simp [aesShiftRows]
  rw [aesEncrypt, length_xorBytes, hrows, hround, min_self]

/-! The key stream applied twice gives the byte string back (SP 800-38D). -/

theorem xorBytes_twice {a k : List Byte} (h : a.length ≤ k.length) : xorBytes (xorBytes a k) k = a := by
  refine List.ext_getElem (by simp only [length_xorBytes]; omega) fun i _ _ => ?_
  simp [xorBytes]

/-- A key stream of 16-byte blocks applied to a byte string. -/
def streamed (blocks : Nat → List Byte) (bs : List Byte) : List Byte :=
  (List.range ((bs.length + 15) / 16)).flatMap fun i => xorBytes (slice bs (16 * i) 16) (blocks i)

theorem gcmCtr_streamed (key iv : List Byte) (c : Nat) (bs : List Byte) : gcmCtr key iv c bs = streamed (fun i => aesEncrypt key (iv ++ beBytes 4 (c + i))) bs := rfl
theorem streamed_nil (blocks : Nat → List Byte) : streamed blocks [] = [] := rfl
/-- The first block, then the rest under the rest of the stream. -/
theorem streamed_cons (blocks : Nat → List Byte) {bs : List Byte} (h : bs ≠ []) :
    streamed blocks bs = xorBytes (bs.take 16) (blocks 0) ++ streamed (fun i => blocks (i + 1)) (bs.drop 16) := by
  have hpos := List.length_pos_of_ne_nil h
  have hcount : (bs.length + 15) / 16 = ((bs.drop 16).length + 15) / 16 + 1 := by rw [List.length_drop]; omega
  have hrest : ∀ i, slice bs (16 * (i + 1)) 16 = slice (bs.drop 16) (16 * i) 16 := fun i => by
    rw [slice, slice, List.drop_drop, Nat.mul_add, Nat.mul_one, Nat.add_comm]
  rw [streamed, hcount, List.range_succ_eq_map, List.flatMap_cons, List.flatMap_map]
  simp only [hrest, Nat.mul_zero, Nat.succ_eq_add_one]
  rfl

theorem streamed_twice {blocks : Nat → List Byte} (hb : ∀ i, (blocks i).length = 16) (bs : List Byte) : streamed blocks (streamed blocks bs) = bs := by
  by_cases h : bs = []
  · rw [h, streamed_nil, streamed_nil]
  · have hpos := List.length_pos_of_ne_nil h
    have hfirst : (xorBytes (bs.take 16) (blocks 0)).length = min 16 bs.length := by
      rw [length_xorBytes, List.length_take, hb]
      omega
    have hrest : 16 ≤ bs.length ∨ streamed (fun i => blocks (i + 1)) (bs.drop 16) = [] := by
      rcases Nat.lt_or_ge bs.length 16 with hlt | hge
      · exact .inr (by rw [List.drop_eq_nil_of_le hlt.le, streamed_nil])
      · exact .inl hge
    have hne : xorBytes (bs.take 16) (blocks 0) ++ streamed (fun i => blocks (i + 1)) (bs.drop 16) ≠ [] := by
      refine List.ne_nil_of_length_pos ?_
      rw [List.length_append, hfirst]
      omega
    have htake : (xorBytes (bs.take 16) (blocks 0) ++ streamed (fun i => blocks (i + 1)) (bs.drop 16)).take 16 = xorBytes (bs.take 16) (blocks 0) := by
      rcases hrest with hge | hnil
      · exact List.take_left' (by rw [hfirst, min_eq_left hge])
      · rw [hnil, List.append_nil, List.take_of_length_le (by rw [hfirst]; exact min_le_left ..)]
    have hdrop : (xorBytes (bs.take 16) (blocks 0) ++ streamed (fun i => blocks (i + 1)) (bs.drop 16)).drop 16 = streamed (fun i => blocks (i + 1)) (bs.drop 16) := by
      rcases hrest with hge | hnil
      · exact List.drop_left' (by rw [hfirst, min_eq_left hge])
      · rw [hnil, List.append_nil, List.drop_of_length_le (by rw [hfirst]; exact min_le_left ..)]
    rw [streamed_cons blocks h, streamed_cons blocks hne, htake, hdrop, xorBytes_twice (by rw [List.length_take, hb]; exact min_le_left ..),
      streamed_twice (fun i => hb (i + 1)) (bs.drop 16), List.take_append_drop]
termination_by bs.length
decreasing_by rw [List.length_drop]; omega

theorem gcmDecrypt_gcmEncrypt {key : List Byte} (hkey : key.length = 32) (iv aad pt : List Byte) :
    gcmDecrypt key iv aad (gcmEncrypt key iv aad pt).1 (gcmEncrypt key iv aad pt).2 = some pt := by
  have htwice : gcmCtr key iv 2 (gcmCtr key iv 2 pt) = pt := by
    rw [gcmCtr_streamed, gcmCtr_streamed]
    exact streamed_twice (fun i => length_aesEncrypt hkey _) pt
  rw [gcmDecrypt, gcmEncrypt, if_pos rfl, htwice]

theorem length_keyBytes (k : BitVec 256) : (keyBytes k).length = 32 := length_leBytes ..

/-- A codeword opens under the key it was made with. -/
theorem openCodeword_mkCodeword {s : State} {n : Stage} {k : BitVec 256} (hk : keyAt s (1 + n.val) = some k) (kind number gen seq flags : Nat) (payload : List Byte) :
    openCodeword s n (mkCodeword s n kind number gen seq flags payload) = some payload := by
  simp only [openCodeword, mkCodeword, hk, Option.bind_some, Option.getD_some]
  exact gcmDecrypt_gcmEncrypt (length_keyBytes k) _ _ payload

/-- Settles O41: the cipher's round trip and the header's. -/
theorem codewordRoundTrip : Obligations.CodewordRoundTrip := by
  unfold Obligations.CodewordRoundTrip
  intro s n k kind number gen seq flags payload hk
  exact ⟨openCodeword_mkCodeword hk .., hOk_frameHeader .., headerFields_frameHeader ..⟩

end Sys2Proof.Machine
end

section
/-! Proofs: the instructions of the micro-programs (R219 to R221). -/

namespace Sys2Proof.Machine

/-! A channel and a run of it replaced. -/

@[simp] theorem fch_setFch (s : State) (c : Nat) (x : FlashChan) : fch (setFch s c x) c = x := mget_mset_self _ _ _ _

/-- The runs of a channel, those of the given tag, entry and soft step replaced. -/
def runsPut (s : State) (c : Nat) (r r' : MpRun) : List MpRun :=
  (fch s c).runs.map (fun q => if q.tag == r.tag && q.entry == r.entry && q.soft == r.soft then r' else q)

/-- Stored pages, stages, DRAM, ledger and time stand. -/
abbrev Calm (s t : State) : Prop := t.flash.pages = s.flash.pages ∧ t.modes = s.modes ∧ SameDram s t ∧ t.ledger = s.ledger ∧ t.now = s.now

theorem Calm.of_finish {s u : State} (h : Calm s u) : Calm s (finish u) := by
  obtain ⟨hpages, hmodes, hdram, hledger, hnow⟩ := h
  have hquiet := quiet_finish u
  exact ⟨by rw [hquiet.flash, hpages], hquiet.modes.trans hmodes, hquiet.dram.trans hdram, hquiet.ledger.trans hledger, hquiet.now.trans hnow⟩

/-- What an instruction has done to its channel: the run stands as it has left it, these messages are sent, the rest stands. -/
structure Drives (s : State) (c : Nat) (r r' : MpRun) (sent : List Output) (u : State) : Prop where
  runs : (fch u c).runs = runsPut s c r r'
  out : u.out = s.out ++ sent
  calm : Calm s u

theorem fch_mpSet (s : State) (c : Nat) (r : MpRun) : fch (mpSet s c r) c = { fch s c with runs := runsPut s c r r } := fch_setFch _ _ _

/-- Two runs that tag, entry and soft step tell to be the same. -/
abbrev SameRun (r r' : MpRun) : Prop := r'.tag = r.tag ∧ r'.entry = r.entry ∧ r'.soft = r.soft

theorem drives_mpSet (s : State) (c : Nat) {r r' : MpRun} (h : SameRun r r') : Drives s c r r' [] (mpSet s c r') where
  runs := by
    obtain ⟨htag, hentry, hsoft⟩ := h
    rw [fch_mpSet, runsPut, runsPut, htag, hentry, hsoft]
  out := (List.append_nil _).symm
  calm := ⟨rfl, rfl, rfl, rfl, rfl⟩

theorem drives_mpCycle (s : State) (c : Nat) {r r' : MpRun} (h : SameRun r r') (kind : Nat) (bs : List Byte) :
    Drives s c r (mpNext r') [.flashCycle c kind bs] (mpCycle s c r' kind bs) where
  runs := (drives_mpSet (emit s (.flashCycle c kind bs)) c (r := r) (r' := mpNext r') h).runs
  out := rfl
  calm := ⟨rfl, rfl, rfl, rfl, rfl⟩

/-- An instruction that starts from a state which differs in the buffers of the channel or in the free values only. -/
theorem Drives.after {s m u : State} {c : Nat} {r r' : MpRun} {sent : List Output} (h : Drives m c r r' sent u)
    (hruns : (fch m c).runs = (fch s c).runs) (hout : m.out = s.out) (hcalm : Calm s m) : Drives s c r r' sent u := by
  obtain ⟨hpages, hmodes, hdram, hledger, hnow⟩ := h.calm
  obtain ⟨hpages', hmodes', hdram', hledger', hnow'⟩ := hcalm
  exact ⟨by rw [h.runs, runsPut, runsPut, hruns], by rw [h.out, hout],
    hpages.trans hpages', hmodes.trans hmodes', hdram.trans hdram', hledger.trans hledger', hnow.trans hnow'⟩

theorem mpDo_of_mpAt {s : State} {c op : Nat} {r : MpRun} {w : Nat} (h : mpAt s c op = some (r, w)) (f : State → MpRun → Nat → State) :
    mpDo s c op f = f s r w := by
  rw [mpDo, h]

/-! The instructions. -/

theorem freshBytes_snd (s : State) (n : Nat) : (freshBytes s n).2 = { s with freeIdx := s.freeIdx + n } := rfl
/-- The bytes of a page take free values and nothing else. -/
theorem pageBytes_takes (s : State) (slots : List Placed) : ∃ k, (pageBytes s slots).2 = { s with freeIdx := k } := by
  have hfold : ∀ (slots : List Placed) (a : List Byte × State), (∃ k, a.2 = { s with freeIdx := k }) → ∃ k,
      (slots.foldl (fun (a : List Byte × State) p =>
        let (par, s) := freshBytes a.2 464
        (a.1 ++ p.cw.body ++ p.cw.header ++ p.cw.tag ++ par, s)) a).2 = { s with freeIdx := k } := by
    intro slots
    induction slots with
    | nil => exact fun _ h => h
    | cons p slots ih =>
      rintro ⟨bs, t⟩ ⟨k, hk⟩
      exact ih _ ⟨t.freeIdx + 464, by rw [freshBytes_snd, show t = _ from hk]⟩
  exact hfold slots ([], s) ⟨s.freeIdx, rfl⟩

theorem mpDin_page {s : State} {c : Nat} {r : MpRun} {w : Nat} (h : mpAt s c 0x03 = some (r, w)) (hpage : bits w 0 3 = 0) :
    ∃ bs : List Byte, bs.length ≤ bits w 3 21 ∧ Drives s c r (mpNext r) [.flashCycle c 3 bs] (mpDin s c) := by
  rw [mpDin, mpDo_of_mpAt h]
  dsimp only
  rw [if_neg (not_not_intro hpage)]
  split
  next slots _ _ =>
    obtain ⟨k, hk⟩ := pageBytes_takes s slots
    exact ⟨_, List.length_take_le _ _, (drives_mpCycle _ c ⟨rfl, rfl, rfl⟩ 3 _).after (by rw [hk]; rfl) (by rw [hk]) (by rw [hk]; exact ⟨rfl, rfl, rfl, rfl, rfl⟩)⟩
  · exact ⟨_, List.length_take_le _ _, drives_mpCycle s c ⟨rfl, rfl, rfl⟩ 3 _⟩

theorem mpDin_feature {s : State} {c : Nat} {r : MpRun} {w : Nat} (h : mpAt s c 0x03 = some (r, w)) (hfeature : bits w 0 3 ≠ 0) :
    mpDin s c = mpCycle s c r 3 ((fch s c).featureBuf.take (bits w 3 21)) := by
  rw [mpDin, mpDo_of_mpAt h]
  exact if_pos hfeature

theorem mpDout_drives {s : State} {c : Nat} {r : MpRun} {w : Nat} (h : mpAt s c 0x04 = some (r, w)) (bs : List Byte) :
    Drives s c r (mpNext r) [.flashCycle c 4 []] (mpDout s c bs) := by
  rw [mpDout, mpDo_of_mpAt h]
  refine (drives_mpCycle _ c ⟨rfl, rfl, rfl⟩ 4 []).after ?_ rfl ⟨rfl, rfl, rfl, rfl, rfl⟩
  rw [fch_setFch]
  split <;> rfl
theorem fch_mpDout {s : State} {c : Nat} {r : MpRun} {w : Nat} (h : mpAt s c 0x04 = some (r, w)) (bs : List Byte) :
    if bits w 0 3 = 0 then (fch (mpDout s c bs) c).pageBuf = bs.take (bits w 3 21) ∧ (fch (mpDout s c bs) c).featureBuf = (fch s c).featureBuf
    else (fch (mpDout s c bs) c).featureBuf = bs.take (bits w 3 21) ∧ (fch (mpDout s c bs) c).pageBuf = (fch s c).pageBuf := by
  rw [mpDout, mpDo_of_mpAt h]
  dsimp only
  have hbufs : ∀ (m : State), (fch (mpCycle m c r 4 []) c).pageBuf = (fch m c).pageBuf ∧ (fch (mpCycle m c r 4 []) c).featureBuf = (fch m c).featureBuf := fun m => by
    rw [mpCycle, fch_mpSet]
    exact ⟨rfl, rfl⟩
  split
  all_goals
    rw [(hbufs _).1, (hbufs _).2, fch_setFch]
    exact ⟨rfl, rfl⟩

theorem mpLoop_set {s : State} {c : Nat} {r : MpRun} {w k : Nat} (h : mpAt s c 0x0A = some (r, w))
    (hcount : (mfind r.loops (mpWord s r).1).getD (bits w 0 8) = k + 1) :
    mpLoop s c = mpSet s c (if k = 0 then mpNext { r with loops := mdel r.loops (mpWord s r).1 }
      else mpJump s { r with loops := mput r.loops (mpWord s r).1 k } (bits w 8 12)) := by
  rw [mpLoop, mpDo_of_mpAt h]
  dsimp only
  rw [hcount, if_neg (Nat.succ_ne_zero k), Nat.add_sub_cancel]

theorem drives_ite (s : State) (c : Nat) {r a b : MpRun} (p : Prop) [Decidable p] (ha : SameRun r a) (hb : SameRun r b) :
    Drives s c r (if p then a else b) [] (mpSet s c (if p then a else b)) := by
  split
  · exact drives_mpSet s c ha
  · exact drives_mpSet s c hb

/-! What each answers. -/

theorem Drives.answers {i : Instr} {s u : State} {c : Nat} {r r' : MpRun} {sent : List Output} (h : Drives s c r r' sent u) (hexec : exec i s = done u) :
    Answers i s (fun u t => u.out = s.out ++ sent ∧ (fch t c).runs = runsPut s c r r' ∧ Calm s t) :=
  ⟨u, hexec, h.out, by rw [fch_finish, h.runs], h.calm.of_finish⟩
/-- An instruction that sends nothing. -/
theorem Drives.answers_still {i : Instr} {s u : State} {c : Nat} {r r' : MpRun} (h : Drives s c r r' [] u) (hexec : exec i s = done u) :
    Answers i s (fun u t => u.out = s.out ∧ (fch t c).runs = runsPut s c r r' ∧ Calm s t) := by
  obtain ⟨u, hu, hout, hrest⟩ := h.answers hexec
  exact ⟨u, hu, hout.trans (List.append_nil _), hrest⟩

/-- Settles O34: each opcode by the one update it makes of its channel's run, with a cycle or without. -/
theorem microInstructions : Obligations.MicroInstructions := by
  unfold Obligations.MicroInstructions
  intro s c r w
  have hcycle := fun kind bs => drives_mpCycle s c (r := r) (r' := r) ⟨rfl, rfl, rfl⟩ kind bs
  refine ⟨fun h => ?_, fun h => ?_, fun h hfeature => ?_, fun h hpage => ?_, fun bs h => ?_, fun h => ?_, fun h => ?_, fun status h => ?_, fun h => ?_,
    fun h => ?_, fun k h hcount => ?_⟩
  · exact (hcycle 1 (leBytes 1 w)).answers (congrArg done (mpDo_of_mpAt h _))
  · exact (hcycle 2 (mpAddr r w)).answers (congrArg done (mpDo_of_mpAt h _))
  · exact (hcycle 3 _).answers (congrArg done (mpDin_feature h hfeature))
  · obtain ⟨bs, hlen, hdin⟩ := mpDin_page h hpage
    obtain ⟨u, hu, hout, hrest⟩ := hdin.answers (i := .mpDin c) rfl
    exact ⟨u, hu, ⟨bs, hlen, hout⟩, hrest⟩
  · obtain ⟨hruns, -, hcalm⟩ := mpDout_drives h bs
    refine ⟨mpDout s c bs, rfl, ?_, hcalm.of_finish, ?_⟩
    · rw [fch_finish, hruns]
      rfl
    · rw [fch_finish]
      exact fch_mpDout h bs
  · have hwaits := drives_mpSet s c (r := r) (r' := { r with wait := .ready (s.now + nsUnits (100 * bits w 0 24)) }) ⟨rfl, rfl, rfl⟩
    exact hwaits.answers_still (congrArg done (mpDo_of_mpAt h _))
  · have hwaits := drives_mpSet s c (r := r) (r' := { r with wait := .delay (s.now + nsUnits (bits w 0 24)) }) ⟨rfl, rfl, rfl⟩
    exact hwaits.answers_still (congrArg done (mpDo_of_mpAt h _))
  · have hlatch := drives_mpCycle s c (r := r) (r' := { r with status := status % 256 }) ⟨rfl, rfl, rfl⟩ 7 (leBytes 1 w)
    exact hlatch.answers (congrArg done (mpDo_of_mpAt h _))
  · have hbranch := drives_ite s c (r := r) (a := mpJump s r (bits w 16 12)) (b := mpNext r)
      ((decide (r.status &&& bits w 0 8 = bits w 8 8) != bitOf w 28) = true) ⟨rfl, rfl, rfl⟩ ⟨rfl, rfl, rfl⟩
    obtain ⟨u, hu, hout, hruns, hcalm⟩ := hbranch.answers_still (i := .mpBranch c) (congrArg done (mpDo_of_mpAt h _))
    exact ⟨u, hu, hout, hcalm, hruns⟩
  · exact (hcycle 9 _).answers (congrArg done (mpDo_of_mpAt h _))
  · have hloop := drives_ite s c (r := r) (a := mpNext { r with loops := mdel r.loops (mpWord s r).1 })
      (b := mpJump s { r with loops := mput r.loops (mpWord s r).1 k } (bits w 8 12)) (k = 0) ⟨rfl, rfl, rfl⟩ ⟨rfl, rfl, rfl⟩
    obtain ⟨u, hu, hout, hruns, hcalm⟩ := hloop.answers_still (i := .mpLoop c) (congrArg done (mpLoop_set h hcount))
    exact ⟨u, hu, hout, hcalm, hruns⟩

end Sys2Proof.Machine
end

section
/-! Proofs: a channel trains or is lost, and a map checkpoint begins (R212, R239, R406). -/

namespace Sys2Proof.Machine

/-! What training writes, and what it reads. -/

/-- The fields that a training's writes go to before the rates of the stage follow. -/
def trainWrites (c : Nat) : List Fld :=
  [F.FL_CH_STATUS_TRAINED c, F.FL_CH_STATUS_LOST c, F.CIPH_STATUS_LANE_FAILED, F.FL_MP_STATUS_CHANNEL, F.FL_MP_STATUS_ENTRY, F.FL_MP_STATUS_WORD,
    F.FL_MP_STATUS_CODE]
/-- The registers that a training clears. -/
def trainClears (c : Nat) : List Nat := [(F.FL_CH_DECODE_RETRY_READS c).idx, (F.FL_CH_CMD_STALE c).idx]
/-- The fields that a training's decisions read. -/
def trainReads (c : Nat) (n : Stage) : List Fld :=
  [F.STAGE_BIND_BOUND n.val, F.STAGE_BIND_FLASH n.val, F.STAGE_BIND_MP_ID n.val, F.FL_CH_CFG_RATE c]
/-- The fields of a channel that its training leaves behind. -/
def trainShows (c : Nat) : List Fld :=
  [F.FL_CH_STATUS_TRAINED c, F.FL_CH_STATUS_LOST c, F.FL_CH_STATUS_RATE_ACTIVE c, F.CIPH_STATUS_LANE_FAILED, F.FL_MP_STATUS_CHANNEL, F.FL_MP_STATUS_ENTRY]

theorem trainReads_apart : ∀ c < 16, ∀ n : Stage, ∀ g ∈ trainReads c n, g.lo + g.width ≤ 48 ∧ (∀ f ∈ trainWrites c, apart f g = true)
    ∧ ∀ i ∈ trainClears c, homeIdx g.idx ≠ homeIdx i := by decide +kernel
theorem trainShows_steady : ∀ c < 16, ∀ g ∈ trainShows c, g.lo + g.width ≤ 48 ∧ steadyField g = true
    ∧ ∀ n : Stage, apart (F.FL_STAGE_RATE_PROG_MBPS n.val) g = true ∧ apart (F.FL_STAGE_RATE_READ_MBPS n.val) g = true := by decide +kernel
/-- TRAINED and LOST share their register with RATE_ACTIVE and with each other, and no bit. -/
theorem chStatus_apart : ∀ c < 16, apart (F.FL_CH_STATUS_LOST c) (F.FL_CH_STATUS_TRAINED c) = true ∧ apart (F.FL_CH_STATUS_LOST c) (F.FL_CH_STATUS_RATE_ACTIVE c) = true
    ∧ apart (F.FL_CH_STATUS_TRAINED c) (F.FL_CH_STATUS_RATE_ACTIVE c) = true := by decide +kernel
/-- The record of a failed run and the marks of failed lanes lie apart from a channel's status. -/
theorem chStatus_apart_marks : ∀ c < 16, ∀ g ∈ [F.CIPH_STATUS_LANE_FAILED, F.FL_MP_STATUS_CHANNEL, F.FL_MP_STATUS_ENTRY],
    apart (F.FL_CH_STATUS_TRAINED c) g = true ∧ apart (F.FL_CH_STATUS_LOST c) g = true := by decide +kernel

/-- What a training decides by is the same in two states. -/
structure TrainsAlike (c : Nat) (s t : State) : Prop where
  reads : ∀ n : Stage, ∀ g ∈ trainReads c n, rd t g = rd s g
  micro : t.flash.micro = s.flash.micro

theorem TrainsAlike.refl (c : Nat) (s : State) : TrainsAlike c s s := ⟨fun _ _ _ => rfl, rfl⟩
theorem TrainsAlike.wr {c : Nat} {s t : State} (h : TrainsAlike c s t) (hc : c < 16) {f : Fld} (hf : f ∈ trainWrites c) (v : Nat) : TrainsAlike c s (wr t f v) :=
  ⟨fun n g hg => (rd_wr_apart t f g v (trainReads_apart c hc n g hg).1 ((trainReads_apart c hc n g hg).2.1 f hf)).trans (h.reads n g hg), h.micro⟩
theorem TrainsAlike.clear {c : Nat} {s t : State} (h : TrainsAlike c s t) (hc : c < 16) {i : Nat} (hi : i ∈ trainClears c) (w : Word) : TrainsAlike c s (setReg t i w) := by
  refine ⟨fun n g hg => ?_, h.micro⟩
  obtain ⟨-, -, hclears⟩ := trainReads_apart c hc n g hg
  rw [← h.reads n g hg, rd, rd, rawReg_setReg, if_neg (hclears i hi)]

theorem TrainsAlike.flashStage {c : Nat} {s t : State} (h : TrainsAlike c s t) (d : Nat) : flashStage t d = flashStage s d := by
  have hbound : ∀ n : Stage, rdb t (F.STAGE_BIND_BOUND n.val) = rdb s (F.STAGE_BIND_BOUND n.val) := fun n => by rw [rdb, rdb, h.reads n _ (by simp [trainReads])]
  have hflash : ∀ n : Stage, rd t (F.STAGE_BIND_FLASH n.val) = rd s (F.STAGE_BIND_FLASH n.val) := fun n => h.reads n _ (by simp [trainReads])
  simp only [Machine.flashStage, stageFlashChs, hbound, hflash]
theorem TrainsAlike.microOf {c : Nat} {s t : State} (h : TrainsAlike c s t) (n : Stage) : microOf t n = microOf s n := by
  rw [Machine.microOf, Machine.microOf, h.micro, h.reads n _ (by simp [trainReads])]
theorem TrainsAlike.rate {c : Nat} {s t : State} (h : TrainsAlike c s t) : rd t (F.FL_CH_CFG_RATE c) = rd s (F.FL_CH_CFG_RATE c) := h.reads 0 _ (by simp [trainReads])

theorem fin4_val (n : Stage) : fin4 n.val = n := Fin.ext (Nat.mod_eq_of_lt n.isLt)

/-! A channel lost. -/

theorem RegsOnly.cipher {s t : State} (h : RegsOnly s t) : t.cipher = s.cipher := by obtain ⟨_, _, rfl⟩ := h; rfl
theorem rd_stageRates (s : State) {c : Nat} (hc : c < 16) (n : Stage) {g : Fld} (hg : g ∈ trainShows c) : rd (stageRates s n) g = rd s g := by
  obtain ⟨hwidth, -, hrates⟩ := trainShows_steady c hc g hg
  rw [stageRates, rd_wr_apart _ _ _ _ hwidth (hrates n).2, rd_wr_apart _ _ _ _ hwidth (hrates n).1]

/-- A channel marked as lost, with its event. -/
def chLostMark (s : State) (n : Stage) (c : Nat) : State := event (wr (wr s (F.FL_CH_STATUS_TRAINED c) 0) (F.FL_CH_STATUS_LOST c) 1) 0x403 2 n.val c

theorem chLose_eq {s : State} {c : Nat} {n : Stage} (h : flashStage s c = some n) : chLose s c = stageRates (chLostMark s n c) n := by
  rw [chLose, h]
  rfl

/-- What a channel's loss shows: its fields, its event, and what stands. -/
structure Loses (s : State) (n : Stage) (c : Nat) (t : State) : Prop where
  lost : rd t (F.FL_CH_STATUS_LOST c) = 1
  trained : rd t (F.FL_CH_STATUS_TRAINED c) = 0
  marks : ∀ g ∈ [F.CIPH_STATUS_LANE_FAILED, F.FL_MP_STATUS_CHANNEL, F.FL_MP_STATUS_ENTRY], rd t g = rd s g
  evs : t.evs = s.evs ++ [⟨0x403, 2, n.val, c⟩]
  regs : RegsOnly s t

theorem loses_rates (s : State) {c : Nat} (hc : c < 16) (n : Stage) : Loses s n c (stageRates (chLostMark s n c) n) := by
  have hwidth := fun g hg => (trainShows_steady c hc g hg).1
  refine ⟨?_, ?_, fun g hg => ?_, rfl, (((regsOnly_wr ..).trans (regsOnly_wr ..)).trans (regsOnly_event ..)).trans ((regsOnly_wr ..).trans (regsOnly_wr ..))⟩
  · rw [rd_stageRates _ hc n (by simp [trainShows]), chLostMark, rd_event, rd_wr_self _ _ _ (hwidth _ (by simp [trainShows]))]
    rfl
  · rw [rd_stageRates _ hc n (by simp [trainShows]), chLostMark, rd_event, rd_wr_apart _ _ _ _ (hwidth _ (by simp [trainShows])) (chStatus_apart c hc).1,
      rd_wr_self _ _ _ (hwidth _ (by simp [trainShows]))]
    rfl
  · have hshow : g ∈ trainShows c := by
      simp only [List.mem_cons, List.not_mem_nil, or_false] at hg
      obtain rfl | rfl | rfl := hg <;> simp [trainShows]
    obtain ⟨htrained, hlost⟩ := chStatus_apart_marks c hc g hg
    rw [rd_stageRates _ hc n hshow, chLostMark, rd_event, rd_wr_apart _ _ _ _ (hwidth g hshow) hlost, rd_wr_apart _ _ _ _ (hwidth g hshow) htrained]

/-! A channel trains. -/

/-- The counts of a channel that trains, cleared. -/
def chCleared (s : State) (c : Nat) : State := setReg (setReg s (F.FL_CH_DECODE_RETRY_READS c).idx 0#48) (F.FL_CH_CMD_STALE c).idx 0#48
/-- A channel trained at a rate, its INIT run begun. -/
def chTrained (s : State) (n : Stage) (c k : Nat) : State :=
  wr (wr (wr (initRun s n c) (F.FL_CH_STATUS_RATE_ACTIVE c) k) (F.FL_CH_STATUS_TRAINED c) 1) (F.FL_CH_STATUS_LOST c) 0
/-- The event of a channel that has trained at a rate. -/
def trainEv (n : Stage) (c set k : Nat) : Ev := if k = set then ⟨0x401, 0, n.val, c + k * 16⟩ else ⟨0x402, 1, n.val, c + k * 16⟩
/-- Events handed to the recorder. -/
def withEvs (s : State) (evs : List Ev) : State := { s with evs := s.evs ++ evs }
theorem rd_withEvs (s : State) (evs : List Ev) (g : Fld) : rd (withEvs s evs) g = rd s g := rfl
theorem regsOnly_withEvs (s : State) (evs : List Ev) : RegsOnly s (withEvs s evs) := ⟨s.regs, evs, rfl⟩
theorem event_ite (p : Prop) [Decidable p] (s : State) (x y stage arg a b : Nat) :
    (if p then event s x a stage arg else event s y b stage arg) = withEvs s [if p then ⟨x, a, stage, arg⟩ else ⟨y, b, stage, arg⟩] := by
  split <;> rfl
/-- A channel trained, with the event of its rate. -/
def trainedAt (s : State) (n : Stage) (c set k : Nat) : State :=
  withEvs (chTrained s (fin4 n.val) c k) [trainEv n c set k]
/-- An INIT that ends at its Read ID: recorded as failed, and the Dressing with it. -/
def chWrong (s : State) (n : Stage) (c : Nat) : State :=
  let s := mpFailed s c ⟨c, n, 1, initTag, 0, 0, [], 0, 0, 0, 0, .none, s.now⟩ 0
  { s with image := { s.image with dressFault := qset s.image.dressFault n 10 } }

theorem trainsAlike_cleared (s : State) {c : Nat} (hc : c < 16) : TrainsAlike c s (chCleared s c) :=
  ((TrainsAlike.refl c s).clear hc (by simp [trainClears]) _).clear hc (by simp [trainClears]) _
theorem trainsAlike_wrong {s t : State} {c : Nat} (h : TrainsAlike c s t) (hc : c < 16) (n : Stage) : TrainsAlike c s (chWrong t n c) := by
  have hwrote := (((h.wr hc (f := F.FL_MP_STATUS_CHANNEL) (by simp [trainWrites]) c).wr hc (f := F.FL_MP_STATUS_ENTRY) (by simp [trainWrites]) 1).wr hc
    (f := F.FL_MP_STATUS_WORD) (by simp [trainWrites])
      (mpWord (wr (wr t F.FL_MP_STATUS_CHANNEL c) F.FL_MP_STATUS_ENTRY 1) ⟨c, n, 1, initTag, 0, 0, [], 0, 0, 0, 0, .none, t.now⟩).1).wr hc
    (f := F.FL_MP_STATUS_CODE) (by simp [trainWrites]) 0
  exact ⟨hwrote.reads, hwrote.micro⟩

theorem rd_chTrained (s : State) (n : Stage) {c : Nat} (hc : c < 16) (k : Nat) : rd (chTrained s n c k) (F.FL_CH_STATUS_TRAINED c) = 1
    ∧ rd (chTrained s n c k) (F.FL_CH_STATUS_LOST c) = 0
    ∧ rd (chTrained s n c k) (F.FL_CH_STATUS_RATE_ACTIVE c) = k % 2 ^ (F.FL_CH_STATUS_RATE_ACTIVE c).width := by
  have hwidth := fun g hg => (trainShows_steady c hc g hg).1
  have htrained := hwidth (F.FL_CH_STATUS_TRAINED c) (by simp [trainShows])
  have hlost := hwidth (F.FL_CH_STATUS_LOST c) (by simp [trainShows])
  have hrate := hwidth (F.FL_CH_STATUS_RATE_ACTIVE c) (by simp [trainShows])
  obtain ⟨hlt, hlr, htr⟩ := chStatus_apart c hc
  refine ⟨?_, ?_, ?_⟩
  · rw [chTrained, rd_wr_apart _ _ _ _ htrained hlt, rd_wr_self _ _ _ htrained]
    rfl
  · rw [chTrained, rd_wr_self _ _ _ hlost]
    rfl
  · rw [chTrained, rd_wr_apart _ _ _ _ hrate hlr, rd_wr_apart _ _ _ _ hrate htr, rd_wr_self _ _ _ hrate]
theorem rd_chCleared_laneFailed (s : State) {c : Nat} (hc : c < 16) : rd (chCleared s c) F.CIPH_STATUS_LANE_FAILED = rd s F.CIPH_STATUS_LANE_FAILED := by
  have hne : ∀ c < 16, homeIdx F.CIPH_STATUS_LANE_FAILED.idx ≠ homeIdx (F.FL_CH_DECODE_RETRY_READS c).idx
      ∧ homeIdx F.CIPH_STATUS_LANE_FAILED.idx ≠ homeIdx (F.FL_CH_CMD_STALE c).idx := by decide +kernel
  rw [rd, rd, chCleared, rawReg_setReg, if_neg (hne c hc).2, rawReg_setReg, if_neg (hne c hc).1]

theorem initRun_eq (s : State) (n : Stage) (c : Nat) : ∃ r chans, initRun s n c = { s with regs := r, flash := { s.flash with chans := chans } } := ⟨_, _, rfl⟩
/-- What a channel that trains shows: its fields, its event, its INIT run, and what stands. -/
structure Trains (s : State) (n : Stage) (c set k : Nat) (t : State) : Prop where
  trained : rd t (F.FL_CH_STATUS_TRAINED c) = 1
  lost : rd t (F.FL_CH_STATUS_LOST c) = 0
  rate : rd t (F.FL_CH_STATUS_RATE_ACTIVE c) = k % 2 ^ (F.FL_CH_STATUS_RATE_ACTIVE c).width
  evs : t.evs = s.evs ++ [trainEv n c set k]
  runs : ∃ r ∈ (fch t c).runs, r.entry = 1 ∧ r.stage = n
  pages : t.flash.pages = s.flash.pages
  sets : t.flash.sets = s.flash.sets
  modes : t.modes = s.modes
  dram : SameDram s t
  ledger : t.ledger = s.ledger

theorem trains_rates (s : State) (n : Stage) {c : Nat} (hc : c < 16) (set k : Nat) : Trains s n c set k (stageRates (trainedAt s n c set k) n) := by
  obtain ⟨htrained, hlost, hrate⟩ := rd_chTrained s n hc k
  have hshows : ∀ g ∈ trainShows c, rd (stageRates (trainedAt s n c set k) n) g = rd (chTrained s n c k) g := fun g hg => by
    rw [rd_stageRates _ hc n hg, trainedAt, fin4_val, rd_withEvs]
  have hregs : RegsOnly (initRun s n c) (stageRates (trainedAt s n c set k) n) := by
    rw [trainedAt, fin4_val]
    exact ((((regsOnly_wr ..).trans (regsOnly_wr ..)).trans (regsOnly_wr ..)).trans (regsOnly_withEvs ..)).trans ((regsOnly_wr ..).trans (regsOnly_wr ..))
  refine ⟨?_, ?_, ?_, rfl, ?_, ?_, ?_, ?_, ?_, ?_⟩
  · rw [hshows _ (by simp [trainShows]), htrained]
  · rw [hshows _ (by simp [trainShows]), hlost]
  · rw [hshows _ (by simp [trainShows]), hrate]
  · rw [fch, hregs.flash, ← fch, initRun, fch_setFch]
    exact ⟨_, List.mem_cons_self, rfl, rfl⟩
  all_goals obtain ⟨r, chans, hinit⟩ := initRun_eq s n c
  · rw [hregs.flash, hinit]
  · rw [hregs.flash, hinit]
  · rw [hregs.modes, hinit]
  · exact congrArg (fun d : Dram => { d with ch := qmap calmChannel d.ch }) (hregs.dram.trans (by rw [hinit]))
  · rw [hregs.ledger, hinit]

section
variable {s : State} {n : Stage} {c : Nat} (hstage : flashStage s c = some n) {readId : Word}
include hstage

theorem chTrain_lost (hown : (microOf s n).getD 1 0#48 = readId) : chTrain s c none readId = chLose (chCleared s c) c := by
  have hright : decide ((microOf s n).getD 1 0#48 ≠ readId) = false := decide_eq_false (not_not_intro hown)
  simp only [chTrain, hstage, Option.elim_some, hright, Bool.false_eq_true, if_false]
  rfl
theorem chTrain_trained (hown : (microOf s n).getD 1 0#48 = readId) (k : Nat) : chTrain s c (some k) readId =
    stageRates (trainedAt (chCleared s c) n c (rd (chCleared s c) (F.FL_CH_CFG_RATE c)) (max (rd (chCleared s c) (F.FL_CH_CFG_RATE c)) (min 3 k))) n := by
  have hright : decide ((microOf s n).getD 1 0#48 ≠ readId) = false := decide_eq_false (not_not_intro hown)
  simp only [chTrain, hstage, Option.elim_some, hright, Bool.false_eq_true, if_false, event_ite]
  rfl
theorem chTrain_wrong (hother : (microOf s n).getD 1 0#48 ≠ readId) (reach : Option Nat) : chTrain s c reach readId = chLose (chWrong (chCleared s c) (fin4 n.val) c) c := by
  have hwrong : decide ((microOf s n).getD 1 0#48 ≠ readId) = true := decide_eq_true hother
  simp only [chTrain, hstage, Option.elim_some, hwrong, if_true]
  rfl
end

/-- The fields of a run's failure are written, and its event follows (R223). -/
theorem mpFailed_eq (s : State) (c : Nat) (r : MpRun) (code : Nat) : ∃ w, mpFailed s c r code =
    event (wr (wr (wr (wr s F.FL_MP_STATUS_CHANNEL c) F.FL_MP_STATUS_ENTRY r.entry) F.FL_MP_STATUS_WORD w) F.FL_MP_STATUS_CODE code)
      0x40F 2 r.stage.val (c + r.entry * 16 + code * 256) := ⟨_, rfl⟩
theorem rd_dressFault (s : State) (x : Quad Nat) (g : Fld) : rd { s with image := { s.image with dressFault := x } } g = rd s g := rfl
theorem regsOnly_mpFailed (s : State) (c : Nat) (r : MpRun) (code : Nat) : RegsOnly s (mpFailed s c r code) := by
  obtain ⟨w, hw⟩ := mpFailed_eq s c r code
  rw [hw]
  exact ((((regsOnly_wr ..).trans (regsOnly_wr ..)).trans (regsOnly_wr ..)).trans (regsOnly_wr ..)).trans (regsOnly_event ..)
theorem chWrong_eq (s : State) (n : Stage) (c : Nat) : ∃ r e x, chWrong s n c = { s with regs := r, evs := s.evs ++ e, image := x } := by
  obtain ⟨r, e, h⟩ := regsOnly_mpFailed s c ⟨c, n, 1, initTag, 0, 0, [], 0, 0, 0, 0, .none, s.now⟩ 0
  exact ⟨r, e, _, by rw [chWrong, h]⟩
theorem chWrong_shows (s : State) (n : Stage) {c : Nat} (hc : c < 16) :
    rd (chWrong s n c) F.FL_MP_STATUS_CHANNEL = c ∧ rd (chWrong s n c) F.FL_MP_STATUS_ENTRY = 1 ∧ ∃ a, (chWrong s n c).evs = s.evs ++ [⟨0x40F, 2, n.val, a⟩] := by
  obtain ⟨w, hw⟩ := mpFailed_eq s c ⟨c, n, 1, initTag, 0, 0, [], 0, 0, 0, 0, .none, s.now⟩ 0
  refine ⟨?_, ?_, c + 1 * 16 + 0 * 256, ?_⟩ <;> rw [chWrong, hw]
  · rw [rd_dressFault, rd_event, rd_wr_apart _ _ _ _ (by decide) (by decide), rd_wr_apart _ _ _ _ (by decide) (by decide),
      rd_wr_apart _ _ _ _ (by decide) (by decide), rd_wr_self _ _ _ (by decide)]
    exact Nat.mod_eq_of_lt hc
  · rw [rd_dressFault, rd_event, rd_wr_apart _ _ _ _ (by decide) (by decide), rd_wr_apart _ _ _ _ (by decide) (by decide), rd_wr_self _ _ _ (by decide)]
    rfl
  · rfl

/-! The lane's self-test (R406). -/

/-- The lanes whose test is due, replaced. -/
def setLaneDue (s : State) (due : BitVec 16) : State := { s with cipher := { s.cipher with laneDue := due } }
theorem laneSelfTest_passes {s : State} {c : Nat} {ok : Bool} (hok : s.cipher.laneDue.getLsbD c = true → ok = true) :
    ∃ due, laneSelfTest s c ok = setLaneDue s due := by
  rw [laneSelfTest]
  split
  · exact ⟨_, rfl⟩
  next h =>
    obtain rfl := hok (Bool.eq_true_of_not_eq_false h)
    exact ⟨_, rfl⟩
/-- The lane marked failed by its test, which is due no more. -/
def laneFailed (s : State) (n : Stage) (c : Nat) : State :=
  let s := { s with cipher := { s.cipher with laneDue := s.cipher.laneDue &&& ~~~(BitVec.ofNat 16 (2 ^ c)) } }
  event (wr s F.CIPH_STATUS_LANE_FAILED (rd s F.CIPH_STATUS_LANE_FAILED ||| 2 ^ c)) 0x705 2 n.val c
theorem laneSelfTest_fails {s : State} {n : Stage} {c : Nat} (hstage : flashStage s c = some n) (hdue : s.cipher.laneDue.getLsbD c = true) :
    laneSelfTest s c false = laneFailed s n c := by
  have hsame : flashStage { s with cipher := { s.cipher with laneDue := s.cipher.laneDue &&& ~~~(BitVec.ofNat 16 (2 ^ c)) } } c = some n := hstage
  rw [laneSelfTest, if_neg (ne_false_of_eq_true hdue)]
  dsimp only
  rw [hsame]
  rfl
theorem bitOf_iff_testBit (n i : Nat) : bitOf n i = true ↔ n.testBit i = true := by
  rw [bitOf, beq_iff_eq, Nat.testBit_eq_decide_div_mod_eq, decide_eq_true_eq]
theorem laneFailed_bit (s : State) (n : Stage) {c : Nat} (hc : c < 16) : bitOf (rd (laneFailed s n c) F.CIPH_STATUS_LANE_FAILED) c = true := by
  rw [laneFailed, rd_event, rd_wr_self _ _ _ (by decide), bitOf_iff_testBit, Nat.testBit_mod_two_pow, Nat.testBit_or, Nat.testBit_two_pow_self, Bool.or_true, Bool.and_true]
  exact decide_eq_true hc
theorem laneFailed_due (s : State) (n : Stage) {c : Nat} (hc : c < 16) : (laneFailed s n c).cipher.laneDue.getLsbD c = false := by
  change (s.cipher.laneDue &&& ~~~(BitVec.ofNat 16 (2 ^ c))).getLsbD c = false
  rw [BitVec.getLsbD_and, BitVec.getLsbD_not, BitVec.getLsbD_ofNat, Nat.testBit_two_pow_self, decide_eq_true hc]
  exact Bool.and_false _
theorem trainsAlike_laneFailed (s : State) (n : Stage) {c : Nat} (hc : c < 16) : TrainsAlike c s (laneFailed s n c) := by
  have hwrote := (TrainsAlike.refl c s).wr hc (f := F.CIPH_STATUS_LANE_FAILED) (by simp [trainWrites]) (rd s F.CIPH_STATUS_LANE_FAILED ||| 2 ^ c)
  exact ⟨hwrote.reads, hwrote.micro⟩

/-! What a training answers. -/

section
variable {s : State} {n : Stage} {c : Nat} (hc : c < 16) (hstage : flashStage s c = some n) (hon : rdb s (F.FL_CH_CFG_ENABLE c) = true)
include hc hstage hon

/-- The lane's test passes or is not due: the channel of a Dressing stage trains. -/
theorem flashTrain_dressing (hdress : stageSt s n = .dressing) (hsound : bitOf (rd s F.CIPH_STATUS_LANE_FAILED) c = false) {ok : Bool}
    (hok : s.cipher.laneDue.getLsbD c = true → ok = true) (reach : Option Nat) (readId : Word) :
    ∃ due, flashTrain s c reach readId ok = chTrain (setLaneDue s due) c reach readId := by
  obtain ⟨due, hdue⟩ := laneSelfTest_passes hok
  have hstage' : flashStage (setLaneDue s due) c = some n := hstage
  have hdress' : (stageSt (setLaneDue s due) n == .dressing) = true := beq_iff_eq.mpr hdress
  have hsound' : bitOf (rd (setLaneDue s due) F.CIPH_STATUS_LANE_FAILED) c = false := hsound
  refine ⟨due, ?_⟩
  have hrun : ¬ (rdb s (F.FL_CH_CFG_ENABLE c) = false ∨ c > 15) := by simp only [hon, Bool.true_eq_false, false_or]; omega
  rw [flashTrain, if_neg hrun, hdue]
  simp only [hstage', Option.elim_some, hdress', hsound', if_true, Bool.false_eq_true, if_false]

/-- The lane's test fails: the channel is lost, of a Dressing stage and of another. -/
theorem flashTrain_laneFails (hdue : s.cipher.laneDue.getLsbD c = true) (reach : Option Nat) (readId : Word) :
    flashTrain s c reach readId false = chLose (if stageSt s n = .dressing then chCleared (laneFailed s n c) c else laneFailed s n c) c := by
  have halike := trainsAlike_laneFailed s n hc
  have hstage' : flashStage (laneFailed s n c) c = some n := (halike.flashStage c).trans hstage
  have hrun : ¬ (rdb s (F.FL_CH_CFG_ENABLE c) = false ∨ c > 15) := by simp only [hon, Bool.true_eq_false, false_or]; omega
  rw [flashTrain, if_neg hrun, laneSelfTest_fails hstage hdue]
  simp only [hstage', Option.elim_some, laneFailed_bit s n hc, hdue, Bool.and_self, if_true, beq_iff_eq]
  have hsame : stageSt (laneFailed s n c) n = stageSt s n := rfl
  rw [hsame]
  split
  · exact chTrain_lost hstage' rfl
  · rfl
end

theorem flashTrain_idle {s : State} {n : Stage} {c : Nat} (hstage : flashStage s c = some n) (hother : stageSt s n ≠ .dressing)
    (hdue : s.cipher.laneDue.getLsbD c = false) (reach : Option Nat) (readId : Word) (ok : Bool) : flashTrain s c reach readId ok = s := by
  rw [flashTrain]
  split
  · rfl
  · rw [laneSelfTest, if_pos hdue]
    simp only [hstage, Option.elim_some, beq_eq_false_iff_ne.mpr hother, hdue, Bool.false_and, Bool.false_eq_true, if_false]

/-- The end of the command leaves what a training shows. -/
theorem rd_finish_trainShows (s : State) {c : Nat} (hc : c < 16) {g : Fld} (hg : g ∈ trainShows c) : rd (finish s) g = rd s g :=
  (quiet_finish s).fields g (trainShows_steady c hc g hg).2.1


section
variable {s : State} {n : Stage} {c : Nat} (hc : c < 16) (hstage : flashStage s c = some n) (hon : rdb s (F.FL_CH_CFG_ENABLE c) = true)
include hc hstage hon

section
variable (hdress : stageSt s n = .dressing) (hsound : bitOf (rd s F.CIPH_STATUS_LANE_FAILED) c = false) {ok : Bool} (hok : s.cipher.laneDue.getLsbD c = true → ok = true)
include hdress hsound hok

theorem training_trains {readId : Word} (hown : (microOf s n).getD 1 0#48 = readId) (k : Nat) :
    Answers (.flashChannelTraining c (some k) readId ok) s (fun u t => rd t (F.FL_CH_STATUS_TRAINED c) = 1 ∧ rd t (F.FL_CH_STATUS_LOST c) = 0
      ∧ rd t (F.FL_CH_STATUS_RATE_ACTIVE c) = max (rd s (F.FL_CH_CFG_RATE c)) (min 3 k) % 2 ^ (F.FL_CH_STATUS_RATE_ACTIVE c).width
      ∧ Logs s u (trainEv n c (rd s (F.FL_CH_CFG_RATE c)) (max (rd s (F.FL_CH_CFG_RATE c)) (min 3 k)))
      ∧ (∃ r ∈ (fch t c).runs, r.entry = 1 ∧ r.stage = n) ∧ t.flash.pages = s.flash.pages ∧ t.flash.sets = s.flash.sets ∧ t.modes = s.modes ∧ SameDram s t ∧ t.ledger = s.ledger) := by
  obtain ⟨due, hdue⟩ := flashTrain_dressing hc hstage hon hdress hsound hok (some k) readId
  have hstage' : flashStage (setLaneDue s due) c = some n := hstage
  have hrate : rd (chCleared (setLaneDue s due) c) (F.FL_CH_CFG_RATE c) = rd s (F.FL_CH_CFG_RATE c) := (trainsAlike_cleared _ hc).rate
  rw [chTrain_trained hstage' hown, hrate] at hdue
  have htrains := trains_rates (chCleared (setLaneDue s due) c) n hc (rd s (F.FL_CH_CFG_RATE c)) (max (rd s (F.FL_CH_CFG_RATE c)) (min 3 k))
  generalize stageRates (trainedAt _ n c _ _) n = u at hdue htrains
  have hquiet := quiet_finish u
  have hshows := fun g => rd_finish_trainShows u hc (g := g)
  refine ⟨u, congrArg done hdue, (hshows _ (by simp [trainShows])).trans htrains.trained, (hshows _ (by simp [trainShows])).trans htrains.lost,
    (hshows _ (by simp [trainShows])).trans htrains.rate, htrains.evs, ?_, (congrArg Flash.pages hquiet.flash).trans htrains.pages,
    (congrArg Flash.sets hquiet.flash).trans htrains.sets, hquiet.modes.trans htrains.modes, hquiet.dram.trans htrains.dram, hquiet.ledger.trans htrains.ledger⟩
  rw [fch_finish]
  exact htrains.runs

theorem training_lost {readId : Word} (hown : (microOf s n).getD 1 0#48 = readId) :
    Answers (.flashChannelTraining c none readId ok) s (fun u t => rd t (F.FL_CH_STATUS_TRAINED c) = 0 ∧ rd t (F.FL_CH_STATUS_LOST c) = 1
      ∧ Logs s u (⟨0x403, 2, n.val, c⟩) ∧ t.modes = s.modes ∧ SameDram s t ∧ t.ledger = s.ledger) := by
  obtain ⟨due, hdue⟩ := flashTrain_dressing hc hstage hon hdress hsound hok none readId
  have hstage' : flashStage (setLaneDue s due) c = some n := hstage
  rw [chTrain_lost hstage' hown, chLose_eq (((trainsAlike_cleared _ hc).flashStage c).trans hstage')] at hdue
  have hloses := loses_rates (chCleared (setLaneDue s due) c) hc n
  generalize stageRates (chLostMark _ n c) n = u at hdue hloses
  have hquiet := quiet_finish u
  have hshows := fun g => rd_finish_trainShows u hc (g := g)
  exact ⟨u, congrArg done hdue, (hshows _ (by simp [trainShows])).trans hloses.trained, (hshows _ (by simp [trainShows])).trans hloses.lost,
    hloses.evs, hquiet.modes.trans hloses.regs.modes, hquiet.dram.trans (by rw [hloses.regs.dram]; rfl), hquiet.ledger.trans hloses.regs.ledger⟩

theorem training_wrong {readId : Word} (hother : (microOf s n).getD 1 0#48 ≠ readId) (reach : Option Nat) :
    Answers (.flashChannelTraining c reach readId ok) s (fun u t => rd t (F.FL_CH_STATUS_TRAINED c) = 0
      ∧ rd t (F.FL_CH_STATUS_LOST c) = 1 ∧ rd t F.FL_MP_STATUS_CHANNEL = c ∧ rd t F.FL_MP_STATUS_ENTRY = 1
      ∧ (∃ a, u.evs = s.evs ++ [⟨0x40F, 2, n.val, a⟩, ⟨0x403, 2, n.val, c⟩]) ∧ t.flash = s.flash ∧ t.modes = s.modes ∧ SameDram s t ∧ t.ledger = s.ledger) := by
  obtain ⟨due, hdue⟩ := flashTrain_dressing hc hstage hon hdress hsound hok reach readId
  have hstage' : flashStage (setLaneDue s due) c = some n := hstage
  rw [chTrain_wrong hstage' hother, fin4_val, chLose_eq (((trainsAlike_wrong (trainsAlike_cleared _ hc) hc n).flashStage c).trans hstage')] at hdue
  have hloses := loses_rates (chWrong (chCleared (setLaneDue s due) c) n c) hc n
  obtain ⟨hchannel, hentry, a, hevs⟩ := chWrong_shows (chCleared (setLaneDue s due) c) n hc
  obtain ⟨hflash, hmodes, hdram, hledger⟩ : (chWrong (chCleared (setLaneDue s due) c) n c).flash = s.flash ∧ (chWrong (chCleared (setLaneDue s due) c) n c).modes = s.modes
      ∧ (chWrong (chCleared (setLaneDue s due) c) n c).dram = s.dram ∧ (chWrong (chCleared (setLaneDue s due) c) n c).ledger = s.ledger := by
    obtain ⟨_, _, _, hwrong⟩ := chWrong_eq (chCleared (setLaneDue s due) c) n c
    rw [hwrong]
    exact ⟨rfl, rfl, rfl, rfl⟩
  generalize stageRates (chLostMark _ n c) n = u at hdue hloses
  have hquiet := quiet_finish u
  have hshows := fun g => rd_finish_trainShows u hc (g := g)
  refine ⟨u, congrArg done hdue, (hshows _ (by simp [trainShows])).trans hloses.trained, (hshows _ (by simp [trainShows])).trans hloses.lost,
    ?_, ?_, ⟨a, ?_⟩, ?_, hquiet.modes.trans (hloses.regs.modes.trans hmodes), hquiet.dram.trans (by rw [hloses.regs.dram, hdram]), hquiet.ledger.trans (hloses.regs.ledger.trans hledger)⟩
  · rw [hshows _ (by simp [trainShows]), hloses.marks _ (by simp), hchannel]
  · rw [hshows _ (by simp [trainShows]), hloses.marks _ (by simp), hentry]
  · rw [hloses.evs, hevs, List.append_assoc]
    rfl
  · rw [hquiet.flash, hloses.regs.flash, hflash]
end

theorem training_laneFails (hdue : s.cipher.laneDue.getLsbD c = true) (reach : Option Nat) (readId : Word) :
    Answers (.flashChannelTraining c reach readId false) s (fun u t => rd t (F.FL_CH_STATUS_LOST c) = 1 ∧ bitOf (rd t F.CIPH_STATUS_LANE_FAILED) c = true
      ∧ t.cipher.laneDue.getLsbD c = false ∧ u.evs = s.evs ++ [⟨0x705, 2, n.val, c⟩, ⟨0x403, 2, n.val, c⟩] ∧ t.modes = s.modes ∧ SameDram s t ∧ t.ledger = s.ledger) := by
  have htrain := flashTrain_laneFails hc hstage hon hdue reach readId
  have halike := trainsAlike_laneFailed s n hc
  obtain ⟨m, hm, hcipher, hfailed, hevs, hmodes, hdram, hledger, hstage'⟩ : ∃ m, (if stageSt s n = .dressing then chCleared (laneFailed s n c) c else laneFailed s n c) = m
      ∧ m.cipher = (laneFailed s n c).cipher ∧ rd m F.CIPH_STATUS_LANE_FAILED = rd (laneFailed s n c) F.CIPH_STATUS_LANE_FAILED ∧ m.evs = s.evs ++ [⟨0x705, 2, n.val, c⟩]
      ∧ m.modes = s.modes ∧ m.dram = s.dram ∧ m.ledger = s.ledger ∧ flashStage m c = some n := by
    split
    · exact ⟨_, rfl, rfl, rd_chCleared_laneFailed _ hc, rfl, rfl, rfl, rfl, ((trainsAlike_cleared _ hc).flashStage c).trans ((halike.flashStage c).trans hstage)⟩
    · exact ⟨_, rfl, rfl, rfl, rfl, rfl, rfl, rfl, (halike.flashStage c).trans hstage⟩
  rw [hm, chLose_eq hstage'] at htrain
  have hloses := loses_rates m hc n
  generalize stageRates (chLostMark m n c) n = u at htrain hloses
  have hquiet := quiet_finish u
  have hshows := fun g => rd_finish_trainShows u hc (g := g)
  refine ⟨u, congrArg done htrain, (hshows _ (by simp [trainShows])).trans hloses.lost, ?_, ?_, ?_, hquiet.modes.trans (hloses.regs.modes.trans hmodes),
    hquiet.dram.trans (by rw [hloses.regs.dram, hdram]), hquiet.ledger.trans (hloses.regs.ledger.trans hledger)⟩
  · rw [hshows _ (by simp [trainShows]), hloses.marks _ (by simp), hfailed]
    exact laneFailed_bit s n hc
  · rw [hquiet.cipher, hloses.regs.cipher, hcipher]
    exact laneFailed_due s n hc
  · rw [hloses.evs, hevs, List.append_assoc]
    rfl
end

/-! A map checkpoint (R239). -/

theorem ckptWindow_idle {s : State} {n : Stage} (h : stageSt s n ≠ .live ∨ (led s n).gated = true ∨ s.saveDev.gate = true) : ckptWindow s n = s := if_pos h

/-- A checkpoint runs and its counters stand at their start; pages, modes, DRAM, ledger and time stand. -/
structure CkptBegun (s : State) (n : Stage) (t : State) : Prop where
  frames : (fset t n).ckptFrames = 0
  runs : (fset t n).ckpt.isSome = true
  tick : (fset t n).ckptTick = tickOf s
  calm : Calm s t

theorem CkptBegun.setFset {s t : State} {n : Stage} (h : CkptBegun s n t) {x : StageFlash} (hframes : x.ckptFrames = (fset t n).ckptFrames) (hruns : x.ckpt.isSome = true)
    (htick : x.ckptTick = (fset t n).ckptTick) : CkptBegun s n (setFset t n x) := by
  refine ⟨?_, ?_, ?_, h.calm⟩ <;> rw [fset_setFset]
  · exact hframes.trans h.frames
  · exact hruns
  · exact htick.trans h.tick
theorem CkptBegun.addJob {s t : State} {n : Stage} (h : CkptBegun s n t) (j : Job) : CkptBegun s n (addJob t n j) := h.setFset rfl h.runs rfl
theorem CkptBegun.feed {s t : State} {n : Stage} (h : CkptBegun s n t) : CkptBegun s n (ckptFeed t n) := by
  rw [ckptFeed]
  split
  · exact h
  · dsimp only
    split_ifs
    · exact h
    · refine (CkptBegun.setFset h ?_ ?_ ?_).addJob _ <;> rfl
    · split
      · refine (CkptBegun.setFset h ?_ ?_ ?_).addJob _ <;> rfl
      · exact h
    · refine (CkptBegun.setFset h ?_ ?_ ?_).addJob _ <;> rfl
    · exact h
theorem ckptBegun_begin (s : State) (n : Stage) : CkptBegun s n (ckptBegin s n) := by
  refine ⟨?_, ?_, ?_, rfl, rfl, rfl, rfl, rfl⟩ <;> rw [ckptBegin, fset_setFset]
  rfl

theorem ckptWindow_begins {s : State} {n : Stage} (hlive : stageSt s n = .live) (hopen : (led s n).gated = false) (hgate : s.saveDev.gate = false) :
    CkptBegun (if 16777216 ≤ (fset s n).ckptFrames then s else untilTick s ((fset s n).ckptTick + 19660800)) n (ckptWindow s n) := by
  have hruns : ¬ (stageSt s n ≠ .live ∨ (led s n).gated = true ∨ s.saveDev.gate = true) := by simp [hlive, hopen, hgate]
  rw [ckptWindow, if_neg hruns]
  dsimp only
  generalize (if 16777216 ≤ (fset s n).ckptFrames then s else untilTick s ((fset s n).ckptTick + 19660800)) = m
  split
  next h =>
    refine ⟨?_, ?_, ?_, rfl, rfl, rfl, rfl, rfl⟩ <;> rw [fset_setFset]
    exact h
  · exact (ckptBegun_begin m n).feed

/-- Settles O39: a training by what its lane's test and its Read ID allow, a checkpoint by the stage's state. -/
theorem flashTrainingAndCheckpoints : Obligations.FlashTrainingAndCheckpoints := by
  unfold Obligations.FlashTrainingAndCheckpoints
  intro s n
  refine ⟨fun c readId hc hstage hdress hon hsound ok hok => ⟨fun hown => ⟨fun k => training_trains hc hstage hon hdress hsound hok hown k, training_lost hc hstage hon hdress hsound hok hown⟩,
      fun hother reach => training_wrong hc hstage hon hdress hsound hok hother reach⟩,
    fun c reach readId hc hstage hon hdue => training_laneFails hc hstage hon hdue reach readId,
    fun c reach readId ok hstage hother hdue => congrArg done (flashTrain_idle hstage hother hdue reach readId ok),
    fun h => congrArg done (ckptWindow_idle h), fun hlive hopen hgate => ?_⟩
  have hbegun := ckptWindow_begins hlive hopen hgate
  obtain ⟨hpages, hmodes, hdram, hledger, hnow⟩ := hbegun.calm.of_finish
  refine ⟨ckptWindow s n, rfl, ?_, ?_, ?_, ?_, ?_, ?_, ?_, ?_⟩
  · rw [fset_finish, hbegun.frames]
  · rw [fset_finish, hbegun.runs]
  · rw [fset_finish, hbegun.tick, tickOf, tickOf, hbegun.calm.2.2.2.2]
  · rw [hnow, apply_ite State.now]
    rfl
  · rw [hpages]
    split <;> rfl
  · rw [hmodes]
    split <;> rfl
  · refine hdram.trans ?_
    split <;> rfl
  · rw [hledger]
    split <;> rfl

end Sys2Proof.Machine
end

section
/-! Proofs: the lanes (R215, R228, R246, R402 to R404). -/

namespace Sys2Proof.Machine

theorem Calm.trans {s t u : State} (h : Calm s t) (k : Calm t u) : Calm s u := by
  obtain ⟨hpages, hmodes, hdram, hledger, hnow⟩ := h
  obtain ⟨kpages, kmodes, kdram, kledger, know⟩ := k
  exact ⟨kpages.trans hpages, kmodes.trans hmodes, kdram.trans hdram, kledger.trans hledger, know.trans hnow⟩
theorem RegsOnly.calm {s t : State} (h : RegsOnly s t) : Calm s t := by
  obtain ⟨_, _, rfl⟩ := h
  exact ⟨rfl, rfl, rfl, rfl, rfl⟩

theorem fset_wr (s : State) (f : Fld) (v : Nat) (n : Stage) : fset (wr s f v) n = fset s n := rfl

/-! What a codeword's place depends on (R215). -/

/-- The fields that give a codeword its place and its generation. -/
def placeReads (n : Stage) : List Fld :=
  [F.STAGE_BIND_BOUND n.val, F.STAGE_BIND_FLASH n.val, F.FL_STAGE_GEOM_PAGES n.val, F.FL_STAGE_GEOM_BLOCKS n.val, F.SAVE_OPEN_OPEN_GEN n.val]
    ++ (List.range 16).map F.FL_CH_STATUS_LOST

theorem placeReads_steady : ∀ n : Stage, ∀ g ∈ placeReads n, g.lo + g.width ≤ 48 ∧ steadyField g = true
    ∧ apart (F.FL_STAGE_STATUS_OPEN_BAND n.val) g = true := by decide +kernel

/-- What a stage's next codeword is placed by is the same in two states. -/
structure PlacesAlike (n : Stage) (s t : State) : Prop where
  reads : ∀ g ∈ placeReads n, rd t g = rd s g
  blocks : t.flash.blocks = s.flash.blocks
  factory : t.flash.factory = s.flash.factory
  sys : fsys t n = fsys s n
  band : (fset t n).band = (fset s n).band
  page : (fset t n).page = (fset s n).page
  pos : (fset t n).pos = (fset s n).pos
  fmt : (fset t n).fmt = (fset s n).fmt

namespace PlacesAlike
variable {n : Stage} {s t : State} (h : PlacesAlike n s t)
include h

theorem geom : pagesPer t n = pagesPer s n ∧ blocksPer t n = blocksPer s n := by
  rw [pagesPer, pagesPer, blocksPer, blocksPer, h.reads _ (by simp [placeReads]), h.reads _ (by simp [placeReads])]
  exact ⟨rfl, rfl⟩
theorem blockAt (l b : Nat) : blockAt t l b = blockAt s l b := by rw [Machine.blockAt, Machine.blockAt, h.blocks]
theorem chans : stageFlashChs t n = stageFlashChs s n := by
  rw [stageFlashChs, stageFlashChs, rdb, rdb, h.reads _ (by simp [placeReads]), h.reads _ (by simp [placeReads])]
theorem luns : stageLuns t n = stageLuns s n := by rw [stageLuns, stageLuns, h.chans, h.sys]
theorem blockUsable (l b : Nat) : blockUsable t n l b = blockUsable s n l b := by
  simp only [Machine.blockUsable, usableIn, houseLuns, houseLun, h.chans, h.blockAt, h.factory]
theorem bandLuns (b : Nat) : bandLuns t n b = bandLuns s n b := by simp only [Machine.bandLuns, h.luns, h.blockUsable]
theorem bestBand : bestBand t n = bestBand s n := by
  have hluns : Machine.bandLuns t n = Machine.bandLuns s n := funext h.bandLuns
  have herased : bandErased t n = bandErased s n := funext fun b => by simp only [bandErased, blockErased, h.bandLuns, h.blockAt, h.fmt]
  have herases : bandErases t n = bandErases s n := funext fun b => by simp only [bandErases, h.bandLuns, h.blockAt]
  rw [Machine.bestBand, Machine.bestBand, herased, herases, hluns, h.geom.2, h.band]
theorem chLost (lun : Nat) : chLost t (lunCh lun) = chLost s (lunCh lun) := by
  have hin : F.FL_CH_STATUS_LOST (lunCh lun) ∈ placeReads n :=
    List.mem_append_right _ (List.mem_map_of_mem (List.mem_range.mpr (Nat.mod_lt _ (by decide))))
  rw [Machine.chLost, Machine.chLost, rdb, rdb, h.reads _ hin]
theorem placeAt (avoid : Option Nat) : placeAt t n avoid = placeAt s n avoid := by
  simp only [Machine.placeAt, h.band, h.bandLuns, h.chLost, h.pos, h.page, h.geom.1]
theorem openGen : openGen t n = openGen s n := h.reads _ (by simp [placeReads])
theorem openBand (b : Nat) : PlacesAlike n (wr (setFset s n { fset s n with band := some b, page := 0, pos := 0 }) (F.FL_STAGE_STATUS_OPEN_BAND n.val) b)
    (wr (setFset t n { fset t n with band := some b, page := 0, pos := 0 }) (F.FL_STAGE_STATUS_OPEN_BAND n.val) b) where
  reads := fun g hg => by
    obtain ⟨hwidth, -, hapart⟩ := placeReads_steady n g hg
    rw [rd_wr_apart _ _ _ _ hwidth hapart, rd_wr_apart _ _ _ _ hwidth hapart]
    exact h.reads g hg
  blocks := h.blocks
  factory := h.factory
  sys := h.sys
  band := by rw [fset_wr, fset_wr, fset_setFset, fset_setFset]
  page := by rw [fset_wr, fset_wr, fset_setFset, fset_setFset]
  pos := by rw [fset_wr, fset_wr, fset_setFset, fset_setFset]
  fmt := by
    rw [fset_wr, fset_wr, fset_setFset, fset_setFset]
    exact h.fmt
theorem bandReady (avoid : Option Nat) : PlacesAlike n (bandReady s n avoid) (bandReady t n avoid) := by
  rw [Machine.bandReady, Machine.bandReady, h.placeAt, h.bestBand]
  split
  · exact h
  · split
    · exact h
    · exact h.openBand _
theorem cursorLane (j : Job) : cursorLane t n j = cursorLane s n j := by rw [Machine.cursorLane, Machine.cursorLane, (h.bandReady j.avoid).placeAt]
end PlacesAlike

/-- The payload at the head of the queue taken from it, and the lane's use of it counted. -/
theorem placesAlike_setFset {n : Stage} {s : State} {x : StageFlash} (hband : x.band = (fset s n).band) (hpage : x.page = (fset s n).page) (hpos : x.pos = (fset s n).pos)
    (hfmt : x.fmt = (fset s n).fmt) : PlacesAlike n s (setFset s n x) where
  reads := fun _ _ => rfl
  blocks := rfl
  factory := rfl
  sys := rfl
  band := by rw [fset_setFset, hband]
  page := by rw [fset_setFset, hpage]
  pos := by rw [fset_setFset, hpos]
  fmt := by rw [fset_setFset, hfmt]
theorem Quiet.placesAlike {s t : State} (h : Quiet s t) (n : Stage) : PlacesAlike n s t := by
  have hset : fset t n = fset s n := by rw [fset, fset, h.flash]
  refine ⟨fun g hg => h.fields g (placeReads_steady n g hg).2.1, ?_, ?_, ?_, ?_, ?_, ?_, ?_⟩
  · rw [h.flash]
  · rw [h.flash]
  · rw [fsys, fsys, h.flash]
  all_goals rw [hset]
theorem PlacesAlike.trans {n : Stage} {s t u : State} (h : PlacesAlike n s t) (k : PlacesAlike n t u) : PlacesAlike n s u :=
  ⟨fun g hg => (k.reads g hg).trans (h.reads g hg), k.blocks.trans h.blocks, k.factory.trans h.factory, k.sys.trans h.sys, k.band.trans h.band,
    k.page.trans h.page, k.pos.trans h.pos, k.fmt.trans h.fmt⟩

/-! A codeword placed (R215, R228). -/

/-- What the opening of a band leaves of the stage's set, and what stands. -/
structure Readied (n : Stage) (s t : State) : Prop where
  jobs : (fset t n).jobs = (fset s n).jobs
  seq : (fset t n).seq = (fset s n).seq
  ckpt : (fset t n).ckpt = (fset s n).ckpt
  gen : openGen t n = openGen s n
  cipher : t.cipher = s.cipher
  calm : Calm s t

theorem readied_bandReady (s : State) (n : Stage) (avoid : Option Nat) : Readied n s (bandReady s n avoid) := by
  have hself : Readied n s s := ⟨rfl, rfl, rfl, rfl, rfl, rfl, rfl, rfl, rfl, rfl⟩
  rw [bandReady]
  split
  · exact hself
  · split
    · exact hself
    · refine ⟨?_, ?_, ?_, ?_, rfl, rfl, rfl, rfl, rfl, rfl⟩
      · rw [fset_wr, fset_setFset]
      · rw [fset_wr, fset_setFset]
      · rw [fset_wr, fset_setFset]
      · obtain ⟨hwidth, -, hapart⟩ := placeReads_steady n (F.SAVE_OPEN_OPEN_GEN n.val) (by simp [placeReads])
        exact rd_wr_apart _ _ _ _ hwidth hapart

theorem mkCodeword_congr {s t : State} (h : t.cipher = s.cipher) (n : Stage) (kind number gen seq flags : Nat) (payload : List Byte) :
    mkCodeword t n kind number gen seq flags payload = mkCodeword s n kind number gen seq flags payload := by
  simp only [mkCodeword, keyAt, h]
theorem openCodeword_congr {s t : State} (h : t.cipher.keys = s.cipher.keys) (n : Stage) (cw : Codeword) : openCodeword t n cw = openCodeword s n cw := by
  simp only [openCodeword, keyAt, h]

/-- The codeword of a payload of bytes takes the next sequence value. -/
theorem jobCodeword_bytes (s : State) (n : Stage) {j : Job} {bs : List Byte} (hbody : j.body = .bytes bs) :
    (jobCodeword s n j).1 = mkCodeword s n j.kind j.number (openGen s n) (fset s n).seq j.flags bs
      ∧ fset (jobCodeword s n j).2 n = { fset s n with seq := (fset s n).seq + 1 } ∧ Calm s (jobCodeword s n j).2 := by
  rw [jobCodeword, hbody]
  refine ⟨rfl, ?_, ?_⟩
  · dsimp only
    split
    · rw [fset_wr, fset_setFset]
    · rw [fset_setFset]
  · dsimp only
    split
    · exact ⟨rfl, rfl, rfl, rfl, rfl⟩
    · exact ⟨rfl, rfl, rfl, rfl, rfl⟩
theorem jobCodeword_relay (s : State) (n : Stage) {j : Job} {cw : Codeword} (hbody : j.body = .relay cw) : jobCodeword s n j = (cw, s) := by rw [jobCodeword, hbody]

/-- The slots of a page of the open band with one more codeword. -/
def slotsWith (pages : List OpenPage) (lun page : Nat) (p : Placed) : List Placed :=
  match pages.find? (fun q => q.lun == lun && q.page == page) with
  | some q => q.slots ++ [p]
  | none => [p]
theorem mem_slotsWith (pages : List OpenPage) (lun page : Nat) (p : Placed) : p ∈ slotsWith pages lun page p := by
  unfold slotsWith
  split <;> simp
/-- The waiting pages with one of them, new or known, holding these slots. -/
def pagesWith (pages : List OpenPage) (lun page : Nat) (slots : List Placed) : List OpenPage :=
  if pages.any (fun q => q.lun == lun && q.page == page) then pages.map (fun q => if q.lun == lun && q.page == page then ⟨lun, page, slots⟩ else q)
  else pages ++ [⟨lun, page, slots⟩]
theorem mem_pagesWith (pages : List OpenPage) (lun page : Nat) (slots : List Placed) : ⟨lun, page, slots⟩ ∈ pagesWith pages lun page slots := by
  unfold pagesWith
  split
  next h =>
    obtain ⟨q, hq, hat⟩ := List.any_eq_true.mp h
    exact List.mem_map.mpr ⟨q, hq, if_pos hat⟩
  · exact List.mem_append_right _ (List.mem_singleton_self _)
/-- A page of the open band takes its slots; the cursor follows, and the block counts as used. -/
def pageTakes (s : State) (n : Stage) (lun page : Nat) (slots : List Placed) : State :=
  let x : StageFlash := { fset s n with pages := pagesWith (fset s n).pages lun page slots, page := page % pagesPer s n, pos := lun }
  let s := setFset s n (if slots.length ≥ 4 then cursorPast x (pagesPer s n) lun page else x)
  let s := setBlock s lun (page / pagesPer s n) { blockAt s lun (page / pagesPer s n) with erased := false, epoch := (fset s n).fmt }
  if slots.length ≥ 4 then freeFollow s n else s

theorem fset_setBlock (s : State) (lun b : Nat) (x : Block) (n : Stage) : fset (setBlock s lun b x) n = fset s n := rfl
theorem fset_freeFollow (s : State) (n m : Stage) : fset (freeFollow s n) m = fset s m := rfl

/-- Of the stage's set only pages and cursor have moved. -/
theorem pageTakes_moves (s : State) (n : Stage) (lun page : Nat) (slots : List Placed) :
    (∃ page' pos, fset (pageTakes s n lun page slots) n = { fset s n with pages := pagesWith (fset s n).pages lun page slots, page := page', pos := pos })
      ∧ Calm s (pageTakes s n lun page slots) := by
  rw [pageTakes]
  by_cases hfull : slots.length ≥ 4
  · simp only [if_pos hfull, fset_freeFollow, fset_setBlock, fset_setFset]
    exact ⟨⟨_, _, rfl⟩, rfl, rfl, rfl, rfl, rfl⟩
  · simp only [if_neg hfull, fset_setBlock, fset_setFset]
    exact ⟨⟨_, _, rfl⟩, rfl, rfl, rfl, rfl, rfl⟩

theorem placeJob_takes {s : State} {n : Stage} {j : Job} {ch : Nat} (hlane : cursorLane s n j = some ch) {cw : Codeword} {t : State}
    (hcw : jobCodeword (bandReady s n j.avoid) n j = (cw, t)) :
    ∃ lun page, lunCh lun = ch ∧ placeJob s n j = pageTakes t n lun page (slotsWith (fset t n).pages lun page ⟨j, cw⟩) := by
  rw [cursorLane, Option.map_eq_some_iff] at hlane
  obtain ⟨⟨lun, page⟩, hplace, hch⟩ := hlane
  refine ⟨lun, page, hch, ?_⟩
  rw [placeJob]
  dsimp only
  rw [hplace]
  dsimp only
  rw [hcw]
  rfl

/-- A codeword placed where its stage's cursor stands: a waiting page of that channel holds it. -/
structure Places (n : Stage) (ch : Nat) (p : Placed) (s t : State) : Prop where
  holds : ∃ q ∈ (fset t n).pages, lunCh q.lun = ch ∧ p ∈ q.slots
  jobs : (fset t n).jobs = (fset s n).jobs
  seq : (fset t n).seq = (fset s n).seq
  ckpt : (fset t n).ckpt = (fset s n).ckpt
  calm : Calm s t

theorem placeJob_places {s : State} {n : Stage} {j : Job} {ch : Nat} (hlane : cursorLane s n j = some ch) {cw : Codeword} {t : State}
    (hcw : jobCodeword (bandReady s n j.avoid) n j = (cw, t)) : Places n ch ⟨j, cw⟩ t (placeJob s n j) := by
  obtain ⟨lun, page, hch, hplace⟩ := placeJob_takes hlane hcw
  obtain ⟨⟨page', pos, hset⟩, hcalm⟩ := pageTakes_moves t n lun page (slotsWith (fset t n).pages lun page ⟨j, cw⟩)
  rw [hplace]
  refine ⟨⟨⟨lun, page, _⟩, ?_, hch, mem_slotsWith (fset t n).pages lun page ⟨j, cw⟩⟩, ?_, ?_, ?_, hcalm⟩ <;> rw [hset]
  exact mem_pagesWith ..

/-! A tag checked (R403). -/

theorem laneCheck_opens {s : State} {n : Stage} {ch : Nat} {cw : Codeword} {bs : List Byte} (htest : s.cipher.laneTest = none) (hopen : openCodeword s n cw = some bs) :
    laneCheck s n ch cw = (some bs, s) := by
  have hnone : (s.cipher.laneTest == some ch) = false := by rw [htest]; rfl
  simp only [laneCheck, hnone, Bool.false_eq_true, if_false, hopen]
theorem laneCheck_fails {s : State} {n : Stage} {ch : Nat} {cw : Codeword} (htest : s.cipher.laneTest = none) (hopen : openCodeword s n cw = none) :
    laneCheck s n ch cw = (none, pmonHit (incSat s (F.CIPH_LANE_FAIL_TAG_FAILS ch) 1) 6 3 ch 1) := by
  have hnone : (s.cipher.laneTest == some ch) = false := by rw [htest]; rfl
  simp only [laneCheck, hnone, Bool.false_eq_true, if_false, hopen]

/-! LANE_ENCRYPT and LANE_RELAY (R402, R404). -/

/-- The head of the queue taken by its lane: the place of its codeword is as before. -/
def headTaken (s : State) (n : Stage) (rest : List Job) (kind ch : Nat) : State := pmonHit (setFset s n { fset s n with jobs := rest }) 6 kind ch 1

theorem headTaken_alike (s : State) (n : Stage) (rest : List Job) (kind ch : Nat) : PlacesAlike n s (headTaken s n rest kind ch) :=
  (placesAlike_setFset (x := { fset s n with jobs := rest }) rfl rfl rfl rfl).trans ((quiet_pmonHit ..).placesAlike n)
theorem fset_headTaken (s : State) (n : Stage) (rest : List Job) (kind ch : Nat) : fset (headTaken s n rest kind ch) n = { fset s n with jobs := rest } := by
  rw [fset, headTaken, (quiet_pmonHit ..).flash, ← fset, fset_setFset]
theorem headTaken_set (s : State) (n : Stage) (rest : List Job) (kind ch : Nat) : (fset (headTaken s n rest kind ch) n).jobs = rest
    ∧ (fset (headTaken s n rest kind ch) n).seq = (fset s n).seq ∧ (fset (headTaken s n rest kind ch) n).ckpt = (fset s n).ckpt := by
  rw [fset_headTaken]
  exact ⟨rfl, rfl, rfl⟩
theorem calm_headTaken (s : State) (n : Stage) (rest : List Job) (kind ch : Nat) : Calm s (headTaken s n rest kind ch) :=
  Calm.trans ⟨rfl, rfl, rfl, rfl, rfl⟩ (regsOnly_pmonHit ..).calm
theorem cipher_headTaken (s : State) (n : Stage) (rest : List Job) (kind ch : Nat) : (headTaken s n rest kind ch).cipher = s.cipher := (regsOnly_pmonHit ..).cipher

theorem ckptFeed_none {s : State} {n : Stage} (h : (fset s n).ckpt = none) : ckptFeed s n = s := by rw [ckptFeed, h]

section
variable {s : State} {n : Stage} {ch : Nat} (hstage : flashStage s ch = some n) {j : Job} {rest : List Job} (hjobs : (fset s n).jobs = j :: rest)
  (hlane : cursorLane s n j = some ch)
include hstage hjobs hlane

theorem laneEncrypt_places {bs : List Byte} (hbody : j.body = .bytes bs) (hckpt : (fset s n).ckpt = none) :
    laneEncrypt s ch = ckptFeed (placeJob (headTaken s n rest 0 ch) n j) n := by
  have hrelay : isRelay j = false := by rw [isRelay, hbody]
  rw [laneEncrypt, hstage]
  simp only [hjobs, hrelay, hlane, hbody, hckpt, Bool.false_eq_true, if_false, ne_eq, not_true_eq_false, Option.map_none]
  rw [headTaken, ← hckpt]

theorem laneEncrypt_encrypts {bs : List Byte} (hbody : j.body = .bytes bs) (hckpt : (fset s n).ckpt = none) : Answers (.laneEncrypt ch) s (fun _ t =>
    (fset t n).jobs = rest ∧ (fset t n).seq = (fset s n).seq + 1
    ∧ (∃ p ∈ (fset t n).pages, lunCh p.lun = ch ∧ ⟨j, mkCodeword s n j.kind j.number (openGen s n) (fset s n).seq j.flags bs⟩ ∈ p.slots)
    ∧ t.flash.pages = s.flash.pages ∧ t.modes = s.modes ∧ SameDram s t ∧ t.ledger = s.ledger) := by
  have halike := headTaken_alike s n rest 0 ch
  obtain ⟨hjobs', hseq', hckpt'⟩ := headTaken_set s n rest 0 ch
  have hready := readied_bandReady (headTaken s n rest 0 ch) n j.avoid
  obtain ⟨hcw, hset, hcalm⟩ := jobCodeword_bytes (bandReady (headTaken s n rest 0 ch) n j.avoid) n hbody
  have hplaced := placeJob_places ((halike.cursorLane j).trans hlane) (Prod.mk.eta (p := jobCodeword (bandReady (headTaken s n rest 0 ch) n j.avoid) n j)).symm
  rw [hcw, hready.seq, hready.gen, halike.openGen, hseq', mkCodeword_congr (hready.cipher.trans (cipher_headTaken ..))] at hplaced
  have hfeed : ckptFeed (placeJob (headTaken s n rest 0 ch) n j) n = placeJob (headTaken s n rest 0 ch) n j := ckptFeed_none (by
    rw [hplaced.ckpt, hset]
    exact hready.ckpt.trans (hckpt'.trans hckpt))
  have hall := (((calm_headTaken s n rest 0 ch).trans hready.calm).trans hcalm).trans hplaced.calm
  obtain ⟨hpages, hmodes, hdram, hledger, -⟩ := hall.of_finish
  refine ⟨placeJob (headTaken s n rest 0 ch) n j, congrArg done ((laneEncrypt_places hstage hjobs hlane hbody hckpt).trans hfeed), ?_, ?_, ?_, hpages, hmodes, hdram, hledger⟩
  · rw [fset_finish, hplaced.jobs, hset]
    exact hready.jobs.trans hjobs'
  · rw [fset_finish, hplaced.seq, hset]
    exact congrArg (· + 1) (hready.seq.trans hseq')
  · rw [fset_finish]
    exact hplaced.holds

theorem laneRelay_places {f src : Nat} {cw : Codeword} (huse : j.use = .relocate f src) (hbody : j.body = .relay cw) (htest : s.cipher.laneTest = none)
    (htag : (openCodeword s n cw).isSome = true) : laneRelay s ch = placeJob (headTaken s n rest 2 ch) n j := by
  obtain ⟨use, kind, number, flags, body, tries, avoid⟩ := j
  obtain rfl : use = .relocate f src := huse
  obtain rfl : body = .relay cw := hbody
  have hcipher := cipher_headTaken s n rest 2 ch
  obtain ⟨bs, hbs⟩ := Option.isSome_iff_exists.mp htag
  have hcheck := laneCheck_opens (ch := ch) (s := headTaken s n rest 2 ch) (by rw [hcipher, htest]) ((openCodeword_congr (congrArg Cipher.keys hcipher) n cw).trans hbs)
  rw [headTaken] at hcheck
  rw [laneRelay, hstage]
  simp only [hjobs, hlane, ne_eq, not_true_eq_false, if_false, hcheck, Option.isNone_some, Bool.false_eq_true]
  rfl

theorem laneRelay_relays {f src : Nat} {cw : Codeword} (huse : j.use = .relocate f src) (hbody : j.body = .relay cw) (htest : s.cipher.laneTest = none)
    (htag : (openCodeword s n cw).isSome = true) : Answers (.laneRelay ch) s (fun _ t =>
    (fset t n).jobs = rest ∧ (fset t n).seq = (fset s n).seq ∧ (∃ p ∈ (fset t n).pages, lunCh p.lun = ch ∧ ⟨j, cw⟩ ∈ p.slots)
    ∧ t.flash.pages = s.flash.pages ∧ t.modes = s.modes ∧ SameDram s t ∧ t.ledger = s.ledger) := by
  have halike := headTaken_alike s n rest 2 ch
  obtain ⟨hjobs', hseq', -⟩ := headTaken_set s n rest 2 ch
  have hready := readied_bandReady (headTaken s n rest 2 ch) n j.avoid
  have hplaced := placeJob_places ((halike.cursorLane j).trans hlane) (jobCodeword_relay (bandReady (headTaken s n rest 2 ch) n j.avoid) n hbody)
  have hall := ((calm_headTaken s n rest 2 ch).trans hready.calm).trans hplaced.calm
  obtain ⟨hpages, hmodes, hdram, hledger, -⟩ := hall.of_finish
  refine ⟨placeJob (headTaken s n rest 2 ch) n j, congrArg done (laneRelay_places hstage hjobs hlane huse hbody htest htag), ?_, ?_, ?_, hpages, hmodes, hdram, hledger⟩
  · rw [fset_finish, hplaced.jobs, hready.jobs, hjobs']
  · rw [fset_finish, hplaced.seq, hready.seq, hseq']
  · rw [fset_finish]
    exact hplaced.holds
end

/-! LANE_DECRYPT (R403). -/

/-- A codeword taken from its lane's queue. -/
def laneTaken (s : State) (n : Stage) : State := { s with flash := { s.flash with laneQ := qset s.flash.laneQ n [] } }

theorem laneDecrypt_idle {s : State} {n : Stage} {ch : Nat} (hstage : flashStage s ch = some n) (hempty : qget s.flash.laneQ n = []) : laneDecrypt s ch = s := by
  rw [laneDecrypt, hstage]
  simp only [laneTake, hempty, List.find?_nil]

theorem laneTake_single {s : State} {n : Stage} {ch : Nat} {r : ReadReq} {cw : Codeword} (hqueue : qget s.flash.laneQ n = [(r, some cw)])
    (hch : lunCh (entryLun r.entry) = ch) (huse : ∀ f, r.use ≠ .strike f) : laneTake s n ch false = (some (r, cw), laneTaken s n) := by
  cases hu : r.use with
  | strike f => exact absurd hu (huse f)
  | background f => simp [laneTake, hqueue, hch, hu, laneTaken]
  | touch f => simp [laneTake, hqueue, hch, hu, laneTaken]
  | record => simp [laneTake, hqueue, hch, hu, laneTaken]

/-- The state in which a taken codeword's tag is to be checked. -/
def laneTurn (s : State) (n : Stage) (ch : Nat) : State := pmonHit (laneTaken s n) 6 1 ch 1

theorem regsOnly_laneTurn (s : State) (n : Stage) (ch : Nat) : RegsOnly (laneTaken s n) (laneTurn s n ch) := regsOnly_pmonHit ..
theorem rd_laneTurn (s : State) (n : Stage) (ch : Nat) {g : Fld} (hg : steadyField g = true) : rd (laneTurn s n ch) g = rd s g := (quiet_pmonHit (laneTaken s n) 6 1 ch 1).fields g hg

theorem tagFails_fits : ∀ c < 16, (F.CIPH_LANE_FAIL_TAG_FAILS c).lo + (F.CIPH_LANE_FAIL_TAG_FAILS c).width ≤ 48 ∧ steadyField (F.CIPH_LANE_FAIL_TAG_FAILS c) = true := by
  decide +kernel

/-- What the check of a tag leaves: a failed one is counted, and nothing else moves. -/
theorem laneCheck_counts {s : State} {n : Stage} {ch : Nat} (hch : ch < 16) {cw : Codeword} (htest : s.cipher.laneTest = none) :
    (laneCheck s n ch cw).1 = openCodeword s n cw ∧ RegsOnly s (laneCheck s n ch cw).2
      ∧ rd (laneCheck s n ch cw).2 (F.CIPH_LANE_FAIL_TAG_FAILS ch) = (if (openCodeword s n cw).isSome then rd s (F.CIPH_LANE_FAIL_TAG_FAILS ch)
        else min (rd s (F.CIPH_LANE_FAIL_TAG_FAILS ch) + 1) (2 ^ (F.CIPH_LANE_FAIL_TAG_FAILS ch).width - 1)) := by
  obtain ⟨hwidth, hsteady⟩ := tagFails_fits ch hch
  cases hopen : openCodeword s n cw with
  | some bs =>
    rw [laneCheck_opens htest hopen]
    exact ⟨rfl, .refl s, rfl⟩
  | none =>
    rw [laneCheck_fails htest hopen]
    refine ⟨rfl, (regsOnly_wr ..).trans (regsOnly_pmonHit ..), ?_⟩
    rw [(quiet_pmonHit ..).fields _ hsteady, incSat, rd_wr_self _ _ _ hwidth]
    have hpos := Nat.two_pow_pos (F.CIPH_LANE_FAIL_TAG_FAILS ch).width
    exact Nat.mod_eq_of_lt (by rw [satN]; omega)

section
variable {s : State} {n : Stage} {ch : Nat} (hstage : flashStage s ch = some n) {r : ReadReq} {cw : Codeword} (hqueue : qget s.flash.laneQ n = [(r, some cw)])
  (hch : lunCh (entryLun r.entry) = ch) (htest : s.cipher.laneTest = none)
include hstage hqueue hch htest

theorem laneDecrypt_record (huse : r.use = .record) (hidle : (rst s n).outstanding = 0) : laneDecrypt s ch = (laneCheck (laneTurn s n ch) n ch cw).2 := by
  have hregs := (regsOnly_laneTurn s n ch).trans (laneCheck_counts (s := laneTurn s n ch) (n := n) (cw := cw) (flashStage_lt hstage)
    (by rw [(regsOnly_laneTurn s n ch).cipher]; exact htest)).2.1
  rw [laneDecrypt, hstage]
  dsimp only
  rw [laneTake_single hqueue hch (by rw [huse]; exact fun _ => ReadUse.noConfusion)]
  dsimp only
  rw [huse]
  dsimp only
  rw [recordRead, if_pos]
  · rfl
  · exact (congrArg (fun r => (qget r n).outstanding) hregs.restore).trans hidle

omit htest in
theorem laneDecrypt_touch {f : Nat} (huse : r.use = .touch f) :
    laneDecrypt s ch = frameArrived (laneCheck (laneTurn s n ch) n ch cw).2 n r f true cw (laneCheck (laneTurn s n ch) n ch cw).1 := by
  rw [laneDecrypt, hstage]
  dsimp only
  rw [laneTake_single hqueue hch (by rw [huse]; exact fun _ => ReadUse.noConfusion)]
  dsimp only
  rw [huse]
  rfl
end

/-! A frame's lines put at their ports (R180, R182). -/

/-- What requests at the ports and a frame's poisoning leave: the events before it, flash, modes, ledger, restores and stored lines. -/
structure Fills (s t : State) : Prop where
  evs : s.evs ⊆ t.evs
  flash : t.flash = s.flash
  modes : t.modes = s.modes
  ledger : t.ledger = s.ledger
  restore : t.restore = s.restore
  lines : t.dram.lines = s.dram.lines

theorem Fills.refl (s : State) : Fills s s := ⟨List.Subset.refl _, rfl, rfl, rfl, rfl, rfl⟩
theorem Fills.trans {s t u : State} (h : Fills s t) (k : Fills t u) : Fills s u :=
  ⟨List.Subset.trans h.evs k.evs, k.flash.trans h.flash, k.modes.trans h.modes, k.ledger.trans h.ledger, k.restore.trans h.restore, k.lines.trans h.lines⟩
theorem RegsOnly.fills {s t : State} (h : RegsOnly s t) : Fills s t := ⟨h.evs, h.flash, h.modes, h.ledger, h.restore, congrArg Dram.lines h.dram⟩
theorem fills_dramPut (s : State) (r : DramReq) : Fills s (dramPut s r) := by
  rw [dramPut]
  split
  · exact .refl s
  · split
    · exact ((((regsOnly_wr ..).trans (regsOnly_wr ..)).trans (regsOnly_wr ..)).trans ((regsOnly_wr ..).trans (regsOnly_event ..))).fills
    · exact ⟨List.Subset.refl _, rfl, rfl, rfl, rfl, rfl⟩
theorem fills_poisonAdd (s : State) (n : Stage) (e : PoisonEntry) : Fills s (poisonAdd s n e) := by
  rw [poisonAdd]
  dsimp only
  split_ifs
  · exact .refl s
  · exact ⟨List.Subset.refl _, rfl, rfl, rfl, rfl, rfl⟩
  · exact ⟨List.subset_append_left _ _, rfl, rfl, rfl, rfl, rfl⟩
theorem Fills.fold {α : Type} (f : State → α → State) (h : ∀ s a, Fills s (f s a)) (xs : List α) (s : State) : Fills s (foldS xs f s) := by
  induction xs generalizing s with
  | nil => exact .refl s
  | cons x xs ih => exact (h s x).trans (ih (f s x))

/-- A frame on its way to DRAM. -/
structure Arrives (n : Stage) (f : Nat) (s t : State) : Prop where
  writing : (rst t n).writing.contains f = true
  reading : (rst t n).reading.contains f = false
  evs : s.evs ⊆ t.evs
  flash : t.flash = s.flash
  modes : t.modes = s.modes
  ledger : t.ledger = s.ledger
  lines : t.dram.lines = s.dram.lines

theorem Fills.arrives {n : Stage} {f : Nat} {s t u : State} (h : Fills s t) (k : Arrives n f t u) : Arrives n f s u :=
  ⟨k.writing, k.reading, List.Subset.trans h.evs k.evs, k.flash.trans h.flash, k.modes.trans h.modes, k.ledger.trans h.ledger, k.lines.trans h.lines⟩
theorem arrives_frameWrite (s : State) (n : Stage) (f : Nat) (touch : Bool) (data : Option (List Byte)) : Arrives n f s (frameWrite s n f touch data) := by
  rw [frameWrite]
  dsimp only
  have hput := Fills.fold (fun s i =>
      let d := match data with
        | some bs => bytesLine (slice bs (64 * i) 64)
        | none => 0#512
      if touch then dramWrite s (if (led s n).gated then 0 else 1) 0 n (64 * f + i) d data.isNone (.touchWrite f)
      else dramWrite s 5 3 n (64 * f + i) d data.isNone (.restoreWrite f))
    (fun s i => by
      dsimp only
      split
      · exact fills_dramPut ..
      · exact fills_dramPut ..)
    (List.range 64) (setRst s n { rst s n with writing := insertNat (rst s n).writing f, reading := (rst s n).reading.filter (· ≠ f) })
  have hrst := congrArg (fun r => qget r n) hput.restore
  refine ⟨?_, ?_, hput.evs, hput.flash, hput.modes, hput.ledger, hput.lines⟩
  · refine (congrArg (fun r : RestoreState => r.writing.contains f) hrst).trans ?_
    rw [setRst, qget_qset_self]
    exact contains_insertNat ..
  · refine (congrArg (fun r : RestoreState => r.reading.contains f) hrst).trans ?_
    rw [setRst, qget_qset_self]
    simp
theorem arrives_framePoison (s : State) (n : Stage) (f : Nat) (touch : Bool) (code sev : Nat) :
    Arrives n f s (framePoison s n f touch code sev) ∧ (⟨code, sev, n.val, f⟩ : Ev) ∈ (framePoison s n f touch code sev).evs := by
  have hcounted : RegsOnly (event s code sev n.val f) (incSat (event s code sev n.val f) (F.RESTORE_POISONED_FRAMES n.val) 1) := regsOnly_wr ..
  have hbefore := hcounted.fills.trans (fills_poisonAdd _ n ⟨64 * f, 64, false⟩)
  have harrives := arrives_frameWrite (poisonAdd (incSat (event s code sev n.val f) (F.RESTORE_POISONED_FRAMES n.val) 1) n ⟨64 * f, 64, false⟩) n f touch none
  exact ⟨(regsOnly_event s code sev n.val f).fills.arrives (hbefore.arrives harrives),
    harrives.evs (hbefore.evs (List.mem_append_right _ (List.mem_singleton_self _)))⟩
theorem arrives_frameArrived (s : State) (n : Stage) (r : ReadReq) (f : Nat) (touch : Bool) (cw : Codeword) (p : Option (List Byte)) :
    Arrives n f s (frameArrived s n r f touch cw p) ∧ (p = none → (⟨0x305, 1, n.val, f⟩ : Ev) ∈ (frameArrived s n r f touch cw p).evs) := by
  cases p with
  | none =>
    obtain ⟨harrives, hlogged⟩ := arrives_framePoison s n f touch 0x305 1
    exact ⟨harrives, fun _ => hlogged⟩
  | some bs =>
    refine ⟨?_, fun h => absurd h (Option.some_ne_none bs)⟩
    rw [frameArrived]
    dsimp only
    split
    · exact (arrives_framePoison ..).1
    · split
      · exact (arrives_framePoison ..).1
      · exact (regsOnly_pmonHit ..).fills.arrives (arrives_frameWrite ..)

/-! What LANE_DECRYPT answers (R403). -/

section
variable {s : State} {n : Stage} {ch : Nat} (hstage : flashStage s ch = some n) {r : ReadReq} {cw : Codeword} (hqueue : qget s.flash.laneQ n = [(r, some cw)])
  (hch : lunCh (entryLun r.entry) = ch) (htest : s.cipher.laneTest = none)
include hstage hqueue hch htest

theorem laneDecrypt_takesRecord (huse : r.use = .record) (hidle : (rst s n).outstanding = 0) : Answers (.laneDecrypt ch) s (fun _ t =>
    qget t.flash.laneQ n = [] ∧ t.flash.pages = s.flash.pages ∧ t.modes = s.modes ∧ SameDram s t ∧ t.ledger = s.ledger
    ∧ rd t (F.CIPH_LANE_FAIL_TAG_FAILS ch) = (if (openCodeword s n cw).isSome then rd s (F.CIPH_LANE_FAIL_TAG_FAILS ch)
      else min (rd s (F.CIPH_LANE_FAIL_TAG_FAILS ch) + 1) (2 ^ (F.CIPH_LANE_FAIL_TAG_FAILS ch).width - 1))) := by
  have hlt := flashStage_lt hstage
  have hturn := regsOnly_laneTurn s n ch
  obtain ⟨-, hregs, hcount⟩ := laneCheck_counts (s := laneTurn s n ch) (n := n) (cw := cw) hlt (by rw [hturn.cipher]; exact htest)
  have hall := hturn.trans hregs
  rw [rd_laneTurn s n ch (tagFails_fits ch hlt).2, openCodeword_congr (congrArg Cipher.keys hturn.cipher)] at hcount
  have hquiet := quiet_finish (laneCheck (laneTurn s n ch) n ch cw).2
  refine ⟨_, congrArg done (laneDecrypt_record hstage hqueue hch htest huse hidle), ?_, ?_, hquiet.modes.trans hall.modes, hquiet.dram.trans hall.calm.2.2.1,
    hquiet.ledger.trans hall.ledger, (hquiet.fields _ (tagFails_fits ch hlt).2).trans hcount⟩
  · rw [hquiet.flash, hall.flash]
    exact qget_qset_self ..
  · rw [hquiet.flash, hall.flash]
    rfl

theorem laneDecrypt_takesFrame {f : Nat} (huse : r.use = .touch f) : Answers (.laneDecrypt ch) s (fun u t =>
    qget t.flash.laneQ n = [] ∧ (rst t n).writing.contains f = true ∧ (rst t n).reading.contains f = false
    ∧ (openCodeword s n cw = none → (⟨0x305, 1, n.val, f⟩ : Ev) ∈ u.evs) ∧ t.flash.pages = s.flash.pages ∧ t.modes = s.modes ∧ t.dram.lines = s.dram.lines ∧ t.ledger = s.ledger) := by
  have hlt := flashStage_lt hstage
  have hturn := regsOnly_laneTurn s n ch
  obtain ⟨hopen, hregs, -⟩ := laneCheck_counts (s := laneTurn s n ch) (n := n) (cw := cw) hlt (by rw [hturn.cipher]; exact htest)
  rw [openCodeword_congr (congrArg Cipher.keys hturn.cipher)] at hopen
  have htouch := laneDecrypt_touch hstage hqueue hch huse
  rw [hopen] at htouch
  obtain ⟨harrives, hlogged⟩ := arrives_frameArrived (laneCheck (laneTurn s n ch) n ch cw).2 n r f true cw (openCodeword (laneTaken s n) n cw)
  have hall := (hturn.trans hregs).fills.arrives harrives
  generalize frameArrived _ n r f true cw _ = u at htouch hlogged hall
  have hquiet := quiet_finish u
  refine ⟨u, congrArg done htouch, ?_, ?_, ?_, hlogged, ?_, hquiet.modes.trans hall.modes, (congrArg Dram.lines hquiet.dram :).trans hall.lines, hquiet.ledger.trans hall.ledger⟩
  · rw [hquiet.flash, hall.flash]
    exact qget_qset_self ..
  · rw [rst, hquiet.restore]
    exact hall.writing
  · rw [rst, hquiet.restore]
    exact hall.reading
  · rw [hquiet.flash, hall.flash]
    rfl
end

/-- Settles O40: the head of the queue is placed by the cursor that the lane's turn leaves alone; a taken codeword by the check of its tag. -/
theorem lanesEncryptAndDecrypt : Obligations.LanesEncryptAndDecrypt := by
  unfold Obligations.LanesEncryptAndDecrypt
  intro s n ch hstage
  exact ⟨fun j rest bs hjobs hbody hlane hckpt => laneEncrypt_encrypts hstage hjobs hlane hbody hckpt,
    fun j f src cw rest hjobs huse hbody hlane htest htag => laneRelay_relays hstage hjobs hlane huse hbody htest htag,
    fun hempty => congrArg done (laneDecrypt_idle hstage hempty),
    fun r cw hqueue hch huse hidle htest => laneDecrypt_takesRecord hstage hqueue hch htest huse hidle,
    fun r cw f hqueue hch huse htest => laneDecrypt_takesFrame hstage hqueue hch htest huse⟩

end Sys2Proof.Machine
end

section
/-! Proofs: the ends of reads and erases, and stale completions (R224, R230, R231, R252, R260). -/

namespace Sys2Proof.Machine

/-! What follows a change of the flash set's blocks beside the blocks themselves. -/

/-- `t` is `s` with other registers, events added, and of the flash at most the stages' sets and system blocks changed: pages, blocks, channels and queues stand. -/
def Settles (s t : State) : Prop := ∃ r e a b, t = { s with regs := r, evs := s.evs ++ e, flash := { s.flash with sets := a, sys := b } }

namespace Settles
variable {s t u : State}

theorem refl (s : State) : Settles s s := ⟨s.regs, [], s.flash.sets, s.flash.sys, by rw [List.append_nil]⟩
theorem trans (h : Settles s t) (k : Settles t u) : Settles s u := by
  obtain ⟨r, e, a, b, rfl⟩ := h
  obtain ⟨r', e', a', b', rfl⟩ := k
  exact ⟨r', e ++ e', a', b', by simp only [List.append_assoc]⟩
theorem of_regs (k : RegsOnly s t) : Settles s t := by
  obtain ⟨r, e, rfl⟩ := k
  exact ⟨r, e, s.flash.sets, s.flash.sys, rfl⟩
theorem regs (h : Settles s t) (k : RegsOnly t u) : Settles s u := h.trans (of_regs k)
theorem wr (h : Settles s t) (f : Fld) (v : Nat) : Settles s (wr t f v) := h.regs (regsOnly_wr ..)
theorem event (h : Settles s t) (a b c d : Nat) : Settles s (event t a b c d) := h.regs (regsOnly_event ..)
theorem setFsys (h : Settles s t) (n : Stage) (x : StageSys) : Settles s (setFsys t n x) := h.trans ⟨t.regs, [], t.flash.sets, _, by rw [List.append_nil]; rfl⟩
theorem setFset (h : Settles s t) (n : Stage) (x : StageFlash) : Settles s (setFset t n x) := h.trans ⟨t.regs, [], _, t.flash.sys, by rw [List.append_nil]; rfl⟩
theorem ite (c : Prop) [Decidable c] {a b : State} (ha : Settles s a) (hb : Settles s b) : Settles s (if c then a else b) := by
  split
  · exact ha
  · exact hb
theorem whenS (h : Settles s t) (c : Bool) (f : State → State) (hf : ∀ u, Settles s u → Settles s (f u)) : Settles s (whenS c f t) := .ite _ (hf t h) h
theorem fold {α : Type} (h : Settles s t) (xs : List α) (f : State → α → State) (hf : ∀ u a, Settles s u → Settles s (f u a)) : Settles s (foldS xs f t) := by
  unfold foldS
  induction xs generalizing t with
  | nil => exact h
  | cons x xs ih => exact ih (hf t x h)

theorem spaceFollow (h : Settles s t) (n : Stage) : Settles s (spaceFollow t n false) := by
  unfold Machine.spaceFollow freeFollow
  exact ((((((h.setFsys ..).wr _ _).regs (regsOnly_spaceRefresh ..)).whenS _ _ fun _ k => k.event ..).setFsys ..).wr _ _)
theorem setVictim (h : Settles s t) (n : Stage) (v : Option Nat) : Settles s (setVictim t n v) := (h.setFsys ..).wr _ _
theorem strikeFollow (h : Settles s t) (n : Stage) : Settles s (strikeFollow t n) := by
  unfold Machine.strikeFollow
  exact (((((h.whenS _ _ fun _ k => k.event ..).whenS _ _ fun _ k => k.event ..).setFsys ..).wr _ _).wr _ _).setVictim n _
theorem recStart (h : Settles s t) (n : Stage) (owner : Nat) (ps : List (Nat × List Byte)) : Settles s (recStart t n owner false ps) := by
  unfold Machine.recStart putWriter
  exact ((h.setFset ..).setFset ..).fold _ _ fun _ _ k => k.setFset ..
theorem tablesStart (h : Settles s t) (n : Stage) : Settles s (tablesStart t n) := by
  unfold Machine.tablesStart
  have hbad := Settles.ite ((fset t n).badDue && (writerOf t n 9).isNone) ((h.setFset n { fset t n with badDue := false }).recStart n 9
    (if ((packEntries 4 (badEntries t n)).map (fun p => (9, p))).isEmpty then [(9, padPayload [] 0xFF#8)] else (packEntries 4 (badEntries t n)).map (fun p => (9, p)))) h
  exact .ite _ h (.ite _ ((hbad.setFset ..).recStart ..) hbad)
theorem houseMove (h : Settles s t) (n : Stage) (copy : Nat) : Settles s (houseMove t n copy) := by
  unfold Machine.houseMove
  split
  · exact h.setFsys ..
  · exact h
theorem softReached (h : Settles s t) (n : Stage) (e : Nat) : Settles s (softReached t n e) := by
  unfold Machine.softReached
  exact ((((h.wr _ _).regs (regsOnly_pmonHit ..)).setFsys ..).event ..)

theorem calm (h : Settles s t) : Calm s t := by
  obtain ⟨_, _, _, _, rfl⟩ := h
  exact ⟨rfl, rfl, rfl, rfl, rfl⟩
theorem evs (h : Settles s t) : s.evs ⊆ t.evs := by obtain ⟨_, _, _, _, rfl⟩ := h; exact List.subset_append_left ..
theorem blocks (h : Settles s t) : t.flash.blocks = s.flash.blocks := by obtain ⟨_, _, _, _, rfl⟩ := h; rfl
theorem chans (h : Settles s t) : t.flash.chans = s.flash.chans := by obtain ⟨_, _, _, _, rfl⟩ := h; rfl
theorem readQ (h : Settles s t) : t.flash.readQ = s.flash.readQ := by obtain ⟨_, _, _, _, rfl⟩ := h; rfl
end Settles

theorem regsOnly_wearFollow (s : State) (n : Stage) : RegsOnly s (wearFollow s n) := by
  unfold wearFollow
  exact ((((regsOnly_wr ..).trans (regsOnly_wr ..)).trans (regsOnly_wr ..)).trans (regsOnly_wr ..)).trans (regsOnly_wr ..)
theorem regsOnly_blocksFollow (s : State) (n : Stage) : RegsOnly s (blocksFollow s n) := by
  unfold blocksFollow capacityFollow
  exact (((((RegsOnly.refl s).when _ _ fun _ => regsOnly_event ..).trans (regsOnly_wr ..)).trans (regsOnly_wr ..)).trans (regsOnly_wr ..)).trans (regsOnly_wearFollow ..)
theorem regsOnly_retryReached (s : State) (ch : Nat) : RegsOnly s (retryReached s ch) := (regsOnly_wr ..).trans (regsOnly_pmonHit ..)

/-! Stale completions (R224). -/

theorem stale_fits : ∀ c < 16, (F.FL_CH_CMD_STALE c).lo + (F.FL_CH_CMD_STALE c).width ≤ 48 ∧ steadyField (F.FL_CH_CMD_STALE c) = true := by decide +kernel

/-- What the three completions do where no outstanding command has the tag and epoch. -/
def staleCounted (s : State) (ch tag epoch : Nat) : State := pmonHit (flashStale s ch tag epoch) 5 7 ch 1

theorem exec_stale {s : State} {ch tag epoch : Nat} (h : flashOp s ch tag epoch = none) {pass : Bool} {k : Nat} {c : Instr}
    (hc : c = .pageProgramStatus ch tag epoch pass k ∨ c = .pageReadComplete ch tag epoch pass k ∨ c = .blockEraseComplete ch tag epoch pass) :
    exec c s = done (staleCounted s ch tag epoch) := by
  obtain rfl | rfl | rfl := hc
  · exact congrArg done (by rw [programStatus, h]; rfl)
  · exact congrArg done (by rw [readStatus, h]; rfl)
  · exact congrArg done (by rw [eraseStatus, h]; rfl)

theorem still_flashStale (s : State) (ch tag epoch : Nat) : Still s (flashStale s ch tag epoch) := by constructor <;> rfl
theorem staleCounted_answers {s : State} {ch tag epoch : Nat} (hch : ch < 16) {c : Instr} (hexec : exec c s = done (staleCounted s ch tag epoch)) :
    Answers c s (fun u t => (⟨0x405, 0, (flashStage s ch).elim 0 (fun n => n.val), ch + tag % 64 * 16 + epoch % 4 * 1024⟩ : Ev) ∈ u.evs
      ∧ rd t (F.FL_CH_CMD_STALE ch) = min (rd s (F.FL_CH_CMD_STALE ch) + 1) (2 ^ (F.FL_CH_CMD_STALE ch).width - 1) ∧ Still s t) := by
  obtain ⟨hwidth, hsteady⟩ := stale_fits ch hch
  have hhit := quiet_pmonHit (flashStale s ch tag epoch) 5 7 ch 1
  have hquiet := quiet_finish (staleCounted s ch tag epoch)
  refine ⟨_, hexec, ?_, ?_, ?_⟩
  · exact (regsOnly_pmonHit ..).evs (List.mem_append_right _ (List.mem_singleton_self _))
  · rw [hquiet.fields _ hsteady, staleCounted, hhit.fields _ hsteady, flashStale, rd_event, incSat, rd_wr_self _ _ _ hwidth]
    have hpos := Nat.two_pow_pos (F.FL_CH_CMD_STALE ch).width
    exact Nat.mod_eq_of_lt (by rw [satN]; omega)
  · exact ((still_flashStale s ch tag epoch).trans hhit.still).trans hquiet.still

/-! The command taken off its channel (R224). -/

/-- Fields that tell a stage's house LUNs, micro-programs and pages per block. -/
def setReads (n : Stage) : List Fld := [F.STAGE_BIND_BOUND n.val, F.STAGE_BIND_FLASH n.val, F.STAGE_BIND_MP_ID n.val, F.FL_STAGE_GEOM_PAGES n.val]
/-- Fields that follow the blocks of a set (R251, R253, R258). -/
def followWrites (n : Stage) : List Fld :=
  [F.FL_STAGE_CAPACITY_GOOD_MIB n.val, F.FL_STAGE_CAPACITY_NEEDED_MIB n.val, F.FL_STAGE_STATUS_CAPACITY_DEGRADED n.val, F.FL_STAGE_WEAR_MAX_ERASES n.val,
    F.FL_STAGE_WEAR_MEAN_ERASES n.val, F.FL_STAGE_BLOCKS_RETIRED n.val, F.FL_STAGE_BLOCKS_WORN_PENDING n.val, F.FL_STAGE_STATUS_WEAR_LEVEL n.val]
theorem setReads_apart : ∀ n : Stage, ∀ g ∈ setReads n, g.lo + g.width ≤ 48 ∧ (∀ c < 16, apart (F.FL_CH_STATUS_OUTSTANDING c) g = true)
    ∧ ∀ f ∈ followWrites n, apart f g = true := by decide +kernel

theorem rd_setReads_flashDrop {s : State} {ch : Nat} (hch : ch < 16) (tag : Nat) {n : Stage} {g : Fld} (hg : g ∈ setReads n) : rd (flashDrop s ch tag) g = rd s g :=
  rd_flashDrop tag (setReads_apart n g hg).1 ((setReads_apart n g hg).2.1 ch hch)
theorem rd_setReads_blocksFollow (s : State) {n : Stage} {g : Fld} (hg : g ∈ setReads n) : rd (blocksFollow s n) g = rd s g := by
  obtain ⟨hwidth, -, hfollow⟩ := setReads_apart n g hg
  have hwr : ∀ f ∈ followWrites n, ∀ (t : State) (v : Nat), rd (wr t f v) g = rd t g := fun f hf t v => rd_wr_apart t f g v hwidth (hfollow f hf)
  simp only [followWrites, List.forall_mem_cons] at hwr
  obtain ⟨hgood, hneeded, hdegraded, hmax, hmean, hretired, hpending, hlevel, -⟩ := hwr
  rw [blocksFollow, wearFollow, hlevel, hpending, hretired, hmean, hmax, capacityFollow, hdegraded, hneeded, hgood, whenS]
  split <;> rfl

section
variable {s : State} {ch tag : Nat}

theorem flash_flashDrop : (flashDrop s ch tag).flash.pages = s.flash.pages ∧ (flashDrop s ch tag).flash.blocks = s.flash.blocks
    ∧ (flashDrop s ch tag).flash.micro = s.flash.micro ∧ (flashDrop s ch tag).flash.laneQ = s.flash.laneQ ∧ (flashDrop s ch tag).flash.readQ = s.flash.readQ
    ∧ (flashDrop s ch tag).flash.sys = s.flash.sys := ⟨rfl, rfl, rfl, rfl, rfl, rfl⟩
theorem calm_flashDrop : Calm s (flashDrop s ch tag) := ⟨rfl, rfl, rfl, rfl, rfl⟩
theorem microOf_flashDrop (hch : ch < 16) (n : Stage) : microOf (flashDrop s ch tag) n = microOf s n := by
  rw [microOf, microOf, rd_setReads_flashDrop hch tag (n := n) (by simp [setReads]), flash_flashDrop.2.2.1]
end
theorem ops_of_chans {s t : State} {ch tag : Nat} (h : t.flash.chans = (flashDrop s ch tag).flash.chans) : ∀ x ∈ (fch t ch).ops, x.tag ≠ tag := by
  have hch : fch t ch = fch (flashDrop s ch tag) ch := by rw [fch, fch, h]
  rw [hch]
  exact fch_flashDrop tag

/-! A read's end (R230, R231). -/

theorem injectRead_unarmed {s : State} (h : rd s F.FL_INJECT_ARM = 0) (ch : Nat) : injectRead s ch = (0, s) := by
  have harm : rdb s F.FL_INJECT_ARM = false := by rw [rdb, h]; rfl
  rw [injectRead, harm]
  rfl

/-- The blocks of `t` are other than those of `s`, with the registers and events that follow them; the rest stands. -/
def Reblocks (s t : State) : Prop := ∃ r e bl, t = { s with regs := r, evs := s.evs ++ e, flash := { s.flash with blocks := bl } }
theorem Reblocks.refl (s : State) : Reblocks s s := ⟨s.regs, [], s.flash.blocks, by rw [List.append_nil]⟩
theorem reblocks_setBlock (s : State) (lun b : Nat) (x : Block) : Reblocks s (setBlock s lun b x) := ⟨s.regs, [], _, by rw [List.append_nil]; rfl⟩
theorem Reblocks.regs {s t u : State} (h : Reblocks s t) (k : RegsOnly t u) : Reblocks s u := by
  obtain ⟨r, e, bl, rfl⟩ := h
  obtain ⟨r', e', rfl⟩ := k
  exact ⟨r', e ++ e', bl, by simp only [List.append_assoc]⟩
theorem Reblocks.trans {s t u : State} (h : Reblocks s t) (k : Reblocks t u) : Reblocks s u := by
  obtain ⟨r, e, bl, rfl⟩ := h
  obtain ⟨r', e', bl', rfl⟩ := k
  exact ⟨r', e ++ e', bl', by simp only [List.append_assoc]⟩
theorem Reblocks.laneQ {s t : State} (h : Reblocks s t) : t.flash.laneQ = s.flash.laneQ := by obtain ⟨_, _, _, rfl⟩ := h; rfl
theorem Reblocks.chans {s t : State} (h : Reblocks s t) : t.flash.chans = s.flash.chans := by obtain ⟨_, _, _, rfl⟩ := h; rfl
theorem Reblocks.calm {s t : State} (h : Reblocks s t) : Calm s t := by
  obtain ⟨_, _, _, rfl⟩ := h
  exact ⟨rfl, rfl, rfl, rfl, rfl⟩
theorem calm_laneQ (s : State) (q : Quad (List (ReadReq × Option Codeword))) : Calm s { s with flash := { s.flash with laneQ := q } } := ⟨rfl, rfl, rfl, rfl, rfl⟩
theorem calm_readQ (s : State) (q : Quad (List ReadReq)) : Calm s { s with flash := { s.flash with readQ := q } } := ⟨rfl, rfl, rfl, rfl, rfl⟩
theorem wornCheck_cases (s : State) (n : Stage) (lun b : Nat) :
    wornCheck s n lun b = s ∨ ∃ c, wornCheck s n lun b = blocksFollow (setBlock s lun b { blockAt s lun b with state := 1, cause := c }) n := by
  rw [wornCheck]
  dsimp only
  split
  · split
    · exact .inr ⟨_, rfl⟩
    · exact .inl rfl
  · exact .inl rfl
theorem reblocks_wornCheck (s : State) (n : Stage) (lun b : Nat) : Reblocks s (wornCheck s n lun b) := by
  obtain h | ⟨c, h⟩ := wornCheck_cases s n lun b
  · rw [h]
    exact .refl s
  · rw [h]
    exact (reblocks_setBlock ..).regs (regsOnly_blocksFollow ..)

section
variable {s : State} {n : Stage} {ch : Nat} {r : ReadReq}

theorem readReturn_decoded (harm : rd s F.FL_INJECT_ARM = 0) {cw : Codeword} (hcw : entryCw s r.entry = some cw)
    (hbits : r.inject + entryFlips s r.entry ≤ decodeLimit (softStep s n r.step)) (iters : Nat) :
    ∃ t, Reblocks s t ∧ readReturn s n ch r true iters = { t with flash := { t.flash with laneQ := qset t.flash.laneQ n (qget t.flash.laneQ n ++ [(r, some cw)]) } } := by
  rw [readReturn]
  dsimp only
  rw [injectRead_unarmed harm]
  dsimp only
  rw [Nat.max_zero, Bool.true_and, if_pos (decide_eq_true hbits), hcw]
  dsimp only
  split
  · exact ⟨_, (reblocks_setBlock ..).trans (reblocks_wornCheck ..), rfl⟩
  · exact ⟨s, .refl s, rfl⟩

theorem readReturn_undecoded (harm : rd s F.FL_INJECT_ARM = 0) {ok : Bool} (hbits : ok = false ∨ decodeLimit (softStep s n r.step) < r.inject + entryFlips s r.entry)
    (iters : Nat) : readReturn s n ch r ok iters = readLadder s n ch r := by
  have hnot : ¬ (ok && decide (r.inject + entryFlips s r.entry ≤ decodeLimit (softStep s n r.step))) = true := by
    obtain rfl | hmore := hbits
    · exact Bool.false_ne_true
    · rw [Bool.and_eq_true, decide_eq_true_eq]
      omega
  rw [readReturn]
  dsimp only
  rw [injectRead_unarmed harm]
  dsimp only
  rw [Nat.max_zero, if_neg hnot]

theorem readLadder_steps {k : Nat} (hstep : nextStep s n r.step = some k) :
    ∃ t, Settles s t ∧ readLadder s n ch r = { t with flash := { t.flash with readQ := qset t.flash.readQ n ({ r with step := k } :: qget t.flash.readQ n) } } := by
  rw [readLadder, hstep]
  exact ⟨_, ((Settles.refl s).whenS _ _ fun _ h => h.regs (regsOnly_retryReached ..)).whenS _ _ fun _ h => h.softReached .., rfl⟩
end

/-! What a read's completion answers. -/

section
variable {s : State} {n : Stage} {ch tag epoch : Nat} {o : FlashOp} (hop : flashOp s ch tag epoch = some o) (hstage : flashStage s ch = some n)
include hop hstage

section
variable {r : ReadReq} {d : Bool} (hact : o.act = .read r d) (harm : rd s F.FL_INJECT_ARM = 0)
include hact

theorem readStatus_returns (ok : Bool) (iters : Nat) : readStatus s ch tag epoch ok iters = readReturn (flashDrop s ch tag) n ch r ok iters := by
  rw [readStatus, hop]
  dsimp only
  rw [hact, hstage]
  rfl

include harm

theorem read_decoded {cw : Codeword} (hcw : entryCw s r.entry = some cw) (hbits : r.inject + entryFlips s r.entry ≤ decodeLimit (softStep s n r.step)) (iters : Nat) :
    Answers (.pageReadComplete ch tag epoch true iters) s (fun _ t => qget t.flash.laneQ n = qget s.flash.laneQ n ++ [(r, some cw)]
      ∧ (∀ x ∈ (fch t ch).ops, x.tag ≠ tag) ∧ t.flash.pages = s.flash.pages ∧ t.modes = s.modes ∧ SameDram s t ∧ t.ledger = s.ledger) := by
  have hch := flashStage_lt hstage
  have hsoft : softStep (flashDrop s ch tag) n r.step = softStep s n r.step := by rw [softStep, softStep, microOf_flashDrop hch]
  have hunarmed : rd (flashDrop s ch tag) F.FL_INJECT_ARM = 0 := (rd_flashDrop tag (by decide) (outstanding_apart ch hch).1).trans harm
  obtain ⟨t, hblocks, hreturn⟩ := readReturn_decoded (s := flashDrop s ch tag) (n := n) (ch := ch) (r := r) hunarmed (cw := cw) hcw (by rw [hsoft]; exact hbits) iters
  have hexec := (readStatus_returns hop hstage hact true iters).trans hreturn
  obtain ⟨hpages, hmodes, hdram, hledger, -⟩ := ((calm_flashDrop.trans hblocks.calm).trans (calm_laneQ t _)).of_finish
  refine ⟨_, congrArg done hexec, ?_, ?_, hpages, hmodes, hdram, hledger⟩
  · rw [flash_finish, hblocks.laneQ]
    exact qget_qset_self ..
  · rw [fch_finish]
    exact ops_of_chans hblocks.chans

theorem read_undecoded {k : Nat} {ok : Bool} (hstep : nextStep s n r.step = some k)
    (hbits : ok = false ∨ decodeLimit (softStep s n r.step) < r.inject + entryFlips s r.entry) (iters : Nat) :
    Answers (.pageReadComplete ch tag epoch ok iters) s (fun _ t => qget t.flash.readQ n = { r with step := k } :: qget s.flash.readQ n
      ∧ (∀ x ∈ (fch t ch).ops, x.tag ≠ tag) ∧ t.flash.pages = s.flash.pages ∧ t.modes = s.modes ∧ SameDram s t ∧ t.ledger = s.ledger) := by
  have hch := flashStage_lt hstage
  have hsoft : softStep (flashDrop s ch tag) n r.step = softStep s n r.step := by rw [softStep, softStep, microOf_flashDrop hch]
  have hnext : nextStep (flashDrop s ch tag) n r.step = some k := by rw [← hstep, nextStep, nextStep, microOf_flashDrop hch]
  have hunarmed : rd (flashDrop s ch tag) F.FL_INJECT_ARM = 0 := (rd_flashDrop tag (by decide) (outstanding_apart ch hch).1).trans harm
  have hreturn := readReturn_undecoded (s := flashDrop s ch tag) (n := n) (ch := ch) (r := r) hunarmed (ok := ok) (by rw [hsoft]; exact hbits) iters
  obtain ⟨t, hsettles, hladder⟩ := readLadder_steps (ch := ch) hnext
  have hexec := ((readStatus_returns hop hstage hact ok iters).trans hreturn).trans hladder
  obtain ⟨hpages, hmodes, hdram, hledger, -⟩ := ((calm_flashDrop.trans hsettles.calm).trans (calm_readQ t _)).of_finish
  refine ⟨_, congrArg done hexec, ?_, ?_, hpages, hmodes, hdram, hledger⟩
  · rw [flash_finish, hsettles.readQ]
    exact qget_qset_self ..
  · rw [fch_finish]
    exact ops_of_chans hsettles.chans
end
end

/-! A block erased (R252). -/

theorem mget_filter_none {α : Type} (d : α) (m : NMap α) (p : Nat × α → Bool) (i : Nat) (hp : ∀ x, p (i, x) = false) : mget d (m.filter p) i = d := by
  induction m with
  | nil => rfl
  | cons e m ih =>
    obtain ⟨k, v⟩ := e
    rw [List.filter_cons]
    split
    next hkeep =>
      have hne : i ≠ k := fun he => by rw [← he, hp v] at hkeep; exact Bool.false_ne_true hkeep
      rw [mget, if_neg hne, ih]
    · exact ih

section
variable (s : State) (n : Stage) (lun b : Nat)

theorem eraseBlock_eq : ∃ q bl, eraseBlock s n lun b = { s with flash := { s.flash with
      pages := s.flash.pages.filter (fun e => !(e.1 / 2 ^ 20 == lun && e.1 % 2 ^ 20 / pagesPer s n == b)), sets := q, blocks := bl } }
    ∧ (mget blockInit bl (blockKey lun b)).erased = true ∧ (mget blockInit bl (blockKey lun b)).erases = min ((blockAt s lun b).erases + 1) (2 ^ 24 - 1) := by
  refine ⟨_, _, rfl, ?_, ?_⟩ <;> rw [mget_mset_self]
  rfl
theorem eraseBlock_empty {page : Nat} (hpage : page < 2 ^ 20) (hin : page / pagesPer s n = b) :
    mget pageInit (eraseBlock s n lun b).flash.pages (pageKey lun page) = pageInit := by
  obtain ⟨q, bl, he, -⟩ := eraseBlock_eq s n lun b
  rw [he]
  refine mget_filter_none _ _ _ _ fun x => ?_
  have hlun : pageKey lun page / 2 ^ 20 = lun := by rw [pageKey]; omega
  have hindex : pageKey lun page % 2 ^ 20 = page := by rw [pageKey]; omega
  simp only [hlun, hindex, hin, beq_self_eq_true, Bool.and_self, Bool.not_true]

/-- The check for wear leaves what an erase has made of the block, and what tells the house blocks. -/
theorem wornCheck_leaves : (blockAt (wornCheck s n lun b) lun b).erased = (blockAt s lun b).erased ∧ (blockAt (wornCheck s n lun b) lun b).erases = (blockAt s lun b).erases
    ∧ (∀ g ∈ setReads n, rd (wornCheck s n lun b) g = rd s g) ∧ (wornCheck s n lun b).flash.sys = s.flash.sys := by
  obtain h | ⟨c, h⟩ := wornCheck_cases s n lun b
  · rw [h]
    exact ⟨rfl, rfl, fun _ _ => rfl, rfl⟩
  · have hblock : blockAt (wornCheck s n lun b) lun b = { blockAt s lun b with state := 1, cause := c } := by
      rw [h, blockAt, (regsOnly_blocksFollow ..).flash]
      exact mget_mset_self ..
    rw [hblock, h]
    refine ⟨rfl, rfl, fun g hg => ?_, ?_⟩
    · rw [rd_setReads_blocksFollow _ hg]
      rfl
    · rw [(regsOnly_blocksFollow ..).flash]
      rfl
end

theorem houseLun_congr {s t : State} {n : Stage} (h : ∀ g ∈ setReads n, rd t g = rd s g) (copy : Nat) : houseLun t n copy = houseLun s n copy := by
  rw [houseLun, houseLun, stageFlashChs, stageFlashChs, rdb, rdb, h _ (by simp [setReads]), h _ (by simp [setReads])]

section
variable {s : State} {n : Stage} {ch tag epoch : Nat} {o : FlashOp} (hop : flashOp s ch tag epoch = some o) (hstage : flashStage s ch = some n)
  {b : Nat} (hact : o.act = .erase b)
include hop hstage hact

theorem eraseStatus_ends (pass : Bool) : eraseStatus s ch tag epoch pass = eraseEnd (flashDrop s ch tag) n o.lun b pass 2 := by
  rw [eraseStatus, hop]
  dsimp only
  rw [hact, hstage]
  rfl
end

/-- A pass of an erase: the block as erased and checked for wear, then what follows. -/
theorem eraseEnd_passes {s : State} {n : Stage} {lun b : Nat} (cause : Nat) (hhouse : sysBlock (wornCheck (eraseBlock s n lun b) n lun b) n lun b = true →
      houseBlock (fsys (wornCheck (eraseBlock s n lun b) n lun b) n) (houseCopy (wornCheck (eraseBlock s n lun b) n lun b) n lun) = b) :
    Settles (wornCheck (eraseBlock s n lun b) n lun b) (eraseEnd s n lun b true cause) := by
  rw [eraseEnd, if_pos rfl]
  dsimp only
  refine ((Settles.regs ?_ (regsOnly_wearFollow ..)).spaceFollow n).strikeFollow n |>.tablesStart n
  split
  next h =>
    rw [sysErased, if_pos (hhouse h)]
    exact (Settles.refl _).setFsys ..
  · exact .refl _

/-- A block marked bad by its erase: the block, its event, and what follows. -/
theorem markBad_erase {s : State} {n : Stage} {lun b : Nat} (h : (blockAt s lun b).state ≠ 2) :
    Settles (setBlock s lun b { blockAt s lun b with state := 2, cause := 2 }) (markBad s n lun b 2)
      ∧ (⟨0x407, 1, n.val, lun + b * 256⟩ : Ev) ∈ (markBad s n lun b 2).evs := by
  rw [markBad, if_neg h]
  exact ⟨(Settles.ite _ ((Settles.refl _).setFset ..) (((Settles.refl _).setFset ..).setFsys ..)).event .., List.mem_append_right _ (List.mem_singleton_self _)⟩
theorem eraseEnd_fails {s : State} {n : Stage} {lun b : Nat} (h : (blockAt s lun b).state ≠ 2) :
    ∃ t, RegsOnly s t ∧ Settles (setBlock t lun b { blockAt t lun b with state := 2, cause := 2 }) (eraseEnd s n lun b false 2)
      ∧ (⟨0x407, 1, n.val, lun + b * 256⟩ : Ev) ∈ (eraseEnd s n lun b false 2).evs := by
  have hcount : RegsOnly s (incSat s (F.FL_CH_CMD_ERASE_FAILS (lunCh lun)) 1) := regsOnly_wr ..
  obtain ⟨hmarked, hlogged⟩ := markBad_erase (s := incSat s (F.FL_CH_CMD_ERASE_FAILS (lunCh lun)) 1) (n := n) (lun := lun) (b := b) h
  have hrest : Settles (markBad (incSat s (F.FL_CH_CMD_ERASE_FAILS (lunCh lun)) 1) n lun b 2) (eraseEnd s n lun b false 2) := by
    rw [eraseEnd, if_neg Bool.false_ne_true, if_neg (show ¬ (2 : Nat) = 4 by decide)]
    exact ((Settles.regs (.ite _ ((Settles.refl _).houseMove ..) (.refl _)) (regsOnly_blocksFollow ..)).spaceFollow n).tablesStart n
  exact ⟨_, hcount, hmarked.trans hrest, hrest.evs hlogged⟩

/-! What a block erase's completion answers. -/

section
variable {s : State} {n : Stage} {ch tag epoch : Nat} {o : FlashOp} (hop : flashOp s ch tag epoch = some o) (hstage : flashStage s ch = some n)
  {b : Nat} (hact : o.act = .erase b)
include hop hstage hact

theorem erase_passes (hhouse : sysBlock s n o.lun b = false ∨ houseBlock (fsys s n) (houseCopy s n o.lun) = b) :
    Answers (.blockEraseComplete ch tag epoch true) s (fun _ t =>
      (∀ page, page < 2 ^ 20 → page / pagesPer s n = b → mget pageInit t.flash.pages (pageKey o.lun page) = pageInit)
      ∧ (blockAt t o.lun b).erased = true ∧ (blockAt t o.lun b).erases = min ((blockAt s o.lun b).erases + 1) (2 ^ 24 - 1)
      ∧ (∀ x ∈ (fch t ch).ops, x.tag ≠ tag) ∧ t.modes = s.modes ∧ t.ledger = s.ledger) := by
  have hch := flashStage_lt hstage
  obtain ⟨q, bl, heq, herased, herases⟩ := eraseBlock_eq (flashDrop s ch tag) n o.lun b
  obtain ⟨hkeptErased, hkeptErases, hreads, hsys⟩ := wornCheck_leaves (eraseBlock (flashDrop s ch tag) n o.lun b) n o.lun b
  have hworn := reblocks_wornCheck (eraseBlock (flashDrop s ch tag) n o.lun b) n o.lun b
  have hreads' : ∀ g ∈ setReads n, rd (wornCheck (eraseBlock (flashDrop s ch tag) n o.lun b) n o.lun b) g = rd s g := fun g hg => by
    rw [hreads g hg, heq]
    exact rd_setReads_flashDrop hch tag hg
  have hsys' : fsys (wornCheck (eraseBlock (flashDrop s ch tag) n o.lun b) n o.lun b) n = fsys s n := by
    rw [fsys, hsys, heq]
    rfl
  have hends := eraseEnd_passes (s := flashDrop s ch tag) (n := n) (lun := o.lun) (b := b) 2 (by
    rw [sysBlock, houseCopy, houseLun_congr hreads', houseLun_congr hreads', hsys']
    exact fun h => hhouse.resolve_left (by rw [sysBlock, h]; exact Bool.true_eq_false.mp))
  have hmodes : (eraseBlock (flashDrop s ch tag) n o.lun b).modes = s.modes := by rw [heq]; rfl
  have hledger : (eraseBlock (flashDrop s ch tag) n o.lun b).ledger = s.ledger := by rw [heq]; rfl
  obtain ⟨hendPages, hendModes, -, hendLedger, -⟩ := (hworn.calm.trans hends.calm).of_finish
  refine ⟨_, congrArg done (eraseStatus_ends hop hstage hact true), fun page hpage hin => ?_, ?_, ?_, ?_, hendModes.trans hmodes, hendLedger.trans hledger⟩
  · rw [hendPages]
    exact eraseBlock_empty _ n o.lun b hpage (by rw [pagesPer_flashDrop hch]; exact hin)
  · rw [blockAt, flash_finish, hends.blocks, ← blockAt, hkeptErased, heq]
    exact herased
  · rw [blockAt, flash_finish, hends.blocks, ← blockAt, hkeptErases, heq]
    exact herases
  · rw [fch_finish]
    exact ops_of_chans (hends.chans.trans (hworn.chans.trans (by rw [heq])))

theorem erase_fails (hgood : (blockAt s o.lun b).state ≠ 2) : Answers (.blockEraseComplete ch tag epoch false) s (fun u t =>
    (⟨0x407, 1, n.val, o.lun + b * 256⟩ : Ev) ∈ u.evs ∧ (blockAt t o.lun b).state = 2 ∧ (∀ x ∈ (fch t ch).ops, x.tag ≠ tag)
    ∧ t.flash.pages = s.flash.pages ∧ t.modes = s.modes ∧ t.ledger = s.ledger) := by
  obtain ⟨t, hregs, hsettles, hlogged⟩ := eraseEnd_fails (s := flashDrop s ch tag) (n := n) (lun := o.lun) (b := b) hgood
  obtain ⟨hpages, hmodes, -, hledger, -⟩ := (((calm_flashDrop.trans hregs.calm).trans (reblocks_setBlock ..).calm).trans hsettles.calm).of_finish
  refine ⟨_, congrArg done (eraseStatus_ends hop hstage hact false), hlogged, ?_, ?_, hpages, hmodes, hledger⟩
  · rw [blockAt, flash_finish, hsettles.blocks]
    exact congrArg Block.state (mget_mset_self ..)
  · rw [fch_finish]
    exact ops_of_chans (hsettles.chans.trans (congrArg Flash.chans hregs.flash :))
end

/-- Settles O38: a stale completion is counted alone; an outstanding one is taken off its channel, and its read or erase ends by what the flash set gives. -/
theorem readsAndErasesEnd : Obligations.ReadsAndErasesEnd := by
  unfold Obligations.ReadsAndErasesEnd
  refine ⟨fun s ch tag epoch pass k hch hnone c hc => staleCounted_answers hch (exec_stale hnone hc), fun s n ch tag epoch o hop hstage => ⟨?_, ?_, ?_, ?_⟩⟩
  · exact fun r d iters cw hact harm hcw hbits => read_decoded hop hstage hact harm hcw hbits iters
  · exact fun r d iters k ok hact harm hstep hbits => read_undecoded hop hstage hact harm hstep hbits iters
  · exact fun b hact hhouse => erase_passes hop hstage hact hhouse
  · exact fun b hact hgood => erase_fails hop hstage hact hgood

end Sys2Proof.Machine
end

section
/-! Proofs: no command's failure, and nothing that follows it, drops an event that waits for the recorder (R134, R145, R154, R223, R252, R392, R511). -/

namespace Sys2Proof.Machine

/-- The events of `s` that wait for the recorder still wait in `t`. -/
def Grows (s t : State) : Prop := s.evs ⊆ t.evs

namespace Grows
variable {s t : State}

theorem refl (s : State) : Grows s s := List.Subset.refl _
theorem via {u : State} (h : Grows s t) (k : t.evs ⊆ u.evs) : Grows s u := List.Subset.trans h k
theorem event (h : Grows s t) (a b c d : Nat) : Grows s (event t a b c d) := h.via (List.subset_append_left ..)
theorem ite (c : Prop) [Decidable c] {a b : State} (ha : Grows s a) (hb : Grows s b) : Grows s (if c then a else b) := by
  split
  · exact ha
  · exact hb
theorem whenS (h : Grows s t) (c : Bool) (f : State → State) (hf : ∀ u, Grows s u → Grows s (f u)) : Grows s (whenS c f t) := .ite _ (hf t h) h
theorem fold {α : Type} (h : Grows s t) (xs : List α) (f : State → α → State) (hf : ∀ u a, Grows s u → Grows s (f u a)) : Grows s (foldS xs f t) := by
  unfold foldS
  induction xs generalizing t with
  | nil => exact h
  | cons x xs ih => exact ih (hf t x h)

/-! The updates of one part of the state. -/

theorem wr (h : Grows s t) (f : Fld) (v : Nat) : Grows s (wr t f v) := h
theorem setReg (h : Grows s t) (i : Nat) (w : Word) : Grows s (setReg t i w) := h
theorem setFset (h : Grows s t) (n : Stage) (x : StageFlash) : Grows s (setFset t n x) := h
theorem setFsys (h : Grows s t) (n : Stage) (x : StageSys) : Grows s (setFsys t n x) := h
theorem setSav (h : Grows s t) (n : Stage) (x : StageSave) : Grows s (setSav t n x) := h
theorem setRst (h : Grows s t) (n : Stage) (x : RestoreState) : Grows s (setRst t n x) := h
theorem setLedger (h : Grows s t) (n : Stage) (x : LedgerState) : Grows s (setLedger t n x) := h
theorem setFch (h : Grows s t) (c : Nat) (x : FlashChan) : Grows s (setFch t c x) := h
theorem flash (h : Grows s t) (x : Flash) : Grows s { t with flash := x } := h
theorem image (h : Grows s t) (x : ImageState) : Grows s { t with image := x } := h
theorem dram (h : Grows s t) (x : Dram) : Grows s { t with dram := x } := h
theorem store (h : Grows s t) (x : Store) : Grows s { t with store := x } := h
theorem cipher (h : Grows s t) (x : Cipher) : Grows s { t with cipher := x } := h
theorem saveDev (h : Grows s t) (x : SaveDev) : Grows s { t with saveDev := x } := h
theorem emit (h : Grows s t) (o : Output) : Grows s (emit t o) := h
theorem incSat (h : Grows s t) (f : Fld) (k : Nat) : Grows s (incSat t f k) := h
theorem clockNext (h : Grows s t) : Grows s (clockNext t) := h
theorem eraseOver (h : Grows s t) : Grows s (eraseOver t) := h
theorem remapFreeStage (h : Grows s t) (n : Stage) : Grows s (remapFreeStage t n) := h
theorem stageLock (h : Grows s t) (n : Stage) (on : Bool) : Grows s (stageLock t n on) := h
theorem eraseBlock (h : Grows s t) (n : Stage) (lun b : Nat) : Grows s (eraseBlock t n lun b) := h

/-! What other proofs have of an operation. -/

theorem pmonHit (h : Grows s t) (g i k n : Nat) : Grows s (pmonHit t g i k n) := h.via (regsOnly_pmonHit ..).evs
theorem stageTo (h : Grows s t) (n : Stage) (x : StageState) : Grows s (stageTo t n x) := h.via (sameImage_stageTo ..).evs
theorem follow (h : Grows s t) (c : Nat) : Grows s (follow t c) := h.via (follow_leaves t c).2.2
theorem interDone (h : Grows s t) (n : Stage) : Grows s (interDone t n) := h.via ((Proceeds.refl t).interDone n).evs
theorem openRecord (h : Grows s t) (n : Stage) (gen why : Nat) : Grows s (openRecord t n gen why) := h.via ((Keeps.refl t).openRecord ..).evs
theorem restoreStop (h : Grows s t) (n : Stage) : Grows s (restoreStop t n) := h.via ((Proceeds.refl t).restoreStop n).evs
theorem ledgerClear (h : Grows s t) (n : Stage) : Grows s (ledgerClear t n) := h.via ((Proceeds.refl t).ledgerClear n).evs
theorem wantRead (h : Grows s t) (n : Stage) (p : RPhase) (es : List Nat) : Grows s (wantRead t n p es) := h.via ((Proceeds.refl t).wantRead ..).evs
theorem restoreGo (h : Grows s t) (n : Stage) : Grows s (restoreGo t n) := h.via ((Proceeds.refl t).restoreGo n).evs
theorem slotWrite (h : Grows s t) (tag : Nat) (a b : List Nat) (payload : List Word) : Grows s (slotWrite t tag a b payload).2 :=
  h.via ((Keeps.refl t).slotWriteBy ..).evs
theorem divideWays (h : Grows s t) : Grows s (divideWays t) := h.via (Keeps.refl t).divideWays.evs
theorem fwConfirmTry (h : Grows s t) : Grows s (fwConfirmTry t) := h.via (Keeps.refl t).fwConfirmTry.evs
theorem stageRates (h : Grows s t) (n : Stage) : Grows s (stageRates t n) := h.via ((Keeps.refl t).stageRates n).evs
theorem saveStatus (h : Grows s t) : Grows s (saveStatus t) := h.via (Keeps.refl t).saveStatus.evs
theorem gateCredits (h : Grows s t) (n : Stage) : Grows s (gateCredits t n) := h.via ((Undecided.refl t).gateCredits n).evs
theorem blocksFollow (h : Grows s t) (n : Stage) : Grows s (blocksFollow t n) := h.via (regsOnly_blocksFollow ..).evs
theorem stageLoads (h : Grows s t) (n : Stage) : Grows s (stageLoads t n) := h.via (regsOnly_stageLoads ..).evs
theorem spaceFollow (h : Grows s t) (n : Stage) : Grows s (spaceFollow t n false) := h.via ((Settles.refl t).spaceFollow n).evs
theorem tablesStart (h : Grows s t) (n : Stage) : Grows s (tablesStart t n) := h.via ((Settles.refl t).tablesStart n).evs
theorem houseMove (h : Grows s t) (n : Stage) (copy : Nat) : Grows s (houseMove t n copy) := h.via ((Settles.refl t).houseMove n copy).evs
theorem sealProg (h : Grows s t) (n : Stage) (copy : Nat) (j : SealJob) : Grows s (sealProg t n copy j) := h.via ((Proceeds.refl t).sealProg ..).evs
theorem requestOver (h : Grows s t) (n : Stage) : Grows s (requestOver t n) :=
  have hevs : t.evs ⊆ (Machine.requestOver t n).evs := (requestOver_regs t n).evs
  h.via hevs
theorem unbindNow (h : Grows s t) (n : Stage) : Grows s (unbindNow t n) := by
  have hreleased : Grows s (released t n) := h.via (sameImage_released t n).evs
  rw [unbindNow_eq]
  exact ((((hreleased.stageTo n .unbound).stageLock n false).event 0xA08 0 n.val 0).requestOver n).divideWays.follow _

/-! Blocks, and what the house LUNs hold. -/

theorem markBad (h : Grows s t) (n : Stage) (lun b cause : Nat) : Grows s (markBad t n lun b cause) := by
  unfold Machine.markBad
  exact .ite _ h (.event (.ite _ ((h.flash _).setFset ..) (((h.flash _).setFset ..).setFsys ..)) ..)
theorem wornCheck (h : Grows s t) (n : Stage) (lun b : Nat) : Grows s (wornCheck t n lun b) := by
  obtain ⟨_, _, _, hworn⟩ := reblocks_wornCheck t n lun b
  rw [hworn]
  exact h.via (List.subset_append_left ..)
theorem eraseNow (h : Grows s t) (n : Stage) (lun b : Nat) : Grows s (eraseNow t n lun b) := by
  unfold Machine.eraseNow
  extract_lets u
  have hsent : Grows s u := (h.pmonHit ..).emit _
  clear_value u
  exact .ite _ ((hsent.incSat ..).markBad ..) ((hsent.eraseBlock ..).wornCheck ..)
theorem houseProg (h : Grows s t) (n : Stage) (copy : Nat) : Grows s (houseProg t n copy) := by
  unfold Machine.houseProg sysQueue
  exact ((h.setFsys ..).pmonHit ..).setFset ..
theorem sysFresh (h : Grows s t) (n : Stage) : Grows s (sysFresh t n) :=
  h.fold _ _ fun u c k =>
    have hmoved : Grows s (if sysBad u (houseLun u n c) (houseBlock (fsys u n) c) then Machine.houseMove u n c else u) := .ite _ (k.houseMove n c) k
    .ite _ (hmoved.setFsys ..) hmoved

/-! A Dressing's end. -/

theorem dressOver (h : Grows s t) (n : Stage) : Grows s (dressOver t n) := (h.wr (F.STAGE_DRESS_TIME_10MS n.val) (dressTime t n)).requestOver n
theorem dressFail (h : Grows s t) (n : Stage) (reason : Nat) : Grows s (dressFail t n reason) :=
  (((((h.dressOver n).wr _ _).event ..).setRst ..).stageTo ..).fwConfirmTry
theorem restoreStart (h : Grows s t) (n : Stage) : Grows s (restoreStart t n) := by
  have hcleared := (h.stageTo n .restoring).ledgerClear n
  unfold Machine.restoreStart
  exact (((((((((((hcleared.setReg ..).setReg ..).setReg ..).setReg ..).setReg ..).wr ..).wr ..).setRst ..).follow ..).wantRead ..).restoreGo ..)
theorem dressEnd (h : Grows s t) (n : Stage) (isSealed zeroed : Bool) : Grows s (dressEnd t n isSealed zeroed) := by
  have hclear : Grows s (backstageClear t n zeroed) := h
  have hloaded := (((hclear.stageLoads n).blocksFollow n).stageRates n).wr (F.STAGE_DRESS_REASON n.val) 0
  have hsealed := fun a b c d => (((hloaded.dressOver n).stageTo n .sealed).event a b c d).fwConfirmTry
  unfold Machine.dressEnd
  exact .ite _ (.ite _ (hsealed ..) ((hsealed ..).restoreStart n)) (hloaded.openRecord ..)

/-! An erase of a stage (R392). -/

theorem randomBytes (h : Grows s t) (k : Nat) : Grows s (randomBytes t k).2 := by
  unfold Machine.randomBytes
  split
  · exact h
  · dsimp only
    split
    · exact h
    · exact h
theorem keyGenerate (h : Grows s t) (n : Stage) : Grows s (keyGenerate t n).2 := by
  have hrandom := h.randomBytes 32
  unfold Machine.keyGenerate
  generalize Machine.randomBytes t 32 = p at hrandom
  obtain ⟨bs, u⟩ := p
  dsimp only
  split
  · exact hrandom
  · split
    · exact hrandom.slotWrite ..
    · split
      · exact (hrandom.slotWrite ..).slotWrite ..
      · exact ((((hrandom.slotWrite ..).slotWrite ..).cipher _).setReg ..).event ..
theorem setBlank (h : Grows s t) (n : Stage) : Grows s (setBlank t n) := by
  unfold Machine.setBlank dscWrite
  exact ((((((h.setFset ..).setFsys ..).wr ..).wr ..).wr ..).wr ..).slotWrite ..
theorem eraseSteps (h : Grows s t) (n : Stage) (sanitize : Bool) : Grows s (eraseSteps t n sanitize).2 := by
  have herased : Grows s (cryptoErase t n) := (((h.store _).cipher _).setReg ..).event ..
  unfold Machine.eraseSteps
  extract_lets u y bs a b src c
  have hkeyed : Grows s (Machine.keyGenerate c n).2 := (((herased.setBlank n).fold bs _ fun _ e k => k.eraseNow n e.1 e.2).setFsys ..).keyGenerate n
  split
  next ok w hw =>
  rw [hw] at hkeyed
  split
  · exact hkeyed
  · exact (((((hkeyed.setFset ..).sysFresh n).setFsys ..).houseProg n 0).dram _)
theorem eraseRun (h : Grows s t) (n : Stage) (sanitize : Bool) : Grows s (eraseRun t n sanitize) := by
  have hintent : Grows s (intentWrite t n (if sanitize then 2 else 1)).2 := h.slotWrite ..
  unfold Machine.eraseRun
  extract_lets intent c i begun freed x cleared
  have hbegun : Grows s begun := hintent
  have hfreed : Grows s freed := ((hbegun.setRst ..).stageTo ..).remapFreeStage n
  have hcleared : Grows s cleared := hfreed.flash _
  clear_value cleared
  have hsteps := (hcleared.follow 0x04).eraseSteps n sanitize
  generalize Machine.eraseSteps (Machine.follow cleared 0x04) n sanitize = p at hsteps
  obtain ⟨ok, u⟩ := p
  have hover : Grows s (intentWrite u n 0).2 := hsteps.slotWrite ..
  exact .ite _ (hover.dressEnd ..) (hsteps.eraseOver.dressFail ..)
theorem afterSeal (h : Grows s t) (n : Stage) : Grows s (afterSeal t n) := by
  unfold Machine.afterSeal
  extract_lets u
  have herased : Grows s u := by
    unfold u
    split
    · exact .ite _ (h.eraseRun ..) h
    · exact h
  clear_value u
  split
  · exact .ite _ herased (.ite _ (herased.unbindNow n) (herased.wr ..))
  · exact herased

/-! A save torn (R134, R154). -/

theorem tearStage (h : Grows s t) (n : Stage) (reason : Nat) : Grows s (tearStage t n reason) := by
  unfold Machine.tearStage dropQueued
  exact ((((((((h.wr ..).wr ..).event ..).setFset ..).setFsys ..).setSav ..).setRst ..).saveDev _).saveStatus
theorem tearSaving (h : Grows s t) (n : Stage) (reason : Nat) : Grows s (tearSaving t n reason) := .ite _ (h.tearStage ..) h
theorem aloneTorn (h : Grows s t) (n : Stage) (reason : Nat) : Grows s (aloneTorn t n reason) := by
  have htorn := (((h.tearStage n reason).saveDev { (Machine.tearStage t n reason).saveDev with anyTorn := t.saveDev.anyTorn }).stageTo n .sealed).wr (F.RESTORE_STATUS_MEM_ACTIVE n.val) 0
  unfold Machine.aloneTorn stageSealed
  exact (((((htorn.setLedger ..).gateCredits n).setSav ..).follow _).afterSeal n)
theorem tearAny (h : Grows s t) (n : Stage) (reason : Nat) : Grows s (tearAny t n reason) := .ite _ (h.tearSaving ..) (.ite _ (h.aloneTorn ..) h)

/-! A copy of a seal-log record that fails (R142, R143, R145). -/

theorem handDressing (h : Grows s t) (n : Stage) : Grows s (handDressing t n) := by
  unfold Machine.handDressing
  dsimp only
  split
  next x _ =>
    have hbound : Grows s (bindStage (Machine.interDone t n) (Machine.interDone t n).image.sections (layoutOf x.words)) := by
      rw [bindStage_eq]
      exact ((((h.interDone n).via (sameImage_boundRegs ..).evs).image _).wr ..).stageTo ..
    exact (hbound.fold _ _ fun _ _ k => (k.dram _).wr ..).divideWays
  · exact h.interDone n
theorem sealLost (h : Grows s t) (n : Stage) (j : SealJob) : Grows s (sealLost t n j) := by
  unfold Machine.sealLost
  dsimp only
  split
  · exact h.tearAny n 5
  · have hdropped : ∀ x y z, Grows s (Machine.setFset (Machine.setFsys (Machine.setRst t n x) n y) n z) := fun _ _ _ => ((h.setRst ..).setFsys ..).setFset ..
    exact .ite _ (h.tearSaving ..) (.ite _ ((hdropped _ _ _).restoreStop n) (.ite _ (.dressFail (.ite _ (hdropped _ _ _).eraseOver (hdropped _ _ _)) ..) ((hdropped _ _ _).handDressing n)))
  · exact (h.setFsys ..).setFset ..
theorem sealCopyEnd (h : Grows s t) (n : Stage) (ch copy : Nat) (hd : List Byte) : Grows s (sealCopyEnd t n ch copy hd false) := by
  unfold Machine.sealCopyEnd
  dsimp only
  split
  · exact h
  · rw [if_neg Bool.false_ne_true]
    have hmoved := fun a b c d x y => (((h.event a b c d).setFsys n x).setFsys n y)
    exact .ite _ ((h.event ..).sealLost ..) (.ite _ ((hmoved _ _ _ _ _ _).sealProg ..) ((hmoved _ _ _ _ _ _).sealLost ..))

/-! A codeword whose page fails (R137, R154, R160, R161). -/

theorem trickleReport (h : Grows s t) (n : Stage) (f : Nat) : Grows s (trickleReport t n f false).2 := by
  have hfree : Grows s (trickleFree t n f) := h.setLedger ..
  have hqueue := fun {u : State} (k : Grows s u) => (k.via ((Keeps.refl u).wtQueue n).evs : Grows s (wtQueue u n))
  unfold Machine.trickleReport
  dsimp only
  split
  · exact hqueue hfree
  · rw [if_neg Bool.false_ne_true]
    have hframe : Grows s (setFrame (trickleFree t n f) n f 1) := hfree.via ((Keeps.refl _).setFrame ..).evs
    exact (hqueue ((hframe.pmonHit ..).event ..).clockNext).via ((Keeps.refl _).ledRefresh n).evs
theorem retriesOut (h : Grows s t) (n : Stage) (j : Job) : Grows s (retriesOut t n j) := by
  unfold Machine.retriesOut
  split
  · exact h.tearAny ..
  · split
    · exact h.setFset ..
    · exact (h.setFset ..).setFset ..
    · exact (h.setFset ..).setFset ..
    · exact h
theorem codewordFailed (h : Grows s t) (n : Stage) (lun : Nat) (p : Placed) (retry : Bool) : Grows s (codewordFailed t n lun p retry) := by
  unfold Machine.codewordFailed
  split
  · exact .ite _ (h.trickleReport ..) (.ite _ h (h.setFset ..))
  · exact h.setFsys ..
  · exact h.sealCopyEnd ..
  · exact .ite _ (h.houseProg ..) h
  · exact .ite _ h (.ite _ (h.setFset ..) (.ite _ (h.retriesOut ..) ((h.event ..).setFset ..)))
theorem codewordsFailed (h : Grows s t) (n : Stage) (lun : Nat) (ps : List Placed) (retry : Placed → Bool) :
    Grows s (foldS ps (fun s p => Machine.codewordFailed s n lun p (retry p)) t) := h.fold _ _ fun _ _ k => k.codewordFailed ..
theorem blockPagesBack (h : Grows s t) (n : Stage) (out : OpenPage → Bool) : Grows s (blockPagesBack t n out) := (h.setFset ..).codewordsFailed ..

/-! A command that fails (R225, R252). -/

theorem programFail (h : Grows s t) (n : Stage) (o : FlashOp) (slots : List Placed) (sys : Bool) : Grows s (programFail t n o slots sys) := by
  unfold Machine.programFail
  extract_lets b counted marked moved failed returned
  have hmarked : Grows s marked := (((h.incSat ..).markBad ..).blocksFollow n).spaceFollow n
  have hmoved : Grows s moved := .ite _ (hmarked.houseMove ..) hmarked
  have hfailed : Grows s failed := hmoved.codewordsFailed ..
  have hreturned : Grows s returned := .ite _ hfailed (hfailed.blockPagesBack ..)
  exact hreturned.tablesStart n
theorem readLost (h : Grows s t) (n : Stage) (r : ReadReq) : Grows s (readLost t n r) := by
  have hpoison := fun f touch code sev => (h.via (arrives_framePoison t n f touch code sev).1.evs : Grows s (framePoison t n f touch code sev))
  unfold Machine.readLost
  split
  · exact .ite _ (hpoison ..) h
  · exact hpoison ..
  · exact h
  · exact .ite _ h ((h.setRst ..).restoreGo n)
theorem readLadder (h : Grows s t) (n : Stage) (ch : Nat) (r : ReadReq) : Grows s (readLadder t n ch r) := by
  unfold Machine.readLadder
  split
  next k _ =>
    have hretry := h.whenS (r.step == 1 && !softStep t n k) (fun s => retryReached s ch) fun _ k => k.via (regsOnly_retryReached _ ch).evs
    have hsoft := hretry.whenS (softStep t n k) (fun s => softReached s n r.entry) fun u k => k.via ((Settles.refl u).softReached n r.entry).evs
    exact hsoft.flash _
  · dsimp only
    split
    · exact h
    · exact (h.incSat ..).readLost n r
theorem eraseEnd_fail (h : Grows s t) (n : Stage) (lun b cause : Nat) : Grows s (eraseEnd t n lun b false cause) := by
  unfold eraseEnd
  rw [if_neg Bool.false_ne_true]
  have hbad := (Grows.ite (cause = 4) h (h.incSat (F.FL_CH_CMD_ERASE_FAILS (lunCh lun)) 1)).markBad n lun b cause
  exact ((Grows.blocksFollow (.ite _ (hbad.houseMove ..) hbad) n).spaceFollow n).tablesStart n
theorem channelStops (h : Grows s t) (n : Stage) (ch : Nat) : Grows s (channelStops t n ch) := by
  unfold Machine.channelStops
  extract_lets lost gated ops x stopped returned moved copies y taken ended
  have hgated : Grows s gated := Grows.whenS (t := lost) (h.event ..) _ _ fun _ k => k.event ..
  have hreturned : Grows s returned := ((hgated.setFch ..).stageRates n).blockPagesBack ..
  have hmoved : Grows s moved := hreturned.fold ops _ fun _ o k => by
    split
    · exact k.codewordsFailed n o.lun _ _
    · exact k.readLost ..
    · exact k
    next redo _ =>
      cases redo with
      | none => exact k
      | some r => exact k.readLost n r
  have hended : Grows s ended := (hmoved.setFset ..).fold copies _ fun _ q k => by
    split
    · exact k.sealCopyEnd ..
    · exact k
  exact .ite _ (hended.tearAny n 7) hended
theorem commandFails (h : Grows s t) (n : Stage) (ch : Nat) (o : FlashOp) (abandoned : Bool) : Grows s (commandFails t n ch o abandoned) := by
  unfold Machine.commandFails
  split
  · exact .ite _ (h.codewordsFailed ..) (h.programFail ..)
  · exact .ite _ h (h.readLadder ..)
  · exact h.eraseEnd_fail ..
  · exact h.channelStops ..
end Grows

end Sys2Proof.Machine
end

section
/-! Proofs: the ends of the runs of micro-programs, and a command given up (R221 to R223, R225). -/

namespace Sys2Proof.Machine

theorem findSome?_only {α β : Type} {f : α → Option β} {xs : List α} {r : α} {b : β} (hr : r ∈ xs) (hb : f r = some b) (honly : ∀ q ∈ xs, q ≠ r → f q = none) :
    xs.findSome? f = some b := by
  induction xs with
  | nil => exact absurd hr List.not_mem_nil
  | cons x xs ih =>
    by_cases hx : x = r
    · rw [List.findSome?_cons_of_isSome (by rw [hx, hb]; rfl), hx, hb]
    · rw [List.findSome?_cons_of_isNone (by rw [honly x List.mem_cons_self hx]; rfl)]
      exact ih (List.mem_of_ne_of_mem (Ne.symm hx) hr) fun q hq => honly q (List.mem_cons_of_mem x hq)
theorem find?_only {α : Type} {p : α → Bool} {xs : List α} {r : α} (hr : r ∈ xs) (hp : p r = true) (honly : ∀ q ∈ xs, q ≠ r → p q = false) :
    xs.find? p = some r := by
  cases hfind : xs.find? p with
  | none => exact absurd hp (List.find?_eq_none.mp hfind r hr)
  | some q =>
    by_contra hne
    have hnot := honly q (List.mem_of_find?_eq_some hfind) fun h => hne (congrArg some h)
    exact Bool.false_ne_true (hnot.symm.trans (List.find?_some hfind))

section
variable {s : State} {c : Nat} {r : MpRun} {e : Nat} (hr : r ∈ (fch s c).runs)
include hr

theorem mpDelayOver_of_only (hwait : r.wait = .delay e) (honly : ∀ q ∈ (fch s c).runs, q ≠ r → ∀ e', q.wait ≠ .delay e') :
    mpDelayOver s c = mpSet (until_ s e) c (mpNext r) := by
  rw [mpDelayOver, findSome?_only (b := (r, e)) hr (by simp only [hwait])]
  intro q hq hne
  have hother := honly q hq hne
  split
  next e' hdelay => exact absurd hdelay (hother e')
  · rfl
theorem mpWaitTimeout_of_only (hwait : r.wait = .ready e) (honly : ∀ q ∈ (fch s c).runs, q ≠ r → ∀ e', q.wait ≠ .ready e') :
    mpWaitTimeout s c = mpFail (until_ s e) c r 1 := by
  rw [mpWaitTimeout, findSome?_only (b := (r, e)) hr (by simp only [hwait])]
  intro q hq hne
  have hother := honly q hq hne
  split
  next e' hready => exact absurd hready (hother e')
  · rfl
end

theorem mpReady_of_only {s : State} {lun e : Nat} {r : MpRun} (hr : r ∈ (fch s (lunCh lun)).runs) (hwait : r.wait = .ready e) (hlun : r.lun = lun)
    (honly : ∀ q ∈ (fch s (lunCh lun)).runs, q ≠ r → q.lun = lun → ∀ e', q.wait ≠ .ready e') : mpReady s lun = mpSet s (lunCh lun) (mpNext r) := by
  rw [mpReady, find?_only hr (by simp [hwait, hlun])]
  intro q hq hne
  by_cases hlunq : q.lun = lun
  · have hother := honly q hq hne hlunq
    cases hw : q.wait with
    | ready e' => exact absurd hw (hother e')
    | none => simp
    | delay => simp
  · simp [hlunq]

/-! An END with pass. -/

theorem mpPass_drops {s : State} {c : Nat} {r : MpRun} (h : (fch s c).ops.any (fun o => o.tag == r.tag && flashKind o.act == 3) = false) :
    mpPass s c r = mpDrop s c r := by
  rw [mpPass]
  cases hop : mpOp s c r with
  | none => rfl
  | some o =>
    have hno := List.any_eq_false.mp h o (List.mem_of_find?_eq_some hop)
    rw [Bool.and_eq_true, not_and] at hno
    have hkind := hno (List.find?_some (p := fun o : FlashOp => o.tag == r.tag) hop)
    cases hact : o.act with
    | reset t redo => exact absurd (by rw [hact]; rfl) hkind
    | program => simp only [hact]
    | read => simp only [hact]
    | erase => simp only [hact]

/-! An INIT run given up. -/

/-- The stage's Dressing marked as failed, the INIT runs of the channel gone. -/
def initCleared (s : State) (n : Stage) (c : Nat) : State :=
  let s := setFch s c { fch s c with runs := (fch s c).runs.filter (fun r => r.tag != initTag) }
  { s with image := { s.image with dressFault := qset s.image.dressFault n 10 } }
theorem initFails_eq (s : State) (n : Stage) (c : Nat) : initFails s n c = stageRates (chLostMark (initCleared s n c) n c) n := rfl
theorem fch_initCleared (s : State) (n : Stage) (c : Nat) :
    fch (initCleared s n c) c = { fch s c with runs := (fch s c).runs.filter (fun r => r.tag != initTag) } := fch_setFch ..
theorem initCleared_leaves (s : State) (n : Stage) (c : Nat) : (initCleared s n c).evs = s.evs ∧ (initCleared s n c).modes = s.modes
    ∧ (initCleared s n c).flash.pages = s.flash.pages := ⟨rfl, rfl, rfl⟩

/-! A read given up (R225). -/

theorem mem_insertNat {xs : List Nat} {x y : Nat} (h : y ∈ insertNat xs x) : y = x ∨ y ∈ xs := by
  induction xs with
  | nil => exact .inl (List.mem_singleton.mp h)
  | cons z xs ih =>
    rw [insertNat] at h
    split_ifs at h
    · exact .inr h
    · exact List.mem_cons.mp h
    · obtain rfl | hin := List.mem_cons.mp h
      · exact .inr List.mem_cons_self
      · exact (ih hin).imp_right (List.mem_cons_of_mem _)

theorem not_awaiting_of_freeTag {x : FlashChan} {t : Nat} (h : freeTag x = some t) : t ∉ x.awaiting := by
  have hfree := List.find?_some (p := fun t => !x.ops.any (fun o => o.tag == t) && !x.awaiting.contains t) h
  simp only [Bool.and_eq_true, Bool.not_eq_true', List.contains_eq_mem, decide_eq_false_iff_not] at hfree
  exact hfree.2

/-- The commands of a channel after one more has been issued on it. -/
theorem ops_flashIssue {s : State} {n : Stage} {lun page : Nat} {act : FlashDo} {retry : Nat} {soft : Bool} {t : Nat} (h : freeTag (fch s (lunCh lun)) = some t) :
    ∃ e, (fch (flashIssue s n lun page act retry soft) (lunCh lun)).ops = (fch s (lunCh lun)).ops ++ [⟨t, e, lun, page, act, s.now⟩] := by
  refine ⟨(mget 0 (fch s (lunCh lun)).epochs t + 1) % 4, ?_⟩
  simp only [flashIssue, h, emits_eq]
  exact congrArg FlashChan.ops (fch_setFch ..)

/-- The time of a command given up, its count and its event. -/
def givenUp (s : State) (c : Nat) (o : FlashOp) : State :=
  event (incSat (until_ s (o.issued + cmdTimeout s c)) (F.FL_CH_CMD_TIMEOUTS c) 1) 0x404 1 ((flashStage s c).getD 0).val (c + o.tag % 64 * 16 + o.epoch % 4 * 1024)

theorem evs_flashDrop (s : State) (c tag : Nat) : (flashDrop s c tag).evs = s.evs := rfl

section
variable {s : State} {c : Nat} {r : ReadReq} {o : FlashOp} {d : Bool} {free : Nat}

theorem commandAbandon_read {tag : Nat} (hfind : (fch s c).ops.find? (fun x => x.tag == tag) = some o) (hact : o.act = .read r d) :
    commandAbandon s c tag = resetLun (flashDrop (givenUp s c o) c tag) ((flashStage s c).getD 0) c o := by
  have htag : o.tag = tag := beq_iff_eq.mp (List.find?_some (p := fun x : FlashOp => x.tag == tag) hfind)
  subst htag
  rw [commandAbandon, hfind]
  dsimp only
  rw [commandFails]
  simp only [hact]
  rfl

theorem givenUp_leaves : (givenUp s c o).modes = s.modes ∧ (givenUp s c o).flash = s.flash ∧ (givenUp s c o).now = max s.now (o.issued + cmdTimeout s c)
    ∧ (⟨0x404, 1, ((flashStage s c).getD 0).val, c + o.tag % 64 * 16 + o.epoch % 4 * 1024⟩ : Ev) ∈ (givenUp s c o).evs :=
  ⟨rfl, rfl, rfl, List.mem_append_right _ (List.mem_singleton_self _)⟩

/-- What the reset of a read's LUN leaves of a state in which the read is off its channel. -/
theorem resetLun_read (n : Stage) (hact : o.act = .read r d) (hlun : lunCh o.lun = c) (hlt : free < 64) (hne : free ≠ o.tag)
    (hops : ∀ x ∈ (fch s c).ops, x.tag ≠ free) (hout : free ∉ (fch s c).awaiting) (hgone : ∀ x ∈ (fch s c).ops, x.tag ≠ o.tag) :
    (∃ q ∈ (fch (resetLun s n c o) c).ops, q.act = .reset o.tag (some r) ∧ q.lun = o.lun) ∧ (∀ x ∈ (fch (resetLun s n c o) c).ops, x.tag ≠ o.tag)
      ∧ Calm s (resetLun s n c o) ∧ (resetLun s n c o).evs = s.evs := by
  subst hlun
  have hreset : resetLun s n (lunCh o.lun) o = flashIssue (setFch s (lunCh o.lun) { fch s (lunCh o.lun) with awaiting := insertNat (fch s (lunCh o.lun)).awaiting o.tag })
      n o.lun o.page (.reset o.tag (some r)) 0 false := by
    rw [resetLun, hact]
  have hwaits := fch_setFch s (lunCh o.lun) { fch s (lunCh o.lun) with awaiting := insertNat (fch s (lunCh o.lun)).awaiting o.tag }
  have hfreeOut : free ∉ insertNat (fch s (lunCh o.lun)).awaiting o.tag := fun h => (mem_insertNat h).elim hne hout
  obtain ⟨t, ht⟩ := freeTag_isSome (x := { fch s (lunCh o.lun) with awaiting := insertNat (fch s (lunCh o.lun)).awaiting o.tag }) hlt hops hfreeOut
  have htag : t ≠ o.tag := by
    rintro rfl
    refine not_awaiting_of_freeTag ht ?_
    exact List.contains_iff_mem.mp (contains_insertNat _ _)
  obtain ⟨⟨w, ch, out, hrest⟩, -, -⟩ := flashIssue_issues (n := n) (page := o.page) (act := .reset o.tag (some r)) 0 false hlt
    (by rw [hwaits]; exact hops) (by rw [hwaits]; exact hfreeOut)
  obtain ⟨e, hissue⟩ := ops_flashIssue (n := n) (page := o.page) (act := .reset o.tag (some r)) (retry := 0) (soft := false)
    (t := t) (by rw [hwaits]; exact ht)
  rw [hwaits] at hissue
  rw [hreset, hissue, hrest]
  refine ⟨⟨_, List.mem_append_right _ (List.mem_singleton_self _), rfl, rfl⟩, fun x hx => ?_, ⟨rfl, rfl, rfl, rfl, rfl⟩, rfl⟩
  obtain hold | hnew := List.mem_append.mp hx
  · exact hgone x hold
  · rw [List.mem_singleton.mp hnew]
    exact htag
end

/-! What each end answers. -/

/-- A run that fails is recorded, whatever follows. -/
theorem mpFail_records (s : State) (c : Nat) (r : MpRun) (code : Nat) :
    (⟨0x40F, 2, r.stage.val, c + r.entry * 16 + code * 256⟩ : Ev) ∈ (mpFail s c r code).evs := by
  have hrecorded : (⟨0x40F, 2, r.stage.val, c + r.entry * 16 + code * 256⟩ : Ev) ∈ (mpFailed s c r code).evs := by
    obtain ⟨w, hw⟩ := mpFailed_eq s c r code
    rw [hw]
    exact List.mem_append_right _ (List.mem_singleton_self _)
  have hgrows : Grows (mpFailed s c r code) (mpFail s c r code) := by
    rw [mpFail]
    generalize mpFailed s c r code = t
    have hrefl := Grows.refl t
    split
    · exact Grows.commandFails (t := flashDrop t c r.tag) (hrefl.setFch ..) ..
    · exact .ite _ (((((hrefl.setFch ..).image _).wr ..).wr ..).event .. |>.stageRates _) (hrefl.setFch ..)
  exact hgrows hrecorded

/-- What shows of a run's update after the command. -/
theorem Drives.shows {s u : State} {c : Nat} {r r' : MpRun} {sent : List Output} (h : Drives s c r r' sent u) :
    (finish u).now = s.now ∧ (fch (finish u) c).runs = runsPut s c r r' ∧ (finish u).modes = s.modes ∧ (finish u).flash.pages = s.flash.pages := by
  obtain ⟨hpages, hmodes, -, -, hnow⟩ := h.calm.of_finish
  exact ⟨hnow, by rw [fch_finish, h.runs], hmodes, hpages⟩

section
variable {s : State} {c : Nat} {r : MpRun}

theorem mpEnd_passes {w : Nat} (hat : mpAt s c 0x0B = some (r, w)) (hpass : bitOf w 0 = true)
    (hops : (fch s c).ops.any (fun o => o.tag == r.tag && flashKind o.act == 3) = false) : mpEnd s c = mpDrop s c r := by
  rw [mpEnd, mpDo_of_mpAt hat, if_pos hpass, mpPass_drops hops]
theorem mpEnd_fails {w : Nat} (hat : mpAt s c 0x0B = some (r, w)) (hpass : bitOf w 0 = false) : mpEnd s c = mpFail s c r (bits w 1 8) := by
  rw [mpEnd, mpDo_of_mpAt hat, hpass, if_neg Bool.false_ne_true]
theorem mpDrop_answers (hexec : mpEnd s c = mpDrop s c r) : Answers (.mpEnd c) s (fun u t =>
    (fch t c).runs = (fch s c).runs.filter (fun q => !(q.tag == r.tag && q.entry == r.entry && q.soft == r.soft)) ∧ (fch t c).ops = (fch s c).ops
      ∧ u.evs = s.evs ∧ t.modes = s.modes ∧ t.flash.pages = s.flash.pages) := by
  have hcalm : Calm s (mpDrop s c r) := ⟨rfl, rfl, rfl, rfl, rfl⟩
  obtain ⟨hpages, hmodes, -, -, -⟩ := hcalm.of_finish
  refine ⟨mpDrop s c r, congrArg done hexec, ?_, ?_, rfl, hmodes, hpages⟩
  · rw [fch_finish, mpDrop, fch_setFch]
  · rw [fch_finish, mpDrop, fch_setFch]

theorem mpRunTimeout_head (hhead : (fch s c).runs.head? = some r) :
    mpRunTimeout s c = if r.tag = initTag then initFails s r.stage c else commandAbandon s c r.tag := by
  rw [mpRunTimeout, hhead]

theorem initFails_answers (hexec : mpRunTimeout s c = initFails s r.stage c) (hc : c < 16) : Answers (.mpRunTimeout c) s (fun u t =>
    rd t (F.FL_CH_STATUS_LOST c) = 1 ∧ rd t (F.FL_CH_STATUS_TRAINED c) = 0 ∧ Logs s u (⟨0x403, 2, r.stage.val, c⟩) ∧ (∀ q ∈ (fch t c).runs, q.tag ≠ initTag)
      ∧ t.modes = s.modes ∧ t.flash.pages = s.flash.pages) := by
  obtain ⟨hlost, htrained, -, hevs, hregs⟩ := loses_rates (initCleared s r.stage c) hc r.stage
  rw [← initFails_eq] at hlost htrained hevs hregs
  obtain ⟨hclearedEvs, hclearedModes, hclearedPages⟩ := initCleared_leaves s r.stage c
  obtain ⟨hpages, hmodes, -, -, -⟩ := hregs.calm.of_finish
  refine ⟨initFails s r.stage c, congrArg done hexec, ?_, ?_, ?_, fun q hq => ?_, hmodes.trans hclearedModes, hpages.trans hclearedPages⟩
  · rw [rd_finish_trainShows _ hc (by simp [trainShows]), hlost]
  · rw [rd_finish_trainShows _ hc (by simp [trainShows]), htrained]
  · exact hevs.trans (congrArg (· ++ _) hclearedEvs)
  · rw [fch_finish, fch, hregs.flash, ← fch, fch_initCleared] at hq
    simpa using (List.mem_filter.mp hq).2

theorem commandAbandon_answers {tag : Nat} {o : FlashOp} {q : ReadReq} {d : Bool} {free : Nat} (hfind : (fch s c).ops.find? (fun x => x.tag == tag) = some o)
    (hact : o.act = .read q d) (hlun : lunCh o.lun = c) (hlt : free < 64) (hne : free ≠ tag) (hops : ∀ x ∈ (fch s c).ops, x.tag ≠ free)
    (hout : free ∉ (fch s c).awaiting) : Answers (.commandTimeout c tag) s (fun u t => t.now = max s.now (o.issued + cmdTimeout s c)
      ∧ (⟨0x404, 1, ((flashStage s c).getD 0).val, c + tag % 64 * 16 + o.epoch % 4 * 1024⟩ : Ev) ∈ u.evs
      ∧ (∃ x ∈ (fch t c).ops, x.act = .reset tag (some q) ∧ x.lun = o.lun) ∧ (∀ x ∈ (fch t c).ops, x.tag ≠ tag) ∧ t.modes = s.modes ∧ t.flash.pages = s.flash.pages) := by
  have htag : o.tag = tag := beq_iff_eq.mp (List.find?_some (p := fun x : FlashOp => x.tag == tag) hfind)
  obtain ⟨hmodes, hflash, hnow, hlogged⟩ := givenUp_leaves (s := s) (c := c) (o := o)
  have hexec := commandAbandon_read hfind hact
  subst htag
  have hgiven : fch (givenUp s c o) c = fch s c := congrArg (fun fl : Flash => mget chanFree fl.chans c) hflash
  have hdropped : fch (flashDrop (givenUp s c o) c o.tag) c = { fch s c with
      ops := (fch s c).ops.filter (fun x => decide (x.tag ≠ o.tag)), runs := (fch s c).runs.filter (fun r => decide (r.tag ≠ o.tag)) } := by
    rw [flashDrop, fch_setFch, hgiven]
  obtain ⟨hissued, hgone, hcalm, hevs⟩ := resetLun_read (s := flashDrop (givenUp s c o) c o.tag) ((flashStage s c).getD 0) hact hlun hlt hne
    (by rw [hdropped]; exact fun x hx => hops x (List.mem_of_mem_filter hx)) (by rw [hdropped]; exact hout) (fch_flashDrop o.tag)
  obtain ⟨hendPages, hendModes, -, -, hendNow⟩ := (calm_flashDrop.trans hcalm).of_finish
  refine ⟨_, congrArg done hexec, hendNow.trans hnow, ?_, ?_, ?_, hendModes.trans hmodes, hendPages.trans (congrArg Flash.pages hflash)⟩
  · rw [hevs, evs_flashDrop]
    exact hlogged
  · rw [fch_finish]
    exact hissued
  · rw [fch_finish]
    exact hgone
end

/-- Settles O35: the one run that waits goes on or fails; a failed run is recorded before all that follows, which drops no event; what is given up is reset. -/
theorem microProgramEnds : Obligations.MicroProgramEnds := by
  unfold Obligations.MicroProgramEnds
  intro s c r hr runs
  have hgoes := fun t => (drives_mpSet t c (r := r) (r' := mpNext r) ⟨rfl, rfl, rfl⟩).shows
  refine ⟨fun e hwait honly => ?_, fun e lun hwait hlun hch honly => ?_, fun e hwait honly => ?_, fun w hat hpass => ?_, fun w hat hpass hops => ?_,
    fun hhead htag => ?_, fun hhead htag hc => ?_, fun o q d free hfind hact hlun hlt hne hops hout => ?_⟩
  · exact ⟨_, congrArg done (mpDelayOver_of_only hr hwait honly), hgoes (until_ s e)⟩
  · subst hch
    exact ⟨_, congrArg done (mpReady_of_only hr hwait hlun honly), hgoes s⟩
  · exact ⟨_, congrArg done (mpWaitTimeout_of_only hr hwait honly), mpFail_records (until_ s e) c r 1⟩
  · exact ⟨_, congrArg done (mpEnd_fails hat hpass), mpFail_records s c r (bits w 1 8)⟩
  · exact mpDrop_answers (mpEnd_passes hat hpass hops)
  · exact congrArg done ((mpRunTimeout_head hhead).trans (if_neg htag))
  · exact initFails_answers ((mpRunTimeout_head hhead).trans (if_pos htag)) hc
  · exact commandAbandon_answers hfind hact hlun hlt hne hops hout

end Sys2Proof.Machine
end

section
/-! Proofs: subchannels read and replaced, and what requests at the ports, counts and reports leave of the DRAM schedulers (R266, R276, R279, R320, R337, R340, R389). -/

namespace Sys2Proof.Machine

/-! A subchannel read after a change. -/

theorem subch_setChan (s : State) (c d : DramCh) (e : Bool) (x : Channel) :
    subch (setChan s c x) d e = if d = c then (if e then x.subB else x.subA) else subch s d e := by
  simp only [subch, chan, setChan, qget_qset]
  by_cases h : d = c <;> simp only [h, if_true, if_false]
theorem subch_setSub_of (s : State) (c d : DramCh) (b e : Bool) (x : SubCh) :
    subch (setSub s c b x) d e = if d = c ∧ e = b then x else subch s d e := by
  rw [setSub, subch_setChan]
  by_cases hd : d = c
  · subst hd
    cases b <;> cases e <;> simp [subch]
  · simp [hd]
theorem setSub_subch (s : State) (c : DramCh) (b : Bool) : setSub s c b (subch s c b) = s := by
  have hchan : setChan s c (chan s c) = s := by rw [setChan, chan, qset_qget_self]
  cases b <;> exact hchan
/-- A change of every subchannel alike. -/
theorem subch_of_each {s t : State} {f : SubCh → SubCh} (h : t.dram.ch = qmap (fun x => { x with subA := f x.subA, subB := f x.subB }) s.dram.ch) (c : DramCh) (b : Bool) :
    subch t c b = f (subch s c b) := by
  simp only [subch, chan, h, qget_qmap]
  cases b <;> rfl

theorem mapLine_of_maps {s t : State} (h : t.dram.maps = s.dram.maps) (n : Stage) (l : Nat) : mapLine t n l = mapLine s n l := by
  have hmaps : mapLine t n l = mapLine { s with dram := { s.dram with maps := t.dram.maps } } n l := rfl
  rw [hmaps, h]

/-! Parts of a subchannel over changes of other parts. -/

theorem drainUpdate_eq (s : State) (c : DramCh) (x : SubCh) : ∃ d, drainUpdate s c x = { x with drain := d } := by
  unfold drainUpdate
  split
  · exact ⟨true, rfl⟩
  · split
    · exact ⟨false, rfl⟩
    · exact ⟨x.drain, rfl⟩
theorem setRank_eq (x : SubCh) (r : Nat) (k : Rank) : ∃ k0 k1, setRank x r k = { x with rank0 := k0, rank1 := k1 } := by
  unfold setRank
  split
  · exact ⟨k, x.rank1, rfl⟩
  · exact ⟨x.rank0, k, rfl⟩
theorem addDue_eq (x : SubCh) (d : DueCmd) : ∃ ds, addDue x d = { x with due := ds } := by
  unfold addDue
  split
  · exact ⟨x.due, rfl⟩
  · exact ⟨_, rfl⟩
theorem rankOf_setRank (x : SubCh) (r : Nat) (k : Rank) : rankOf (setRank x r k) r = k := by
  by_cases h : r = 0 <;> simp [rankOf, setRank, h]
theorem bankOf_setBank (x : SubCh) (k : Nat) (b : Bank) : bankOf (setBank x k b) k = b := mget_mset_self ..

@[simp] theorem setRank_banks (x : SubCh) (r : Nat) (k : Rank) : (setRank x r k).banks = x.banks := by obtain ⟨_, _, h⟩ := setRank_eq x r k; rw [h]
@[simp] theorem setRank_rq (x : SubCh) (r : Nat) (k : Rank) : (setRank x r k).rq = x.rq := by obtain ⟨_, _, h⟩ := setRank_eq x r k; rw [h]
@[simp] theorem setRank_wq (x : SubCh) (r : Nat) (k : Rank) : (setRank x r k).wq = x.wq := by obtain ⟨_, _, h⟩ := setRank_eq x r k; rw [h]
@[simp] theorem setRank_waiting (x : SubCh) (r : Nat) (k : Rank) : (setRank x r k).waiting = x.waiting := by obtain ⟨_, _, h⟩ := setRank_eq x r k; rw [h]
@[simp] theorem setRank_inFlight (x : SubCh) (r : Nat) (k : Rank) : (setRank x r k).inFlight = x.inFlight := by obtain ⟨_, _, h⟩ := setRank_eq x r k; rw [h]
@[simp] theorem addDue_banks (x : SubCh) (d : DueCmd) : (addDue x d).banks = x.banks := by obtain ⟨_, h⟩ := addDue_eq x d; rw [h]
@[simp] theorem drainUpdate_rq (s : State) (c : DramCh) (x : SubCh) : (drainUpdate s c x).rq = x.rq := by obtain ⟨_, h⟩ := drainUpdate_eq s c x; rw [h]
@[simp] theorem drainUpdate_wq (s : State) (c : DramCh) (x : SubCh) : (drainUpdate s c x).wq = x.wq := by obtain ⟨_, h⟩ := drainUpdate_eq s c x; rw [h]
@[simp] theorem drainUpdate_waiting (s : State) (c : DramCh) (x : SubCh) : (drainUpdate s c x).waiting = x.waiting := by obtain ⟨_, h⟩ := drainUpdate_eq s c x; rw [h]
@[simp] theorem drainUpdate_inFlight (s : State) (c : DramCh) (x : SubCh) : (drainUpdate s c x).inFlight = x.inFlight := by obtain ⟨_, h⟩ := drainUpdate_eq s c x; rw [h]

/-- A command due is added once. -/
theorem contains_addDue (x : SubCh) (d : DueCmd) (hd : ∀ e, sameDue d e = (d == e)) : (addDue x d).due.contains d = true := by
  unfold addDue
  split
  · next h =>
    simpa [hd] using h
  · simp

/-! What the end of a command leaves of the DRAM. -/

theorem Quiet.calmChan {s t : State} (h : Quiet s t) (c : DramCh) : calmChannel (chan t c) = calmChannel (chan s c) := by
  have hch := congrArg (fun d : Dram => qget d.ch c) h.dram
  rw [qget_qmap, qget_qmap] at hch
  exact hch
theorem Quiet.subch {s t : State} (h : Quiet s t) (c : DramCh) (b : Bool) : subch t c b = Machine.subch s c b := by
  have ha : (chan t c).subA = (chan s c).subA := (congrArg Channel.subA (h.calmChan c) :)
  have hb : (chan t c).subB = (chan s c).subB := (congrArg Channel.subB (h.calmChan c) :)
  rw [Machine.subch, Machine.subch, ha, hb]
theorem Quiet.lines {s t : State} (h : Quiet s t) : t.dram.lines = s.dram.lines := (congrArg Dram.lines h.dram :)
theorem Quiet.fill {s t : State} (h : Quiet s t) : t.dram.fill = s.dram.fill := (congrArg Dram.fill h.dram :)
theorem Quiet.maps {s t : State} (h : Quiet s t) : t.dram.maps = s.dram.maps := (congrArg Dram.maps h.dram :)
theorem Quiet.remapAt {s t : State} (h : Quiet s t) (k : Nat) : remapAt t k = Machine.remapAt s k := congrArg (mget remapFree · k) (congrArg Dram.remap h.dram :)
theorem Quiet.dramCell {s t : State} (h : Quiet s t) (n : Stage) (l : Nat) : dramCell t n l = Machine.dramCell s n l := by
  rw [Machine.dramCell, Machine.dramCell, fillCell, fillCell, h.lines, h.fill]
theorem Quiet.portIn {s t : State} (h : Quiet s t) (k : Nat) : portIn t k = Machine.portIn s k := by
  have h0 : t.cxl.p0 = s.cxl.p0 := (congrArg CxlState.p0 h.cxl :)
  have h1 : t.cxl.p1 = s.cxl.p1 := (congrArg CxlState.p1 h.cxl :)
  rw [Machine.portIn, Machine.portIn, h0, h1]

/-! Time, stored lines and waiting events. -/

/-- Time and the stored lines stand, and no event that waits for the recorder is dropped. -/
structure LinesStand (s t : State) : Prop where
  now : t.now = s.now
  lines : t.dram.lines = s.dram.lines
  evs : s.evs ⊆ t.evs

namespace LinesStand
variable {s t u : State}

theorem refl (s : State) : LinesStand s s := ⟨rfl, rfl, List.Subset.refl _⟩
theorem trans (h : LinesStand s t) (k : LinesStand t u) : LinesStand s u := ⟨k.now.trans h.now, k.lines.trans h.lines, List.Subset.trans h.evs k.evs⟩
/-- A change of neither. -/
theorem beside (h : LinesStand s t) (hu : (u.now, u.dram.lines, u.evs) = (t.now, t.dram.lines, t.evs) := by rfl) : LinesStand s u := by
  simp only [Prod.mk.injEq] at hu
  obtain ⟨hnow, hlines, hevs⟩ := hu
  exact h.trans ⟨hnow, hlines, by rw [hevs]; exact List.Subset.refl _⟩
theorem event (h : LinesStand s t) (a b c d : Nat) : LinesStand s (event t a b c d) := h.trans ⟨rfl, rfl, List.subset_append_left ..⟩
theorem ite (c : Prop) [Decidable c] {a b : State} (ha : LinesStand s a) (hb : LinesStand s b) : LinesStand s (if c then a else b) := by
  split
  · exact ha
  · exact hb
theorem whenS (h : LinesStand s t) (c : Bool) (f : State → State) (hf : ∀ u, LinesStand s u → LinesStand s (f u)) : LinesStand s (whenS c f t) := .ite _ (hf t h) h
end LinesStand

/-! Queues, banks and ranks. -/

/-- A subchannel but for the requests at its ports, its open pairs and the mark of an owed scrub. -/
def coreSub (x : SubCh) : SubCh := { x with waiting := [], pairOpen := [], scrubOwed := false }

/-- What requests at the ports, counts and reports leave: beside stored lines the modes, the ledgers, the ports, the address map, and of every
subchannel its queues, banks and ranks; nothing sent is taken back. -/
structure QueuesStand (s t : State) : Prop extends LinesStand s t where
  modes : t.modes = s.modes
  ledger : t.ledger = s.ledger
  fill : t.dram.fill = s.dram.fill
  maps : t.dram.maps = s.dram.maps
  out : s.out ⊆ t.out
  port : ∀ k, portIn t k = portIn s k
  core : ∀ c b, coreSub (subch t c b) = coreSub (subch s c b)

theorem Quiet.queues {s t : State} (h : Quiet s t) (hevs : s.evs ⊆ t.evs) : QueuesStand s t := by
  obtain ⟨more, hmore⟩ := h.outKept
  exact ⟨⟨h.now, h.lines, hevs⟩, h.modes, h.ledger, h.fill, h.maps, by rw [hmore]; exact List.subset_append_left .., h.portIn, fun c b => by rw [h.subch]⟩

namespace QueuesStand
variable {s t u : State}

theorem refl (s : State) : QueuesStand s s := ⟨.refl s, rfl, rfl, rfl, rfl, List.Subset.refl _, fun _ => rfl, fun _ _ => rfl⟩
theorem trans (h : QueuesStand s t) (k : QueuesStand t u) : QueuesStand s u :=
  ⟨h.toLinesStand.trans k.toLinesStand, k.modes.trans h.modes, k.ledger.trans h.ledger, k.fill.trans h.fill, k.maps.trans h.maps, List.Subset.trans h.out k.out,
    fun p => (k.port p).trans (h.port p), fun c b => (k.core c b).trans (h.core c b)⟩
/-- A change of none of these. -/
theorem beside (h : QueuesStand s t)
    (hu : (u.now, u.dram.lines, u.evs, u.modes, u.ledger, u.dram.fill, u.dram.maps, u.out, u.cxl.p0, u.cxl.p1, u.dram.ch)
      = (t.now, t.dram.lines, t.evs, t.modes, t.ledger, t.dram.fill, t.dram.maps, t.out, t.cxl.p0, t.cxl.p1, t.dram.ch) := by rfl) : QueuesStand s u := by
  simp only [Prod.mk.injEq] at hu
  obtain ⟨hnow, hlines, hevs, hmodes, hledger, hfill, hmaps, hout, h0, h1, hch⟩ := hu
  refine h.trans ⟨⟨hnow, hlines, by rw [hevs]; exact List.Subset.refl _⟩, hmodes, hledger, hfill, hmaps, by rw [hout]; exact List.Subset.refl _, fun k => ?_, fun c b => ?_⟩
  · rw [portIn, portIn, h0, h1]
  · rw [subch, subch, chan, chan, hch]
theorem regs (h : QueuesStand s t) (k : RegsOnly t u) : QueuesStand s u := by
  obtain ⟨r, e, rfl⟩ := k
  exact h.trans ⟨⟨rfl, rfl, List.subset_append_left ..⟩, rfl, rfl, rfl, rfl, List.Subset.refl _, fun _ => rfl, fun _ _ => rfl⟩
theorem ite (c : Prop) [Decidable c] {a b : State} (ha : QueuesStand s a) (hb : QueuesStand s b) : QueuesStand s (if c then a else b) := by
  split
  · exact ha
  · exact hb
theorem whenS (h : QueuesStand s t) (c : Bool) (f : State → State) (hf : ∀ u, QueuesStand s u → QueuesStand s (f u)) : QueuesStand s (whenS c f t) := .ite _ (hf t h) h
theorem fold {α : Type} (h : QueuesStand s t) (xs : List α) (f : State → α → State) (hf : ∀ u a, QueuesStand s u → QueuesStand s (f u a)) : QueuesStand s (foldS xs f t) := by
  unfold foldS
  induction xs generalizing t with
  | nil => exact h
  | cons x xs ih => exact ih (hf t x h)

/-! Registers, events and messages. -/

theorem wr (h : QueuesStand s t) (f : Fld) (v : Nat) : QueuesStand s (wr t f v) := h.regs (regsOnly_wr ..)
theorem event (h : QueuesStand s t) (a b c d : Nat) : QueuesStand s (event t a b c d) := h.regs (regsOnly_event ..)
theorem pmonHit (h : QueuesStand s t) (g i k n : Nat) : QueuesStand s (pmonHit t g i k n) := h.regs (regsOnly_pmonHit ..)
theorem emit (h : QueuesStand s t) (o : Output) : QueuesStand s (emit t o) := h.trans ((quiet_emit t o).queues (List.Subset.refl _))
theorem ageEvent (h : QueuesStand s t) (c : DramCh) (r : DramReq) : QueuesStand s (ageEvent t c r) := .ite _ (h.event ..) h

/-! Channels and subchannels. -/

theorem setChan (h : QueuesStand s t) (c : DramCh) {x : Channel} (ha : coreSub x.subA = coreSub (chan t c).subA := by rfl) (hb : coreSub x.subB = coreSub (chan t c).subB := by rfl) :
    QueuesStand s (setChan t c x) := by
  refine h.trans ⟨⟨rfl, rfl, List.Subset.refl _⟩, rfl, rfl, rfl, rfl, List.Subset.refl _, fun _ => rfl, fun d e => ?_⟩
  rw [subch_setChan]
  split
  · next hd =>
    subst hd
    cases e
    · exact ha
    · exact hb
  · rfl
theorem setSub (h : QueuesStand s t) (c : DramCh) (b : Bool) {x : SubCh} (hx : coreSub x = coreSub (subch t c b) := by rfl) : QueuesStand s (setSub t c b x) := by
  cases b
  · exact h.setChan c hx rfl
  · exact h.setChan c rfl hx
theorem each (h : QueuesStand s t) (f : SubCh → SubCh) (hf : ∀ x, coreSub (f x) = coreSub x := by exact fun _ => rfl) :
    QueuesStand s { t with dram := { t.dram with ch := qmap (fun x => { x with subA := f x.subA, subB := f x.subB }) t.dram.ch } } :=
  h.trans ⟨⟨rfl, rfl, List.Subset.refl _⟩, rfl, rfl, rfl, rfl, List.Subset.refl _, fun _ => rfl, fun c b => by rw [subch_of_each rfl, hf]⟩
theorem openLine (h : QueuesStand s t) (pair : Nat) (n : Stage) (line : Nat) : QueuesStand s (openLine t pair n line) := by
  unfold Machine.openLine
  split
  · exact h
  · exact h.setSub ..
theorem pairOpens (h : QueuesStand s t) (r : DramReq) : QueuesStand s (pairOpens t r) := by
  unfold Machine.pairOpens
  dsimp only
  cases copyTarget (Machine.openLine t r.pair r.stage r.line) r with
  | none => exact h.openLine ..
  | some l => exact (h.openLine ..).openLine ..
theorem pairClose (h : QueuesStand s t) (pair : Nat) : QueuesStand s (pairClose t pair) :=
  h.each fun x => { x with pairOpen := x.pairOpen.filter (fun p => decide (p.1 ≠ pair)) }
theorem capture (h : QueuesStand s t) (c : DramCh) (n : Stage) (b : Bool) (line dev kind : Nat) : QueuesStand s (capture t c n b line dev kind) :=
  .ite _ (h.setChan c) (h.setChan c)

/-! Requests at the ports, the remap table. -/

theorem dramPut (h : QueuesStand s t) (r : DramReq) : QueuesStand s (dramPut t r) := by
  unfold Machine.dramPut
  split
  · exact h
  · split
    · exact ((((h.wr ..).wr ..).wr ..).wr ..).event ..
    · exact (h.beside (u := { t with dram := { t.dram with nextId := t.dram.nextId + 1 } })).setSub ..
theorem dramRead (h : QueuesStand s t) (port cls : Nat) (n : Stage) (line : Nat) (use : DramUse) : QueuesStand s (dramRead t port cls n line use) := h.dramPut _
theorem dramPair (h : QueuesStand s t) (port cls : Nat) (n : Stage) (line target : Nat) (use : DramUse) : QueuesStand s (dramPair t port cls n line target use) :=
  ((h.beside (u := { t with dram := { t.dram with nextPair := t.dram.nextPair + 1 } })).dramPut _).dramPut _
theorem setRemap (h : QueuesStand s t) (k : Nat) (e : RemapEntry) : QueuesStand s (setRemap t k e) := h.beside

/-! Host records. -/

theorem cxlRecord (h : QueuesStand s t) (n : Stage) (k : Nat) (r : CxlRec) : QueuesStand s (cxlRecord t n k r) :=
  h.trans ((quiet_cxlRecord t n k r).queues ((Keeps.refl t).cxlRecord n k r).evs)
theorem poisonAdd (h : QueuesStand s t) (n : Stage) (e : PoisonEntry) : QueuesStand s (poisonAdd t n e) :=
  .ite _ h (.ite _ h.beside ((h.beside (u := { t with cxl := { t.cxl with poisonOver := qset t.cxl.poisonOver n (some (timestampNow t)) } })).event ..))
theorem mediaError (h : QueuesStand s t) (n : Stage) (line kind tr : Nat) : QueuesStand s (mediaError t n line kind tr) := (h.poisonAdd ..).cxlRecord ..
theorem dramRecord (h : QueuesStand s t) (n : Stage) (line what : Nat) : QueuesStand s (dramRecord t n line what) := by
  unfold Machine.dramRecord
  split
  · exact h
  · exact h.cxlRecord ..

/-! What of a subchannel stands. -/

theorem queues (h : QueuesStand s t) (c : DramCh) (b : Bool) : (subch t c b).rq = (subch s c b).rq ∧ (subch t c b).wq = (subch s c b).wq :=
  ⟨(congrArg SubCh.rq (h.core c b) :), (congrArg SubCh.wq (h.core c b) :)⟩
theorem inFlight (h : QueuesStand s t) (c : DramCh) (b : Bool) : (subch t c b).inFlight = (subch s c b).inFlight := (congrArg SubCh.inFlight (h.core c b) :)
theorem bankOf (h : QueuesStand s t) (c : DramCh) (b : Bool) (k : Nat) : bankOf (subch t c b) k = Machine.bankOf (subch s c b) k :=
  congrArg (mget bankInit · k) (congrArg SubCh.banks (h.core c b) :)
theorem dramCell (h : QueuesStand s t) (n : Stage) (l : Nat) : dramCell t n l = Machine.dramCell s n l := by
  rw [Machine.dramCell, Machine.dramCell, fillCell, fillCell, h.lines, h.fill]
end QueuesStand

end Sys2Proof.Machine
end

section
/-! Proofs: a waiting request enters its queue past the remap lookup, and the copy of a remap ends (R267, R278, R279, R330, R331, R333). -/

namespace Sys2Proof.Machine

/-! A request in its queue (R267, R278). -/

theorem foldl_inherit (qs : List DramReq) (r : DramReq) :
    (qs.foldl inherit r).id = r.id ∧ (qs.foldl inherit r).line = r.line ∧ (qs.foldl inherit r).use = r.use ∧ (qs.foldl inherit r).write = r.write := by
  induction qs generalizing r with
  | nil => exact ⟨rfl, rfl, rfl, rfl⟩
  | cons q qs ih => exact ih (inherit r q)
/-- Nothing waits behind a request of no pair as behind a pair's write. -/
theorem pairBehind_unpaired (x : SubCh) {r : DramReq} (h : r.pair = 0) : pairBehind x r = fun _ => false := by
  funext q
  simp [pairBehind, ownOpen, h]

/-- A request as it enters its queue: its age and its place begin, and a pair's write takes what the requests behind it pass on. -/
def entering (s : State) (c : DramCh) (b : Bool) (r : DramReq) : DramReq :=
  (((subch s c b).rq ++ (subch s c b).wq).filter (pairBehind (subch s c b) r)).foldl inherit { r with age := s.now, seq := s.dram.nextId }

theorem entering_same (s : State) (c : DramCh) (b : Bool) (r : DramReq) :
    (entering s c b r).id = r.id ∧ (entering s c b r).line = r.line ∧ (entering s c b r).use = r.use ∧ (entering s c b r).write = r.write := foldl_inherit ..
theorem entering_age (s : State) (c : DramCh) (b : Bool) {r : DramReq} (h : r.pair = 0) : (entering s c b r).age = s.now := by
  rw [entering, pairBehind_unpaired _ h]
  simp

/-- The request stands in the queue of its direction, at line `l`; one of no pair with its age beginning at `now`. -/
def QueuedAt (t : State) (c : DramCh) (b : Bool) (r : DramReq) (l now : Nat) : Prop :=
  ∃ q ∈ (if r.write then (subch t c b).wq else (subch t c b).rq), q.id = r.id ∧ q.line = l ∧ q.use = r.use ∧ (r.pair = 0 → q.age = now)

/-- An entry puts the request at the end of its queue and leaves the requests that wait; a self-refresh entry that it aborts is counted. -/
theorem queueEnter_eq (s : State) (c : DramCh) (b : Bool) (r : DramReq) : ∃ aborted x,
    queueEnter s c b r = whenS aborted (fun s => incWrap s (F.DC_SR_COUNT_ABORTS c.val) 1)
        (setSub { s with dram := { s.dram with nextId := s.dram.nextId + 1 } } c b (drainUpdate { s with dram := { s.dram with nextId := s.dram.nextId + 1 } } c x))
      ∧ x.waiting = (subch s c b).waiting ∧ entering s c b r ∈ (if r.write then x.wq else x.rq) := by
  refine ⟨_, _, rfl, ?_, ?_⟩
  · simp only [apply_ite SubCh.waiting, ite_self, setRank_waiting]
  · have hwrite : (entering s c b r).write = r.write := (entering_same s c b r).2.2.2
    simp only [apply_ite SubCh.rq, apply_ite SubCh.wq, ite_self, setRank_rq, setRank_wq]
    have hin : ∀ l : List DramReq, entering s c b r ∈ l ++ [entering s c b r] := fun l => List.mem_append_right _ (List.mem_singleton_self _)
    split
    · next hr =>
      split
      · exact hin _
      · next h => exact absurd (hwrite.trans hr) h
    · next hr =>
      split
      · next h => exact absurd (hwrite.symm.trans h) hr
      · exact hin _

/-- Stored lines, modes, ledgers and time stand. -/
structure Undisturbed (s t : State) : Prop where
  lines : t.dram.lines = s.dram.lines
  modes : t.modes = s.modes
  ledger : t.ledger = s.ledger
  now : t.now = s.now

theorem Undisturbed.trans {s t u : State} (h : Undisturbed s t) (k : Undisturbed t u) : Undisturbed s u :=
  ⟨k.lines.trans h.lines, k.modes.trans h.modes, k.ledger.trans h.ledger, k.now.trans h.now⟩
theorem QueuesStand.undisturbed {s t : State} (h : QueuesStand s t) : Undisturbed s t := ⟨h.lines, h.modes, h.ledger, h.now⟩
theorem undisturbed_finish (s : State) : Undisturbed s (finish s) :=
  have q := quiet_finish s
  ⟨q.lines, q.modes, q.ledger, q.now⟩

/-- What an entry leaves: the request in its queue, the requests that wait, and all that is stored. -/
theorem queueEnter_enters (s : State) (c : DramCh) (b : Bool) (r : DramReq) :
    QueuedAt (queueEnter s c b r) c b r r.line s.now ∧ (subch (queueEnter s c b r) c b).waiting = (subch s c b).waiting ∧ Undisturbed s (queueEnter s c b r) := by
  obtain ⟨aborted, x, hgo, hwaiting, hin⟩ := queueEnter_eq s c b r
  have hregs := (RegsOnly.refl (setSub { s with dram := { s.dram with nextId := s.dram.nextId + 1 } } c b
    (drainUpdate { s with dram := { s.dram with nextId := s.dram.nextId + 1 } } c x))).when aborted (fun s => incWrap s (F.DC_SR_COUNT_ABORTS c.val) 1) fun _ => regsOnly_wr ..
  rw [← hgo] at hregs
  have hsub : subch (queueEnter s c b r) c b = drainUpdate { s with dram := { s.dram with nextId := s.dram.nextId + 1 } } c x :=
    (congrArg (fun d : Dram => if b then (qget d.ch c).subB else (qget d.ch c).subA) hregs.dram).trans (subch_setSub ..)
  obtain ⟨hid, hline, huse, -⟩ := entering_same s c b r
  refine ⟨⟨entering s c b r, ?_, hid, hline, huse, entering_age s c b⟩, ?_, (congrArg Dram.lines hregs.dram :), hregs.modes, hregs.ledger, hregs.now⟩
  · rw [hsub, drainUpdate_wq, drainUpdate_rq]
    exact hin
  · rw [hsub, drainUpdate_waiting, hwaiting]

/-! The request that may enter, and what the lookup does with it (R279, R331, R333). -/

/-- The request taken from those that wait. -/
def taken (s : State) (c : DramCh) (b : Bool) (r : DramReq) : State := setSub s c b { subch s c b with waiting := (subch s c b).waiting.erase r }
/-- The write of the request's pair told the line that its read goes to. -/
def mateTold (s : State) (r : DramReq) (l : Nat) : State := if r.pair ≠ 0 ∧ ¬ r.write then mateTo s r.pair l else s
/-- The line lies on the subchannel. -/
def liesAt (s : State) (c : DramCh) (b : Bool) (n : Stage) (l : Nat) : Bool := (mapLine s n l).elim false (fun k => k.ch == c && k.sub == b)
/-- The requests of a pair that wait together at the lookup, beside the one that came. -/
def matesOf (s : State) (r : DramReq) : List DramReq × State := if r.write then ([], s) else mateTake s r.pair
/-- What the lookup does with a request: a line of no entry is queued for, a moved line is gone to, a line being copied is waited at (R331). -/
def lookedUp (s : State) (c : DramCh) (b : Bool) (r : DramReq) : Remapped → State
  | .direct => queueEnter (mateTold s r r.line) c b r
  | .wait k => setRemap (matesOf s r).2 k { remapAt (matesOf s r).2 k with waiting := (remapAt (matesOf s r).2 k).waiting ++ r :: (matesOf s r).1 }
  | .invalid k => invalidReq s c b r k
  | .redirect l =>
    if liesAt s c b r.stage l then queueEnter (mateTold (whenS (r.line != l) (fun s => pmonHit s 4 7 c.val 1) s) r l) c b { r with line := l }
    else dramPut (mateTold (pmonHit s 4 7 c.val 1) r l) { r with line := l }

theorem queues_taken (s : State) (c : DramCh) (b : Bool) (r : DramReq) : QueuesStand s (taken s c b r) := (QueuesStand.refl s).setSub ..
theorem waiting_taken (s : State) (c : DramCh) (b : Bool) (r : DramReq) : (subch (taken s c b r) c b).waiting = (subch s c b).waiting.erase r := by
  rw [taken, subch_setSub]
theorem QueuesStand.mateTold {s t : State} (h : QueuesStand s t) (r : DramReq) (l : Nat) : QueuesStand s (mateTold t r l) :=
  .ite _ (h.each fun x => { x with waiting := x.waiting.map (fun q => if q.pair == r.pair && q.write then { q with line := l, passed := true } else q) }) h
theorem mateTold_unpaired (s : State) {r : DramReq} (h : r.pair = 0) (l : Nat) : mateTold s r l = s := if_neg fun hp => hp.1 h
theorem queues_matesOf (s : State) (r : DramReq) : QueuesStand s (matesOf s r).2 := by
  unfold matesOf
  split
  · exact .refl s
  · exact (QueuesStand.refl s).each fun x => { x with waiting := x.waiting.filter (fun q => !(decide (r.pair ≠ 0) && q.pair == r.pair && q.write)) }
theorem remapAt_matesOf (s : State) (r : DramReq) (k : Nat) : remapAt (matesOf s r).2 k = remapAt s k := by
  unfold matesOf
  split <;> rfl
/-- A request of no pair waits at the lookup alone. -/
theorem matesOf_unpaired (s : State) {r : DramReq} (h : r.pair = 0) : matesOf s r = ([], s) := by
  unfold matesOf
  split
  · rfl
  · simp [mateTake, h, qmap]
theorem remapAt_setRemap (s : State) (k : Nat) (e : RemapEntry) : remapAt (setRemap s k e) k = e := mget_mset_self ..

section
variable {s : State} {c : DramCh} {b : Bool} {port : Nat} {r : DramReq} (h : entrant (subch s c b) port = some r)
include h

/-- What is past the lookup enters: the copy of a remap, and a write that goes where its read went. -/
theorem requestEnqueue_passes (hpast : (∃ k, r.use = .remapCopy k) ∨ (r.passed = true ∧ liesAt s c b r.stage r.line = true)) :
    requestEnqueue s c b port = queueEnter (taken s c b r) c b r := by
  rw [requestEnqueue, h]
  dsimp only
  obtain ⟨k, hk⟩ | ⟨hpassed, hhere⟩ := hpast
  · rw [hk]
    exact if_pos rfl
  · split
    · exact if_pos rfl
    · rw [if_neg Bool.false_ne_true, if_pos hpassed]
      exact if_pos hhere
/-- Another request is looked up. -/
theorem requestEnqueue_looks (hcopy : ∀ k, r.use ≠ .remapCopy k) (hpassed : r.passed = false) :
    requestEnqueue s c b port = lookedUp (taken s c b r) c b r (remapLookup s r.stage r.origLine) := by
  have hlook : remapLookup (taken s c b r) r.stage r.origLine = remapLookup s r.stage r.origLine := rfl
  rw [requestEnqueue, h, ← hlook]
  dsimp only
  split
  · next k hk => exact absurd hk (hcopy k)
  · rw [if_neg Bool.false_ne_true, if_neg (ne_true_of_eq_false hpassed), taken]
    generalize remapLookup _ r.stage r.origLine = look
    cases look with
    | direct => exact rfl
    | redirect l => exact rfl
    | wait k => exact rfl
    | invalid k => exact rfl
end

section
variable {s : State} {c : DramCh} {b : Bool} {port : Nat} {r : DramReq}

/-- A request that enters its queue from a state in which the queues stand as before. -/
theorem enters_answers {x : State} {l : Nat} (hgo : requestEnqueue s c b port = queueEnter x c b { r with line := l }) (hx : QueuesStand s x) :
    Answers (.dramRequestEnqueue c b port) s (fun _ t => QueuedAt t c b r l s.now ∧ (subch t c b).waiting = (subch x c b).waiting ∧ Undisturbed s t) := by
  obtain ⟨⟨q, hq, hid, hline, huse, hage⟩, hwaiting, hrest⟩ := queueEnter_enters x c b { r with line := l }
  have hfin := (quiet_finish (queueEnter x c b { r with line := l })).subch c b
  refine ⟨_, congrArg done hgo, ⟨q, ?_, hid, hline, huse, fun h => (hage h).trans hx.now⟩, ?_, (hx.undisturbed.trans hrest).trans (undisturbed_finish _)⟩
  · rw [hfin]
    exact hq
  · rw [hfin]
    exact hwaiting

theorem waits_answers {k : Nat} (hgo : requestEnqueue s c b port = lookedUp (taken s c b r) c b r (.wait k)) :
    Answers (.dramRequestEnqueue c b port) s (fun _ t => (∃ mates, (remapAt t k).waiting = (remapAt s k).waiting ++ r :: mates ∧ (r.pair = 0 → mates = []))
      ∧ (r.pair = 0 → (subch t c b).waiting = (subch s c b).waiting.erase r) ∧ Undisturbed s t) := by
  have q := quiet_finish (lookedUp (taken s c b r) c b r (.wait k))
  have hstand : QueuesStand s (lookedUp (taken s c b r) c b r (.wait k)) := ((queues_taken s c b r).trans (queues_matesOf ..)).setRemap ..
  refine ⟨_, congrArg done hgo, ⟨(matesOf (taken s c b r) r).1, ?_, fun h => ?_⟩, fun h => ?_, hstand.undisturbed.trans (undisturbed_finish _)⟩
  · rw [q.remapAt, lookedUp, remapAt_setRemap, remapAt_matesOf]
    rfl
  · rw [matesOf_unpaired _ h]
  · rw [q.subch, lookedUp, matesOf_unpaired _ h]
    exact waiting_taken s c b r
end

/-! A request whose entry is invalid (R311, R333). -/

namespace LinesStand
variable {s t : State}

theorem queues {u : State} (h : LinesStand s t) (k : QueuesStand t u) : LinesStand s u := h.trans k.toLinesStand
theorem readReply (h : LinesStand s t) (n : Stage) (port tag : Nat) (d : BitVec 512) (poison : Bool) : LinesStand s (readReply t n port tag d poison) :=
  .ite _ (h.queues ((((QueuesStand.refl t).pmonHit ..).regs (regsOnly_loadHit ..)).emit _)) h
theorem readPoison (h : LinesStand s t) (n : Stage) (port tag : Nat) : LinesStand s (readPoison t n port tag) :=
  (h.beside (u := (freshLine t).2)).readReply ..
theorem setLedger (h : LinesStand s t) (n : Stage) (l : LedgerState) : LinesStand s (setLedger t n l) := h.beside
theorem setChan (h : LinesStand s t) (c : DramCh) (x : Channel) : LinesStand s (setChan t c x) := h.beside
theorem addJob (h : LinesStand s t) (n : Stage) (j : Job) : LinesStand s (addJob t n j) := h.beside
theorem gatherJob (h : LinesStand s t) (n : Stage) (g : Gather) : LinesStand s (gatherJob t n g) := by
  unfold Machine.gatherJob
  have hset := h.setLedger n { led t n with gathers := (led t n).gathers.filter (fun q => !(q.frame == g.frame && q.flush == g.flush)) }
  exact (LinesStand.ite _ (hset.event ..) (.ite _ (hset.event ..) hset)).addJob ..
theorem gatherPump (h : LinesStand s t) (k : Nat) (n : Stage) : LinesStand s (gatherPump k t n) := by
  induction k generalizing t with
  | zero => exact h
  | succ k ih =>
    unfold Machine.gatherPump
    split
    · exact h
    · exact .ite _ (ih (h.gatherJob ..)) h
theorem gatherSet (h : LinesStand s t) (n : Stage) (g : Gather) : LinesStand s (gatherSet t n g) := (h.setLedger ..).gatherPump ..
theorem gatherFault (h : LinesStand s t) (n : Stage) (f : Nat) : LinesStand s (gatherFault t n f) := by
  unfold Machine.gatherFault
  split
  · exact h
  · exact h.gatherSet ..
theorem gatherLine (h : LinesStand s t) (n : Stage) (line : Nat) (flush : Bool) (d : BitVec 512) (bad : Bool) : LinesStand s (gatherLine t n line flush d bad) := by
  unfold Machine.gatherLine
  split
  · exact h
  · exact h.gatherSet ..
theorem pairWrite (h : LinesStand s t) (pair : Nat) (d : Option (BitVec 512 × Bool)) : LinesStand s (pairWrite t pair d) := by
  unfold Machine.pairWrite
  dsimp only
  split
  · exact h.beside
  · exact h.beside
theorem scrubPassEnd (h : LinesStand s t) (c : DramCh) : LinesStand s (scrubPassEnd t c) := by
  unfold Machine.scrubPassEnd
  exact (h.queues ((((QueuesStand.refl t).wr ..).wr ..).event ..)).setChan ..
theorem scanNext (h : LinesStand s t) : LinesStand s (scanNext t) := by
  unfold Machine.scanNext scanEnd
  split
  · exact h
  · refine .ite _ ((h.beside).queues ((QueuesStand.refl _).dramRead ..)) ?_
    split
    · exact h
    · exact .ite _ (LinesStand.event (h.beside) ..) h
theorem deliver (h : LinesStand s t) (c : DramCh) (b : Bool) (r : DramReq) (cell : LineCell) (o : ReadOutcome) : LinesStand s (deliver t c b r cell o) := by
  unfold Machine.deliver
  dsimp only
  cases r.use with
  | hostRead port tag => exact (h.readReply ..).whenS _ _ fun u k => k.queues ((QueuesStand.refl u).poisonAdd ..)
  | partialRead mask data poison =>
    refine .ite _ ((h.pairWrite ..).queues ((QueuesStand.refl _).mediaError ..)) (.ite _ ?_ (h.pairWrite ..))
    exact (h.pairWrite ..).queues (((((QueuesStand.refl _).wr ..).capture ..).mediaError ..).event ..)
  | trickle => exact h.gatherLine ..
  | flush => exact h.gatherLine ..
  | ledgerFill => exact h.setLedger ..
  | bitmapFill => exact h.beside
  | scrub =>
    cases mapLine t r.stage r.origLine with
    | none => exact h
    | some =>
      rw [Option.elim_some]
      exact (h.whenS _ _ fun u k => k.setChan ..).whenS _ _ fun u k => k.scrubPassEnd _
  | writeBack => exact .ite _ ((h.pairWrite ..).queues (((QueuesStand.refl _).pmonHit ..).setChan _)) (h.pairWrite ..)
  | poisonWrite => exact h.pairWrite ..
  | remapCopy => exact h.pairWrite ..
  | scan =>
    dsimp only
    split
    · exact h
    · exact h.beside.scanNext
  | _ => exact h
end LinesStand

/-- A request met by an invalid entry is logged before all that follows, which drops no event (R333). -/
theorem invalidReq_stands (s : State) (c : DramCh) (b : Bool) (r : DramReq) (k : Nat) :
    LinesStand (event (setRemap s k { remapAt s k with state := 3 }) 0x50E 2 r.stage.val k) (invalidReq s c b r k) := by
  have h := LinesStand.refl (event (setRemap s k { remapAt s k with state := 3 }) 0x50E 2 r.stage.val k)
  unfold invalidReq
  refine .ite _ h ?_
  cases r.use with
  | hostRead port tag => exact h.readPoison ..
  | flush f => exact h.gatherFault ..
  | partialRead => exact h.pairWrite ..
  | writeBack => exact h.pairWrite ..
  | poisonWrite => exact h.pairWrite ..
  | remapCopy => exact h.pairWrite ..
  | _ => exact h.deliver ..

theorem invalidReq_answers {s : State} {c : DramCh} {b : Bool} {port : Nat} {r : DramReq} {k : Nat}
    (hgo : requestEnqueue s c b port = lookedUp (taken s c b r) c b r (.invalid k)) :
    Answers (.dramRequestEnqueue c b port) s (fun u t => (⟨0x50E, 2, r.stage.val, k⟩ : Ev) ∈ u.evs ∧ t.dram.lines = s.dram.lines ∧ t.now = s.now) := by
  have h := invalidReq_stands (taken s c b r) c b r k
  have q := quiet_finish (lookedUp (taken s c b r) c b r (.invalid k))
  exact ⟨_, congrArg done hgo, h.evs (List.mem_append_right _ (List.mem_singleton_self _)), q.lines.trans h.lines, q.now.trans h.now⟩

/-! The end of a remap's copy (R330). -/

theorem remapAt_dramPut (s : State) (r : DramReq) (k : Nat) : remapAt (dramPut s r) k = remapAt s k := by
  unfold dramPut
  split
  · rfl
  · split <;> rfl
theorem remapAt_dramRecord (s : State) (n : Stage) (line what k : Nat) : remapAt (dramRecord s n line what) k = remapAt s k := by
  unfold dramRecord
  split
  · rfl
  · exact (quiet_cxlRecord ..).remapAt k
theorem remapAt_puts (rs : List DramReq) (f : State → DramReq → DramReq) (s : State) (k : Nat) : remapAt (foldS rs (fun s r => dramPut s (f s r)) s) k = remapAt s k := by
  unfold foldS
  induction rs generalizing s with
  | nil => rfl
  | cons r rs ih => rw [List.foldl_cons, ih, remapAt_dramPut]

/-- An entry whose copy has ended: valid, with nothing that waits. -/
def copied (e : RemapEntry) : RemapEntry := { e with state := 2, waiting := [] }
/-- The state in which the end of a copy has been logged. -/
def copyLogged (s : State) (k : Nat) : State :=
  event (setRemap s k (copied (remapAt s k))) 0x508 0 (remapAt s k).stage.val
    (k + (remapAt s k).spare % 1024 * 64 + (mapLine s (remapAt s k).stage (remapAt s k).line).elim 0 (fun j => j.ch.val) * 65536)

theorem remapDone_of_other {s : State} {k : Nat} (h : (remapAt s k).state ≠ 1) : remapDone s k = s := by
  rw [remapDone]
  exact if_pos (.inl h)
/-- A subchannel without copy requests of an entry holds up the end of no copy. -/
theorem unread_of_none {x : SubCh} {k : Nat} (h : ∀ q ∈ x.rq ++ x.wq ++ x.waiting ++ x.inFlight, q.use ≠ .remapCopy k) :
    ((x.rq ++ x.inFlight ++ x.waiting).any (fun r => decide (r.use = .remapCopy k)) || x.wq.any (fun r => decide (r.use = .remapCopy k) && !r.ready)) = false := by
  rw [Bool.or_eq_false_iff, List.any_eq_false, List.any_eq_false]
  refine ⟨fun q hq => ?_, fun q hq => ?_⟩
  · have huse := h q (by simp only [List.mem_append] at hq ⊢; tauto)
    simp [huse]
  · have huse := h q (by simp [hq])
    simp [huse]
/-- With the entry in copying and no copy request of it left the copy ends. -/
theorem remapDone_ends {s : State} {k : Nat} (hcopying : (remapAt s k).state = 1)
    (hnone : ∀ (d : DramCh) (e : Bool), ∀ q ∈ (subch s d e).rq ++ (subch s d e).wq ++ (subch s d e).waiting ++ (subch s d e).inFlight, q.use ≠ .remapCopy k) :
    remapDone s k = foldS (remapAt s k).waiting (fun s' r => dramPut s' { r with line := spareLine s' (remapAt s k).stage (remapAt s k).spare })
      (dramRecord (copyLogged s k) (remapAt s k).stage (remapAt s k).line 0) := by
  rw [remapDone]
  refine if_neg (not_or.mpr ⟨not_not.mpr hcopying, ?_⟩)
  rw [Bool.not_eq_true, List.any_eq_false]
  intro d _
  simp only [List.any_cons, List.any_nil, unread_of_none (hnone d false), unread_of_none (hnone d true), Bool.or_self]
  exact Bool.false_ne_true

theorem remapDone_answers {s : State} {k : Nat} (hcopying : (remapAt s k).state = 1)
    (hnone : ∀ (d : DramCh) (e : Bool), ∀ q ∈ (subch s d e).rq ++ (subch s d e).wq ++ (subch s d e).waiting ++ (subch s d e).inFlight, q.use ≠ .remapCopy k) :
    Answers (.remapCopyDone k) s (fun u t => (remapAt t k).state = 2 ∧ (remapAt t k).waiting = [] ∧ (remapAt t k).spare = (remapAt s k).spare
      ∧ (∃ a, (⟨0x508, 0, (remapAt s k).stage.val, a⟩ : Ev) ∈ u.evs) ∧ Undisturbed s t) := by
  have hgo := remapDone_ends hcopying hnone
  have hlogged : QueuesStand s (copyLogged s k) := ((QueuesStand.refl s).setRemap ..).event ..
  have hstand : QueuesStand (copyLogged s k) (remapDone s k) := by
    rw [hgo]
    exact ((QueuesStand.refl _).dramRecord ..).fold _ _ fun _ _ h => h.dramPut _
  have hentry : remapAt (finish (remapDone s k)) k = copied (remapAt s k) := by
    rw [(quiet_finish _).remapAt, hgo, remapAt_puts, remapAt_dramRecord]
    exact remapAt_setRemap ..
  refine ⟨_, rfl, ?_, ?_, ?_, ⟨_, hstand.evs (List.mem_append_right _ (List.mem_singleton_self _))⟩, (hlogged.trans hstand).undisturbed.trans (undisturbed_finish _)⟩
  · rw [hentry]
    rfl
  · rw [hentry]
    rfl
  · rw [hentry]
    rfl


section
variable {s : State} {c : DramCh} {b : Bool} {port : Nat} {r : DramReq} (h : entrant (subch s c b) port = some r)
include h

/-- A request past the lookup, or of a line that no entry maps, enters the queue of its line. -/
theorem direct_answers (hpast : (∃ k, r.use = .remapCopy k) ∨ (r.passed = true ∧ liesAt s c b r.stage r.line = true)
      ∨ ((∀ k, r.use ≠ .remapCopy k) ∧ r.passed = false ∧ remapLookup s r.stage r.origLine = .direct)) :
    Answers (.dramRequestEnqueue c b port) s (fun _ t => QueuedAt t c b r r.line s.now ∧ (r.pair = 0 → (subch t c b).waiting = (subch s c b).waiting.erase r) ∧ Undisturbed s t) := by
  have hgo : ∃ x, QueuesStand s x ∧ (r.pair = 0 → x = taken s c b r) ∧ requestEnqueue s c b port = queueEnter x c b r := by
    rw [← or_assoc] at hpast
    obtain hpast | ⟨hcopy, hpassed, hlook⟩ := hpast
    · exact ⟨_, queues_taken .., fun _ => rfl, requestEnqueue_passes h hpast⟩
    · refine ⟨_, (queues_taken s c b r).mateTold r r.line, fun hp => mateTold_unpaired _ hp _, ?_⟩
      rw [requestEnqueue_looks h hcopy hpassed, hlook, lookedUp]
  obtain ⟨x, hx, hunpaired, hgo⟩ := hgo
  obtain ⟨u, hu, hqueued, hwaiting, hrest⟩ := enters_answers (l := r.line) hgo hx
  refine ⟨u, hu, hqueued, fun hp => ?_, hrest⟩
  rw [hwaiting, hunpaired hp, waiting_taken]

/-- A request of a line that has moved to a spare of the same subchannel enters the queue for the spare. -/
theorem redirect_answers {l : Nat} (hcopy : ∀ k, r.use ≠ .remapCopy k) (hpassed : r.passed = false) (hlook : remapLookup s r.stage r.origLine = .redirect l)
    (hhere : liesAt s c b r.stage l = true) : Answers (.dramRequestEnqueue c b port) s (fun _ t => QueuedAt t c b r l s.now ∧ Undisturbed s t) := by
  have hgo : requestEnqueue s c b port
      = queueEnter (mateTold (whenS (r.line != l) (fun s => pmonHit s 4 7 c.val 1) (taken s c b r)) r l) c b { r with line := l } := by
    rw [requestEnqueue_looks h hcopy hpassed, hlook]
    exact if_pos hhere
  obtain ⟨u, hu, hqueued, -, hrest⟩ := enters_answers hgo (((queues_taken s c b r).whenS _ _ fun _ k => k.pmonHit ..).mateTold r l)
  exact ⟨u, hu, hqueued, hrest⟩
end

/-- Settles O45: what is past the lookup enters its queue; what the lookup takes goes by its outcome; a copy that has ended frees what waited at it. -/
theorem dramQueueEntry : Obligations.DramQueueEntry := by
  unfold Obligations.DramQueueEntry
  intro s c b port
  refine ⟨fun hnone => ?_, fun r hr => ⟨fun hpast => ?_, fun hcopy hpassed => ⟨fun l hlook hhere => ?_, fun k hlook => ?_, fun k hlook => ?_⟩⟩, fun k hcopying hno => ?_, fun k hother => ?_⟩
  · exact congrArg done (by rw [requestEnqueue, hnone])
  · obtain ⟨u, hu, hqueued, hwaiting, hlines, hmodes, hledger, hnow⟩ := direct_answers hr hpast
    exact ⟨u, hu, hqueued, hwaiting, hlines, hmodes, hledger, hnow⟩
  · obtain ⟨u, hu, hqueued, hlines, hmodes, hledger, hnow⟩ := redirect_answers hr hcopy hpassed hlook hhere
    exact ⟨u, hu, hqueued, hlines, hmodes, hledger, hnow⟩
  · obtain ⟨u, hu, hmates, hwaiting, hlines, hmodes, hledger, hnow⟩ := waits_answers ((requestEnqueue_looks hr hcopy hpassed).trans (by rw [hlook]))
    exact ⟨u, hu, hmates, hwaiting, hlines, hmodes, hledger, hnow⟩
  · exact invalidReq_answers ((requestEnqueue_looks hr hcopy hpassed).trans (by rw [hlook]))
  · obtain ⟨u, hu, hstate, hwaiting, hspare, hlogged, hlines, hmodes, hledger, -⟩ := remapDone_answers hcopying hno
    exact ⟨u, hu, hstate, hwaiting, hspare, hlogged, hlines, hmodes, hledger⟩
  · exact congrArg done (remapDone_of_other hother)

end Sys2Proof.Machine
end

section
/-! Proofs: the command that the service order gives a request: column access, precharge or activate (R268, R280, R281, R315, R323). -/

namespace Sys2Proof.Machine

/-! Stored lines (R310, R315, R317). -/

theorem mfind_mdel {α : Type} (m : NMap α) (i j : Nat) : mfind (mdel m i) j = if j = i then none else mfind m j := by
  induction m with
  | nil => simp [mdel, mfind]
  | cons e m ih =>
    obtain ⟨k, v⟩ := e
    simp only [mdel, mfind]
    split_ifs <;> simp_all [mfind]
theorem mfind_mput {α : Type} (m : NMap α) (i j : Nat) (x : α) : mfind (mput m i x) j = if j = i then some x else mfind m j := by
  induction m with
  | nil => simp [mput, mfind]
  | cons e m ih =>
    obtain ⟨k, v⟩ := e
    simp only [mput]
    split_ifs <;> simp_all [mfind]
/-- A stored value is found, but for the default, which is not listed; the other keys stand. -/
theorem mfind_mset {α : Type} [DecidableEq α] (d : α) (m : NMap α) (i j : Nat) (x : α) :
    mfind (mset d m i x) j = if j = i then (if x = d then none else some x) else mfind m j := by
  unfold mset
  split_ifs <;> simp_all [mfind_mdel, mfind_mput]

theorem dramCell_setLine_self (s : State) (n : Stage) (l : Nat) (x : LineCell) : dramCell (setLine s n l x) n l = x := by
  have hfind : mfind (setLine s n l x).dram.lines (lineKey n l) = if x = fillCell s n l then none else some x := (mfind_mset ..).trans (if_pos rfl)
  rw [dramCell, hfind]
  split
  · next h => exact h.symm
  · rfl
theorem dramCell_setLine_of_ne (s : State) {n m : Stage} {l j : Nat} (x : LineCell) (h : lineKey m j ≠ lineKey n l) : dramCell (setLine s n l x) m j = dramCell s m j := by
  have hfind : mfind (setLine s n l x).dram.lines (lineKey m j) = mfind s.dram.lines (lineKey m j) := (mfind_mset ..).trans (if_neg h)
  rw [dramCell, hfind]
  rfl
/-- With no injection armed on its channel a line is stored as it comes. -/
theorem storeLine_unarmed {s : State} {n : Stage} {l : Nat} {k : Coord} (hmap : mapLine s n l = some k) (harm : rd s (F.DC_INJECT_ARM k.ch.val) = 0) (x : LineCell) :
    storeLine s n l x = setLine s n l x := by
  rw [storeLine, hmap]
  dsimp only
  rw [harm]
  exact if_neg Bool.false_ne_true

/-! The order of the levels, where nothing is due (R268, R284, R292). -/

theorem forceFollow_below {s : State} {c : DramCh} {b : Bool} (howed : ∀ j, (rankOf (subch s c b) j).owed < postponeMax s c) : forceFollow s c b = s := by
  have hkeep : ∀ r, (if (rankOf (subch s c b) r).owed ≥ postponeMax s c then addDue (subch s c b) (.forcedRefresh r) else subch s c b) = subch s c b :=
    fun r => if_neg (Int.not_le.mpr (howed r))
  rw [forceFollow, List.foldl_fixed' hkeep, setSub_subch]
theorem firstDue_none {s : State} {c : DramCh} {x : SubCh} (h : x.due = []) (late : List Nat) : firstDue s c x late = none := by
  rw [firstDue, h]
  rfl

/-- A request of class 0 to 2 goes before a refresh that is owed. -/
theorem issueOrder_request {s : State} {c : DramCh} {b : Bool} {blocked : List Nat} {r : DramReq} (hdue : (subch s c b).due = [])
    (howed : ∀ j, (rankOf (subch s c b) j).owed < postponeMax s c) (hnext : nextReq s c b blocked = some r) (hcls : r.cls < 3) (late : List Nat) (pullIn : Bool) :
    issueOrder s c b blocked late pullIn = issueReq s c b r := by
  have hexit : exitWaits (subch s c b) = false := by rw [exitWaits, hdue]; rfl
  have hlow : (decide (r.cls ≥ 3) && !r.promoted) = false := by rw [decide_eq_false (Nat.not_le.mpr hcls)]; rfl
  rw [issueOrder, forceFollow_below howed]
  rw [firstDue_none hdue, hexit, hnext]
  simp only [Option.elim_some, hlow, Bool.false_and, Bool.false_eq_true, if_false]

theorem postponeMax_quiet {s t : State} (h : Quiet s t) (c : DramCh) : postponeMax t c = postponeMax s c := by
  rw [postponeMax, h.fields _ (by fin_cases c <;> decide +kernel)]
  rfl

/-- What a chosen request is followed by: owed scrub reads, and quarantines that end. -/
def followed (s : State) (c : DramCh) : State := quarantineLift (scrubFollow s c)

theorem commandIssue_off {s : State} {c : DramCh} (h : schedOn s c = false) (b : Bool) (blocked late : List Nat) (pullIn : Bool) : commandIssue s c b blocked late pullIn = s := by
  rw [commandIssue, h]
  rfl
theorem commandIssue_request {s : State} {c : DramCh} {b : Bool} {blocked : List Nat} {r : DramReq} (hon : schedOn s c = true) (hsr : (subch s c b).sr = .awake)
    (hdue : (subch s c b).due = []) (howed : ∀ j, (rankOf (subch s c b) j).owed < postponeMax s c) (hnext : nextReq (panicFollow s c) c b blocked = some r)
    (hcls : r.cls < 3) (late : List Nat) (pullIn : Bool) :
    commandIssue s c b blocked late pullIn = followed (issueReq (panicFollow s c) c b r) c := by
  have q := quiet_panicFollow s c
  have hsub := q.subch c b
  rw [commandIssue, hon]
  dsimp only
  rw [hsub, hsr]
  dsimp only
  rw [issueOrder_request (by rw [hsub, hdue]) (fun j => by rw [hsub, postponeMax_quiet q]; exact howed j) hnext hcls]
  rfl

theorem QueuesStand.scrubQueue {s t : State} (h : QueuesStand s t) (c : DramCh) : QueuesStand s (scrubQueue t c) := by
  rw [Machine.scrubQueue]
  cases chanStage t c with
  | none => exact h
  | some n =>
    refine wr ?_ ..
    refine h.fold _ _ fun u b k => ?_
    exact (k.pmonHit ..).dramRead ..
theorem QueuesStand.scrubNow {s t : State} (h : QueuesStand s t) (c : DramCh) : QueuesStand s (scrubNow t c) := by
  unfold Machine.scrubNow
  have hmark : QueuesStand s (Machine.setChan t c { chan t c with subA := { (chan t c).subA with scrubOwed := false } }) := h.setChan c
  exact hmark.beside.scrubQueue c
theorem QueuesStand.quarantineLift {s t : State} (h : QueuesStand s t) : QueuesStand s (quarantineLift t) := by
  unfold Machine.quarantineLift
  exact h.beside.fold _ _ fun _ _ k => (k.event ..).emit _
theorem queues_followed (s : State) (c : DramCh) : QueuesStand s (followed s c) :=
  (QueuesStand.ite _ ((QueuesStand.refl s).scrubNow c) (.refl s)).quarantineLift

/-! A column access (R268, R279, R280, R315). -/

/-- A pair's line closed to others by its read, or opened by its write. -/
def pairFollow (s : State) (r : DramReq) : State := if r.pair = 0 then s else if r.write then pairClose s r.pair else pairOpens s r
/-- A column command counted and sent. -/
def columnSent (s : State) (c : DramCh) (b : Bool) (r : DramReq) (k : Coord) (hit : Bool) : State :=
  emit (whenS r.idleOnly (fun s => pmonHit s 3 18 (subNo c b) 1) (whenS hit (fun s => pmonHit s 3 9 (subNo c b) 1) (pmonHit s 3 r.cls (subNo c b) 1)))
    (.ddr c.val (b2n b) (if r.write then 2 else 1) k.prank (bankNo k) k.col)

theorem columnAccess_eq (s : State) (c : DramCh) (x : SubCh) (k : Coord) : (columnAccess s c x k).rq = x.rq ∧ (columnAccess s c x k).wq = x.wq
    ∧ (columnAccess s c x k).inFlight = x.inFlight := by
  unfold columnAccess
  exact ⟨setRank_rq .., setRank_wq .., setRank_inFlight ..⟩

/-- A column access takes the request out of its queue; a read goes in flight with the line as it stands, a write is stored. -/
theorem issueColumn_eq (s : State) (c : DramCh) (b : Bool) (r : DramReq) (k : Coord) : ∃ hit x,
    issueColumn s c b r k = (if r.write
        then storeLine (columnSent (pairFollow (ageEvent (setSub s c b (drainUpdate s c x)) c r) r) c b r k hit) r.stage r.line (if r.poison then poisonCell else ⟨r.data, .clean⟩)
        else columnSent (pairFollow (ageEvent (setSub s c b (drainUpdate s c x)) c r) r) c b r k hit)
      ∧ x.rq = (subch s c b).rq.filter (fun q => decide (q.id ≠ r.id)) ∧ x.wq = (subch s c b).wq.filter (fun q => decide (q.id ≠ r.id))
      ∧ (r.write = false → { r with got := some (dramCell s r.stage r.line) } ∈ x.inFlight) := by
  refine ⟨_, _, rfl, ?_, ?_, fun hread => ?_⟩
  · simp only [apply_ite SubCh.rq, ite_self, columnAccess_eq]
  · simp only [apply_ite SubCh.wq, ite_self, columnAccess_eq]
  · simp only [apply_ite SubCh.inFlight, ite_self, columnAccess_eq, hread]
    simp

theorem quiet_columnSent (s : State) (c : DramCh) (b : Bool) (r : DramReq) (k : Coord) (hit : Bool) : Quiet s (columnSent s c b r k hit) :=
  (((quiet_pmonHit ..).trans (Quiet.when _ _ (fun _ => quiet_pmonHit ..) _)).trans (Quiet.when _ _ (fun _ => quiet_pmonHit ..) _)).trans (quiet_emit ..)
theorem regs_pairFollow (s : State) (r : DramReq) : (pairFollow s r).regs = s.regs := by
  have hopen : ∀ (t : State) (p : Nat) (n : Stage) (l : Nat), (openLine t p n l).regs = t.regs := fun t p n l => by
    unfold openLine
    split <;> rfl
  unfold pairFollow
  split
  · rfl
  · split
    · rfl
    · unfold pairOpens
      dsimp only
      cases copyTarget (openLine s r.pair r.stage r.line) r with
      | none => exact hopen ..
      | some l => exact (hopen ..).trans (hopen ..)
theorem queues_columnSent (s : State) (c : DramCh) (b : Bool) (r : DramReq) (k : Coord) (hit : Bool) : QueuesStand s (columnSent (pairFollow (ageEvent s c r) r) c b r k hit) := by
  have h := (QueuesStand.refl s).ageEvent c r
  have hpair : QueuesStand s (pairFollow (Machine.ageEvent s c r) r) := .ite _ h (.ite _ (h.pairClose _) (h.pairOpens r))
  exact (((hpair.pmonHit ..).whenS _ _ fun _ k => k.pmonHit ..).whenS _ _ fun _ k => k.pmonHit ..).emit _

theorem undisturbed_setSub (s : State) (c : DramCh) (b : Bool) (x : SubCh) : Undisturbed s (setSub s c b x) := ⟨rfl, rfl, rfl, rfl⟩

/-- What a column access shows before the line is stored: the request in no queue, a read in flight with what its line holds. -/
structure ColumnIssued (s : State) (c : DramCh) (b : Bool) (r : DramReq) (u : State) : Prop where
  gone : ∀ q ∈ (subch u c b).rq ++ (subch u c b).wq, q.id ≠ r.id
  flies : r.write = false → { r with got := some (dramCell s r.stage r.line) } ∈ (subch u c b).inFlight
  cells : ∀ n l, dramCell u n l = dramCell s n l
  rest : Undisturbed s u
  maps : u.dram.maps = s.dram.maps
  arm : ∀ d : DramCh, rd u (F.DC_INJECT_ARM d.val) = rd s (F.DC_INJECT_ARM d.val)

theorem issueColumn_issues (s : State) (c : DramCh) (b : Bool) (r : DramReq) (k : Coord) : ∃ u, ColumnIssued s c b r u
    ∧ issueColumn s c b r k = if r.write then storeLine u r.stage r.line (if r.poison then poisonCell else ⟨r.data, .clean⟩) else u := by
  obtain ⟨hit, x, hgo, hrq, hwq, hflies⟩ := issueColumn_eq s c b r k
  refine ⟨_, ?_, hgo⟩
  have hstand := queues_columnSent (setSub s c b (drainUpdate s c x)) c b r k hit
  obtain ⟨hq, hw⟩ := hstand.queues c b
  rw [subch_setSub, drainUpdate_rq, hrq] at hq
  rw [subch_setSub, drainUpdate_wq, hwq] at hw
  refine ⟨fun q hmem => ?_, fun hread => ?_, hstand.dramCell, (undisturbed_setSub ..).trans hstand.undisturbed, hstand.maps, fun d => ?_⟩
  · rw [hq, hw, ← List.filter_append, List.mem_filter, decide_eq_true_eq] at hmem
    exact hmem.2
  · rw [hstand.inFlight, subch_setSub, drainUpdate_inFlight]
    exact hflies hread
  · rw [(quiet_columnSent ..).fields _ (by fin_cases d <;> decide +kernel), rd, rawReg, regs_pairFollow, ageEvent]
    split <;> rfl

/-! A row closed, a row opened (R268, R323). -/

/-- A command that leaves its bank with the row `row` and is sent as `o`; all that is stored stands. -/
structure RowCommand (s : State) (c : DramCh) (b : Bool) (bank : Nat) (row : Option Nat) (o : Output) (u : State) : Prop where
  bank : (bankOf (subch u c b) bank).openRow = row
  sent : o ∈ u.out
  rest : Undisturbed s u

theorem RowCommand.of_undisturbed {s x u : State} {c : DramCh} {b : Bool} {bank : Nat} {row : Option Nat} {o : Output} (h : RowCommand x c b bank row o u)
    (k : Undisturbed s x) : RowCommand s c b bank row o u := ⟨h.bank, h.sent, k.trans h.rest⟩
theorem rankUsed_banks (s : State) (x : SubCh) (r : Nat) : (rankUsed s x r).banks = x.banks := setRank_banks ..

theorem rowCommand_emit {s x : State} {c : DramCh} {b : Bool} {bank : Nat} {row : Option Nat} (h : RegsOnly s x) (hbank : (bankOf (subch s c b) bank).openRow = row) (o : Output) :
    RowCommand s c b bank row o (emit x o) := by
  have hdram := h.dram
  refine ⟨?_, List.mem_append_right _ (List.mem_singleton_self _), congrArg Dram.lines hdram, h.modes, h.ledger, h.now⟩
  rw [← hbank, subch, subch, chan, chan, emit_dram, hdram]

theorem activateRow_opens (s : State) (c : DramCh) (b : Bool) (r bank row : Nat) :
    RowCommand s c b bank (some row) (.ddr c.val (b2n b) 0 r bank row) (activateRow s c b r bank row) := by
  have hx : ∃ x, activateRow s c b r bank row = emit (pmonHit (setSub s c b x) 3 8 (subNo c b) 1) (.ddr c.val (b2n b) 0 r bank row)
      ∧ (bankOf x bank).openRow = some row := by
    rw [activateRow]
    obtain ⟨bk, cnt⟩ := activate (bankOf (subch s c b) bank) row
    refine ⟨_, rfl, ?_⟩
    have hbank := fun bk' => bankOf_setBank (subch s c b) bank bk'
    simp only [bankOf] at hbank ⊢
    cases cnt with
    | some n =>
      simp only [rankUsed_banks, apply_ite SubCh.banks, addDue_banks, ite_self, hbank]
    | none =>
      simp only [rankUsed_banks, apply_ite SubCh.banks, addDue_banks, ite_self, hbank]
  obtain ⟨x, hgo, hrow⟩ := hx
  rw [hgo]
  exact (rowCommand_emit (regsOnly_pmonHit ..) (by rw [subch_setSub, hrow]) _).of_undisturbed (undisturbed_setSub ..)

/-! What a chosen request does (R268). -/

section
variable {s : State} {c : DramCh} {b : Bool} {r : DramReq} {k : Coord} (hmap : mapLine s r.stage r.line = some k)
include hmap

theorem issueReq_column (hopen : (bankOf (subch s c b) (bankNo k)).openRow = some k.row) : issueReq s c b r = issueColumn s c b r k := by
  rw [issueReq, hmap]
  dsimp only
  rw [hopen]
  exact if_pos rfl
theorem issueReq_precharges {row : Nat} (hopen : (bankOf (subch s c b) (bankNo k)).openRow = some row) (hrow : row ≠ k.row) :
    RowCommand s c b (bankNo k) none (.ddr c.val (b2n b) 3 k.prank (bankNo k) 0) (issueReq s c b r) := by
  have hgo : issueReq s c b r = emit (pmonHit (setSub s c b (rankUsed s (setBank (subch s c b) (bankNo k)
      { bankOf (subch s c b) (bankNo k) with openRow := none, justActivated := false }) k.prank)) 3 10 (subNo c b) 1) (.ddr c.val (b2n b) 3 k.prank (bankNo k) 0) := by
    rw [issueReq, hmap]
    dsimp only
    rw [hopen]
    exact if_neg hrow
  rw [hgo]
  refine (rowCommand_emit (regsOnly_pmonHit ..) ?_ _).of_undisturbed (undisturbed_setSub ..)
  rw [subch_setSub, bankOf, rankUsed_banks]
  exact congrArg Bank.openRow (bankOf_setBank ..)
theorem issueReq_activates (hclosed : (bankOf (subch s c b) (bankNo k)).openRow = none) :
    RowCommand s c b (bankNo k) (some k.row) (.ddr c.val (b2n b) 0 k.prank (bankNo k) k.row) (issueReq s c b r) := by
  have hgo : issueReq s c b r = activateRow s c b k.prank (bankNo k) k.row := by
    rw [issueReq, hmap]
    dsimp only
    rw [hclosed]
  rw [hgo]
  exact activateRow_opens ..
end

/-! DRAM_COMMAND_ISSUE, where the order gives a request. -/

theorem Quiet.undisturbed {s t : State} (h : Quiet s t) : Undisturbed s t := ⟨h.lines, h.modes, h.ledger, h.now⟩

section
variable {s : State} {c : DramCh} {b : Bool} {bar : TimingBar} {pullIn : Bool} {r : DramReq} {k : Coord}
  (hgo : commandIssue s c b bar.requests bar.due pullIn = followed (issueReq (panicFollow s c) c b r) c)
include hgo

/-- A row command stands at the end of the command. -/
theorem rowCommand_answers {bank : Nat} {row : Option Nat} {o : Output} (h : RowCommand (panicFollow s c) c b bank row o (issueReq (panicFollow s c) c b r)) :
    Answers (.dramCommandIssue c b bar pullIn) s (fun u t => (bankOf (subch t c b) bank).openRow = row ∧ o ∈ u.out ∧ Undisturbed s t) := by
  have hlast := queues_followed (issueReq (panicFollow s c) c b r) c
  refine ⟨_, congrArg done hgo, ?_, hlast.out h.sent, ((quiet_panicFollow s c).undisturbed.trans h.rest).trans (hlast.undisturbed.trans (undisturbed_finish _))⟩
  rw [(quiet_finish _).subch, hlast.bankOf]
  exact h.bank

variable (hmap : mapLine s r.stage r.line = some k) (hopen : (bankOf (subch s c b) (bankNo k)).openRow = some k.row)
include hmap hopen

/-- On an open row the request gets its column access. -/
theorem column_goes : ∃ u, ColumnIssued (panicFollow s c) c b r u
    ∧ commandIssue s c b bar.requests bar.due pullIn = followed (if r.write then storeLine u r.stage r.line (if r.poison then poisonCell else ⟨r.data, .clean⟩) else u) c := by
  have q := quiet_panicFollow s c
  obtain ⟨u, hu, hcol⟩ := issueColumn_issues (panicFollow s c) c b r k
  refine ⟨u, hu, ?_⟩
  rw [hgo, issueReq_column ((mapLine_of_maps q.maps ..).trans hmap) (by rw [q.subch]; exact hopen), hcol]

theorem write_answers (hwrite : r.write = true) (harm : rd s (F.DC_INJECT_ARM k.ch.val) = 0) : Answers (.dramCommandIssue c b bar pullIn) s (fun _ t =>
    dramCell t r.stage r.line = (if r.poison then poisonCell else ⟨r.data, .clean⟩)
      ∧ (∀ m l, lineKey m l ≠ lineKey r.stage r.line → dramCell t m l = dramCell s m l) ∧ (∀ q ∈ (subch t c b).rq ++ (subch t c b).wq, q.id ≠ r.id)
      ∧ t.modes = s.modes ∧ t.ledger = s.ledger ∧ t.now = s.now) := by
  have q := quiet_panicFollow s c
  obtain ⟨u, hu, hend⟩ := column_goes hgo hmap hopen
  have hstore : ∀ x, storeLine u r.stage r.line x = setLine u r.stage r.line x :=
    storeLine_unarmed (k := k) ((mapLine_of_maps (hu.maps.trans q.maps) ..).trans hmap) (by rw [hu.arm, q.fields _ (by generalize k.ch = d; fin_cases d <;> decide +kernel)]; exact harm)
  rw [if_pos hwrite, hstore] at hend
  have hlast := queues_followed (setLine u r.stage r.line (if r.poison then poisonCell else ⟨r.data, .clean⟩)) c
  have qend := quiet_finish (followed (setLine u r.stage r.line (if r.poison then poisonCell else ⟨r.data, .clean⟩)) c)
  obtain ⟨hrq, hwq⟩ := hlast.queues c b
  refine ⟨_, congrArg done hend, ?_, fun m l hne => ?_, ?_, ?_, ?_, ?_⟩
  · rw [qend.dramCell, hlast.dramCell, dramCell_setLine_self]
  · rw [qend.dramCell, hlast.dramCell, dramCell_setLine_of_ne _ _ hne, hu.cells, q.dramCell]
  · rw [qend.subch, hrq, hwq]
    exact hu.gone
  · exact qend.modes.trans (hlast.modes.trans (hu.rest.modes.trans q.modes))
  · exact qend.ledger.trans (hlast.ledger.trans (hu.rest.ledger.trans q.ledger))
  · exact qend.now.trans (hlast.now.trans (hu.rest.now.trans q.now))

theorem read_answers (hread : r.write = false) : Answers (.dramCommandIssue c b bar pullIn) s (fun _ t =>
    (∃ q ∈ (subch t c b).inFlight, q.id = r.id ∧ q.use = r.use ∧ q.got = some (dramCell s r.stage r.line)) ∧ (∀ q ∈ (subch t c b).rq ++ (subch t c b).wq, q.id ≠ r.id)
      ∧ Undisturbed s t) := by
  have q := quiet_panicFollow s c
  obtain ⟨u, hu, hend⟩ := column_goes hgo hmap hopen
  rw [if_neg (ne_true_of_eq_false hread)] at hend
  have hlast := queues_followed u c
  have qend := quiet_finish (followed u c)
  obtain ⟨hrq, hwq⟩ := hlast.queues c b
  refine ⟨_, congrArg done hend, ⟨{ r with got := some (dramCell (panicFollow s c) r.stage r.line) }, ?_, rfl, rfl, congrArg some (q.dramCell ..)⟩, ?_, (q.undisturbed.trans hu.rest).trans (hlast.undisturbed.trans qend.undisturbed)⟩
  · rw [qend.subch, hlast.inFlight]
    exact hu.flies hread
  · rw [qend.subch, hrq, hwq]
    exact hu.gone
end

/-- Settles O46: with nothing due the chosen request is the one issued; its line's row decides the command, and what follows leaves queues, banks and lines. -/
theorem dramCommandOfARequest : Obligations.DramCommandOfARequest := by
  unfold Obligations.DramCommandOfARequest
  intro s c b bar pullIn
  refine ⟨fun hoff => congrArg done (commandIssue_off hoff ..), fun r k hon hsr hdue howed hnext hcls hmap => ?_⟩
  have hgo := commandIssue_request hon hsr hdue howed hnext hcls bar.due pullIn
  have q := quiet_panicFollow s c
  have hmap' : mapLine (panicFollow s c) r.stage r.line = some k := (mapLine_of_maps q.maps ..).trans hmap
  refine ⟨fun hopen hwrite harm => write_answers hgo hmap hopen hwrite harm, fun hopen hread => ?_, fun row hopen hrow => ?_, fun hclosed => ?_⟩
  · obtain ⟨u, hu, hflies, hgone, hlines, hmodes, hledger, hnow⟩ := read_answers hgo hmap hopen hread
    exact ⟨u, hu, hflies, hgone, hlines, hmodes, hledger, hnow⟩
  · obtain ⟨u, hu, hrows, hsent, hlines, hmodes, hledger, hnow⟩ := rowCommand_answers hgo (issueReq_precharges hmap' (by rw [q.subch]; exact hopen) hrow)
    exact ⟨u, hu, hrows, hsent, hlines, hmodes, hledger, hnow⟩
  · obtain ⟨u, hu, hrows, hsent, hlines, hmodes, hledger, hnow⟩ := rowCommand_answers hgo (issueReq_activates hmap' (by rw [q.subch]; exact hclosed))
    exact ⟨u, hu, hrows, hsent, hlines, hmodes, hledger, hnow⟩

end Sys2Proof.Machine
end

section
/-! Proofs: the timers of the DRAM schedulers (R269, R281, R282, R284, R287, R320, R322, R324). -/

namespace Sys2Proof.Machine

theorem Answers.mono {c : Instr} {s : State} {p q : State → State → Prop} (h : Answers c s p) (hpq : ∀ u t, p u t → q u t) : Answers c s q := by
  obtain ⟨u, hu, hp⟩ := h
  exact ⟨u, hu, hpq u _ hp⟩

/-! A timer of a subchannel that has run out. -/

/-- `t` is `s` at the time that a timer gives, with one subchannel as its end leaves it; stored lines, modes and ledgers stand. -/
structure TimedOut (s : State) (at_ : Nat) (c : DramCh) (b : Bool) (x : SubCh) (t : State) : Prop where
  now : t.now = max s.now at_
  sub : subch t c b = x
  lines : t.dram.lines = s.dram.lines
  modes : t.modes = s.modes
  ledger : t.ledger = s.ledger

theorem timedOut_setSub (s : State) (at_ : Nat) (c : DramCh) (b : Bool) (x : SubCh) : TimedOut s at_ c b x (setSub (until_ s at_) c b x) :=
  ⟨rfl, subch_setSub .., rfl, rfl, rfl⟩

namespace TimedOut
variable {s t u : State} {at_ : Nat} {c : DramCh} {b : Bool} {x : SubCh} (h : TimedOut s at_ c b x t)
include h

theorem regs (k : RegsOnly t u) : TimedOut s at_ c b x u := by
  obtain ⟨r, e, rfl⟩ := k
  exact ⟨h.now, h.sub, h.lines, h.modes, h.ledger⟩
theorem emit (o : Output) : TimedOut s at_ c b x (emit t o) := ⟨h.now, h.sub, h.lines, h.modes, h.ledger⟩
theorem finish : TimedOut s at_ c b x (finish t) :=
  have q := quiet_finish t
  ⟨q.now.trans h.now, (q.subch c b).trans h.sub, q.lines.trans h.lines, q.modes.trans h.modes, q.ledger.trans h.ledger⟩
end TimedOut

/-! AGE_LIMIT_EXPIRY (R269). -/

/-- A request promoted, where it is the one. -/
def promote (r q : DramReq) : DramReq := if q.id == r.id then { q with promoted := true } else q
/-- The queues with one request promoted. -/
def promoteIn (x : SubCh) (r : DramReq) : SubCh := { x with rq := x.rq.map (promote r), wq := x.wq.map (promote r) }

theorem promoted_of_id {r q : DramReq} (h : (promote r q).id = r.id) : (promote r q).promoted = true := by
  unfold promote at *
  split
  · rfl
  · next hne =>
    rw [if_neg hne] at h
    exact absurd (beq_iff_eq.mpr h) hne

theorem ageExpiry_due {s : State} {c : DramCh} {b : Bool} {r : DramReq} (h : nextAged s c (subch s c b) = some r) :
    ageExpiry s c b = incWrap (pmonHit (setSub (until_ s (r.age + ageLimit s c r.cls + 1)) c b (promoteIn (subch s c b) r)) 3 15 (subNo c b) 1) (F.DC_PROMOTE_COUNT_COUNT c.val) 1 := by
  rw [ageExpiry, h]
  rfl

theorem ageExpiry_answers {s : State} {c : DramCh} {b : Bool} {r : DramReq} (h : nextAged s c (subch s c b) = some r) :
    Answers (.ageLimitExpiry c b) s (fun _ t => TimedOut s (r.age + ageLimit s c r.cls + 1) c b (promoteIn (subch s c b) r) t
      ∧ rd t (F.DC_PROMOTE_COUNT_COUNT c.val) = (rd s (F.DC_PROMOTE_COUNT_COUNT c.val) + 1) % 2 ^ 48) := by
  have hwidth : (F.DC_PROMOTE_COUNT_COUNT c.val).lo + (F.DC_PROMOTE_COUNT_COUNT c.val).width ≤ 48 := Nat.le_refl 48
  have hsteady : steadyField (F.DC_PROMOTE_COUNT_COUNT c.val) = true := by fin_cases c <;> decide +kernel
  refine ⟨_, congrArg done (ageExpiry_due h), (((timedOut_setSub ..).regs (regsOnly_pmonHit ..)).regs (regsOnly_wr ..)).finish, ?_⟩
  rw [(quiet_finish _).fields _ hsteady, incWrap, rd_wr_self _ _ _ hwidth, (quiet_pmonHit ..).fields _ hsteady]
  rfl

/-! REFRESH_INTERVAL (R282, R284). -/

/-- A rank that owes one more refresh. -/
def owing (k : Rank) (now : Nat) : Rank := { k with owed := k.owed + 1, refAt := now }

theorem rankOf_addDue (x : SubCh) (d : DueCmd) (r : Nat) : rankOf (addDue x d) r = rankOf x r := by
  obtain ⟨ds, h⟩ := addDue_eq x d
  rw [h]
  rfl

theorem refreshTick_answers {s : State} {c : DramCh} {b : Bool} {k : Nat} (hon : schedOn s c = true) (hrank : (ranksOf s c).contains k = true)
    (ht : refreshInterval s c (rankOf (subch s c b) k).highTemp ≠ 0) (hawake : inSr (subch s c b) = false) :
    Answers (.refreshInterval c b k) s (fun _ t => ∃ x, TimedOut s ((rankOf (subch s c b) k).refAt + refreshInterval s c (rankOf (subch s c b) k).highTemp) c b x t
      ∧ (rankOf x k).owed = (rankOf (subch s c b) k).owed + 1
      ∧ ((rankOf (subch s c b) k).owed + 1 ≥ postponeMax s c → x.due.contains (.forcedRefresh k) = true)) := by
  have hgo : ∃ y, (rankOf y k).owed = (rankOf (subch s c b) k).owed + 1 ∧ refreshTick s c b k
      = setSub (until_ s ((rankOf (subch s c b) k).refAt + refreshInterval s c (rankOf (subch s c b) k).highTemp)) c b
          (if (rankOf (subch s c b) k).owed + 1 ≥ postponeMax s c then addDue y (.forcedRefresh k) else y) := by
    refine ⟨setRank (subch s c b) k (owing (rankOf (subch s c b) k) (max s.now ((rankOf (subch s c b) k).refAt + refreshInterval s c (rankOf (subch s c b) k).highTemp))), ?_, ?_⟩
    · rw [rankOf_setRank]
      rfl
    · rw [refreshTick, hon, hrank, beq_false_of_ne ht, hawake]
      rfl
  obtain ⟨y, howed, hgo⟩ := hgo
  refine ⟨_, congrArg done hgo, _, (timedOut_setSub ..).finish, ?_, fun hlimit => ?_⟩
  · split
    · rw [rankOf_addDue, howed]
    · exact howed
  · rw [if_pos hlimit]
    exact contains_addDue _ _ fun _ => rfl

/-! ROW_IDLE_CLOSE and RANK_POWER_DOWN (R281, R287). -/

theorem rowIdleClose_answers {s : State} {c : DramCh} {b : Bool} {bank row : Nat} (hon : schedOn s c = true) (hopen : (bankOf (subch s c b) bank).openRow = some row)
    (ht : rd s (F.DC_PAGE_CFG_IDLE_CLOSE c.val) ≠ 0)
    (hunused : ((subch s c b).rq ++ (subch s c b).wq).any (fun q => (mapLine s q.stage q.line).elim false (fun j => bankNo j == bank && some j.row == some row)) = false) :
    Answers (.rowIdleClose c b bank) s (fun _ t => ∃ x, TimedOut s ((bankOf (subch s c b) bank).lastUse + rd s (F.DC_PAGE_CFG_IDLE_CLOSE c.val) * unitsPerClock) c b x t
      ∧ (bankOf x bank).openRow = none) := by
  have hgo : ∃ x, (bankOf x bank).openRow = none ∧ Machine.rowIdleClose s c b bank
      = emit (setSub (until_ s ((bankOf (subch s c b) bank).lastUse + rd s (F.DC_PAGE_CFG_IDLE_CLOSE c.val) * unitsPerClock)) c b x) (.ddr c.val (b2n b) 3 (bank / 128) bank 0) := by
    rw [Machine.rowIdleClose, queued, hopen]
    dsimp only
    rw [hunused, hon, beq_false_of_ne ht]
    refine ⟨_, ?_, rfl⟩
    rw [bankOf, rankUsed_banks]
    exact congrArg Bank.openRow (bankOf_setBank ..)
  obtain ⟨x, hclosed, hgo⟩ := hgo
  exact ⟨_, congrArg done hgo, x, ((timedOut_setSub ..).emit _).finish, hclosed⟩

theorem rankPowerDown_answers {s : State} {c : DramCh} {b : Bool} {k : Nat} (hon : schedOn s c = true) (hrank : (ranksOf s c).contains k = true)
    (ht : rd s (F.DC_LP_CFG_PD_TIMER c.val) ≠ 0) (hrq : (subch s c b).rq = []) (hwq : (subch s c b).wq = []) (hdue : (subch s c b).due = [])
    (howed : (rankOf (subch s c b) k).owed < postponeMax s c) (hpanic : anyPanic s c = false) (hup : (rankOf (subch s c b) k).powerDown = false) (hsr : (subch s c b).sr = .awake) :
    Answers (.rankPowerDown c b k) s (fun _ t => ∃ x, TimedOut s ((rankOf (subch s c b) k).lastCmd + rd s (F.DC_LP_CFG_PD_TIMER c.val) * unitsPerClock) c b x t
      ∧ (rankOf x k).powerDown = true) := by
  have hgo : ∃ x, (rankOf x k).powerDown = true ∧ Machine.rankPowerDown s c b k
      = emit (setSub (until_ s ((rankOf (subch s c b) k).lastCmd + rd s (F.DC_LP_CFG_PD_TIMER c.val) * unitsPerClock)) c b x) (.ddr c.val (b2n b) 10 k 0 0) := by
    rw [Machine.rankPowerDown, queued, hrq, hwq, hdue, hon, hrank, beq_false_of_ne ht, hpanic, hup, hsr, decide_eq_false (Int.not_le.mpr howed)]
    refine ⟨_, ?_, rfl⟩
    rw [rankOf_setRank]
  obtain ⟨x, hdown, hgo⟩ := hgo
  exact ⟨_, congrArg done hgo, x, ((timedOut_setSub ..).emit _).finish, hdown⟩

/-! REFRESH_WINDOW (R324). -/

/-- Banks with their activation tables cleared. -/
def tablesClear (x : SubCh) : SubCh := { x with banks := x.banks.map (fun e => (e.1, { e.2 with table := List.replicate 32 (0, 0), spill := 0 })) }

theorem cleared_of_mem {x : SubCh} {e : Nat × Bank} (h : e ∈ (tablesClear x).banks) : e.2.spill = 0 ∧ e.2.table = List.replicate 32 (0, 0) := by
  obtain ⟨k, -, rfl⟩ := List.mem_map.mp h
  exact ⟨rfl, rfl⟩

theorem refreshWindow_answers {s : State} {c : DramCh} (hon : schedOn s c = true) (b : Bool) :
    Answers (.refreshWindow c) s (fun u t => (t.now = max s.now ((chan s c).window + 51200000 * unitsPerClock) ∧ (chan t c).window = u.now)
      ∧ subch t c b = tablesClear (subch s c b) ∧ t.dram.lines = s.dram.lines ∧ t.modes = s.modes ∧ t.ledger = s.ledger) := by
  have hgo : Machine.refreshWindow s c = setChan (until_ s ((chan s c).window + 51200000 * unitsPerClock)) c
      { chan s c with window := max s.now ((chan s c).window + 51200000 * unitsPerClock), subA := tablesClear (chan s c).subA, subB := tablesClear (chan s c).subB } := by
    rw [Machine.refreshWindow, hon]
    rfl
  have q := quiet_finish (Machine.refreshWindow s c)
  refine ⟨_, rfl, ⟨?_, ?_⟩, ?_, ?_, ?_, ?_⟩
  · rw [q.now, hgo]
    rfl
  · have hwindow := (congrArg Channel.window (q.calmChan c) :)
    refine hwindow.trans ?_
    rw [hgo]
    exact congrArg Channel.window (qget_qset_self ..)
  · rw [q.subch, hgo, subch_setChan, if_pos rfl]
    cases b <;> rfl
  · rw [q.lines, hgo]
    rfl
  · rw [q.modes, hgo]
    rfl
  · rw [q.ledger, hgo]
    rfl

/-! SCRUB_INTERVAL (R320, R322). -/

/-- The line that the patrol reads next. -/
def scrubPlace (s : State) (c : DramCh) : Nat := if rd s (F.DC_SCRUB_STATUS_POSITION c.val) ≥ subLines s c then 0 else rd s (F.DC_SCRUB_STATUS_POSITION c.val)
/-- The line after it. -/
def scrubNext (s : State) (c : DramCh) : Nat := if scrubPlace s c + 1 ≥ subLines s c then 0 else scrubPlace s c + 1

theorem scrubNext_within {s : State} {c : DramCh} (h : rd s (F.DC_SCRUB_STATUS_POSITION c.val) + 1 < subLines s c) : scrubNext s c = rd s (F.DC_SCRUB_STATUS_POSITION c.val) + 1 := by
  have hplace : scrubPlace s c = rd s (F.DC_SCRUB_STATUS_POSITION c.val) := if_neg (by omega)
  rw [scrubNext, hplace, if_neg (by omega)]
theorem scrubNext_around {s : State} {c : DramCh} (h : subLines s c ≤ rd s (F.DC_SCRUB_STATUS_POSITION c.val) + 1) (hmany : 1 < subLines s c) :
    scrubNext s c = if subLines s c ≤ rd s (F.DC_SCRUB_STATUS_POSITION c.val) then 1 else 0 := by
  unfold scrubNext scrubPlace
  split_ifs <;> omega

theorem position_scrubQueue {s : State} {c : DramCh} (h : (chanStage s c).isSome = true) : rd (scrubQueue s c) (F.DC_SCRUB_STATUS_POSITION c.val) = scrubNext s c % 2 ^ 32 := by
  have hwidth : (F.DC_SCRUB_STATUS_POSITION c.val).lo + (F.DC_SCRUB_STATUS_POSITION c.val).width ≤ 48 := (by decide : 32 ≤ 48)
  obtain ⟨n, hn⟩ := Option.isSome_iff_exists.mp h
  rw [scrubQueue, hn]
  exact rd_wr_self _ _ _ hwidth
theorem scrubRuns_chanStage {s : State} {c : DramCh} (h : scrubRuns s c = true) : (chanStage s c).isSome = true := by
  unfold scrubRuns at h
  cases hn : chanStage s c with
  | none => simp [hn] at h
  | some n => rfl

/-- The lines of a subchannel hang on the address map and on registers alone. -/
theorem subLines_congr {s t : State} (hregs : t.regs = s.regs) (hmaps : t.dram.maps = s.dram.maps) (c : DramCh) : subLines t c = subLines s c := by
  have hmap : mapRd t = mapRd s := funext fun f => by rw [mapRd, hmaps, ← mapRd]
  have hstage : chanStage t = chanStage s := funext fun c => by rw [chanStage, hmap, ← chanStage]
  have hchans : stageChans t = stageChans s := funext fun n => by rw [stageChans, hmap, ← stageChans]
  have hraw : rawLines t = rawLines s := funext fun n => by rw [rawLines, rd, rawReg, hregs, ← rawReg, ← rd, ← rawLines]
  rw [subLines, subLines, hstage, hchans, hraw]
theorem scrubNext_congr {s t : State} (hregs : t.regs = s.regs) (hmaps : t.dram.maps = s.dram.maps) (c : DramCh) : scrubNext t c = scrubNext s c := by
  have hrd : rd t = rd s := funext fun f => by rw [rd, rawReg, hregs, ← rawReg, ← rd]
  rw [scrubNext, scrubPlace, subLines_congr hregs hmaps, hrd, ← scrubPlace, ← scrubNext]
/-- The state in which the reads of an interval are queued. -/
def scrubReady (s : State) (c : DramCh) : State :=
  { setChan s c { chan s c with subA := { (chan s c).subA with scrubOwed := false } } with timers := mset 0 s.timers (timerScrub c) s.now }
theorem scrubNow_eq (s : State) (c : DramCh) : scrubNow s c = scrubQueue (scrubReady s c) c := rfl
theorem position_scrubNow {s : State} {c : DramCh} (h : (chanStage s c).isSome = true) : rd (scrubNow s c) (F.DC_SCRUB_STATUS_POSITION c.val) = scrubNext s c % 2 ^ 32 := by
  have hready : (chanStage (scrubReady s c) c).isSome = true := h
  rw [scrubNow_eq, position_scrubQueue hready, scrubNext_congr (t := scrubReady s c) (s := s) rfl rfl]

/-- The state at the end of the interval. -/
def scrubDue (s : State) (c : DramCh) : State := until_ s (mget 0 s.timers (timerScrub c) + Machine.scrubInterval s c * unitsPerClock)

/-- The reads of an interval noted as owed. -/
def scrubNoted (s : State) (c : DramCh) : State := setChan s c { chan s c with subA := { (chan s c).subA with scrubOwed := true } }

theorem scrubOut_until (s : State) (c : DramCh) (k : Nat) : scrubOut (until_ s k) c = scrubOut s c := rfl
theorem scrubTick_running {s : State} {c : DramCh} (hon : schedOn s c = true) (hruns : scrubRuns s c = true) :
    scrubTick s c = if scrubOut s c then scrubNoted (scrubDue s c) c else scrubNow (scrubDue s c) c := by
  have hout : scrubOut (scrubDue s c) c = scrubOut s c := scrubOut_until ..
  rw [← hout, scrubTick, hon, hruns, Bool.not_true, Bool.or_self, if_neg Bool.false_ne_true]
  rfl
theorem owed_scrubNoted (s : State) (c : DramCh) : (subch (scrubNoted s c) c false).scrubOwed = true := by
  rw [scrubNoted, subch_setChan, if_pos rfl]
  rfl
theorem rd_scrubNoted_due (s : State) (c : DramCh) (f : Fld) : rd (scrubNoted (scrubDue s c) c) f = rd s f := rfl
theorem chanStage_scrubDue (s : State) (c : DramCh) : chanStage (scrubDue s c) c = chanStage s c := rfl

theorem scrubInterval_answers {s : State} {c : DramCh} (hon : schedOn s c = true) (hruns : scrubRuns s c = true) :
    Answers (.scrubInterval c) s (fun _ t => Undisturbed (scrubDue s c) t
      ∧ (scrubOut s c = true → (chan t c).subA.scrubOwed = true ∧ rd t (F.DC_SCRUB_STATUS_POSITION c.val) = rd s (F.DC_SCRUB_STATUS_POSITION c.val))
      ∧ (scrubOut s c = false → rd t (F.DC_SCRUB_STATUS_POSITION c.val) = scrubNext s c % 2 ^ 32)) := by
  have hsteady : steadyField (F.DC_SCRUB_STATUS_POSITION c.val) = true := by fin_cases c <;> decide +kernel
  have hgo := scrubTick_running hon hruns
  have q := quiet_finish (scrubTick s c)
  refine ⟨_, rfl, Undisturbed.trans ?_ (undisturbed_finish _), fun hout => ⟨?_, ?_⟩, fun hout => ?_⟩
  · rw [hgo]
    split
    · exact ((QueuesStand.refl _).setChan c).undisturbed
    · exact ((QueuesStand.refl _).scrubNow c).undisturbed
  · have howed : (subch (finish (scrubTick s c)) c false).scrubOwed = true := by
      rw [q.subch, hgo, if_pos hout]
      exact owed_scrubNoted ..
    exact howed
  · rw [q.fields _ hsteady, hgo, if_pos hout, rd_scrubNoted_due]
  · have hstage : (chanStage (scrubDue s c) c).isSome = true := scrubRuns_chanStage hruns
    rw [q.fields _ hsteady, hgo, hout, if_neg Bool.false_ne_true, position_scrubNow hstage, scrubNext_congr (t := scrubDue s c) (s := s) rfl rfl]

/-- Settles O47: each timer's command by its equation, at the time that the timer gives; the end of the command leaves all that is named. -/
theorem dramTimers : Obligations.DramTimers := by
  unfold Obligations.DramTimers
  intro s c b
  refine ⟨fun r h => ?_, fun k hon hrank _ ht hawake => ?_, fun bank row hon hopen ht hunused => ?_, fun k hon hrank _ ht hrq hwq hdue howed hpanic hup hsr => ?_, fun hon => ?_, fun hon hruns => ?_⟩
  · refine (ageExpiry_answers h).mono fun u t ⟨k, hcount⟩ => ⟨k.now, fun q hq hid => ?_, hcount, k.lines, k.modes, k.ledger⟩
    rw [k.sub, promoteIn, ← List.map_append] at hq
    obtain ⟨q, -, rfl⟩ := List.mem_map.mp hq
    exact promoted_of_id hid
  · refine (refreshTick_answers hon hrank ht hawake).mono fun u t ⟨x, k, howed, hforced⟩ => ⟨k.now, ?_, ?_, k.lines, k.modes, k.ledger⟩ <;> rw [k.sub]
    · exact howed
    · exact hforced
  · exact (rowIdleClose_answers hon hopen ht hunused).mono fun u t ⟨x, k, hclosed⟩ => ⟨k.now, by rw [k.sub]; exact hclosed, k.lines, k.modes, k.ledger⟩
  · exact (rankPowerDown_answers hon hrank ht hrq hwq hdue howed hpanic hup hsr).mono fun u t ⟨x, k, hdown⟩ => ⟨k.now, by rw [k.sub]; exact hdown, k.lines, k.modes, k.ledger⟩
  · exact (refreshWindow_answers hon b).mono fun u t ⟨⟨hnow, hwindow⟩, hsub, hstand⟩ => ⟨hnow, hwindow, fun e he => cleared_of_mem (hsub ▸ he), hstand⟩
  · refine (scrubInterval_answers hon hruns).mono fun u t ⟨k, howed, hmoved⟩ => ⟨k.now, k.lines, k.modes, howed, fun hout hwithin => ?_, fun hout haround hmany => ?_⟩
    · rw [hmoved hout, scrubNext_within hwithin]
    · rw [hmoved hout, scrubNext_around haround hmany]

end Sys2Proof.Machine
end

section
/-! Proofs: self-refresh entered for idleness and left for work, and a host read's completion (R288 to R292, R309, R311, R337). -/

namespace Sys2Proof.Machine

/-! IDLE_SELF_REFRESH (R288, R290). -/

/-- A subchannel that begins the entry. -/
def srEntering (x : SubCh) : SubCh := { x with sr := .entering }

theorem idleSelfRefresh_answers {s : State} {c : DramCh} {b : Bool} (hon : schedOn s c = true) (ht : rd s (F.DC_LP_CFG_SR_IDLE_US c.val) ≠ 0)
    (hrq : (subch s c b).rq = []) (hwq : (subch s c b).wq = []) (hflight : (subch s c b).inFlight = []) (hwaiting : (subch s c b).waiting = [])
    (hdue : (subch s c b).due = []) (hsr : (subch s c b).sr = .awake) (hpanic : anyPanic s c = false) (hsave : saveKeepsAwake s c = false) :
    Answers (.idleSelfRefresh c b) s (fun _ t => TimedOut s ((subch s c b).idleSince + rd s (F.DC_LP_CFG_SR_IDLE_US c.val) * unitsPerUs) c b (srEntering (subch s c b)) t) := by
  have hgo : Machine.idleSelfRefresh s c b
      = setSub (until_ s ((subch s c b).idleSince + rd s (F.DC_LP_CFG_SR_IDLE_US c.val) * unitsPerUs)) c b (srEntering (subch s c b)) := by
    have hbusy : (!(queued (subch s c b)).isEmpty || !(subch s c b).inFlight.isEmpty || (subch s c b).waiting.any (fun r => decide (r.cls ≤ 3)) || !(subch s c b).due.isEmpty) = false := by
      rw [queued, hrq, hwq, hflight, hwaiting, hdue]
      rfl
    rw [Machine.idleSelfRefresh]
    dsimp only
    rw [hbusy, hon, beq_false_of_ne ht, hsr, hpanic, hsave]
    rfl
  exact ⟨_, congrArg done hgo, (timedOut_setSub ..).finish⟩

/-! The exit (R289, R292). -/

/-- A subchannel out of self-refresh, a refresh of each rank due. -/
def srLeft (s : State) (c : DramCh) (x : SubCh) (at_ : Nat) : SubCh :=
  { x with sr := .awake, idleSince := at_, due := (ranksOf s c).map .exitRefresh ++ x.due.filter (fun d => !(ranksOf s c).any (fun r => d == .exitRefresh r)) }

theorem srExit_committed {s : State} {c : DramCh} {b : Bool} {since : Nat} {idle : Bool} (h : (subch s c b).sr = .committed since idle) :
    srExit s c b = emit (setSub (until_ s (since + srResidency s)) c b (srLeft s c (subch s c b) (max s.now (since + srResidency s)))) (.ddr c.val (b2n b) 9 0 0 0) := by
  rw [srExit, h]
  rfl
theorem srLeft_due (s : State) (c : DramCh) (x : SubCh) (at_ : Nat) : (srLeft s c x at_).due.contains (.exitRefresh 0) = true := by
  have hzero : 0 ∈ ranksOf s c := by
    unfold ranksOf
    split <;> exact List.mem_cons_self ..
  exact List.contains_iff_mem.mpr (List.mem_append_left _ (List.mem_map_of_mem hzero))
theorem srResidency_until (s : State) (k : Nat) : srResidency (until_ s k) = srResidency s := rfl

theorem selfRefreshExit_answers {s : State} {c : DramCh} {b : Bool} {since : Nat} {idle : Bool} (hon : schedOn s c = true) (hsr : (subch s c b).sr = .committed since idle)
    (hwork : ((subch s c b).rq ++ (subch s c b).wq ++ (subch s c b).waiting).any (fun r => decide (r.cls ≤ 3)) = true) :
    Answers (.selfRefreshExit c b) s (fun u t => TimedOut s (since + srResidency s) c b (srLeft s c (subch s c b) (max s.now (since + srResidency s))) t
      ∧ (.ddr c.val (b2n b) 9 0 0 0 : Output) ∈ u.out) := by
  have hgo : Machine.selfRefreshExit s c b = srExit s c b := by
    rw [Machine.selfRefreshExit, queued, inSr, hon, hsr]
    dsimp only
    rw [hwork]
    rfl
  refine ⟨_, congrArg done (hgo.trans (srExit_committed hsr)), ((timedOut_setSub ..).emit _).finish, ?_⟩
  rw [emit_out]
  exact List.mem_append_right _ (List.mem_singleton_self _)

/-- The end of SR_MAX_MS of a residency. -/
def srMaxEnd (s : State) (c : DramCh) (since : Nat) : State := until_ s (since + max 1 (rd s (F.DC_LP_CFG_SR_MAX_MS c.val)) * 1000 * unitsPerUs)

theorem selfRefreshMax_idle {s : State} {c : DramCh} {b : Bool} {since : Nat} (hon : schedOn s c = true) (hsr : (subch s c b).sr = .committed since true)
    (hheld : ((subch s c b).rq ++ (subch s c b).wq ++ (subch s c b).waiting).any (fun r => r.cls == 4) = true) :
    selfRefreshMax s c b = event (srExit (srMaxEnd s c since) c b) 0x503 0 ((chanStage s c).elim 0 (fun n => n.val)) (c.val + 4 * b2n b) := by
  rw [selfRefreshMax, hsr, queued]
  dsimp only
  rw [hon, hheld]
  rfl

theorem selfRefreshMax_answers {s : State} {c : DramCh} {b : Bool} {since : Nat} (hon : schedOn s c = true) (hsr : (subch s c b).sr = .committed since true)
    (hheld : ((subch s c b).rq ++ (subch s c b).wq ++ (subch s c b).waiting).any (fun r => r.cls == 4) = true) :
    Answers (.selfRefreshMaxExit c b) s (fun u t => (∃ at_, TimedOut (srMaxEnd s c since) (since + srResidency s) c b (srLeft (srMaxEnd s c since) c (subch s c b) at_) t)
      ∧ (⟨0x503, 0, (chanStage s c).elim 0 (fun n => n.val), c.val + 4 * b2n b⟩ : Ev) ∈ u.evs) := by
  have hexit := srExit_committed (s := srMaxEnd s c since) (c := c) (b := b) hsr
  have hres : srResidency (srMaxEnd s c since) = srResidency s := srResidency_until ..
  rw [hres] at hexit
  refine ⟨_, congrArg done (selfRefreshMax_idle hon hsr hheld), ⟨max (srMaxEnd s c since).now (since + srResidency s), ?_⟩, ?_⟩
  · rw [hexit]
    exact (((timedOut_setSub ..).emit _).regs (regsOnly_event ..)).finish
  · rw [event_evs]
    exact List.mem_append_right _ (List.mem_singleton_self _)

/-! What an outcome is followed by (R312, R321, R328 to R337). -/

/-- A corrected outcome counted, captured and logged. -/
def loggedCorrected (s : State) (c : DramCh) (b : Bool) (r : DramReq) (dev : Nat) : State :=
  event (capture (incSat (pmonHit s 4 0 c.val 1) (F.DC_ECC_COUNT_CORRECTED c.val) 1) c r.stage b r.line dev 0) 0x505 0 r.stage.val (r.origLine / 64 % 2 ^ 29 + min dev 7 * 2 ^ 29)
/-- An uncorrectable outcome counted, captured and logged. -/
def loggedUncorrectable (s : State) (c : DramCh) (b : Bool) (r : DramReq) : State :=
  event (capture (incSat (pmonHit s 4 1 c.val 1) (F.DC_ECC_COUNT_UNCORRECTABLE c.val) 1) c r.stage b r.line 15 1) 0x506 2 r.stage.val (r.origLine / 64 % 2 ^ 29)

namespace QueuesStand
variable {s t : State}

theorem incSat (h : QueuesStand s t) (f : Fld) (n : Nat) : QueuesStand s (incSat t f n) := h.wr ..
theorem remapRefuse (h : QueuesStand s t) (c : DramCh) (n : Stage) (b : Bool) (line why : Nat) : QueuesStand s (remapRefuse t c n b line why) :=
  ((h.capture ..).event ..).dramRecord ..
theorem remapFailing (h : QueuesStand s t) (c : DramCh) (n : Stage) (b : Bool) (line : Nat) : QueuesStand s (remapFailing t c n b line) := by
  unfold Machine.remapFailing
  refine .ite _ (h.remapRefuse ..) (.ite _ ?_ (.ite _ h ?_))
  · dsimp only
    split
    · exact h
    · split
      · exact (h.event ..).dramRecord ..
      · exact ((h.beside).setRemap ..).dramPair ..
  · split
    · exact h.remapRefuse ..
    · split
      · exact h.remapRefuse ..
      · exact (h.setRemap ..).dramPair ..
theorem followUp (h : QueuesStand s t) (c : DramCh) (b : Bool) (r : DramReq) (o : ReadOutcome) (failing : Bool) : QueuesStand s (followUp t c b r o failing) := by
  refine whenS (.ite _ h ?_) _ _ fun _ k => k.remapFailing ..
  cases o with
  | clean | poisoned => exact h
  | corrected => exact .ite _ (h.dramPair ..) h
  | uncorrectable => exact h.dramPair ..
theorem loggedCorrected (h : QueuesStand s t) (c : DramCh) (b : Bool) (r : DramReq) (dev : Nat) : QueuesStand s (loggedCorrected t c b r dev) :=
  (((h.pmonHit ..).incSat ..).capture ..).event ..
theorem loggedUncorrectable (h : QueuesStand s t) (c : DramCh) (b : Bool) (r : DramReq) : QueuesStand s (loggedUncorrectable t c b r) :=
  (((h.pmonHit ..).incSat ..).capture ..).event ..
theorem countOutcome_corrected (s : State) (c : DramCh) (b : Bool) (r : DramReq) (dev : Nat) (partialWr : Bool) :
    QueuesStand (Machine.loggedCorrected s c b r dev) (countOutcome s c b r .corrected dev partialWr) :=
  .ite _ (((refl _).setChan c).cxlRecord ..) ((refl _).setChan c)
theorem countOutcome_uncorrectable (s : State) (c : DramCh) (b : Bool) (r : DramReq) (dev : Nat) :
    QueuesStand (Machine.loggedUncorrectable s c b r) (countOutcome s c b r .uncorrectable dev false) := (refl _).mediaError ..
theorem countOutcome (h : QueuesStand s t) (c : DramCh) (b : Bool) (r : DramReq) (o : ReadOutcome) (dev : Nat) : QueuesStand s (countOutcome t c b r o dev false) := by
  cases o with
  | clean => exact h
  | corrected => exact (h.loggedCorrected ..).trans (countOutcome_corrected ..)
  | poisoned => exact (h.pmonHit ..).capture ..
  | uncorrectable => exact (h.loggedUncorrectable ..).trans (countOutcome_uncorrectable ..)
theorem readReply (h : QueuesStand s t) (n : Stage) (port tag : Nat) (d : BitVec 512) (poison : Bool) : QueuesStand s (readReply t n port tag d poison) :=
  .ite _ (((h.pmonHit ..).regs (regsOnly_loadHit ..)).emit _) h
end QueuesStand

/-! DRAM_READ_COMPLETE of a host read (R309, R311). -/

/-- The oldest read in flight has come back. -/
def readLanded (s : State) (c : DramCh) (b : Bool) (rest : List DramReq) : State := setSub s c b { subch s c b with inFlight := rest }
/-- The line as the host may see it. -/
def cellSeen (s : State) (r : DramReq) (cell : LineCell) : LineCell := { cell with data := if r.pair = 0 then lineSeen s r.stage r.origLine cell.data else cell.data }
/-- What a host gets of a line, by the outcome. -/
def replied (s : State) (r : DramReq) (cell : LineCell) (o : ReadOutcome) : BitVec 512 :=
  if o = .clean ∨ o = .corrected then (if r.pair = 0 then lineSeen s r.stage r.origLine cell.data else cell.data) else 0#512

theorem outcomeData_cellSeen (s : State) (r : DramReq) (cell : LineCell) (o : ReadOutcome) : outcomeData (cellSeen s r cell) o = replied s r cell o := by
  cases o <;> rfl
theorem outcomeBad_eq (o : ReadOutcome) : outcomeBad o = decide (o = .poisoned ∨ o = .uncorrectable) := by
  cases o <;> rfl

section
variable {s : State} {c : DramCh} {b : Bool} {raw : LineErrs} {r : DramReq} {rest : List DramReq} {port tag : Nat} {cell : LineCell} {o : ReadOutcome} {dev : Nat}

theorem readOutcome_classed (houtcome : outcomeOf (wideDev s c) cell raw = some (o, dev)) : readOutcome s c cell raw = ((o, dev, cell.data), s) := by
  rw [readOutcome, houtcome]
theorem readComplete_hostRead (hflight : (subch s c b).inFlight = r :: rest) (huse : r.use = .hostRead port tag) (hgot : r.got = some cell)
    (houtcome : outcomeOf (wideDev s c) cell raw = some (o, dev)) :
    readComplete s c b raw = followUp (deliver (countOutcome (readLanded s c b rest) c b r o dev false) c b r (cellSeen s r cell) o) c b r o (isFailing (readLanded s c b rest) c r o) := by
  -- the outcome stays a name, since the kernel runs out of depth where it compares its body
  obtain ⟨outcome, hname⟩ : ∃ f, readOutcome s c = f := ⟨_, rfl⟩
  have hclassed := readOutcome_classed houtcome
  rw [hname] at hclassed
  rw [readComplete, hname]
  simp only [hflight, hgot, Option.getD_some, hclassed, huse]
  rfl

theorem deliver_hostRead (s0 : State) (huse : r.use = .hostRead port tag) : QueuesStand s0 (deliver s0 c b r cell o)
    ∧ (portIn s0 port = true → ∃ load, (.memData port tag (outcomeData cell o) (outcomeBad o) load : Output) ∈ (deliver s0 c b r cell o).out) := by
  have hgo : deliver s0 c b r cell o = whenS (outcomeBad o) (fun s => poisonAdd s r.stage ⟨r.origLine, 1, false⟩) (readReply s0 r.stage port tag (outcomeData cell o) (outcomeBad o)) := by
    rw [deliver, huse]
  have hmarked : ∀ t, QueuesStand t (whenS (outcomeBad o) (fun s => poisonAdd s r.stage ⟨r.origLine, 1, false⟩) t) := fun t => (QueuesStand.refl t).whenS _ _ fun _ k => k.poisonAdd ..
  rw [hgo]
  refine ⟨((QueuesStand.refl s0).readReply ..).trans (hmarked _), fun hport => ⟨loadOf s0 r.stage, (hmarked _).out ?_⟩⟩
  rw [readReply, if_pos hport, emit_out]
  exact List.mem_append_right _ (List.mem_singleton_self _)

theorem hostRead_answers (hstage : (chanStage s c).isSome = true) (hflight : (subch s c b).inFlight = r :: rest) (huse : r.use = .hostRead port tag) (hport : portIn s port = true)
    (hgot : r.got = some cell) (houtcome : outcomeOf (wideDev s c) cell raw = some (o, dev)) :
    Answers (.dramReadComplete c b raw) s (fun u t => (∃ load, (.memData port tag (replied s r cell o) (outcomeBad o) load : Output) ∈ u.out) ∧ (subch t c b).inFlight = rest
      ∧ Undisturbed s t ∧ (countOutcome (readLanded s c b rest) c b r o dev false).evs ⊆ u.evs) := by
  have hgo : dramReadDone s c b raw = _ := (if_pos hstage).trans (readComplete_hostRead hflight huse hgot houtcome)
  have hcounted := (QueuesStand.refl (readLanded s c b rest)).countOutcome c b r o dev
  have ⟨hanswered, hsent⟩ := deliver_hostRead (c := c) (b := b) (cell := cellSeen s r cell) (o := o) (countOutcome (readLanded s c b rest) c b r o dev false) huse
  have hfollowed := (QueuesStand.refl (deliver (countOutcome (readLanded s c b rest) c b r o dev false) c b r (cellSeen s r cell) o)).followUp c b r o (isFailing (readLanded s c b rest) c r o)
  have hall := (hcounted.trans hanswered).trans hfollowed
  have hback : Undisturbed s (readLanded s c b rest) := undisturbed_setSub ..
  refine ⟨_, congrArg done hgo, ?_, ?_, (hback.trans hall.undisturbed).trans (undisturbed_finish _), (hanswered.trans hfollowed).evs⟩
  · obtain ⟨load, hload⟩ := hsent ((hcounted.port port).trans hport)
    rw [outcomeData_cellSeen] at hload
    exact ⟨load, hfollowed.out hload⟩
  · rw [(quiet_finish _).subch, hall.inFlight, readLanded, subch_setSub]
end

/-- Settles O48: the entry and the two exits by their equations at the time given; a host read by what each stage of its completion leaves. -/
theorem selfRefreshAndReads : Obligations.SelfRefreshAndReads := by
  unfold Obligations.SelfRefreshAndReads
  intro s c b
  refine ⟨fun hon ht hrq hwq hflight hwaiting hdue hsr hpanic hsave => ?_, fun since idle hon hsr => ⟨fun hwork => ?_, fun hidle hheld => ?_⟩,
    fun raw r rest port tag cell o dev hstage hflight huse hport hgot houtcome => ?_⟩
  · exact (idleSelfRefresh_answers hon ht hrq hwq hflight hwaiting hdue hsr hpanic hsave).mono fun u t k => ⟨k.now, by rw [k.sub, srEntering], k.lines, k.modes⟩
  · refine (selfRefreshExit_answers hon hsr hwork).mono fun u t ⟨k, hsent⟩ => ⟨k.now, ?_, ?_, hsent, k.lines, k.modes⟩ <;> rw [k.sub]
    · rfl
    · exact srLeft_due ..
  · subst hidle
    refine (selfRefreshMax_answers hon hsr hheld).mono fun u t ⟨⟨at_, k⟩, hlogged⟩ => ⟨k.now, ?_, ?_, hlogged, k.lines, k.modes⟩ <;> rw [k.sub]
    · rfl
    · exact srLeft_due ..
  · refine (hostRead_answers hstage hflight huse hport hgot houtcome).mono fun u t ⟨⟨load, hload⟩, hrest, k, hevs⟩ =>
      ⟨⟨load, outcomeBad_eq o ▸ hload⟩, hrest, k.lines, k.modes, k.ledger, k.now, fun ho => hevs ?_, fun ho => hevs ?_⟩ <;> subst ho
    · exact (QueuesStand.countOutcome_corrected ..).evs (List.mem_append_right _ (List.mem_singleton_self _))
    · exact (QueuesStand.countOutcome_uncorrectable ..).evs (List.mem_append_right _ (List.mem_singleton_self _))

end Sys2Proof.Machine
end
